-- ==== Sys2Proof/Word.lean ====
section
/-!
DEFINITION. The plain data types every other file builds on: octets and words, the status codes of R14, the
device states of R26, the roles of R12, and the names of the events of which the spec requires a record.
-/
namespace Sys2Proof

/-- An octet. -/
abbrev Byte := BitVec 8

/-- A register word. -/
abbrev Word := BitVec 32

/-- A queue word. -/
abbrev Dword := BitVec 64

/-- Status codes (R14). -/
inductive Status where
  | ok | busy | full | conflict | envelopeShort | gateNotReady | staleEpoch | roleStale | denied
  | collide | jumpRefused | enablePending | withheld
  deriving DecidableEq, Repr

/-- Device states (R26). -/
inductive DevState where
  | startUp | listening | run | hotStandby | warmStandby | dormant | debugSession
  deriving DecidableEq, Repr

/-- Roles, which rank upward in this order (R12). -/
inductive Role where
  | observer | operator | engineer | vendor
  deriving DecidableEq, Repr

/-- Identity of a satellite: the high four bits of its SIG codes, and its PRN or orbital slot (R53). -/
structure SatId where
  /-- system -/
  sys : BitVec 4
  /-- PRN or orbital slot -/
  prn : BitVec 8
  deriving DecidableEq, Repr

/-- A slot kind of FRB (R271). -/
inductive FrbSlot where
  | node | grantA | grantB | correction
  deriving DecidableEq, Repr

/-- A decoded cell of an uplink request segment (R301). -/
structure SegCell where
  /-- neighbour index j (R301; reset not applicable) -/
  nb : Nat
  /-- planned speed, units of 4 mm/s (R301; reset not applicable) -/
  speed4 : BitVec 14
  /-- entry minus the previous entry, ms (R301; reset not applicable) -/
  dEntry : BitVec 16
  /-- exit minus entry, ms (R301; reset not applicable) -/
  dExit : BitVec 16
  deriving DecidableEq, Repr

/-- The permit-authorisation word (R227). -/
structure PermitWord where
  /-- CYCLE (R227; reset 0) -/
  cycle : BitVec 32 := 0
  /-- STOP (R227; reset 0, LOG) -/
  stop : Bool := false
  /-- INTEG (R227; reset 0, LOG) -/
  integ : Bool := false
  /-- ZSTOP (R227, R252; reset 0) -/
  zstop : BitVec 16 := 0
  /-- RSTOP (R227, R252; reset 0) -/
  rstop : BitVec 16 := 0
  /-- RCLS (R227, R252; reset 0) -/
  rcls : BitVec 16 := 0
  /-- AUTH, bit m - 1 for member m (R227, R252; reset 0) -/
  auth : BitVec 256 := 0
  deriving DecidableEq, Repr

/-- The events of blocks and firmware of which a rule requires an event record. The recorder's own types (R562)
have their codes and are not listed. The rule that requires each is cited where it is raised. -/
inductive Event where
  -- subject 0x10, communication and CAN
  | heartbeatLost | canState
  -- subject 0x20, device state, cores, memory, update, settings, life cycle
  | stateChange | accessViolation | monitorEvent | jobOverrun | fleetStopped | eccDouble
  | clockFailure | vstopFall | voutOverload | temperature | refLost | pllFailed | selfTestFailed
  | calibrationCleared | testenHigh | slotFallback | rolledBack | imageActivated | lifeCycleChanged
  -- subject 0x30, GNSS and corrections
  | biasFault | surveyDone | stationMismatch | ntripRefused | stationPosition
  -- subject 0x38, Teasel
  | integrityLost | integrityRecovered | staleVerdict | baselineChanged
  -- subject 0x40, time
  | jumpRefused
  -- subject 0x50, fleet radio and field nodes
  | nodeMissed | nodeUnreachable | nodeDrift | keyExhausted
  -- subject 0x60, map, corridors, robots, tasks
  | mapRejected | mapInForce | corridorInvalid | memberSilent
  | staleEpoch | tfcFailed
  -- subject 0x70, safety
  | sf1Demand | sf1Reset | zoneStop | zoneReset | sf4Change | laneExcluded | safeState | degradedSet | estopFault
  | discrepancy | loopbackMissing | stopBurst | configAdopted | configRefused | outFault | laneDisagreed
  | resetRefused
  -- subject 0x78, axes and control loops
  | axisFault | axisLimit | homingFailed | inputUnstable | gateLost
  -- subject 0x80, pair
  | claim | takeover | raceLost | holdConflict | linkState | helloRefused | pairTime | eligibility | keepAliveLost
  | samePosition | swap | unknownCorridor | axisAlignment | partnerLost
  -- subject 0x90, keys, enrolment and tamper
  | loginFailed | keyRefused | keyImported | keyRenewed | enrolment | tamper | tamperCleared | debugTokenFailed
  | debugEnabled | certificate
  deriving DecidableEq, Repr

end Sys2Proof
end

