-- ==== Sys2Proof/Records.lean ====
section
/-!
DEFINITION. The records that a pair streams and that its messages therefore carry: reservations, corridors, members, tasks,
TFCs, nodes, links, requests decided, safety states and axes, with the delta that holds them (spec/05 to spec/07, spec/09,
spec/11).
-/
namespace Sys2Proof.Machine

/-- SF1 state, SAF_STATUS.SF1 (R244, R252). -/
inductive Sf1State where
  | clear | active | awaiting
  deriving DecidableEq, Repr

/-- One live reservation entry (R178, R192). -/
structure Resv where
  /-- CELL (R192; reset not applicable) -/
  cell : Nat
  /-- HOLDER, member 1 to 256 (R192; reset not applicable) -/
  holder : Nat
  /-- ENTRY (R192; reset not applicable) -/
  entry : BitVec 32
  /-- EXIT (R192; reset not applicable) -/
  exit : BitVec 32
  /-- CORR (R192; reset not applicable) -/
  corr : BitVec 16
  /-- IDX (R192; reset not applicable) -/
  idx : Nat
  /-- OVERDUE (R180; reset not applicable) -/
  overdue : Bool
  /-- FROZEN (R181; reset not applicable) -/
  frozen : Bool
  /-- BLOCKED (R184; reset not applicable) -/
  blocked : Bool
  /-- GATEHOLD, with the axis held (R183; reset not applicable) -/
  hold : Option (Fin 8)
  /-- AGED (R167; reset not applicable) -/
  aged : Bool
  deriving DecidableEq, Repr

/-- Reason of an invalidation (R184). -/
inductive InvalidReason where
  | blocked (blocker : BitVec 16) | gateLost | restart
  deriving DecidableEq, Repr

/-- One live corridor of the directory (R178, R184). -/
structure Corridor where
  /-- corridor ID (R179; reset not applicable) -/
  id : BitVec 16
  /-- holder, member 1 to 256 (R179; reset not applicable) -/
  holder : Nat
  /-- cell count it was committed with (R175, R182; reset not applicable) -/
  ncells : Nat
  /-- invalid, with its reason (R184; reset not applicable) -/
  invalid : Option InvalidReason
  deriving DecidableEq, Repr

/-- Member states (R200). -/
inductive MemberState where
  | unknown | joining | idle | working | charging | silent | stopped | retired
  deriving DecidableEq, Repr

/-- A role change that has neither taken effect nor been abandoned (R206). -/
structure RoleChange where
  /-- the new role (R206; reset not applicable) -/
  role : BitVec 5
  /-- TB4 ms at which it is abandoned (R206; reset not applicable) -/
  deadline : Nat
  /-- the member acknowledged it (R206; reset not applicable) -/
  acked : Bool
  deriving DecidableEq, Repr

/-- The record of one member ID (R196 to R206). -/
structure Member where
  /-- an identity is enrolled under this ID (R196; reset false) -/
  enrolled : Bool := false
  /-- identity enrolled (R196, R546; reset 0) -/
  identity : Nat := 0
  /-- class given at enrolment or by OD 0x62xx:02 (R196; reset 0) -/
  cls : BitVec 4 := 0
  /-- role in force (R196, R206; reset 0) -/
  role : BitVec 5 := 0
  /-- state (R200; reset Unknown) -/
  st : MemberState := .unknown
  /-- miss count (R203; reset 0) -/
  miss : Nat := 0
  /-- an authenticated frame came since the end of the previous report minislot (R203; reset false) -/
  heard : Bool := false
  /-- held under R199 (R199; reset false) -/
  held : Bool := false
  /-- frozen under R384 until RELEASE_FROZEN (R384; reset false) -/
  kept : Bool := false
  /-- TB4 ms at which Joining ends without a report (R201; reset none) -/
  joinDeadline : Option Nat := none
  /-- current cell (R216; reset 0, LOG) -/
  cell : Nat := 0
  /-- last heard, ms of TB4 (R216; reset 0, LOG) -/
  lastHeard : BitVec 32 := 0
  /-- battery, % (R216; reset 0, LOG) -/
  battery : BitVec 8 := 0
  /-- last stop cause; 0xFF REJOIN (R216; reset 0, LOG) -/
  stopCause : BitVec 8 := 0
  /-- TB4 ms at which the member became Silent (R212; reset none) -/
  silentSince : Option Nat := none
  /-- role change in progress (R206; reset none) -/
  change : Option RoleChange := none
  deriving DecidableEq, Repr

/-- Task states (R209). -/
inductive TaskState where
  | free | opened | allotted | active | done | failed | cancelled
  deriving DecidableEq, Repr

/-- One step record (R208). -/
structure TaskStep where
  /-- action code (R208; reset 0) -/
  action : BitVec 8 := 0
  /-- flag TFC (R208; reset 0) -/
  tfc : Bool := false
  /-- flag CONFIRM (R208; reset 0) -/
  confirm : Bool := false
  /-- TFC index (R208; reset 0) -/
  tfcIdx : Nat := 0
  /-- cell (R208; reset 0) -/
  cell : Nat := 0
  /-- action argument (R208; reset 0) -/
  arg : BitVec 32 := 0
  deriving DecidableEq, Repr

/-- One task entry (R208). -/
structure Task where
  /-- STATE (R208; reset Free) -/
  st : TaskState := .free
  /-- PRIO (R208; reset 0) -/
  prio : BitVec 3 := 0
  /-- EPOCH (R208; reset 0) -/
  epoch : BitVec 32 := 0
  /-- MEMBER, 0 when none (R208; reset 0) -/
  member : Nat := 0
  /-- NSTEP (R208; reset 0) -/
  nstep : Nat := 0
  /-- CSTEP (R208; reset 0) -/
  cstep : Nat := 0
  /-- ROLES (R208; reset 0) -/
  roles : BitVec 32 := 0
  /-- CLASSES (R208; reset 0) -/
  classes : BitVec 16 := 0
  /-- RESULT (R208; reset 0) -/
  result : BitVec 8 := 0
  /-- START (R208; reset 0) -/
  start : BitVec 32 := 0
  /-- DEADLINE (R208; reset 0) -/
  deadline : BitVec 32 := 0
  /-- TARGET (R208; reset 0) -/
  target : Nat := 0
  /-- NEXT, when NEXT_V (R208; reset none) -/
  succ : Option Nat := none
  /-- CREATED (R208; reset 0) -/
  created : BitVec 32 := 0
  /-- POLICY (R208; reset 0) -/
  policy : BitVec 64 := 0
  /-- the four step records (R208; reset empty) -/
  steps : List TaskStep := []
  /-- the DEADLINE event has been given for an Active task (R209; reset false) -/
  deadlineTold : Bool := false
  /-- step index for which STEP_GO was sent (R215; reset none) -/
  goSent : List Nat := []
  deriving DecidableEq, Repr

/-- States of a TFC (R213). -/
inductive TfcState where
  | free | pending | acked | ended | failed | cancelling | cancelled
  deriving DecidableEq, Repr

/-- One TFC record (R213). -/
structure Tfc where
  /-- State (R213; reset Free) -/
  st : TfcState := .free
  /-- node ID (R213; reset 0) -/
  node : Nat := 0
  /-- command code (R213; reset 0) -/
  code : BitVec 8 := 0
  /-- revert code (R213; reset 0) -/
  revCode : BitVec 8 := 0
  /-- execute time, full TB4 ms (R213; reset 0) -/
  exec : Nat := 0
  /-- revert time, full TB4 ms (R213; reset 0) -/
  revert : Nat := 0
  /-- command payload, 12 bytes (R213; reset empty) -/
  payload : List Byte := []
  /-- revert payload, 12 bytes (R213; reset empty) -/
  revPayload : List Byte := []
  /-- owning task and step, when flag owned (R213; reset none) -/
  owner : Option (Nat × Nat) := none
  /-- flag CONFIRM (R213; reset 0) -/
  confirm : Bool := false
  /-- TB4 ms at which a terminal state was reached (R214; reset 0) -/
  endedAt : Nat := 0
  deriving DecidableEq, Repr

/-- An item of a CMD frame (R296). -/
inductive CmdItem where
  | result (tag : BitVec 16) (status : BitVec 8) (reason : BitVec 8) (cell : BitVec 8) (corridor blocker : BitVec 16)
  | role (r : BitVec 5)
  | task (id : Nat) (epoch : BitVec 32)
  | taskEnd (id : Nat) (epoch : BitVec 32)
  | stepGo (id : Nat) (epoch : BitVec 32) (step : Nat)
  | stepSkip (id : Nat) (epoch : BitVec 32) (step : Nat)
  | taskAnswer (id : Nat) (epoch : BitVec 32) (status : BitVec 8)
  | status (fcnt : BitVec 32) (st : BitVec 8)
  | groupKey (gen : BitVec 8) (activation : BitVec 32)
  deriving DecidableEq, Repr

/-- Content of a NODE_DL (R306). -/
inductive NodeDl where
  | sync (more : Bool) (next : BitVec 32) (e : Nat) (mode : Nat) (list : List Nat)
  | tfc (more : Bool) (idx : Nat) (rec : List Byte)
  | cancel (more : Bool) (idx : Nat)
  deriving DecidableEq, Repr

/-- One send counter with its committed value (R289). -/
structure Counter where
  /-- counter of the next frame (R289; reset 0, LOG) -/
  next : BitVec 32 := 0
  /-- value committed in MRAM (R289; reset 0, LOG) -/
  committed : BitVec 32 := 0
  /-- exhausted: no frame until the key is renewed (R289; reset false) -/
  exhausted : Bool := false
  deriving DecidableEq, Repr

/-- Security and uplink state of one member link (R290, R291, R302). -/
structure MemberLink where
  /-- a pairwise key is held (R291, R666; reset false) -/
  paired : Bool := false
  /-- send counter under the pairwise key (R289; reset 0) -/
  tx : BitVec 32 := 0
  /-- last counter accepted under the pairwise key, none when empty (R290; reset none) -/
  rx : Option (BitVec 32) := none
  /-- last counter accepted under the enrolment key, kept in MRAM (R290, R666; reset none) -/
  rxEnrol : Option (BitVec 32) := none
  /-- FLAG: GROUP_KEY generation sent to the member (R291; reset 0, LOG) -/
  keyGen : BitVec 8 := 0
  deriving DecidableEq, Repr

/-- A request decided in the last 40 cycles (R302). -/
structure Decided where
  /-- member (R302; reset not applicable) -/
  member : Nat
  /-- TAG (R302; reset not applicable) -/
  tag : BitVec 16
  /-- cycle of the decision; none while still in flight (R302; reset not applicable) -/
  at' : Option (BitVec 32)
  /-- the RESULT item given (R302; reset not applicable) -/
  result : Option CmdItem
  deriving DecidableEq, Repr

/-- Node status, OD 0x54nn:05 [2:0] (R316). -/
inductive NodeStatus where
  | inStep | oneMiss | calling | recovery | unreachable
  deriving DecidableEq, Repr

/-- One field node (R305 to R317). -/
structure Node where
  /-- enrolled (R546; reset false) -/
  enrolled : Bool := false
  /-- interval exponent in force (R305; reset 12) -/
  e : Nat := 12
  /-- phase in force (R305; reset 0, LOG) -/
  phase : Nat := 0
  /-- acknowledgement mode in force (R308; reset 2) -/
  ackMode : Nat := 2
  /-- new schedule not yet acknowledged: exponent, phase, mode (R317; reset none) -/
  newSched : Option (Nat × Nat × Nat) := none
  /-- wake address (R313, R316; reset 0, LOG) -/
  wake : BitVec 16 := 0
  /-- status (R316; reset in step) -/
  st : NodeStatus := .inStep
  /-- DRIFT (R311; reset 0) -/
  drift : Bool := false
  /-- consecutive misses (R310; reset 0) -/
  miss : Nat := 0
  /-- last NCLK, ms (R311; reset 0, LOG) -/
  nclk : Int := 0
  /-- drift estimate, 0.1 ppm (R311; reset 0, LOG) -/
  driftEst : Int := 0
  /-- TB4 ms of the last sync, for OD and T (R307, R316; reset 0, LOG) -/
  lastSync : Nat := 0
  /-- TB4 ms of the acknowledged rendezvous the drift estimate last used (R311; reset none) -/
  driftAt : Option Nat := none
  /-- NCLK summed since then, ms (R311; reset 0) -/
  driftSum : Int := 0
  /-- NODE_DL whose NODE_ACK is awaited: cycle, FCNT, and TB4 ms at its SFD (R287, R307, R310; reset none) -/
  await : Option (BitVec 32 × BitVec 32 × Nat) := none
  /-- rendezvous cycle that has yielded no valid NODE_ACK yet (R310; reset none) -/
  owed : Option (BitVec 32) := none
  /-- the last NODE_DL carried MORE: another follows (R306; reset false) -/
  more : Bool := false
  /-- TFCs already listed in the present set of SYNC frames (R306; reset 0) -/
  syncOfs : Nat := 0
  /-- what the awaited NODE_DL carried (R308; reset none) -/
  awaitDl : Option NodeDl := none
  /-- calls failed in a row (R314; reset 0) -/
  callFails : Nat := 0
  /-- cycle at which the recovery after a call ends (R314; reset none) -/
  recoverUntil : Option (BitVec 32) := none
  /-- TFCs to deliver again after LOST (R315; reset none) -/
  redeliver : List Nat := []
  /-- send counter (R289; reset 0) -/
  tx : Counter := {}
  /-- last counter accepted from the node, kept in MRAM (R290, R666; reset none) -/
  rx : Option (BitVec 32) := none
  deriving DecidableEq, Repr

/-- The safety states a SAFE record carries (R365). -/
structure SafeRec where
  /-- SF1 state (R365; reset not applicable) -/
  sf1 : Sf1State
  /-- SF2 zones (R365; reset not applicable) -/
  sf2 : BitVec 16
  /-- SF4 RSTOP in force (R365; reset not applicable) -/
  rstop : BitVec 16
  deriving DecidableEq, Repr

/-- One axis of an AXIS record (R365, R422). -/
structure AxisRec where
  /-- MOTn_POS latched at the cycle boundary (R365; reset not applicable) -/
  pos : BitVec 32
  /-- HOMED (R365; reset not applicable) -/
  homed : Bool
  /-- LOCKED (R365; reset not applicable) -/
  locked : Bool
  /-- lock position (R365; reset not applicable) -/
  lockPos : BitVec 32
  /-- HOLDS (R365; reset not applicable) -/
  holds : Nat
  /-- at rest (R365; reset not applicable) -/
  atRest : Bool
  /-- CRC-32C of the axis configuration (R365; reset not applicable) -/
  cfgCrc : BitVec 32
  deriving DecidableEq, Repr

/-- A record of a delta or snapshot part (R365). An entry body of none says the entry is gone. -/
inductive PairRec where
  | resv (idx : Nat) (r : Option Resv)
  | corr (c : Corridor) (live : Bool)
  | member (m : Nat) (r : Member)
  | freeze (m : Nat) (frozen : Bool)
  | task (id : Nat) (t : Task)
  | tfc (id : Nat) (t : Tfc)
  | node (n : Nat) (r : Node)
  | key (m : Nat) (paired : Bool) (gen : BitVec 8)
  | fcnt (m : Nat) (rx : Option (BitVec 32))
  | hist (d : Decided)
  | safe (r : SafeRec)
  | epoch (role : BitVec 32) (nextId : BitVec 16) (seq : BitVec 32)
  | axis (n : Fin 8) (r : AxisRec)
  | group (gen tx : BitVec 32) (cur succ : List Byte) (cycle : BitVec 32)
  deriving DecidableEq, Repr

/-- What a link heartbeat carries (R342, R363). -/
structure Heartbeat where
  /-- TB4 NS field at which its marker symbol left (R342; reset not applicable) -/
  tx : BitVec 32
  /-- the sender's most recent receive stamp (R342; reset not applicable) -/
  echo : BitVec 32
  /-- role epoch (R363; reset not applicable) -/
  repoch : BitVec 32
  /-- device state (R363; reset not applicable) -/
  dstate : DevState
  /-- position (R363; reset not applicable) -/
  pos : Bool
  /-- ELIGIBLE (R363; reset not applicable) -/
  eligible : Bool
  /-- last delta sequence sent (R363; reset not applicable) -/
  sent : BitVec 32
  /-- last delta sequence applied (R363; reset not applicable) -/
  applied : BitVec 32
  /-- pair configuration CRC (R363, R372; reset not applicable) -/
  cfgCrc : BitVec 32
  deriving DecidableEq, Repr

/-- A delta received while a requested snapshot is being awaited (R369). -/
structure PairDelta where
  /-- SEQ (R365; reset not applicable) -/
  seq : BitVec 32
  /-- FINAL (R365; reset not applicable) -/
  final : Bool
  /-- cycle described (R365; reset not applicable) -/
  cycle : BitVec 32
  /-- records (R365; reset not applicable) -/
  recs : List PairRec
  deriving DecidableEq, Repr

end Sys2Proof.Machine
end

