-- ==== Sys2Proof/Syntax.lean ====
section
/-!
DEFINITION. The commands of the block: one constructor per row of spec/opcode_table.json, with the operands that
its rule needs. The table gives its rows no bits and no operands: what each command carries is the model's choice
(a log entry says so). A value that only the analogue world, another unit or a frame's sender can supply comes as
an operand; everything the unit itself holds is read from State.
-/
namespace Sys2Proof

/-- The master of an access, with its world tag and secure bit (R450). Masters 0 to 15 are the application cores. -/
structure Bus where
  /-- master number -/
  id : Nat
  /-- world code of R448 -/
  world : BitVec 2
  /-- secure bit -/
  secure : Bool
  deriving DecidableEq, Repr

/-- Kind of an access (R454). -/
inductive AccessKind where
  | read | write | execute
  deriving DecidableEq, Repr

/-- An error the scrub or an access meets in a scratchpad word: bank, word, and whether two bits are wrong (R473). -/
structure WordError where
  /-- bank -/
  bank : Fin 16
  /-- word within the bank -/
  word : Fin 32768
  /-- two bits are wrong -/
  double : Bool
  deriving DecidableEq, Repr

/-- Width of a CRC data write (R493). -/
inductive DataWidth where
  | w8 | w16 | w32
  deriving DecidableEq, Repr

/-- A PTP message as its domain handles it (R345). Times are in ns; `rx` is the corrected receive stamp. -/
inductive PtpMsg where
  /-- Announce of a foreign master: identity, rank in the dataset comparison (lower is better), clockAccuracy bound -/
  | announce (identity : BitVec 64) (rank accuracy : Nat)
  /-- Sync with the master's time, from a Follow_Up or from a one-step Sync -/
  | sync (master rx : Int)
  /-- Delay_Resp or Pdelay_Resp: the mean path delay it yields -/
  | delayResp (mpd : Nat)
  /-- Delay_Req or Pdelay_Req to be answered -/
  | delayReq (seq : BitVec 16)
  /-- unicast, management or signalling -/
  | unsupported
  deriving DecidableEq, Repr

/-- A channel register whose words are staged (R60). -/
inductive StagedReg where
  | space | carr | code
  deriving DecidableEq, Repr

/-- The peak a search finds (R72): power ratios in 8.8, code phase in chips 24.8, Doppler in 2^-4 Hz. -/
structure AcqPeak where
  /-- peak-to-mean ratio -/
  ratio : BitVec 16
  /-- second-highest ratio -/
  second : BitVec 16
  /-- code phase at snapshot start -/
  phase : BitVec 32
  /-- Doppler -/
  doppler : BitVec 32
  deriving DecidableEq, Repr

/-- A standalone code solution of the reference antenna (R98): satellites used, PDOP in tenths, and X, Y, Z in 0.1 mm. -/
structure Standalone where
  /-- satellites used -/
  nsat : Nat
  /-- position dilution of precision, tenths -/
  pdop : Nat
  /-- X -/
  x : Int
  /-- Y -/
  y : Int
  /-- Z -/
  z : Int
  deriving DecidableEq, Repr

/-- An RTK solution without reference to a stored baseline (R130): satellites fixed, ratio in tenths, east, north and
up in 0.1 mm. -/
structure RtkSolution where
  /-- satellites with fixed ambiguities -/
  nfix : Nat
  /-- ratio test, tenths -/
  ratio : Nat
  /-- east -/
  e : Int
  /-- north -/
  n : Int
  /-- up -/
  u : Int
  deriving DecidableEq, Repr

/-- Leap-second data decoded from the GNSS navigation messages (R335): count, pending leap and its TB0 second. -/
structure NavLeap where
  /-- count, s -/
  count : Int
  /-- 0 none, 1 insert, 2 delete -/
  pend : BitVec 8
  /-- TB0 s of the instant -/
  at' : Nat
  deriving DecidableEq, Repr

/-- What the sky gives of a satellite in an epoch: elevation in degrees, health, and issue of data if decoded (R100,
R107). -/
structure SatIn where
  /-- identity -/
  id : SatId
  /-- elevation, degrees -/
  elev : Int
  /-- marked healthy -/
  healthy : Bool
  /-- issue of data of its ephemeris -/
  iod : Option Nat
  deriving DecidableEq, Repr

/-- A double-differenced cell's ambiguity as observed: nearest integer and distance to it in 1/1000 cycle (R134). -/
structure AmbIn where
  /-- satellite -/
  sat : SatId
  /-- signal -/
  sig : BitVec 8
  /-- nearest integer -/
  seed : Int
  /-- fractional part, 1/1000 cycle -/
  frac : Nat
  deriving DecidableEq, Repr

/-- Post-fit residual magnitudes of a cell (R137): phase in 0.1 mm, code in mm. -/
structure ResidIn where
  /-- satellite -/
  sat : SatId
  /-- signal -/
  sig : BitVec 8
  /-- phase residual -/
  phase : Nat
  /-- code residual -/
  code : Nat
  deriving DecidableEq, Repr

/-- One solve of the monitor position: residuals, and the solved baseline in 0.1 mm (R137, R140). -/
structure SolveIn where
  /-- residuals -/
  res : List ResidIn := []
  /-- east -/
  e : Int := 0
  /-- north -/
  n : Int := 0
  /-- up -/
  u : Int := 0
  deriving DecidableEq, Repr

/-- What the sky, the solver and the network give in the verification of one epoch (R133). -/
structure EpochInput where
  /-- time of the verdict after the latch edge, us -/
  us : Nat
  /-- time of the release instant after the latch edge, us -/
  releaseUs : Nat
  /-- satellites in view -/
  sats : List SatIn
  /-- ambiguities as observed -/
  ambs : List AmbIn
  /-- the successive solves, one per iteration -/
  solves : List SolveIn
  /-- octets each raw TCP client has taken since the last epoch -/
  drained : List (Nat × Nat)
  deriving DecidableEq, Repr

/-- An authenticated frame of a member as received (R285, R290): its sender, frame counter, whether its level, length and
flag are those of its type, and whether its MIC verifies under the key of its type. -/
structure RxFrame where
  /-- member ID of the sender -/
  member : Nat
  /-- FCNT -/
  fcnt : BitVec 32
  /-- SECLEV, length and FLAG are those of the type -/
  form : Bool
  /-- the MIC verifies -/
  mic : Bool
  deriving DecidableEq, Repr

/-- Content of a REPORT (R299). -/
structure ReportIn where
  /-- state code -/
  state : BitVec 3
  /-- stop cause -/
  stopCause : BitVec 8
  /-- current cell -/
  cell : BitVec 20
  /-- progress entries: corridor ID and LEFT -/
  progress : List (BitVec 16 × Nat)
  /-- step status: 0 no task, 1 running, 2 done, 3 failed -/
  stepStatus : BitVec 2
  /-- task ID -/
  task : BitVec 16
  /-- allotment epoch -/
  epoch : BitVec 32
  /-- step index -/
  step : BitVec 2
  /-- task result: 0 none, 1 OK, 2 failed -/
  result : BitVec 2
  /-- battery, % -/
  battery : BitVec 8
  /-- role epoch seen, modulo 2^16 -/
  roleEpoch : BitVec 16
  deriving DecidableEq, Repr

/-- A segment of a REQUEST or RESTORE item (R300, R301). -/
structure UpSegment where
  /-- TAG -/
  tag : BitVec 16
  /-- segment count -/
  total : Nat
  /-- segment index; 0 is the first -/
  index : Nat
  /-- first segment: NCELLS, cell 0 ID, and the entry time of cell 0 -/
  head : Option (Nat × BitVec 20 × BitVec 32)
  /-- first segment of a RESTORE: the corridor ID -/
  corridor : BitVec 16
  /-- index of the first cell carried -/
  firstCell : Nat
  /-- the cells carried -/
  cells : List SegCell
  deriving DecidableEq, Repr

/-- Where a task call comes from: the Fleet call queue, or the dictionary with a role (R210, R216). -/
inductive CallFrom where
  | fleet
  | dict (role : Role)
  deriving DecidableEq, Repr

/-- The fields of a task call (R210). -/
structure CallIn where
  /-- where it comes from -/
  from' : CallFrom
  /-- task ID -/
  task : BitVec 16
  /-- member -/
  member : BitVec 9
  /-- TAG -/
  tag : BitVec 16
  /-- epoch the caller last saw -/
  epoch : BitVec 32
  /-- argument -/
  arg : BitVec 32
  deriving DecidableEq, Repr

/-- A receiver of the radios (R282). -/
inductive RxPort where
  | fra | frb | mrx
  deriving DecidableEq, Repr

/-- A block that has an enable (R38). -/
inductive BlockId where
  | gbb | grf | fra | frb | eth0 | eth1 | can0 | can1 | cre | cle | pair
  /-- an axis -/
  | mot (n : Fin 8)
  /-- a hardware queue -/
  | que (q : Fin 32)
  /-- a CRC channel -/
  | crc (c : Fin 4)
  deriving DecidableEq, Repr

/-- Where a write of ENABLE comes from: the register itself, or the dictionary where an object holds the enable. -/
inductive EnableFrom where
  /-- register write -/
  | reg (b : Bus)
  /-- dictionary or NZ-OD write with a role -/
  | od (role : Role)
  deriving DecidableEq, Repr

/-- What a start-up meets (R596, R600, R606): only the silicon and the clock can say. -/
structure StartInput where
  /-- the root PLL locks within the PMIC ramp's time -/
  lock : Bool
  /-- tests that fail: bit 0 MEM, 1 LANE, 2 KAT, 3 RFL, 4 RAD -/
  fails : BitVec 5
  /-- scratchpad banks the memory test fails -/
  banks : BitVec 16
  /-- the memory test fails a lane memory -/
  laneMem : Bool
  /-- failing units, as OD 0x2012:05 names them -/
  units : BitVec 32
  /-- the factory calibration verifies -/
  fcal : Bool
  /-- LPDDR4X training fails -/
  ddr : Bool
  /-- crystal ticks counted from the reference event to the lock of the root PLL -/
  xtal : Nat
  /-- ms from the reference event to the end of Start-up -/
  ms : Nat
  deriving DecidableEq, Repr

/-- What stands in the buffer at KEY_AUX (R554): the spec names its contents, not their layout. -/
structure KeyAux where
  /-- initialisation vector of ENC and DEC -/
  iv : List Byte
  /-- label of a derivation (R532) -/
  label : List Byte
  /-- context of a derivation (R532) -/
  context : List Byte
  /-- attribute word of a key made by DERIVE or ECDH (R534) -/
  attr : BitVec 32
  /-- key ID of a key made by DERIVE or ECDH (R535) -/
  id : BitVec 8
  /-- its index -/
  index : BitVec 16
  /-- its generation -/
  gen : BitVec 32
  deriving DecidableEq, Repr

/-- Tamper sources (R549). -/
inductive TamperSource where
  | loop0 | loop1 | vin | vbat | clock | temp
  deriving DecidableEq, Repr

/-- One lane's output record in a lane period (R221, R222): as the lanes in agreement give it, different from theirs and
from every other lane's, or absent. -/
inductive LaneOut where
  | good | wrong | absent
  deriving DecidableEq, Repr

/-- What the input sampler sees of the ESTOP channels in a lane period (R240). -/
structure EstopIn where
  /-- levels of ESTOP_A (bit 0) and ESTOP_B (bit 1), 1 for the run level -/
  level : BitVec 2
  /-- low levels shorter than the filter time that ended -/
  shortLows : Nat
  deriving DecidableEq, Repr

/-- A cell of the partner's phase stream beside the unit's own cell of the same epoch (R378). -/
structure PhaseIn where
  /-- signal: system nibble and signal code (R53) -/
  sig : BitVec 8
  /-- PRN or orbital slot -/
  prn : BitVec 8
  /-- phase of the partner minus own phase, 10^-6 cycle -/
  d : Int
  /-- range of the partner minus own range, 0.1 mm -/
  p : Int
  /-- elevation, degrees -/
  elev : Int
  /-- the partner's lock time, ms -/
  lockMs : BitVec 32
  /-- locked on both units -/
  both : Bool
  /-- tracked by this unit -/
  tracked : Bool
  deriving DecidableEq, Repr

/-- What a dictionary request meets outside the unit, where the command it stands for needs it: the start-up that follows a
restart, the outcome of a log test, the ring offset of an error that a log read meets, the tamper sources that are active,
the active unit's reply to a safety stop, and whether the three lanes agree on a configuration. -/
structure OdInput where
  /-- start-up of a RESTART, an activation or a life-cycle change -/
  start : StartInput
  /-- the log test passes (R574) -/
  logPasses : Bool
  /-- ring offset of an uncorrectable error that a log read meets (R572) -/
  ecc : Option Word
  /-- tamper sources active at a clear (R553) -/
  active : BitVec 6
  /-- reply of the active unit to a stop passed by a standby (R387) -/
  reply : Status
  /-- the lanes compute the same CRC of a configuration (R254) -/
  agree : Bool
  deriving DecidableEq, Repr

/-- The fields of an NZ-OD request that the operation does not fix (R518). -/
structure NzReq where
  /-- the MAC it arrived at -/
  eth1 : Bool
  /-- version, octet 2 -/
  version : Byte
  /-- session ID, octets 4 and 5 -/
  session : BitVec 16
  /-- SEQ -/
  seq : BitVec 32
  /-- index -/
  index : BitVec 16
  /-- sub-index -/
  sub : BitVec 8
  /-- octets 16 to 19: offset, total size or CRC-32C -/
  arg : BitVec 32
  /-- data -/
  data : List Byte
  /-- tag of R520, empty where none was sent -/
  tag : List Byte
  deriving DecidableEq, Repr

/-- The commands, one constructor per row of the table of operations and events. -/
inductive Instr where
  -- cycle and device state
  /-- CYCLE_BOUNDARY (R17). Full TB4 time reaches a multiple of 50 ms; the next fleet cycle begins and SYS_CYCLE advances. -/
  | cycleBoundary
  /-- MANAGEMENT_TICK (R23). A 2.5 ms management tick of TB4 begins, and management-plane actions that are due take effect. -/
  | managementTick
  /-- RUN (R30). State command RUN takes a unit whose only Listening cause is COMMANDED to Run or to a standby state. -/
  | run (role : Role)
  /-- LISTEN (R30). State command LISTEN takes the unit to Listening, through the stop sequence when it was in Run. -/
  | listen (role : Role)
  /-- DORMANT (R30). State command DORMANT takes the unit to Dormant, leaving only PD_AON powered. -/
  | dormant (role : Role)
  /-- SWAP (R388). State command SWAP hands the active role to an eligible partner after a final delta. -/
  | swap (role : Role)
  /-- RESTART (R30). State command RESTART begins a start-up with cause RESTART. -/
  | restart (role : Role) (x : StartInput)
  /-- STANDBY_MODE_WRITE (R30). A write of the standby mode moves the unit between Hot standby and Warm standby. -/
  | standbyModeWrite (role : Role) (v : Nat)
  /-- VIN_VALID (R594). VIN rises above its valid threshold and a start-up with cause VIN begins. -/
  | vinValid (mv vbat : BitVec 16) (x : StartInput)
  /-- DORMANT_WAKE_DELAY_EXPIRY (R33). The FBC-counted wake delay expires in Dormant and the unit starts up. -/
  | dormantWakeDelayExpiry (x : StartInput)
  /-- WAKE_UP_CALL (R313). The wake-up receiver hears a Cowslip segment with the unit wake address and a valid CRC. -/
  | wakeUpCall (addr : BitVec 16) (crcOk : Bool) (x : StartInput)
  /-- WATCHDOG_EXPIRY (R599). The watchdog expires and a start-up with cause 3 begins, incrementing WDCNT. -/
  | watchdogExpiry (stopsCore : Bool) (x : StartInput)
  /-- ENABLE_WRITE (R39). A write of a block's ENABLE field starts, abandons, refuses or queues a start or shut-down. -/
  | enableWrite (from' : EnableFrom) (k : BlockId) (v : Bool)
  /-- BLOCK_START_COMPLETE (R39). A block in STARTING completes its start and reads ON. -/
  | blockStartComplete (k : BlockId)
  /-- QUIESCE_COMPLETE (R40). A block in QUIESCING completes its shut-down to OFF, then starts again if an enable is pending. -/
  | quiesceComplete (k : BlockId)
  /-- REGISTER_WRITE (R9). A write to a register that has no row of its own acts under its access code. -/
  | registerWrite (b : Bus) (addr : Nat) (v : Word)
  -- GNSS front end and baseband
  /-- BIAS_SHORT (R47). Antenna bias current reaches the limit; bias is removed within 10 us and SHORT is reported. -/
  | biasShort (mon : Bool)
  /-- BIAS_OPEN (R47). Bias current stays below 2 mA for 100 ms and OPEN is reported. -/
  | biasOpen (mon : Bool) (ma : BitVec 1)
  /-- BIAS_RETRY (R47). One second after a SHORT, the bias source retries. -/
  | biasRetry (mon : Bool)
  /-- CHAIN_READY (R52). An enabled RF chain becomes ready within 2 ms. -/
  | chainReady (q : Fin 6)
  /-- CHANNEL_ENABLE (R61). EN of a tracking channel changes from 0 to 1 and the channel waits for its start instant. -/
  | channelEnable (b : Bus) (c : Fin 672) (w : Word)
  /-- CHANNEL_START (R61). TB0 reaches START_T and the channel starts with its preset chip index and zero carrier phase. -/
  | channelStart (c : Fin 672)
  /-- CHANNEL_DISABLE (R61). EN changes from 1 to 0 and the channel stops at once, discarding its accumulation. -/
  | channelDisable (b : Bus) (c : Fin 672) (w : Word)
  /-- STAGED_WORD_WRITE (R60). A write to CARR_FW, CODE_FW or SLEW stages a word for the channel's next base boundary. -/
  | stagedWordWrite (b : Bus) (c : Fin 672) (reg : StagedReg) (w : Word)
  /-- BASE_BOUNDARY (R58). The chip index reaches a base-period multiple; staged words take effect and accumulations may end. -/
  | baseBoundary (c : Fin 672) (sums : Vector Int 8)
  /-- CHANNEL_LOCK_WRITE (R63). A write of LOCK starts lock-time counting or, when LOCK is cleared, sets LLI and resets the lock time. -/
  | channelLockWrite (b : Bus) (c : Fin 672) (lock half : Bool)
  /-- SLIP (R63). Writing SLIP declares a cycle slip, setting LLI and restarting the lock time. -/
  | slip (b : Bus) (c : Fin 672)
  /-- CYC_ADJ (R63). A write of CYC_ADJ stages a whole-cycle adjustment of the accumulated carrier phase. -/
  | cycAdj (b : Bus) (c : Fin 672) (n : BitVec 16)
  /-- LOCKT_PRESET (R63). A write of LOCKT presets the channel's lock time at once. -/
  | locktPreset (b : Bus) (c : Fin 672) (w : Word)
  /-- ACQ_SUBMIT (R69). A write of GBB_ACQ_CMD2 submits an acquisition request, accepted, discarded FULL or DENIED. -/
  | acqSubmit (b : Bus) (w : Word)
  /-- ACQ_SNAPSHOT_END (R71). The snapshot of an acquisition request ends and processing begins. -/
  | acqSnapshotEnd
  /-- ACQ_PROCESSING_END (R71). Acquisition processing ends and the result record is due. -/
  | acqProcessingEnd (p : AcqPeak)
  /-- ACQ_RESULT_WRITE (R71). The result record is written once its queue has room, and the next request may enter service. -/
  | acqResultWrite
  /-- LATCH_EDGE (R75). At a measurement epoch instant, all 672 channels latch on one CLK_TIM edge. -/
  | latchEdge
  /-- LATCH_TABLE_COMPLETE (R78). The latch table is complete in the scratchpad and the latch interrupt is raised. -/
  | latchTableComplete
  /-- LATCH_RELEASE (R77). A write of GBB_LATCH_REL clears HELD of a latch table. -/
  | latchRelease (b : Bus) (w : Word)
  /-- TB0_SECOND_BOUNDARY (R73). A TB0 second boundary passes; epoch rate, burst mode and path configuration changes take effect. -/
  | tb0SecondBoundary (sol : Option Standalone) (rtk : Option RtkSolution) (nav : Option NavLeap)
  /-- BURST_CHAIN_POWER_UP (R81). Before a burst, the chains in use power up and their LOs relock. -/
  | burstChainPowerUp
  /-- BURST_START (R81). A burst of burst tracking starts at the TB0 second plus OFFSET. -/
  | burstStart
  /-- BURST_END (R81). The 40 ms burst ends; correlation stops and the chains power down. -/
  | burstEnd
  -- reference and corrections
  /-- SELF_SURVEY_START (R93). Writing 1 to OD 0x3010:02 starts a self-survey in Listening. -/
  | selfSurveyStart (role : Role)
  /-- SELF_SURVEY_ABORT (R94). Writing 2 to OD 0x3010:02 aborts the survey and discards its mean. -/
  | selfSurveyAbort (role : Role)
  /-- SELF_SURVEY_ADOPT (R95). Writing 3 to OD 0x3010:02 adopts a completed survey as the station position. -/
  | selfSurveyAdopt (role : Role)
  /-- STATION_POSITION_WRITE (R92). A write of the station coordinates in Listening sets the source to calibrated and clears the mismatch latch. -/
  | stationPositionWrite (role : Role) (sub : Fin 8) (v : List Byte)
  /-- MISMATCH_ACKNOWLEDGE (R97). Writing 1 to OD 0x3000:07 clears the latched position mismatch. -/
  | mismatchAcknowledge (role : Role)
  /-- TEASEL_VERDICT (R133). Teasel completes verification of a correction-grid epoch and releases or withholds it. -/
  | teaselVerdict (e : EpochInput)
  /-- VERDICT_DEADLINE (R124). No verdict exists 12 ms after the latch edge and the epoch is withheld LATE. -/
  | verdictDeadline
  /-- STALE_VERDICT (R142). Two correction-grid periods pass without a verdict; a STALE verdict is recorded. -/
  | staleVerdict
  /-- NTRIP_RESPONSE (R115). The caster's HTTP response starts streaming, refuses the session or puts it in back-off. -/
  | ntripResponse (code : Option Nat)
  /-- NTRIP_CONNECTION_LOST (R115). The caster connection fails or closes and the session enters back-off. -/
  | ntripConnectionLost
  /-- NTRIP_BACKOFF_EXPIRY (R115). The back-off wait expires and the Oanik retries the caster. -/
  | ntripBackoffExpiry
  /-- TCP_CLIENT_CONNECT (R116). A raw TCP client connects and is served, or is reset as a fifth connection. -/
  | tcpClientConnect (id : Nat)
  -- Teasel
  /-- BASELINE_WRITE (R131). A direct write of the surveyed baseline drops ambiguities, sets integrity lost and starts a fresh fix. -/
  | baselineWrite (role : Role) (sub : Fin 3) (v : Int)
  /-- BASELINE_SURVEY_START (R130). Writing 1 to OD 0x3830:02 starts a baseline survey. -/
  | baselineSurveyStart (role : Role)
  /-- BASELINE_SURVEY_ABORT (R130). Writing 2 to OD 0x3830:02 aborts the baseline survey. -/
  | baselineSurveyAbort (role : Role)
  /-- BASELINE_SURVEY_ADOPT (R131). Writing 3 to OD 0x3830:02 adopts the survey result as the baseline. -/
  | baselineSurveyAdopt (role : Role)
  /-- TEASEL_MODE_WRITE (R150). A write of the Teasel mode in Listening changes verified or unverified operation. -/
  | teaselModeWrite (role : Role) (v : Nat)
  -- track map and Vetch
  /-- MAP_VALIDATION_END (R158). Validation of a transferred map image ends with rejection or acceptance. -/
  | mapValidationEnd
  /-- MAP_STORE_COPY_COMPLETE (R160). The accepted image has been copied to the non-volatile map store. -/
  | mapStoreCopyComplete
  /-- REQUEST (R174). Vetch evaluates a REQUEST operation and commits a new corridor or answers a failure. -/
  | request (vendor : Bool) (w : Dword) (cells : List (Dword × Dword))
  /-- RELEASE_CELLS (R182). Vetch releases the leading K cells of a corridor. -/
  | releaseCells (vendor : Bool) (w : Dword)
  /-- RELEASE (R182). Vetch ends a whole corridor. -/
  | release (vendor : Bool) (w : Dword)
  /-- FREEZE (R181). Vetch marks every live reservation of a member FROZEN. -/
  | freeze (vendor : Bool) (w : Dword)
  /-- THAW (R181). Vetch ends the freeze of a member. -/
  | thaw (vendor : Bool) (w : Dword)
  /-- RELEASE_MEMBER (R182). Vetch ends every corridor of a member and clears FROZEN. -/
  | releaseMember (vendor : Bool) (w : Dword)
  /-- RESTORE (R185). During reconciliation Vetch commits a corridor under the ID given in the header. -/
  | restore (vendor : Bool) (w : Dword) (cells : List (Dword × Dword))
  /-- MARK_RESYNC_DISCARD (R171). A word read as a header without a valid MARK is discarded and counted. -/
  | markResyncDiscard (vendor : Bool) (w : Dword)
  /-- VETCH_RESULT_WRITE (R169). A result held for lack of room is written once its result queue has room. -/
  | vetchResultWrite (vendor : Bool)
  /-- OVERDUE_SCAN (R180). Each ms of TB4, Vetch marks OVERDUE every reservation whose exit time has passed. -/
  | overdueScan
  /-- AGED_SCAN (R167). Each ms of TB4, entry times more than 2^30 ms old are moved forward and marked AGED. -/
  | agedScan
  /-- TAB_IDX_LATCH (R192). A write of CRE_TAB_IDX latches a reservation entry into CRE_TAB_D0 to D3. -/
  | tabIdxLatch (b : Bus) (idx : BitVec 13)
  -- members, tasks and timed node commands
  /-- JOIN (R197). A JOIN frame in the contention slot is accepted, or counted without an answer. -/
  | join (f : RxFrame) (nonce : BitVec 64) (mapId : Word)
  /-- JOINING_TIMEOUT (R201). No report arrives within 2 s of JOIN_ACCEPT and the member falls to Unknown. -/
  | joiningTimeout (m : Nat)
  /-- REPORT (R205). A member's REPORT in its own minislot updates state, releases left cells and processes its task item. -/
  | report (f : RxFrame) (slot : Nat) (r : ReportIn)
  /-- MINISLOT_END (R203). A member's report minislot ends and its miss count is updated under the Silent rule. -/
  | minislotEnd (m : Nat)
  /-- RETIRE (R202). Member command RETIRE releases the member's corridors and retires it. -/
  | retire (role : Role) (m : Nat)
  /-- REINSTATE (R202). Member command REINSTATE returns a retired member to Unknown. -/
  | reinstate (role : Role) (m : Nat)
  /-- RELEASE_FROZEN (R202). Member command RELEASE_FROZEN releases every corridor of a frozen member. -/
  | releaseFrozen (role : Role) (m : Nat)
  /-- ROLE_CHANGE_REQUEST (R206). An Operator role change through the member object sends a ROLE command to the member. -/
  | roleChangeRequest (role : Role) (m v : Nat)
  /-- ROLE_CHANGE_TIMEOUT (R206). No ROLE_ACK arrives within 2 s and the role change is abandoned with ROLE_FAILED. -/
  | roleChangeTimeout (m : Nat)
  /-- CREATE (R208). Task call CREATE places a new task in the table as Open. -/
  | create (c : CallIn)
  /-- ALLOT (R209). Task call ALLOT gives an Open task to a member and sends it a TASK command. -/
  | allot (c : CallIn)
  /-- WITHDRAW (R209). Task call WITHDRAW returns an Allotted or Active task to Open. -/
  | withdraw (c : CallIn)
  /-- CANCEL (R209). Task call CANCEL ends a task as Cancelled and cancels its TFCs. -/
  | cancel (c : CallIn)
  /-- DELETE (R209). Task call DELETE frees a finished task entry. -/
  | delete (c : CallIn)
  /-- SET_PRIO (R210). Task call SET_PRIO changes a task's priority. -/
  | setPrio (c : CallIn)
  /-- SET_ROLE (R210). Task call SET_ROLE requests a member's role change under R206. -/
  | setRole (c : CallIn)
  /-- TFC_SUBMIT (R213). A timed field-node command is submitted and placed Pending, or refused. -/
  | tfcSubmit (c : CallIn) (rec : Option (List Byte))
  /-- TASK_DEADLINE (R209). A task's deadline passes; Open and Allotted tasks fail, Active tasks raise a DEADLINE event. -/
  | taskDeadline (id : Nat)
  /-- ALLOTMENT_TICK (R212). The allotment period elapses and a TICK event runs the policy. -/
  | allotmentTick
  /-- RESYNC_EVENT (R212). After dropped events, RESYNC is written once the event queue has room. -/
  | resyncEvent
  /-- SILENT_WITHDRAW_TIMEOUT (R212). A member stays Silent for the withdraw time and the default policy withdraws its tasks. -/
  | silentWithdrawTimeout (m : Nat)
  /-- TFC_ACK_DEADLINE (R214). A Pending TFC is not acknowledged 100 ms before its execute time and becomes Failed. -/
  | tfcAckDeadline (i : Nat)
  /-- TFC_EXECUTE_TIME (R214). A TFC's execute time passes; one without revert ends, and a Cancelling one ends undelivered. -/
  | tfcExecuteTime (i : Nat)
  /-- TFC_REVERT_TIME (R214). An Acked TFC reaches its revert time and becomes Ended. -/
  | tfcRevertTime (i : Nat)
  /-- TFC_FREE_TIMEOUT (R214). An ownerless TFC is freed 60 s after reaching a terminal state. -/
  | tfcFreeTimeout (i : Nat)
  -- Yarrow lanes
  /-- LANE_PERIOD (R221). A 250 us lane period runs snapshot, output records and the vote. -/
  | lanePeriod (outs : Vector LaneOut 3) (badWords : BitVec 8) (stuck : BitVec 2) (e : EstopIn)
  /-- DEGRADED_TIME_LIMIT (R223). DEGRADED lasts for the degraded time limit and the voter forces the safe state. -/
  | degradedTimeLimit
  /-- KEEPALIVE_TIMEOUT (R225). An output stage loses its keep-alive and de-energises its STOP_OUT within 200 us. -/
  | keepaliveTimeout
  /-- STOP_OUT_TEST_PULSE (R225). An energised STOP_OUT switches off for 200 us and is read back by the lanes. -/
  | stopOutTestPulse (b ok : Bool)
  /-- PERMIT_GATE_CLOSE (R228). The permit gate closes 10 ms after the cycle boundary. -/
  | permitGateClose
  /-- PERMIT_LOOPBACK (R230). MRX delivers the permit received on air and the lanes check MIC, CYCLE and fields. -/
  | permitLoopback (arrives mic same : Bool)
  /-- ESTOP_TEST_PULSE (R239). An ESTOP test output pulses low and its test window is checked for faults. -/
  | estopTestPulse (b high low followed : Bool)
  /-- ESTOP_FILTER_EXPIRY (R240). An ESTOP channel holds a level for the filter time, starting or ending its demand. -/
  | estopFilterExpiry (b run : Bool)
  /-- ESTOP_UNSTABLE (R241). More than 8 transitions in 100 ms latch a channel's unstable fault. -/
  | estopUnstable (b : Bool)
  /-- ESTOP_STABLE (R241). An unstable channel reads the run level for 1 s and ceases to be unstable. -/
  | estopStable (b : Bool)
  /-- DISCREPANCY_TIMEOUT (R243). The second channel fails to follow within the discrepancy time and the fault latches. -/
  | discrepancyTimeout
  /-- SF1_STOP (R244). Safety command SF1_STOP demands a fleet stop. -/
  | sf1Stop (role : Role) (reply : Status)
  /-- SF1_RESET (R244). Safety command SF1_RESET clears SF1 when no demand remains and faults are clearable. -/
  | sf1Reset (role : Role)
  /-- ZONE_STOP (R244). Safety command ZONE_STOP stops zone z under SF2. -/
  | zoneStop (role : Role) (zone : Nat) (reply : Status)
  /-- ZONE_RESET (R244). Safety command ZONE_RESET ends the SF2 demand of zone z. -/
  | zoneReset (role : Role) (zone : Nat)
  /-- SF4_RESET (R244). Safety command SF4_RESET clears RSTOP in manual release once the condition word reads 0. -/
  | sf4Reset (role : Role)
  /-- SAF_CFG_COMMIT (R254). A write of SAF_CFGCMD.COMMIT makes the lanes adopt the configuration buffer when all agree on its CRC. -/
  | safCfgCommit (b : Bus) (agree : Bool)
  -- fleet radio
  /-- PERMIT_WINDOW_START (R272). A permit window opens and FRA begins its listen on the window's channel. -/
  | permitWindowStart (w : Fin 3) (bufferOk : Bool)
  /-- LISTEN_END (R267). A listen before talk ends clear or busy; a clear listen launches the waiting transmission. -/
  | listenEnd (frb : Bool) (rnd : Nat) (level mean : Int) (bufferOk : Bool)
  /-- LISTEN_RETRY (R275). 0.5 ms after a busy listen, FRB listens again while a frame can still fit. -/
  | listenRetry
  /-- DATA_SLOT_START (R275). A DATA slot opens and FRB begins sending its queued frames of that kind. -/
  | dataSlotStart (slot : FrbSlot)
  /-- FRAME_TX_END (R259). A transmitted frame ends, PA_EN drops and the next back-to-back frame or completion word follows. -/
  | frameTxEnd (frb : Bool)
  /-- COWSLIP_WINDOW_START (R276). The Cowslip window opens and FRA tries to send the next segment of a call. -/
  | cowslipWindowStart
  /-- TX_DESCRIPTOR (R279). A two-word transmit descriptor is taken from the radio transmit queue. -/
  | txDescriptor (frb : Bool) (w0 w1 : Dword)
  /-- LAUNCH_TIME (R280). A frame's launch time arrives and it is listened for, launched, or dropped as late. -/
  | launchTime (frb : Bool)
  /-- STOP_FRAME_END (R277). A stop frame ends and the burst's next frame begins its listen. -/
  | stopFrameEnd (bufferOk : Bool)
  /-- RADIO_CONFIG_WRITE (R264). An accepted radio configuration write takes both radios through OFF and re-enables them. -/
  | radioConfigWrite (role : Role) (idx sub : Nat) (v : Int)
  /-- UPLINK_REQUEST_ITEM (R301). A REQUEST segment in an UPLINK is stored and, when complete, rebuilt and submitted to Vetch. -/
  | uplinkRequestItem (f : RxFrame) (first : Bool) (seg : UpSegment)
  /-- UPLINK_RESTORE_ITEM (R300). A RESTORE item in an UPLINK is rebuilt and submitted as RESTORE. -/
  | uplinkRestoreItem (f : RxFrame) (first : Bool) (seg : UpSegment)
  /-- UPLINK_RELEASE_ITEM (R300). A RELEASE item in an UPLINK is submitted and answered by a STATUS item. -/
  | uplinkReleaseItem (f : RxFrame) (first : Bool) (corr : BitVec 16)
  /-- ROLE_ACK (R300). A ROLE_ACK item acknowledges a ROLE command. -/
  | roleAck (f : RxFrame) (first : Bool) (role : BitVec 8)
  /-- REQUEST_SEGMENT_TIMEOUT (R302). An incomplete segmented request is discarded 8 cycles after its first segment. -/
  | requestSegmentTimeout (m : Nat) (tag : BitVec 16)
  /-- ITEM_REPEAT (R297). Every 8 cycles, due TASK, TASK_END, STEP_GO, STEP_SKIP and GROUP_KEY items are repeated. -/
  | itemRepeat
  /-- NODE_RENDEZVOUS (R306). At a node's rendezvous cycle the Oanik sends a NODE_DL and counts a miss if no ACK follows. -/
  | nodeRendezvous (n : Nat)
  /-- NODE_ACK (R308). A NODE_ACK updates TFC states, the miss count and the drift estimate. -/
  | nodeAck (n : Nat) (fcnt : BitVec 32) (form mic : Bool) (status : BitVec 5) (nclk : Int)
  /-- NODE_RECOVERY_TIMEOUT (R314). 200 cycles of recovery SYNCs pass without an ACK and the call counts as failed. -/
  | nodeRecoveryTimeout (n : Nat)
  /-- NODE_SCHEDULE_WRITE (R305). A write of a node's interval exponent or ack mode assigns a new phase or is answered FULL. -/
  | nodeScheduleWrite (role : Role) (n : Nat) (sub v : Nat)
  /-- STANDBY_HEARD_PERMIT (R371). A standby hears its partner's PERMIT or STOP frame and mirrors stops into its lanes. -/
  | standbyHeardPermit (unit : BitVec 8) (fcnt : BitVec 32) (mic stopFrame : Bool) (w : PermitWord) (repoch : BitVec 32)
  -- time
  /-- SOURCE_MEASUREMENT (R330). A new source offset measurement drives a time base's state machine. -/
  | sourceMeasurement (n : Fin 5) (delta : Option Int) (accuracy : Nat)
  /-- SOURCE_LOST (R327). A time base's source is lost and the base enters HOLDOVER. -/
  | sourceLost (n : Fin 5)
  /-- STEP_COMMAND (R331). A step command to TB0 or a slave domain in REFUSED or CATCHUP arms a step by the last offset. -/
  | stepCommand (role : Role) (n : Fin 5) (v : Nat)
  /-- STEP_ARM (R324). A write of TBn_STEPH arms a step. -/
  | stepArm (b : Bus) (n : Fin 6) (hi : Word)
  /-- STEP_APPLY (R324). At mid-second an armed step changes the base and increments STEPSEQ. -/
  | stepApply (n : Fin 5)
  /-- SLEW_WRITE (R323). A write of TBn_SLEW replaces any slew in progress. -/
  | slewWrite (b : Bus) (n : Fin 6) (v : Word)
  /-- TB_NS_READ (R320). A read of TBn_NS latches SUB, SEC and STEPSEQ into shadow registers. -/
  | tbNsRead (b : Bus) (n : Fin 6)
  /-- TIME_VALIDITY_CHANGE (R332). A base's TE crosses its holdover limit and its derived outputs change behaviour. -/
  | timeValidityChange (n : Fin 5)
  /-- PPS_PULSE (R339). At a second boundary of its source, PPSp emits or omits its pulse. -/
  | ppsPulse (p : Fin 2)
  /-- EVT_CAPTURE (R341). A selected edge on EVTi is time-stamped and written to its queue. -/
  | evtCapture (i : Fin 4) (rising : Bool)
  /-- LEAP_SECOND_APPLY (R335). A pending leap is applied to the count at 00:00:00 UTC. -/
  | leapSecondApply
  /-- FBC_LOAD (R337). A write of TIM_FBC_LOAD loads TB0 into the FBC at the next 32.768 kHz edge. -/
  | fbcLoad (b : Bus)
  /-- CLOCK_FAILURE (R338). CLK_TIM drifts beyond its limit or stops and CLKFAIL is set. -/
  | clockFailure (stopped : Bool) (x : StartInput)
  -- pair
  /-- HEARTBEAT_SEND (R363). Every 10 ms a unit sends a link heartbeat and pulls PAIR_HB. -/
  | heartbeatSend
  /-- HEARTBEAT_RECEIVED (R363). A partner heartbeat arrives, updating theta and HB_OK. -/
  | heartbeatReceived (h : Option Machine.Heartbeat)
  /-- HEARTBEAT_MISSED (R363). A partner heartbeat is missed; the third miss clears HB_OK. -/
  | heartbeatMissed
  /-- PTP_SYNC_INTERVAL (R345). A master domain's sync interval expires and Sync and Follow_Up are sent. -/
  | ptpSyncInterval (d : Fin 3)
  /-- PTP_ANNOUNCE_INTERVAL (R346). A master domain's announce interval expires and an Announce is sent. -/
  | ptpAnnounceInterval (d : Fin 3)
  /-- PTP_MESSAGE_RECEIVED (R345). A PTP message is received and handled by its domain. -/
  | ptpMessageReceived (d : Fin 3) (m : PtpMsg)
  /-- PAIR_HOLD_IN_CHANGE (R358). PAIR_HOLD_IN changes level, opening or closing the pair gate. -/
  | pairHoldInChange (asserted : Bool)
  /-- CLAIM_ASSERT (R360). PAIR_HOLD_IN reads deasserted for 3 or 9 ms and the armed arbiter asserts the hold. -/
  | claimAssert
  /-- CLAIM_COMPLETE (R360). The 1 ms sample after asserting the hold ends and the claim completes or is dropped in a race. -/
  | claimComplete
  /-- PAIR_KA_WRITE (R359). A write of 0x4B41 to PAIR_KA feeds the hold keep-alive. -/
  | pairKaWrite (b : Bus) (key : BitVec 16)
  /-- PAIR_KA_TIMEOUT (R359). PAIR_KA is not fed for 15 ms and the hold is released. -/
  | pairKaTimeout
  /-- HOLD_RELEASE (R359). A write of PAIR_CTRL.RELEASE releases the hold at once. -/
  | holdRelease (b : Bus)
  /-- HOLD_CONFLICT (R362). PAIR_HOLD_IN reads asserted more than 1 ms after the claim and hold conflict is set. -/
  | holdConflict
  /-- LINK_UP (R364). Both lanes lock and mutual authentication completes. -/
  | linkUp (unit : BitVec 8) (auth : Bool)
  /-- LINK_DOWN (R364). The pair link loses lock or authentication. -/
  | linkDown (l0 l1 : Bool) (codeErr : BitVec 16)
  /-- HELLO (R364). A hello message sets format compatibility and checks the positions. -/
  | hello (readable pos : Bool)
  /-- DELTA_RECEIVED (R368). The standby applies an in-sequence delta or handles a gap. -/
  | deltaReceived (d : Machine.PairDelta) (repoch : BitVec 32) (tagOk : Bool)
  /-- DELTA_ACK_RECEIVED (R367). The partner acknowledges a delta and held frames of that cycle may leave. -/
  | deltaAckReceived (seq : BitVec 32)
  /-- SNAPSHOT_REQUEST (R369). A snapshot request makes the active unit send its whole state. -/
  | snapshotRequest
  /-- SNAPSHOT_PART_RECEIVED (R369). The standby compares or applies a snapshot part. -/
  | snapshotPartReceived (requested last : Bool) (part : Nat) (seq : BitVec 32) (recs : List Machine.PairRec) (repoch : BitVec 32) (tagOk : Bool)
  /-- PHASE_STREAM (R378). A phase stream message of released cells is received and the standby aligns its cells. -/
  | phaseStream (cells : List PhaseIn) (repoch : BitVec 32) (tagOk : Bool)
  /-- MIRROR_WRITE (R370). A write of PAIR_MIRIDX.GO writes a reservation entry into the standby's CRE. -/
  | mirrorWrite (b : Bus) (idx : BitVec 13)
  /-- ROLE_STALE_RECEIVED (R385). A unit in Run receives ROLE_STALE or a newer Run heartbeat and is deposed. -/
  | roleStaleReceived
  /-- SWAP_CLAIM_TIMEOUT (R388). The partner has not claimed 20 ms after a swap release and the former active unit arms its claim. -/
  | swapClaimTimeout
  -- axes
  /-- MOVE (R404). Axis command MOVE moves the axis to a target position. -/
  | axisMove (role : Role) (n : Fin 8) (tgt : BitVec 32)
  /-- VEL (R404). Axis command VEL brings the axis to a target velocity. -/
  | axisVel (role : Role) (n : Fin 8) (tgt : BitVec 32)
  /-- STOP (R404). Axis command STOP ends homing and gearing and brings the axis to rest. -/
  | axisStop (role : Role) (n : Fin 8)
  /-- GEAR (R409). Axis command GEAR engages electronic gearing to the master encoder. -/
  | axisGear (role : Role) (n : Fin 8)
  /-- GEAR_ARM (R410). Axis command GEAR_ARM stages a ratio change at the compare position. -/
  | gearArm (role : Role) (n : Fin 8)
  /-- HOME (R411). Axis command HOME starts a homing method. -/
  | axisHome (role : Role) (n : Fin 8) (method : BitVec 3) (negative : Bool)
  /-- LOCK (R416). Axis command LOCK records the lock position and sets LOCKED. -/
  | axisLock (role : Role) (n : Fin 8)
  /-- UNLOCK (R416). Axis command UNLOCK ends the lock when no hold remains. -/
  | axisUnlock (role : Role) (n : Fin 8)
  /-- CLRFLT (R415). Axis command CLRFLT clears FAULT and ended fault causes at rest. -/
  | clrflt (role : Role) (n : Fin 8)
  /-- PROFILE_TICK (R403). A 10 us profile tick takes inputs, faults and the pending command and advances the profile. -/
  | profileTick (enc : Vector Int 8) (z : BitVec 8) (menc : Int)
  /-- SWITCH_INPUT_FILTERED (R399). A switch input holds a new level for the debounce time and its filtered state changes. -/
  | switchInputFiltered (n : Fin 8) (i : Fin 4) (active : Bool) (glitches : Nat)
  /-- INPUT_UNSTABLE (R400). More than CHN changes in CHW ms declare a switch input unstable. -/
  | inputUnstable (n : Fin 8) (i : Fin 4)
  /-- INPUT_STABLE (R400). An unstable input stays inactive for 1 s and becomes stable again. -/
  | inputStable (n : Fin 8) (i : Fin 4)
  /-- ENCODER_ILLEGAL_TRANSITION (R398). A quadrature transition changes A and B together and sets ENCERR. -/
  | encoderIllegalTransition (n : Option (Fin 8))
  /-- STALL_DETECT (R411). Following error held at STALL_FE for STALL_T detects a stall in method 4. -/
  | stallDetect (n : Fin 8)
  /-- SERVICE_MODE_WRITE (R414). A write of an axis's service mode is accepted or answered BUSY. -/
  | serviceModeWrite (role : Role) (n : Fin 8) (v : Nat)
  -- control loop engine
  /-- SAMPLE_EDGE (R431). At a CLE sample edge each closed loop latches inputs, applies the last output and computes the next. -/
  | sampleEdge (enc : Vector Int 8) (menc : Int) (late : BitVec 8)
  /-- COEFFICIENT_COMMIT (R436). A write of CLEn_CFG.COMMIT makes the staged coefficient set take effect at the next sample. -/
  | coefficientCommit (role : Role) (n : Fin 8)
  /-- INJ_START (R442). START begins a test-signal injection at the next sample edge. -/
  | injStart (role : Role)
  /-- INJ_STOP (R442). STOP ends the running injection. -/
  | injStop (role : Role)
  /-- CAPTURE_ARM (R443). ARM starts a capture waiting for its trigger. -/
  | captureArm (role : Role)
  /-- CAPTURE_ABORT (R443). ABORT ends a capture and keeps the records written. -/
  | captureAbort (role : Role)
  -- job dispatch and interrupts
  /-- JDX_SUBMIT (R458). A write of JDX_SUBMIT7 submits a job, stalling while the world is at quota. -/
  | jdxSubmit (core : Fin 16) (monitor : Bool) (d : Word)
  /-- JDX_TRYSUB (R458). A write of JDX_TRYSUB submits a job or discards it under back-pressure. -/
  | jdxTrysub (core : Fin 16) (monitor : Bool) (d : Word)
  /-- SUBMIT_STALL_RELEASE (R458). A stalled JDX_SUBMIT7 completes when its world drops below quota. -/
  | submitStallRelease (core : Fin 16)
  /-- JOB_DELIVERY (R459). The JDX delivers a ready job to an idle core of its world. -/
  | jobDelivery (core : Fin 16)
  /-- JDX_GET (R463). A read of JDX_GET0 ends any job in service and waits for the next delivered job. -/
  | jdxGet (core : Fin 16)
  /-- JDX_DONE (R462). A write of JDX_DONE ends the job in service on the core. -/
  | jdxDone (core : Fin 16)
  /-- AFFINITY_WAIT_EXPIRY (R460). A job's affinity wait ends and it may go to any idle core. -/
  | affinityWaitExpiry (flow : BitVec 12)
  /-- JOB_DUE (R461). A delayed job's due time arrives and it becomes ready. -/
  | jobDue (flow : BitVec 12)
  /-- JOB_TIME_LIMIT (R462). A job exceeds its world's time limit; its core is reset and the job discarded. -/
  | jobTimeLimit (core : Fin 16)
  /-- INT_ACK (R465). A write of INT_ACKi clears pending bits of interrupt sources. -/
  | intAck (b : Bus) (i : Fin 4) (mask same : Word)
  /-- ACCESS_VIOLATION (R454). An access failing the PMP or firewall has no effect, raises a fault and is recorded. -/
  | accessViolation (b : Bus) (addr : Nat) (kind : AccessKind)
  /-- MONITOR_TRAP (R469). A Fleet or Service monitor handles a trap, discards the job and may stop the Fleet world. -/
  | monitorTrap (core : Fin 16)
  -- memory, queues, CRC
  /-- SCRUB_INTERVAL (R473). The background scrub reads every word of every ON bank once per interval. -/
  | scrubInterval (errs : List WordError)
  /-- PORT_B_RETRY (R474). A port-B write that met COLLIDE is repeated on the next edge. -/
  | portBRetry (bank : Fin 16) (addr : Nat) (word : Dword) (again : Bool)
  /-- BANK_POWER_WRITE (R476). A write of MEM_BANKb_CTRL.PWR changes a bank's power state or is refused. -/
  | bankPowerWrite (b : Bus) (bank : Fin 16) (pwr : BitVec 2)
  /-- BANK_FILL_COMPLETE (R476). A bank leaving OFF completes its zero fill and reads ON. -/
  | bankFillComplete (bank : Fin 16)
  /-- SECURE_WIPE_COMPLETE (R478). The secure scratchpad wipe completes and WIPED is set. -/
  | secureWipeComplete
  /-- QUEUE_WRITE (R482). A write of WHI adds a word to a queue, stalling while it is full. -/
  | queueWrite (b : Bus) (q : Fin 32) (hi : Word)
  /-- QUEUE_READ (R482). A read of RLO takes a word from a queue, stalling while none is available. -/
  | queueRead (b : Bus) (q : Fin 32)
  /-- TRY_READ (R484). A read of TRLO takes a word or returns 0 and sets EMPTY without stalling. -/
  | tryRead (b : Bus) (q : Fin 32)
  /-- TRY_WRITE (R484). A write of TWHI adds a word or discards it and sets FULL without stalling. -/
  | tryWrite (b : Bus) (q : Fin 32) (hi : Word)
  /-- QUEUE_HANDOVER (R480). A ping-pong queue hands its banks over when the draining bank is empty and the filling bank is ready. -/
  | queueHandover (q : Fin 32)
  /-- STALLED_ACCESS_COMPLETE (R483). A stalled queue access completes as a word or space becomes available. -/
  | stalledAccessComplete (q : Fin 32)
  /-- ENGINE_RECORD_WRITE (R485). An engine writes a whole record of 1 to 16 words to a queue when room exists. -/
  | engineRecordWrite (q : Fin 32) (ws : List Dword)
  /-- CRC_POLY_WRITE (R492). A write of CRCc_CFG.POLY selects a polynomial and loads its initial value. -/
  | crcPolyWrite (b : Bus) (c : Fin 4) (poly : BitVec 3)
  /-- CRC_RESET (R493). CMD.RESET copies INIT into VALUE. -/
  | crcReset (b : Bus) (c : Fin 4)
  /-- CRC_DATA (R493). A write of DATA8, DATA16 or DATA32 feeds bytes into the running CRC. -/
  | crcData (b : Bus) (c : Fin 4) (width : DataWidth) (d : Word)
  /-- CRC_START (R494). CMD.START begins a memory scan or sets BERR. -/
  | crcStart (b : Bus) (c : Fin 4)
  /-- CRC_ABORT (R496). CMD.ABORT stops a scan at the next 8-byte boundary. -/
  | crcAbort (b : Bus) (c : Fin 4) (pos : Nat)
  /-- CRC_SCAN_DONE (R494). A scan processes its last byte, sets DONE and raises source 52. -/
  | crcScanDone (c : Fin 4) (busError : Option Nat)
  -- dictionary, CAN and NZ-OD
  /-- SDO_INITIATE_DOWNLOAD (R512). An SDO initiate download writes an object expedited or opens a segmented download. -/
  | sdoInitiateDownload (n : Fin 2) (cs : Byte) (idx : BitVec 16) (sub : BitVec 8) (d : Vector Byte 4) (x : OdInput)
  /-- SDO_DOWNLOAD_SEGMENT (R512). An SDO download segment carries the next part of a segmented write. -/
  | sdoDownloadSegment (n : Fin 2) (cs : Byte) (d : Vector Byte 7) (x : OdInput)
  /-- SDO_INITIATE_UPLOAD (R512). An SDO initiate upload reads an object expedited or opens a segmented upload. -/
  | sdoInitiateUpload (n : Fin 2) (cs : Byte) (idx : BitVec 16) (sub : BitVec 8) (x : OdInput)
  /-- SDO_UPLOAD_SEGMENT (R512). An SDO upload segment request returns the next part of a value. -/
  | sdoUploadSegment (n : Fin 2) (cs : Byte)
  /-- SDO_SEGMENT_TIMEOUT (R512). A segmented transfer waits 1,000 ms for a segment and is aborted. -/
  | sdoSegmentTimeout (n : Fin 2)
  /-- OPEN (R517). NZ-OD OPEN creates a session or is answered FULL. -/
  | openSession (q : NzReq)
  /-- CLOSE (R519). NZ-OD CLOSE ends a session. -/
  | closeSession (q : NzReq)
  /-- READ (R519). NZ-OD READ returns an object's value. -/
  | nzRead (q : NzReq) (x : OdInput)
  /-- WRITE (R519). NZ-OD WRITE writes an object's value under the dictionary rules. -/
  | nzWrite (q : NzReq) (x : OdInput)
  /-- DOMAIN_BEGIN (R522). DOMAIN_BEGIN opens a DOMAIN download of a named size. -/
  | domainBegin (q : NzReq)
  /-- DOMAIN_DATA (R522). DOMAIN_DATA carries the next octets of a DOMAIN download. -/
  | domainData (q : NzReq)
  /-- DOMAIN_END (R522). DOMAIN_END checks the CRC and size and hands the transfer to its object. -/
  | domainEnd (q : NzReq)
  /-- KEEPALIVE (R519). NZ-OD KEEPALIVE keeps a session from its idle timeout. -/
  | keepalive (q : NzReq)
  /-- DOMAIN_TRANSFER_TIMEOUT (R522). A DOMAIN transfer receives no message for 10 s and is abandoned. -/
  | domainTransferTimeout (slot : Fin 11)
  /-- LOGIN_CHALLENGE (R506). A read of OD 0x9000:01 issues a fresh challenge bound to the session. -/
  | loginChallenge (slot : Fin 11)
  /-- LOGIN_RESPONSE (R506). A write of OD 0x9000:02 grants the role if the HMAC verifies. -/
  | loginResponse (slot : Fin 11) (v : List Byte)
  /-- LOGOUT (R506). Writing 1 to OD 0x9000:03 returns the session to Observer. -/
  | logout (slot : Fin 11) (v : Nat)
  /-- SESSION_IDLE_TIMEOUT (R505). An idle session falls back to Observer, or an NZ-OD session closes. -/
  | sessionIdleTimeout (slot : Fin 11)
  /-- NMT_START_REMOTE_NODE (R510). NMT start remote node puts the CAN node in Operational. -/
  | nmtStartRemoteNode (n : Fin 2) (node : BitVec 8)
  /-- NMT_STOP_REMOTE_NODE (R510). NMT stop remote node puts the CAN node in Stopped. -/
  | nmtStopRemoteNode (n : Fin 2) (node : BitVec 8)
  /-- NMT_ENTER_PRE_OPERATIONAL (R510). NMT enter pre-operational puts the CAN node in Pre-operational. -/
  | nmtEnterPreOperational (n : Fin 2) (node : BitVec 8)
  /-- NMT_RESET_COMMUNICATION (R510). NMT reset communication reloads communication objects and ends the channel's session. -/
  | nmtResetCommunication (n : Fin 2) (node : BitVec 8)
  /-- NMT_RESET_NODE (R510). NMT reset node acts as reset communication without restarting the Oanik. -/
  | nmtResetNode (n : Fin 2) (node : BitVec 8)
  /-- CAN_HEARTBEAT_PRODUCE (R511). The producer heartbeat time elapses and the NMT state is sent. -/
  | canHeartbeatProduce (n : Fin 2)
  /-- CAN_HEARTBEAT_LOSS (R511). A consumed node is not heard within its time and EMCY 0x8130 is raised. -/
  | canHeartbeatLoss (n : Fin 2) (i : Fin 4)
  /-- TPDO_TRANSMIT (R514). A TPDO is sent on a change of a mapped value or its event timer. -/
  | tpdoTransmit (n : Fin 2) (i : Fin 4)
  /-- RPDO_RECEIVED (R514). A received RPDO is written as Operator or discarded. -/
  | rpdoReceived (n : Fin 2) (i : Fin 4) (data : List Byte) (x : OdInput)
  /-- CAN_ERROR_STATE_CHANGE (R513). A CAN channel becomes error passive or recovers from bus-off, raising EMCY. -/
  | canErrorStateChange (n : Fin 2) (tec : Nat) (rec : BitVec 8)
  /-- RESTORE_DEFAULTS (R529). A write of 0x6461_6F6C to OD 0x1011:01 writes defaults of all non-retained persisting objects. -/
  | restoreDefaults (role : Role) (v : Word)
  -- keys, enrolment, life cycle, tamper
  /-- LOAD (R554). KEY operation LOAD unwraps a blob into a key slot. -/
  | keyLoad (b : Bus) (slot dst : Fin 32) (aux : KeyAux)
  /-- CLEAR (R554). KEY operation CLEAR empties a key slot. -/
  | keyClear (b : Bus) (slot dst : Fin 32) (aux : KeyAux)
  /-- DERIVE (R532). KEY operation DERIVE derives a key into a slot under SP 800-108. -/
  | keyDerive (b : Bus) (slot dst : Fin 32) (aux : KeyAux)
  /-- ENC (R554). KEY operation ENC encrypts with a slot key. -/
  | keyEnc (b : Bus) (slot dst : Fin 32) (aux : KeyAux)
  /-- DEC (R554). KEY operation DEC decrypts with a slot key. -/
  | keyDec (b : Bus) (slot dst : Fin 32) (aux : KeyAux)
  /-- MAC (R554). KEY operation MAC computes a MAC with a slot key. -/
  | keyMac (b : Bus) (slot dst : Fin 32) (aux : KeyAux)
  /-- SIGN (R554). KEY operation SIGN signs with a P-256 private key. -/
  | keySign (b : Bus) (slot dst : Fin 32) (aux : KeyAux)
  /-- ECDH (R554). KEY operation ECDH agrees a shared secret into a slot. -/
  | keyEcdh (b : Bus) (slot dst : Fin 32) (aux : KeyAux)
  /-- WRAP (R538). KEY operation WRAP seals a key as a blob under the KWK. -/
  | keyWrap (b : Bus) (slot dst : Fin 32) (aux : KeyAux)
  /-- KEY_OPERATION_DONE (R537). A KEY operation completes and writes its status. -/
  | keyOperationDone
  /-- KEY_WIPE (R554). A write of KEY_WIPE clears every key slot. -/
  | keyWipe (b : Bus)
  /-- KEY_IMPORT (R540). A write of OD 0x9010:02 imports a site key under the NZ-IMP key. -/
  | keyImport (role : Role) (msg : List Byte)
  /-- SITE_KEY_BLOB_WRITE (R539). A write of a site key blob back to OD 0x9010:04 stores a newer generation. -/
  | siteKeyBlobWrite (role : Role) (blob : List Byte)
  /-- GROUP_KEY_RENEWAL (R543). Writing 1 to OD 0x9010:03, or the counter reaching 0xFFF0_0000, renews the group key. -/
  | groupKeyRenewal (role : Role)
  /-- ENROL_MEMBER (R546). A write of OD 0x9020:01 enrols a robot identity as a member. -/
  | enrolMember (role : Role) (v : List Byte)
  /-- ENROL_NODE (R546). A write of OD 0x9020:02 enrols a field node. -/
  | enrolNode (role : Role) (v : List Byte)
  /-- REMOVE_ENROLMENT (R546). A write of OD 0x9020:03 removes a member or node enrolment. -/
  | removeEnrolment (role : Role) (v : Word)
  /-- CERTIFICATE_WRITE (R544). A write of a unit certificate is verified and stored. -/
  | certificateWrite (role : Role) (sub : Nat) (v : List Byte)
  /-- LIFE_CYCLE_COMMAND (R548). A life-cycle command blows fuses, wipes secrets, flushes the log and restarts. -/
  | lifeCycleCommand (role : Role) (v : Nat) (x : StartInput)
  /-- TAMPER_FIRE (R549). A tamper source fires and its log, wipe or lock response is applied. -/
  | tamperFire (source : TamperSource)
  /-- TAMPER_CLEAR (R553). Writing 1 to OD 0x9040:09 clears the TAMPERED latch. -/
  | tamperClear (role : Role) (v : Nat) (active : BitVec 6)
  -- event recorder
  /-- RECORD_COMMIT (R563). A write of EVR_RECEND commits the staged record to the buffer. -/
  | recordCommit (b : Bus)
  /-- FLUSH (R566). EVR_CMD.FLUSH or OD 0x2050:08 starts a flush of the buffer. -/
  | flush (from' : EnableFrom)
  /-- FLUSH_PERIOD_EXPIRY (R566). 10 s pass since the last flush ended and a flush starts. -/
  | flushPeriodExpiry
  /-- FLUSH_COMPLETE (R567). A flush finishes copying and verifying its records and frees them. -/
  | flushComplete (fail : Option Word)
  /-- POWER_FAIL (R568). VIN falls below the power-fail threshold; POWER_FAIL is committed and a flush starts. -/
  | powerFail (mv : BitVec 16)
  /-- LOG_TEST (R574). Writing 1 to OD 0x2050:09 tests the log region and repairs the ring if it passes. -/
  | logTest (role : Role) (passes : Bool)
  /-- LOG_RECORD_READ (R576). A read of OD 0x2050:04 returns the record at the cursor and advances it. -/
  | logRecordRead (slot : Fin 11) (ecc : Option Word)
  -- service port and update
  /-- SERVICE_FRAME (R578). A frame on the service port is checked and its NZ-OD message served. -/
  | serviceFrame (uart : Bool) (frame : List Byte) (x : OdInput)
  /-- IMAGE_CHECK_COMPLETE (R583). A downloaded image is checked, stored and read back, or refused. -/
  | imageCheckComplete (norOk : Bool)
  /-- DISCARD_STORED_IMAGE (R583). Writing 5 to OD 0x2060:02 discards a stored image. -/
  | discardStoredImage (role : Role)
  /-- ACTIVATE_MAIN (R585). Activation code 1 prefers the stored slot in trial and restarts the unit. -/
  | activateMain (role : Role) (x : StartInput)
  /-- ACTIVATE_GBB (R586). Activation code 2 schedules a GBB microcode load. -/
  | activateGbb (role : Role)
  /-- ACTIVATE_RADIO (R586). Activation code 3 schedules a radio microcode load. -/
  | activateRadio (role : Role)
  /-- ACTIVATE_CLE (R586). Activation code 4 loads CLE microcode while the CLE is OFF. -/
  | activateCle (role : Role)
  /-- MICROCODE_PAUSE_START (R586). At its placement instant the engine pauses and the loader places the microcode. -/
  | microcodePauseStart
  /-- MICROCODE_PAUSE_END (R586). The microcode pause ends and the engine resumes. -/
  | microcodePauseEnd
  /-- CONFIRM (R587). Writing 1 to OD 0x2060:06 confirms the image in trial. -/
  | confirm (role : Role) (v : Nat)
  /-- CONFIRMATION_WINDOW_EXPIRY (R587). The confirmation window expires without confirmation and the image rolls back. -/
  | confirmationWindowExpiry (x : StartInput)
  -- start-up, calibration, power and clocks
  /-- PLL_LOCK_TIMEOUT (R626). The root PLL is not locked 8 ms after the reference event and the PMIC ramp is repeated. -/
  | pllLockTimeout (x : StartInput)
  /-- START_UP_RETRY (R626). After three failed ramps, PD_AON retries the whole start-up every 10 s. -/
  | startUpRetry (x : StartInput)
  /-- CALIBRATION_CLEAR (R608). A write of OD 0xA800:01 clears user calibration parts. -/
  | calibrationClear (role : Role) (v : Word)
  /-- BROWN_OUT (R614). VIN stays below 4.0 V for 20 us and every domain except PD_AON loses power. -/
  | brownOut (vbat : BitVec 16)
  /-- VSTOP_LOW (R617). VSTOP falls below 16 V; stop outputs cannot energise and SF1 is demanded. -/
  | vstopLow (mv : BitVec 16)
  /-- VOUT_OVERLOAD (R612). VOUT33 or VOUT18 is overloaded and enters foldback. -/
  | voutOverload (v18 : Bool)
  /-- POWER_DOMAIN_REQUEST (R619). A write of PMU_PDREQ switches a power domain on or off, or is refused. -/
  | powerDomainRequest (b : Bus) (req : BitVec 12)
  /-- POWER_DOMAIN_ON (R619). A requested domain becomes powered and its blocks start OFF. -/
  | powerDomainOn (d : Fin 12)
  /-- REF10_QUALIFIED (R624). REF10_IN qualifies for 1 s and the PLL slews to it. -/
  | ref10Qualified (ppb : BitVec 32)
  /-- REF10_LOST (R624). REF10_IN is lost and the PLL holds its last frequency. -/
  | ref10Lost
  /-- REF10_RETURN_TIMEOUT (R624). REF10_IN does not requalify within 10 s and the PLL slews back to the TCXO. -/
  | ref10ReturnTimeout
  /-- TEMPERATURE_WARNING (R621). The die temperature rises through 105 C and a record is written. -/
  | temperatureWarning (t : BitVec 16)
  -- debug port
  /-- TAP_RESET (R653). TRSTn low or five TMS-high edges reset the TAP to IDCODE. -/
  | tapReset
  /-- EXTEST (R661). Instruction EXTEST drives outputs from boundary cells while debug is enabled. -/
  | extest (cells : List Nat)
  /-- IDCODE (R653). Instruction IDCODE selects the 32-bit IDCODE register. -/
  | idcode
  /-- SAMPLE_PRELOAD (R653). Instruction SAMPLE/PRELOAD samples or preloads the boundary scan register. -/
  | samplePreload (cells : List Nat)
  /-- CLAMP (R661). Instruction CLAMP holds outputs from boundary cells with bypass selected. -/
  | clamp
  /-- HIGHZ (R661). Instruction HIGHZ places drivable outputs in high impedance. -/
  | highz
  /-- DTMCS (R653). Instruction DTMCS reports the debug transport status. -/
  | dtmcs (reset hardReset : Bool)
  /-- DMI (R654). A DMI access reaches the debug module, or fails while debug is not enabled. -/
  | dmi (op : BitVec 2) (addr : BitVec 7) (data : Word)
  /-- DBG_CHAL (R655). Instruction DBG_CHAL returns the serial number and current nonce. -/
  | dbgChal
  /-- DBG_TOKEN (R655). An unlock token taken at Update-DR enables debug or counts a failure. -/
  | dbgToken (t : List Byte) (tamper : Option TamperSource)
  /-- BYPASS (R653). Instruction BYPASS selects the 1-bit bypass register. -/
  | bypass
  /-- HART_HALT (R660). The debug module halts a selected hart. -/
  | hartHalt (hart : Nat)
  /-- HART_RESUME (R659). The debug module resumes a halted hart. -/
  | hartResume (hart : Nat)
  /-- SINGLE_STEP (R659). The debug module single-steps a halted hart. -/
  | singleStep (hart : Nat)
  /-- ABSTRACT_COMMAND (R659). An abstract command accesses a halted hart's registers or runs the program buffer. -/
  | abstractCommand (hart : Nat) (transfer write postexec : Bool) (reg : BitVec 16) (v : BitVec 64)
  /-- SYSTEM_BUS_ACCESS (R659). A system bus access by the debug module reads or writes memory as a world-0 master. -/
  | systemBusAccess (write : Bool) (addr : BitVec 32) (v : Word)
  /-- TRIGGER_HIT (R659). An armed trigger matches an execution or data address and halts the hart. -/
  | triggerHit (core : Fin 16) (addr : BitVec 64) (kind : AccessKind)
  /-- DEBUG_ARM (R656). Writing 1 to OD 0x9050:01 arms the debug unlock for 600 s. -/
  | debugArm (role : Role) (v : Nat)
  /-- DEBUG_ARM_EXPIRY (R656). The 600 s arming expires. -/
  | debugArmExpiry
  -- further events
  /-- SERVICE_PORT_CONNECTION_OPEN (R505). The service port's connection opens, by USB configuration by a host or on SERVICE_UART, and its Observer session begins. -/
  | servicePortConnectionOpen (usb : Bool)
  /-- SERVICE_PORT_CONNECTION_CLOSE (R505). The service port's connection closes and its session ends. -/
  | servicePortConnectionClose
  /-- CAN_HEARTBEAT_RECEIVED (R511). A heartbeat of a consumed node arrives and restarts that node's consumer time. -/
  | canHeartbeatReceived (n : Fin 2) (node : BitVec 8)
  /-- POWER_FAIL_CLEARED (R613). VIN rises above PMU_PFTHR + 0.5 V without a brown-out, and PFAIL_NOW clears. -/
  | powerFailCleared (mv : BitVec 16)
  /-- VSTOP_RESTORED (R617). VSTOP rises back to 16 V or more, and VSTOP_OK returns to 1, so the stop outputs and ESTOP test outputs can be driven again. -/
  | vstopRestored (mv : BitVec 16)
  /-- VBAT_LOSS (R616). VBAT falls below 1.8 V while VIN is absent, and PD_AON loses its contents, including the FBC, latches and always-on buffer. -/
  | vbatLoss (vbat : BitVec 16)
  /-- PLL_SLEW_COMPLETE (R624). The root PLL finishes its slew between references and locks in phase, clearing SLEW and changing DF412 and the reference in use. -/
  | pllSlewComplete
  /-- SLEW_COMPLETE (R323). A time base finishes spreading its written slew; TBn_SLEW reads 0 and SLEWING clears. -/
  | slewComplete (n : Fin 5)
  /-- PTP_DELAY_REQ_INTERVAL (R345). A slave or peer-delay domain's request interval expires, and Delay_Req or Pdelay_Req is sent. -/
  | ptpDelayReqInterval (d : Fin 3)
  /-- RX_FRAME_FCS_FAILED (R261). A received frame fails its FCS, is discarded and is counted in FRx_CNT_RXERR and OD 0x5040:09. -/
  | rxFrameFcsFailed (port : RxPort)
  /-- MRX_RETUNE (R274). At the fixed cycle offsets, for example 3.6 ms with no permit begun, or 1.3, 2.5 and 3.6 ms in a standby, MRX retunes to REP or to the next FRA channel. -/
  | mrxRetune (us : Nat)
  deriving DecidableEq, Repr

end Sys2Proof
end

