-- ==== Sys2Proof/Config.lean ====
section
/-!
DEFINITION. What an implementation, a factory or an outside standard fixes and the spec does not state: every
constant here is opaque, so a claim about the model holds whatever its value is. Each is named in the assumption log.
-/
namespace Sys2Proof.Config

/-- Free values: what the spec leaves open although the machine goes on. The argument is the counter of State. -/
opaque freeValue : Nat → BitVec 64

/-- The serial number, 16 characters (R525: factory). -/
opaque serial : Fin 16 → Byte

/-- Serial number, numeric part, OD 0x1018:04 (R525: factory). -/
opaque serialNumeric : Word

/-- Boot ROM version, OD 0x2000:0A (R525: factory). -/
opaque bootRomVersion : Word

/-- USB vendor and product identifiers, OD 0x2060:0E (R592: factory). -/
opaque usbIds : Word

/-- Factory calibration values by dictionary key, index x 256 + sub-index (R605, R606: factory). -/
opaque factoryCal : Nat → Int

/-- Columns repaired per scratchpad bank, at most 16 (R477: cal). -/
opaque repairedColumns : Fin 16 → Fin 17

/-- The unit's own radio address (R286, R544: factory). -/
opaque radioAddress : BitVec 64

/-- Low octet of TYPE of a block's event record (R560: type catalogue of the running image). -/
opaque eventCode : Event → Byte

/-- SEV of a block's event record of a subject other than 0x70 (R560: type catalogue). -/
opaque eventSev : Event → Fin 3

/-- Body octets of a block's event record, at most 1,014 (R558, R560: type catalogue). -/
opaque eventBody : Event → Fin 1015

/-- Body octets of a block's event record with its numbers, in the catalogue's layout (R560). -/
opaque eventOctets : Event → List Nat → List Byte

/-- Octets of the type catalogue of the running image (R560). -/
opaque typeCatalogue : List Byte

/-- SHA-256 (FIPS 180-4), 32 octets. -/
opaque sha256 : List Byte → List Byte

/-- HMAC-SHA-256 over a message under a key (FIPS 198-1). -/
opaque hmacSha256 : (key msg : List Byte) → List Byte

/-- Verification of an ECDSA P-256 signature r, s by a public key over the digest of a message (FIPS 186-4). -/
opaque ecdsaVerify : (pub msg sig : List Byte) → Bool

/-- ECDSA P-256 signature by a private scalar (FIPS 186-4). -/
opaque ecdsaSign : (key digest : List Byte) → List Byte

/-- x-coordinate of the ECDH P-256 shared point (SP 800-56A). -/
opaque ecdhX : (key pub : List Byte) → List Byte

/-- Public key, uncompressed, of a P-256 private scalar. -/
opaque p256Public : List Byte → List Byte

/-- A scalar lies in 1 to n - 1 of P-256. -/
opaque p256Valid : List Byte → Bool

/-- AES-GCM sealing: ciphertext and tag of a plaintext under key, IV and associated data (SP 800-38D). -/
opaque gcmSeal : (key iv aad plain : List Byte) → List Byte

/-- AES-GCM opening: the plaintext when the tag verifies (SP 800-38D). -/
opaque gcmOpen : (key iv aad cipher : List Byte) → Option (List Byte)

/-- AES encryption mode of the KEY engine's ENC operation, with its IV. -/
opaque aesEnc : (key iv plain : List Byte) → List Byte

/-- AES decryption mode of the KEY engine's DEC operation, with its IV. -/
opaque aesDec : (key iv cipher : List Byte) → List Byte

/-- AES-CMAC (RFC 4493), for keys of ALG 0 and 1. -/
opaque aesCmac : (key msg : List Byte) → List Byte

/-- The fused root secret, 32 octets (R531). -/
opaque fusedRoot : List Byte

/-- The test root, the same in every stepping B0 device (R531). -/
opaque testRoot : List Byte

/-- Sutrisar's image verification key in boot ROM (R581). -/
opaque imageKey : List Byte

/-- Sutrisar's debug key in boot ROM (R655). -/
opaque debugKey : List Byte

/-- DTMCS.idle, the debug transport's hint of idle cycles (R653: implementation). -/
opaque dtmIdle : Fin 8

/-- NZ-OD requests that the dictionary serves beyond 2,000 in a second of TB5 (R523: implementation). -/
opaque nzExtra : Nat → Nat

/-- Quotient of the two arguments when the divisor is 0. -/
opaque divByZero : Int → Int

end Sys2Proof.Config
end

