-- ==== Sys2Proof/Machine/Parts/Device.lean ====
section
/-!
DEFINITION. The part of the state that belongs to the unit as a whole: the device state machine, the fleet cycle,
and the enable record that every switchable block carries (spec/01_architecture.md).
-/
namespace Sys2Proof.Machine

/-- Start causes (R594). -/
inductive StartCause where
  | vin | dormantWake | restart | watchdog
  deriving DecidableEq, Repr

/-- STATE of a switchable block (R38). -/
inductive BlockState where
  | off | starting | on | quiescing
  deriving DecidableEq, Repr

/-- The enable and status fields every switchable block has (R38 to R40). -/
structure BlockCtl where
  /-- ENABLE, the last value written (R38; reset 0) -/
  enable : Bool := false
  /-- STATE (R38; reset OFF) -/
  st : BlockState := .off
  /-- EN_PEND, an enable waits for a shut-down to finish (R38; reset 0) -/
  enPend : Bool := false
  /-- REFUSED, a write of ENABLE = 0 was refused; W1C (R38; reset 0) -/
  refused : Bool := false
  deriving DecidableEq, Repr

/-- The switchable blocks that exist once (R38). MOT, QUE and CRC carry their records in their own parts. -/
structure Blocks where
  /-- GBB enable record (R38; reset OFF) -/
  gbb : BlockCtl := {}
  /-- GRF enable record (R38; reset OFF) -/
  grf : BlockCtl := {}
  /-- FRA enable record (R38; reset OFF) -/
  fra : BlockCtl := {}
  /-- FRB enable record (R38; reset OFF) -/
  frb : BlockCtl := {}
  /-- ETH0 enable record (R38; reset OFF) -/
  eth0 : BlockCtl := {}
  /-- ETH1 enable record (R38; reset OFF) -/
  eth1 : BlockCtl := {}
  /-- CAN0 enable record (R38; reset OFF) -/
  can0 : BlockCtl := {}
  /-- CAN1 enable record (R38; reset OFF) -/
  can1 : BlockCtl := {}
  /-- CRE enable record (R38; reset OFF) -/
  cre : BlockCtl := {}
  /-- CLE enable record (R38; reset OFF) -/
  cle : BlockCtl := {}
  /-- PAIR enable record (R38; reset OFF) -/
  pair : BlockCtl := {}
  deriving DecidableEq, Repr

/-- The device as a whole (R17, R23, R26 to R37). -/
structure Device where
  /-- SYS_DEVSTATE.DSTATE (R34; reset 0x0, Start-up) -/
  dstate : DevState := .startUp
  /-- SYS_DEVSTATE.CAUSE, one bit per cause of Listening (R29, R34; reset 0x00) -/
  cause : BitVec 8 := 0
  /-- SYS_DEVSTATE.ELIGIBLE (R34; reset 0) -/
  eligible : Bool := false
  /-- SYS_DEVSTATE.PAIRED (R34; reset 0) -/
  paired : Bool := false
  /-- SYS_CYCLE.CYCLE, the fleet-cycle number (R17, R35; reset 0) -/
  cycle : BitVec 32 := 0
  /-- full TB4 ms of the last cycle boundary taken (R17; reset 0, LOG) -/
  lastBoundary : Nat := 0
  /-- the state a transition in progress ends in, if one is in progress (R30; reset none) -/
  target : Option DevState := none
  /-- the Dormant wake: FBC ns at which the wake delay expires, if timed (R33; reset none) -/
  wakeAt : Option Nat := none
  /-- unit wake address that PD_AON's wake-up receiver listens for in *Dormant* (R313; reset 1, the default of OD 0x5100:03) -/
  wakeAddr : BitVec 16 := 1
  /-- power is applied: VIN has been valid since power off (R30; reset false) -/
  powered : Bool := false
  /-- steps 1 to 3 of R31 have been taken and the transition goes on: the run line no longer reads Run (R31, R221; reset 0, LOG) -/
  lineDown : Bool := false
  /-- the start that a transition in progress ends in, with its cause and what it will meet (R594; reset none, LOG) -/
  startWith : Option (StartCause × StartInput) := none
  /-- radio settings wait until both radios are OFF, with which of them is then enabled again (R264; reset none, LOG) -/
  radioCfg : Option (Bool × Bool) := none
  deriving DecidableEq, Repr

end Sys2Proof.Machine
end

