-- ==== Sys2Proof/Machine/Parts/Axes.lean ====
section
/-!
DEFINITION. The infrastructure axes, block MOT (spec/12_axes.md), and the control loop engine, block CLE
(spec/13_control_loops.md).
-/
namespace Sys2Proof.Machine

/-- A switch input of an axis (R399, R400). -/
structure SwitchIn where
  /-- filtered state: true when active (R399, R424; reset 0) -/
  active : Bool := false
  /-- declared unstable (R400, R424; reset 0) -/
  unstable : Bool := false
  deriving DecidableEq, Repr

/-- Mode of an axis, MOTn_STATUS.MODE (R424). -/
inductive AxisMode where
  | position | velocity | gearing | homing
  deriving DecidableEq, Repr

/-- What the profile generator is doing (R405 to R413). -/
inductive Motion where
  | rest
  | toTarget
  | toVelocity
  | rampStop
  | gear
  | frozen
  deriving DecidableEq, Repr

/-- Phase of a homing sequence (R411). -/
inductive HomePhase where
  | clearSwitch | seekSwitch | stopSwitch | backOff | seekIndex | seekStall | stallBack | stopAfter
  deriving DecidableEq, Repr

/-- A homing in progress (R411). -/
structure Homing where
  /-- method 1 to 5 (R411; reset not applicable) -/
  method : Nat
  /-- direction: true for negative (R404; reset not applicable) -/
  negative : Bool
  /-- phase (R411; reset not applicable) -/
  phase : HomePhase
  /-- MOTn_POS at the start, for HTRAV (R411; reset not applicable) -/
  start : Int
  deriving DecidableEq, Repr

/-- Electronic gearing in force (R409). -/
structure Gearing where
  /-- anchor cpos_0 (R409; reset not applicable) -/
  cpos0 : Int
  /-- anchor menc_0 (R409; reset not applicable) -/
  menc0 : Int
  /-- rem_0 (R409; reset not applicable) -/
  rem0 : Int
  /-- GNUM in force (R409; reset not applicable) -/
  num : Int
  /-- GDEN in force (R409; reset not applicable) -/
  den : Nat
  deriving DecidableEq, Repr

/-- A pending axis command (R403). -/
structure AxisCmd where
  /-- CODE (R404; reset not applicable) -/
  code : BitVec 8
  /-- PARAM (R404; reset not applicable) -/
  param : BitVec 8
  /-- SEQ (R403; reset not applicable) -/
  seq : BitVec 16
  /-- TGT at the write (R404; reset not applicable) -/
  tgt : BitVec 32
  deriving DecidableEq, Repr

/-- Configuration registers of one axis (R424). -/
structure AxisCfg where
  /-- OUT (R424; reset 0b00) -/
  out : BitVec 2 := 0
  /-- PSRC (R424; reset 0) -/
  psrc : Bool := false
  /-- LMODE (R424; reset 0) -/
  lmode : Bool := false
  /-- POL (R424; reset 0x0) -/
  pol : BitVec 4 := 0
  /-- EDIR (R424; reset 0) -/
  edir : Bool := false
  /-- VMAX (R424; reset 0) -/
  vmax : BitVec 25 := 0
  /-- AMAX (R424; reset 0) -/
  amax : BitVec 32 := 0
  /-- LDEC (R424; reset 0) -/
  ldec : BitVec 32 := 0
  /-- JMAX (R424; reset 0) -/
  jmax : BitVec 32 := 0
  /-- FELIM (R424; reset 0x0000) -/
  felim : BitVec 16 := 0
  /-- SLIMLO (R424; reset 0x8000_0000) -/
  slimLo : BitVec 32 := 0x80000000
  /-- SLIMHI (R424; reset 0x7FFF_FFFF) -/
  slimHi : BitVec 32 := 0x7FFFFFFF
  /-- staged GNUM (R424; reset 1) -/
  gnum : BitVec 32 := 1
  /-- staged GDEN (R424; reset 1) -/
  gden : BitVec 32 := 1
  /-- GCOMP (R424; reset 0) -/
  gcomp : BitVec 32 := 0
  /-- HSPD (R424; reset 0) -/
  hspd : BitVec 25 := 0
  /-- HOMEPOS (R424; reset 0) -/
  homePos : BitVec 32 := 0
  /-- HTRAV (R424; reset 0x7FFF_FFFF) -/
  htrav : BitVec 32 := 0x7FFFFFFF
  /-- STALL_FE (R424; reset 0) -/
  stallFe : BitVec 16 := 0
  /-- STALL_T (R424; reset 0) -/
  stallT : BitVec 16 := 0
  /-- BACKOFF (R424; reset 0) -/
  backoff : BitVec 32 := 0
  /-- DEB (R424; reset 0x064) -/
  deb : BitVec 10 := 100
  /-- CHN (R424; reset 0x08) -/
  chn : BitVec 8 := 8
  /-- CHW (R424; reset 0x64) -/
  chw : BitVec 8 := 100
  /-- LOCK_TOL (R424; reset 0x0014) -/
  lockTol : BitVec 16 := 20
  /-- SVC, service mode (R424; reset 0b00) -/
  svc : BitVec 2 := 0
  /-- SPW (R424; reset 0x0A) -/
  spw : BitVec 8 := 10
  /-- DIRSET (R424; reset 0x14) -/
  dirset : BitVec 8 := 20
  /-- PWMPER (R424; reset 0x1388) -/
  pwmper : BitVec 16 := 0x1388
  /-- ESCL (R424; reset 0x0001_0000) -/
  escl : BitVec 32 := 0x10000
  deriving DecidableEq, Repr

/-- The profile and position state of one axis (R394, R395, R403 to R411). -/
structure AxisMotion where
  /-- encoder count (R394, R398; reset 0) -/
  enc : Int := 0
  /-- step count (R394, R395; reset 0) -/
  step : Int := 0
  /-- MOTn_POS (R394, R424; reset 0) -/
  pos : Int := 0
  /-- MOTn_CPOS, commanded position, whole counts (R424; reset 0) -/
  cpos : Int := 0
  /-- fraction of the commanded position, 10^-15 count (R405; reset 0) -/
  cposF : Nat := 0
  /-- profile velocity, 10^-10 counts/s (R405; reset 0) -/
  vel : Int := 0
  /-- profile acceleration, 10^-5 counts/s^2 (R405; reset 0) -/
  acc : Int := 0
  /-- velocity word V in force, MOTn_VEL (R395, R424; reset 0) -/
  v : BitVec 32 := 0
  /-- 48-bit phase accumulator (R395; reset 0, LOG) -/
  phase : BitVec 48 := 0
  /-- MOTn_DIR level: true for positive (R396; reset false, LOG) -/
  dir : Bool := false
  /-- MODE (R424; reset position) -/
  mode : AxisMode := .position
  /-- motion in progress (R405; reset rest) -/
  motion : Motion := .rest
  /-- target of a motion to a position, counts, or to a velocity, 10^-10 counts/s (R404; reset 0) -/
  target : Int := 0
  /-- speed limit of the motion in progress, 10^-10 counts/s (R405, R411; reset 0) -/
  vlim : Nat := 0
  /-- what a home capture has added to the position an encoder gives (R411; reset 0) -/
  ofs : Int := 0
  /-- the ramp stop in progress uses LDEC, else AMAX (R404, R408; reset false) -/
  byLdec : Bool := false
  /-- homing in progress (R411; reset none) -/
  homing : Option Homing := none
  /-- gearing engaged (R409; reset none) -/
  gear : Option Gearing := none
  /-- armed ratio: GNUM, GDEN, GCOMP (R410; reset none) -/
  armed : Option (Int × Nat × Int) := none
  deriving DecidableEq, Repr

/-- One infrastructure axis. -/
structure Axis where
  /-- enable record of R38 (R424; reset OFF) -/
  ctl : BlockCtl := {}
  /-- configuration (R424; reset as listed) -/
  cfg : AxisCfg := {}
  /-- motion (R403; reset at rest at 0) -/
  mo : AxisMotion := {}
  /-- LIMP (R399; reset inactive) -/
  limP : SwitchIn := {}
  /-- LIMN (R399; reset inactive) -/
  limN : SwitchIn := {}
  /-- HOME (R399; reset inactive) -/
  home : SwitchIn := {}
  /-- DRV_FLT (R399; reset inactive) -/
  drvFlt : SwitchIn := {}
  /-- MOTn_GLITCH (R399, R424; reset 0) -/
  glitch : BitVec 32 := 0
  /-- pending command (R403; reset none) -/
  cmd : Option AxisCmd := none
  /-- MOTn_CMDSTAT.STATUS (R424; reset 0) -/
  stat : BitVec 8 := 0
  /-- MOTn_CMDSTAT.SEQ (R424; reset 0) -/
  statSeq : BitVec 16 := 0
  /-- MOTn_TGT (R424; reset 0) -/
  tgt : BitVec 32 := 0
  /-- HOMED (R414, R424; reset 0) -/
  homed : Bool := false
  /-- LOCKED (R416, R424; reset 0) -/
  locked : Bool := false
  /-- lock position (R416; reset 0) -/
  lockPos : Int := 0
  /-- FAULT (R415, R424; reset 0) -/
  fault : Bool := false
  /-- MOTn_FAULT.CAUSE (R415, R424; reset 0x00) -/
  cause : BitVec 7 := 0
  /-- an illegal encoder transition since the last profile tick (R398; reset false) -/
  encErr : Bool := false
  /-- CLE reported the third consecutive overrun (R415, R439; reset false) -/
  ovr : Bool := false
  /-- the following error was above FELIM at the last profile tick (R415; reset false) -/
  ferrStood : Bool := false
  /-- RELONLY: the limit tripped, true for LIMP (R413, R424; reset none) -/
  relOnly : Option Bool := none
  /-- HFAIL, W1C (R424; reset 0) -/
  hfail : Bool := false
  /-- SOFT, W1C (R424; reset 0) -/
  soft : Bool := false
  /-- |FERR| at or above STALL_FE since, in profile ticks (R411; reset 0) -/
  stallTicks : Nat := 0
  /-- MOTn_DRV_EN (R393; reset low) -/
  drvEn : Bool := false
  /-- in shadow (R421; reset false) -/
  shadow : Bool := false
  /-- shadow: own position latched at the last cycle boundary (R422; reset 0) -/
  shLatched : Int := 0
  /-- shadow: offset, and how many deltas it has kept within LOCK_TOL (R422; reset 0) -/
  shOffset : Int := 0
  /-- the offsets of the last three deltas, newest first (R422; reset none) -/
  shOffsets : List Int := []
  /-- shadow: aligned (R422; reset false) -/
  shAligned : Bool := false
  /-- shadow: last streamed record at rest, HOMED, LOCKED, lock position, position (R422; reset none) -/
  shRec : Option (Bool × Bool × Bool × Int × Int) := none
  deriving DecidableEq, Repr

/-- Coefficients of one loop, staged or in force (R432, R436, R444). -/
structure Coeffs where
  /-- KP, 16.16 (R444; reset 0) -/
  kp : BitVec 32 := 0
  /-- KV, 8.24 (R444; reset 0) -/
  kv : BitVec 32 := 0
  /-- KI, 8.24 (R444; reset 0) -/
  ki : BitVec 32 := 0
  /-- KVFF, 2.14 (R444; reset 0) -/
  kvff : BitVec 16 := 0
  /-- KAFF, 0.32 (R444; reset 0) -/
  kaff : BitVec 32 := 0
  /-- UMAX (R444; reset 0x7FFF) -/
  umax : BitVec 16 := 0x7FFF
  /-- IMAX (R444; reset 0) -/
  imax : BitVec 16 := 0
  /-- notch 1: B0, B1, B2, A1, A2, 2.30 (R444; reset 0x4000_0000, 0, 0, 0, 0) -/
  n1 : Vector (BitVec 32) 5 := #v[0x40000000, 0, 0, 0, 0]
  /-- notch 2, as notch 1 (R444; reset as N1) -/
  n2 : Vector (BitVec 32) 5 := #v[0x40000000, 0, 0, 0, 0]
  /-- N1EN (R444; reset 0) -/
  n1en : Bool := false
  /-- N2EN (R444; reset 0) -/
  n2en : Bool := false
  deriving DecidableEq, Repr

/-- One loop of the CLE (R431 to R439). -/
structure Loop where
  /-- CLEn_CFG.EN (R444; reset 0) -/
  en : Bool := false
  /-- staged set (R436, R444; reset as listed) -/
  staged : Coeffs := {}
  /-- set committed, to take effect at the next sample edge (R436; reset none) -/
  commit : Option Coeffs := none
  /-- set in force (R436; reset as listed) -/
  c : Coeffs := {}
  /-- integrator i, 16.16 (R432; reset 0) -/
  i : Int := 0
  /-- notch states s1, s2 of stage 1, 16.16 (R435; reset 0) -/
  s11 : Int := 0
  /-- s2 of stage 1 (R435; reset 0) -/
  s12 : Int := 0
  /-- s1 of stage 2 (R435; reset 0) -/
  s21 : Int := 0
  /-- s2 of stage 2 (R435; reset 0) -/
  s22 : Int := 0
  /-- pos_k-1 (R431; reset 0) -/
  posPrev : Int := 0
  /-- u_pre of the previous sample, 16.16 (R437; reset 0) -/
  uPre : Int := 0
  /-- output computed at the last edge, applied at the next (R434; reset 0) -/
  outNext : Int := 0
  /-- OUT in force (R434, R444; reset 0) -/
  out : Int := 0
  /-- mode and hard stop of the previous sample, for hand-over (R437; reset position, none) -/
  modePrev : AxisMode := .position
  /-- frozen by a hard stop at the previous sample (R437; reset false) -/
  hardPrev : Bool := false
  /-- the loop closes its axis since a sample edge (R428; reset false) -/
  closed : Bool := false
  /-- OVR.TOTAL (R439, R444; reset 0) -/
  ovrTotal : BitVec 16 := 0
  /-- OVR.CONSEC (R439, R444; reset 0) -/
  ovrConsec : BitVec 2 := 0
  /-- overruns since start-up, OD 0x789n:15 (R445; reset 0) -/
  ovrUp : BitVec 32 := 0
  /-- SAT (R444; reset 0) -/
  sat : Bool := false
  /-- FROZEN (R444; reset 0) -/
  frozen : Bool := false
  /-- HOCLAMP, W1C (R444; reset 0) -/
  hoclamp : Bool := false
  /-- NOTCH_REJ, W1C (R444; reset 0) -/
  notchRej : Bool := false
  deriving DecidableEq, Repr

/-- Test-signal generator (R441, R442). -/
structure Inject where
  /-- LOOP (R444; reset 0) -/
  loop : Fin 8 := 0
  /-- POINT (R444; reset 0) -/
  point : BitVec 2 := 0
  /-- KIND (R444; reset 0) -/
  kind : BitVec 2 := 0
  /-- HOLD (R444; reset 0x01) -/
  hold : BitVec 7 := 1
  /-- AMP (R444; reset 0) -/
  amp : BitVec 32 := 0
  /-- F1, 0.01 Hz (R444; reset 0) -/
  f1 : BitVec 32 := 0
  /-- F2, 0.01 Hz (R444; reset 0) -/
  f2 : BitVec 32 := 0
  /-- DUR, samples (R444; reset 0) -/
  dur : BitVec 32 := 0
  /-- accepted, begins at the next sample edge (R442; reset false) -/
  due : Bool := false
  /-- RUN (R444; reset 0) -/
  run : Bool := false
  /-- END (R442, R444; reset 0) -/
  ended : BitVec 3 := 0
  /-- STATUS of the last START (R444; reset 0) -/
  status : BitVec 8 := 0
  /-- samples done (R441; reset 0) -/
  t : Nat := 0
  /-- LFSR of PRBS (R441; reset 0x7FF) -/
  lfsr : BitVec 11 := 0x7FF
  /-- a STOP command reached the axis since the last sample (R442; reset false) -/
  axisStop : Bool := false
  deriving DecidableEq, Repr

/-- Capture (R443). -/
structure Capture where
  /-- BANK (R444; reset 0) -/
  bank : Fin 16 := 0
  /-- SELc: loop and signal (R444; reset 0) -/
  sel : Vector (Fin 8 × Fin 16) 8 := Vector.replicate 8 (0, 0)
  /-- DEC (R444; reset 0x001) -/
  dec : BitVec 9 := 1
  /-- TRIG (R444; reset 0b00) -/
  trig : BitVec 2 := 0
  /-- PRE (R444; reset 0) -/
  pre : BitVec 13 := 0
  /-- LEVEL (R444; reset 0) -/
  level : BitVec 32 := 0
  /-- ARMED (R444; reset 0) -/
  armed : Bool := false
  /-- TRIG'D (R444; reset 0) -/
  trigd : Bool := false
  /-- DONE (R444; reset 0) -/
  done : Bool := false
  /-- START, oldest record (R444; reset 0) -/
  start : BitVec 13 := 0
  /-- record slot written next (R443; reset 0) -/
  next : Nat := 0
  /-- records kept so far (R443; reset 0) -/
  count : Nat := 0
  /-- samples since the last record taken (R443; reset 0) -/
  skip : Nat := 0
  /-- channel 0 of the previous sample, for TRIG 2 (R443; reset none) -/
  prev0 : Option Int := none
  deriving DecidableEq, Repr

/-- The shared part of MOT and the CLE. -/
structure Motor where
  /-- MOT0 to MOT7 (R393; reset OFF) -/
  axis : Vector Axis 8 := Vector.replicate 8 {}
  /-- MENC_POS (R425; reset 0) -/
  menc : Int := 0
  /-- MENC_CFG.EDIR (R425; reset 0) -/
  mencEdir : Bool := false
  /-- MENC_ERR (R425; reset 0) -/
  mencErr : BitVec 32 := 0
  /-- MOT_STAT.CFG_ERR, W1C (R425; reset 0) -/
  cfgErr : Bool := false
  /-- next command sequence number of the firmware (R403; reset 0, LOG) -/
  seq : BitVec 16 := 0
  /-- CLE_STATUS.CFG_ERR, W1C (R444; reset 0) -/
  cleErr : Bool := false
  /-- CLE_PERIOD.PER (R429, R444; reset 0x186A) -/
  per : BitVec 17 := 0x186A
  /-- the eight loops (R428; reset as listed) -/
  loop : Vector Loop 8 := Vector.replicate 8 {}
  /-- test-signal generator (R441; reset idle) -/
  inj : Inject := {}
  /-- capture (R443; reset idle) -/
  cap : Capture := {}
  deriving DecidableEq, Repr

end Sys2Proof.Machine
end

