-- ==== Sys2Proof/Machine/Parts/Cores.lean ====
section
/-!
DEFINITION. Cores, worlds, the job dispatcher JDX and the interrupt router INT (spec/14_cores_dispatch.md).
-/
namespace Sys2Proof.Machine

/-- A job descriptor (R456). -/
structure Job where
  /-- ENTRY (R456; reset 0) -/
  entry : BitVec 16 := 0
  /-- FLOW (R456; reset 0) -/
  flow : BitVec 12 := 0
  /-- PRIO (R456; reset 0) -/
  prio : BitVec 3 := 0
  /-- DELAY (R456; reset 0) -/
  delay : Bool := false
  /-- WORLD (R456; reset 0) -/
  world : BitVec 2 := 0
  /-- ARG (R456; reset 0) -/
  arg : BitVec 32 := 0
  /-- DUE (R456; reset 0) -/
  due : BitVec 32 := 0
  /-- USER, four words (R456; reset 0) -/
  user : Vector (BitVec 32) 4 := Vector.replicate 4 0
  deriving DecidableEq, Repr

/-- Where an accepted job stands (R459 to R461). -/
inductive JobPlace where
  | behind
  | delayed
  /-- ready: order in which it became so, whether it waits for its remembered core, TB5 in 10 ns since when -/
  | ready (order : Nat) (affinity : Bool) (since : Nat)
  /-- in service on a core, TB5 in 10 us since when -/
  | service (core : Fin 16) (since : Nat)
  deriving DecidableEq, Repr

/-- An accepted job that has not ended (R458). -/
structure Accepted where
  /-- order of acceptance (R459; reset not applicable) -/
  seq : Nat
  /-- the job (R456; reset not applicable) -/
  job : Job
  /-- where it stands (R459; reset not applicable) -/
  place : JobPlace
  deriving DecidableEq, Repr

/-- One application core as the JDX and the monitor see it (R448, R459, R463). -/
structure Core' where
  /-- released from reset (R448, R468; reset false) -/
  running : Bool := false
  /-- a read of JDX_GET0 is outstanding (R459; reset false) -/
  idle : Bool := false
  /-- job whose submission stalls on JDX_SUBMIT7 (R458; reset none) -/
  stalled : Option Job := none
  /-- JDX_TRYRES.ACC (R463; reset 0) -/
  acc : Bool := false
  /-- JDX_SUBMIT0-6 staging (R463; reset 0) -/
  sub : Vector (BitVec 32) 7 := Vector.replicate 7 0
  /-- JDX_GET0-7 of the job delivered (R463; reset 0) -/
  got : Vector (BitVec 32) 8 := Vector.replicate 8 0
  /-- halted by the debugger (R659; reset false) -/
  halted : Bool := false
  deriving DecidableEq, Repr

/-- One interrupt source (R464 to R466). -/
structure IntSrc where
  /-- EN (R466; reset 0) -/
  en : Bool := false
  /-- MODE (R466; reset 0) -/
  direct : Bool := false
  /-- CORE (R466; reset 0x0) -/
  core : BitVec 4 := 0
  /-- TPL (R466; reset 0x00) -/
  tpl : BitVec 7 := 0
  /-- PEND (R466; reset 0) -/
  pend : Bool := false
  /-- MERGE, saturating (R466; reset 0x00) -/
  merge : BitVec 8 := 0
  deriving DecidableEq, Repr

/-- Reason for which the Fleet world does not run, OD 0x2030:02 (R470). -/
inductive FleetWorld where
  | running | noCore | absent | stopped | refused
  deriving DecidableEq, Repr

/-- Cores, JDX and INT. -/
structure Cores where
  /-- SYS_CORECFG.FLEET (R449; reset 0b000) -/
  fleet : BitVec 3 := 0
  /-- SYS_CORECFG.LOCK (R449; reset 0) -/
  lock : Bool := false
  /-- application cores 0 to 15 (R447; reset held in reset) -/
  core : Vector Core' 16 := Vector.replicate 16 {}
  /-- jobs accepted and not ended, oldest first (R458; reset none) -/
  jobs : List Accepted := []
  /-- order number of the next acceptance (R459; reset 0) -/
  nextSeq : Nat := 0
  /-- order number of the next job that becomes ready (R459; reset 0) -/
  nextReady : Nat := 0
  /-- core that last served each flow (R460; reset none) -/
  served : List (Nat × Fin 16) := []
  /-- JDX_FAULT.OVF, W1C (R463; reset 0) -/
  ovf : Bool := false
  /-- JDX_AFF.WAIT, 10 ns (R463; reset 0x00C8) -/
  aff : BitVec 16 := 0xC8
  /-- JDX_JOBMAXw, 10 us (R463; reset 0x3E8, 0x1388, 0x186A0) -/
  jobMax : Vector (BitVec 20) 3 := #v[0x3E8, 0x1388, 0x186A0]
  /-- INT_SRCs that differ from reset (R466; reset none listed) -/
  srcs : List (Nat × IntSrc) := []
  /-- INT_STAT.CFG_ERR, W1C (R466; reset 0) -/
  intErr : Bool := false
  /-- INT_TPLt that differ from reset (R466; reset none listed) -/
  tpls : List (Nat × Job) := []
  /-- direct interrupts raised and not yet taken, core and source (R465; reset none) -/
  direct : List (Nat × Nat) := []
  /-- state of the Fleet world (R470; reset module absent, LOG) -/
  world : FleetWorld := .absent
  /-- Fleet module entry count (R470; reset 0) -/
  entries : BitVec 16 := 0
  /-- Fleet-world monitor events: TB5 ns of the last ones within 60 s, newest first (R469; reset none) -/
  monEvents : List Nat := []
  /-- Fleet-world monitor events since start-up (R470; reset 0) -/
  nMon : BitVec 32 := 0
  /-- firewall violation records since start-up (R470; reset 0) -/
  nViol : BitVec 32 := 0
  /-- times OVF was found set (R470; reset 0) -/
  nOvf : BitVec 32 := 0
  /-- violations recorded within the last second: master, world, address, kind, TB5 ns (R454; reset none) -/
  viol : List (Nat × Nat × Nat × Nat × Nat) := []
  deriving DecidableEq, Repr

end Sys2Proof.Machine
end

