-- ==== Sys2Proof/Machine/Parts/Gnss.lean ====
section
/-!
DEFINITION. The GNSS front end (GRF) and baseband (GBB) of spec/02_gnss_channels.md.
-/
namespace Sys2Proof.Machine

/-- One antenna's bias source (R47, R86). -/
structure Bias where
  /-- selection code, GRF_BIAS.REF_SEL or MON_SEL (R86; reset 0b00) -/
  sel : BitVec 2 := 0
  /-- bias is applied to the ball at present (R47; reset false) -/
  applied : Bool := false
  /-- OPEN (R47, R86; reset 0) -/
  isOpen : Bool := false
  /-- SHORT (R47, R86; reset 0) -/
  isShort : Bool := false
  /-- current reported, mA (R86; reset 0x00) -/
  ma : BitVec 8 := 0
  deriving DecidableEq, Repr

/-- GRF: front end. AGC words q = 0 to 5 (R51, R86). -/
structure Agc where
  /-- GAIN in force, 0.5 dB (R86; reset 0x00) -/
  gain : BitVec 7 := 0
  /-- MANUAL (R86; reset 0) -/
  manual : Bool := false
  /-- MAN_GAIN (R86; reset 0x00) -/
  manGain : BitVec 7 := 0
  deriving DecidableEq, Repr

/-- The GNSS RF front end. -/
structure Grf where
  /-- GRF_CTRL.BIAS_KEEP (R86; reset 0) -/
  biasKeep : Bool := false
  /-- GRF_CTRL.CHAIN_EN (R86; reset 0) -/
  chainEn : BitVec 6 := 0
  /-- GRF_STATUS.CHAIN_RDY (R86; reset 0) -/
  chainRdy : BitVec 6 := 0
  /-- ANT_REF bias (R47; reset off) -/
  ref : Bias := {}
  /-- ANT_MON bias (R47; reset off) -/
  mon : Bias := {}
  /-- GRF_AGCq (R86; reset 0) -/
  agc : Vector Agc 6 := Vector.replicate 6 {}
  deriving DecidableEq, Repr

/-- One tracking channel: its registers, staged words, NCOs and dump bookkeeping (R54 to R67). -/
structure Channel where
  /-- CFG.EN (R64; reset 0) -/
  en : Bool := false
  /-- CFG.CHAIN (R64; reset 0b00) -/
  chain : BitVec 2 := 0
  /-- CFG.PILOT_EN (R64; reset 0) -/
  pilotEn : Bool := false
  /-- CFG.SIG (R64; reset 0x00) -/
  sig : BitVec 8 := 0
  /-- CFG.PRN (R64; reset 0x00) -/
  prn : BitVec 8 := 0
  /-- CFG.ACC as written (R58, R64; reset 0x01) -/
  acc : BitVec 5 := 1
  /-- ACC in force since a base boundary (R58; reset 1) -/
  accNow : BitVec 5 := 1
  /-- SPACE.SPACING (R57, R64; reset 0x14) -/
  spacing : BitVec 6 := 20
  /-- staged carrier word (R60; reset none) -/
  stCarr : Option (BitVec 32) := none
  /-- staged code word (R60; reset none) -/
  stCode : Option (BitVec 32) := none
  /-- staged SLEW (R60; reset none) -/
  stSlew : Option (BitVec 16) := none
  /-- staged whole-cycle adjustment (R63; reset 0) -/
  stCyc : Int := 0
  /-- whole cycles added by CYC_ADJ since the last latch record, for R135 (R63, R135; reset 0) -/
  cycDone : Int := 0
  /-- carrier word in force (R55, R64; reset 0) -/
  carrFw : BitVec 32 := 0
  /-- code word in force (R56, R64; reset 0) -/
  codeFw : BitVec 32 := 0
  /-- START_T (R64; reset 0) -/
  startT : BitVec 32 := 0
  /-- START_C.CHIP (R64; reset 0) -/
  startChip : BitVec 24 := 0
  /-- START_C.FRAC (R64; reset 0) -/
  startFrac : BitVec 8 := 0
  /-- the channel has started and runs (R61; reset false) -/
  started : Bool := false
  /-- chip index (R56; reset 0) -/
  chip : BitVec 24 := 0
  /-- code phase fraction, 2^-32 chip (R56; reset 0) -/
  frac : BitVec 32 := 0
  /-- period count modulo 256 (R56; reset 0) -/
  period : BitVec 8 := 0
  /-- carrier NCO phase, 2^-32 cycle (R55; reset 0) -/
  phase : BitVec 32 := 0
  /-- accumulated carrier phase, signed 32.32 cycles (R55; reset 0) -/
  accPhase : BitVec 64 := 0
  /-- count of CLK_TIM edges at which the NCO fields hold (R75; reset 0, LOG) -/
  atTick : Nat := 0
  /-- the eight accumulators: I and Q of early, prompt data, prompt pilot and late (R57, R59; reset 0) -/
  accum : Vector (BitVec 24) 8 := Vector.replicate 8 0
  /-- an accumulator held its limit in the accumulation in progress (R59; reset false) -/
  sat : Bool := false
  /-- base periods accumulated so far in the accumulation in progress (R58; reset 0) -/
  accDone : Nat := 0
  /-- LOCK.LOCK (R64; reset 0) -/
  lock : Bool := false
  /-- LOCK.HALF (R64; reset 0) -/
  half : Bool := false
  /-- LOCKT at the instant locktFrom, ms of TB0 (R63, R64; reset 0) -/
  lockt : BitVec 32 := 0
  /-- TB0 ms since which the lock time has counted (R63; reset 0, LOG) -/
  locktFrom : Nat := 0
  /-- LLI to be given in the next latch record (R63; reset false) -/
  lli : Bool := false
  /-- ADJ to be given in the next latch record (R63; reset false) -/
  adj : Bool := false
  /-- SEQ of the next dump record (R65; reset 0, LOG) -/
  seq : BitVec 8 := 0
  /-- LOST to be set in the next delivered dump record (R67; reset false) -/
  lost : Bool := false
  deriving DecidableEq, Repr

/-- A search request as submitted (R69, R70). -/
structure AcqReq where
  /-- CMD0 as written (R70; reset not applicable) -/
  cmd0 : BitVec 32
  /-- CMD1 as written (R70; reset not applicable) -/
  cmd1 : BitVec 32
  /-- CMD2 as written (R70; reset not applicable) -/
  cmd2 : BitVec 32
  deriving DecidableEq, Repr

/-- Phase of the acquisition engine on the request in service (R71). -/
inductive AcqPhase where
  | snapshot | processing | result
  deriving DecidableEq, Repr

/-- The acquisition engine (R69 to R72). -/
structure Acq where
  /-- CMD0 last written (R87; reset 0) -/
  cmd0 : BitVec 32 := 0
  /-- CMD1 last written (R87; reset 0) -/
  cmd1 : BitVec 32 := 0
  /-- requests pending, the one in service first (R69; reset empty) -/
  queue : List AcqReq := []
  /-- phase of the request in service; none when none is in service (R71; reset none) -/
  phase : Option AcqPhase := none
  /-- TB0 ns field at the snapshot start (R72; reset 0) -/
  snapNs : BitVec 32 := 0
  /-- count of CLK_TIM edges at the snapshot start (R71; reset 0) -/
  snapAt : Nat := 0
  /-- the result record that waits to be written (R71, R72; reset empty) -/
  result : List (BitVec 64) := []
  /-- GBB_ACQ_STAT.LAST (R87; reset 0x00) -/
  last : BitVec 8 := 0
  /-- GBB_ACQ_CFG.RQUEUE (R87; reset 0x00) -/
  rqueue : BitVec 5 := 0
  /-- GBB_ACQ_CFG.THRESH, 8.8 (R72, R87; reset 0x0C00) -/
  thresh : BitVec 16 := 0x0C00
  deriving DecidableEq, Repr

/-- One valid record of a latch table (R76). A channel that is not listed has VALID = 0. -/
structure LatchRec where
  /-- channel number; antenna and chain follow from it and from chain (R76; reset not applicable) -/
  chan : Nat
  /-- chain (R76; reset not applicable) -/
  chain : BitVec 2
  /-- LLI (R63, R76; reset not applicable) -/
  lli : Bool
  /-- HALF (R76; reset not applicable) -/
  half : Bool
  /-- LOCK held at the latch, used by R100 (R100; reset not applicable) -/
  lock : Bool
  /-- C/N0, 0.25 dB-Hz, 0 below 15 dB-Hz (R76; reset not applicable) -/
  cn0 : BitVec 8
  /-- SIG (R76; reset not applicable) -/
  sig : BitVec 8
  /-- PRN (R76; reset not applicable) -/
  prn : BitVec 8
  /-- chip index, low 24 bits (R76; reset not applicable) -/
  chip : BitVec 24
  /-- code phase fraction (R76; reset not applicable) -/
  frac : BitVec 32
  /-- accumulated carrier phase (R76; reset not applicable) -/
  accPhase : BitVec 64
  /-- carrier word in force (R76; reset not applicable) -/
  carrFw : BitVec 32
  /-- lock time, ms of TB0 (R76; reset not applicable) -/
  lockt : BitVec 32
  /-- period count (R76; reset not applicable) -/
  period : BitVec 8
  /-- ADJ (R63, R76; reset not applicable) -/
  adj : Bool
  /-- whole cycles that ADJ stands for (R135; reset not applicable) -/
  adjCycles : Int
  deriving DecidableEq, Repr

/-- A latch table frozen at a latch edge (R75, R76). -/
structure Latched where
  /-- which table, false for 0 (R76; reset not applicable) -/
  table : Bool
  /-- TB0 instant at the latch edge, ns (R76; reset not applicable) -/
  tb0 : Nat
  /-- TB4 ms at the latch edge (R76; reset not applicable) -/
  tb4ms : BitVec 32
  /-- TB5 instant of the latch edge, ns, the base of the stage limits (R78, R123; reset not applicable) -/
  tb5 : Nat
  /-- fleet cycle in which the epoch lies (R17, R20; reset not applicable) -/
  cycle : BitVec 32
  /-- epoch sequence number (R76; reset not applicable) -/
  seq : BitVec 32
  /-- STEP flag (R79; reset not applicable) -/
  step : Bool
  /-- CORR flag (R73; reset not applicable) -/
  corr : Bool
  /-- HOLDOVER flag (R76; reset not applicable) -/
  holdover : Bool
  /-- BURST flag (R82; reset not applicable) -/
  burst : Bool
  /-- RATE code in force (R76; reset not applicable) -/
  rate : BitVec 3
  /-- the valid records, in channel order (R76; reset not applicable) -/
  recs : List LatchRec
  deriving DecidableEq, Repr

/-- The GNSS baseband. -/
structure Gbb where
  /-- GBB_CTRL.BURST as written (R87; reset 0) -/
  burst : Bool := false
  /-- burst tracking in force since a TB0 second boundary (R80; reset false) -/
  burstNow : Bool := false
  /-- a burst is running: its 40 ms have begun and not ended (R81; reset false) -/
  inBurst : Bool := false
  /-- GBB_STATUS.CFG_ERR, W1C (R87; reset 0) -/
  cfgErr : Bool := false
  /-- GBB_EPOCH.RATE as written (R73, R87; reset 0b100) -/
  rate : BitVec 3 := 4
  /-- RATE in force since a TB0 second boundary (R73; reset 4) -/
  rateNow : BitVec 3 := 4
  /-- GBB_BURST.OFFSET, ms (R81, R87; reset 0) -/
  offset : BitVec 10 := 0
  /-- GBB_LATCH_BASE (R76, R87; reset 0x0800_0000) -/
  latchBase : BitVec 32 := 0x08000000
  /-- GBB_LATCH_STAT.LAST, table written last (R87; reset 1) -/
  last : Bool := true
  /-- HELD0 (R77, R87; reset 0) -/
  held0 : Bool := false
  /-- HELD1 (R77, R87; reset 0) -/
  held1 : Bool := false
  /-- GBB_LATCH_STAT.SKIP, saturating (R77, R87; reset 0x00) -/
  skip : BitVec 8 := 0
  /-- epochs skipped since start-up, OD 0x3100:0A (R89; reset 0) -/
  skipTotal : BitVec 32 := 0
  /-- GBB_LATCH_SEQ, last epoch sequence number (R77, R87; reset 0) -/
  seq : BitVec 32 := 0
  /-- TB0 was stepped since the last table written: next carries STEP (R79; reset false) -/
  stepFlag : Bool := false
  /-- TB0 instant, ns, of the last epoch instant counted (R73, R79; reset none) -/
  lastEpoch : Option Nat := none
  /-- table being written (R75, R78; reset none) -/
  latched : Option Latched := none
  /-- GBB_DQMAPi, queue of each of 16 groups (R66, R87; reset 0) -/
  dqmap : Vector (BitVec 5) 16 := Vector.replicate 16 0
  /-- GBB_DROP (R67, R87; reset 0) -/
  drop : BitVec 32 := 0
  /-- acquisition engine (R69; reset idle) -/
  acq : Acq := {}
  /-- channels 0 to 671 that differ from their reset record, by number (R64; reset none listed) -/
  chans : List (Nat × Channel) := []
  deriving DecidableEq, Repr

end Sys2Proof.Machine
end

