-- ==== Sys2Proof/Machine/Parts/Corrections.lean ====
section
/-!
DEFINITION. Reference solution, correction output and Teasel (spec/03_corrections.md, spec/04_teasel_integrity.md).
Values of dictionary objects that are plain settings stand in the dictionary store, not here.
-/
namespace Sys2Proof.Machine

/-- State of a survey (OD 0x3010:03, 0x3830:03). -/
inductive SurveyState where
  | idle | running | complete | aborted
  deriving DecidableEq, Repr

/-- A self-survey or a baseline survey: the running sums of accepted solutions (R93, R130). -/
structure Survey where
  /-- state code (R126, R151; reset idle) -/
  st : SurveyState := .idle
  /-- accepted solutions so far (R93, R130; reset 0) -/
  count : Nat := 0
  /-- sums of the three components, 0.1 mm (R93, R130; reset 0) -/
  sx : Int := 0
  /-- sum of the second component (R93, R130; reset 0) -/
  sy : Int := 0
  /-- sum of the third component (R93, R130; reset 0) -/
  sz : Int := 0
  /-- sum of squares over the three components, for the standard deviation (R94, R151; reset 0) -/
  sq : Nat := 0
  /-- result, first component, 0.1 mm (R94, R130; reset 0, LOG) -/
  rx : Int := 0
  /-- result, second component (R94, R130; reset 0, LOG) -/
  ry : Int := 0
  /-- result, third component (R94, R130; reset 0, LOG) -/
  rz : Int := 0
  /-- standard deviation of the mean, 3D, in the object's unit (R94, R151; reset 0, LOG) -/
  sd : Nat := 0
  deriving DecidableEq, Repr

/-- NTRIP session (R115; OD 0x3030:08). -/
inductive NtripState where
  | off | connecting | streaming | backoff | refused
  deriving DecidableEq, Repr

/-- One raw TCP client (R116). -/
structure TcpClient where
  /-- the connection's identity (R116; reset not applicable) -/
  id : Nat
  /-- bytes waiting in its 32 KiB send buffer (R116; reset not applicable) -/
  queued : Nat
  deriving DecidableEq, Repr

/-- An ambiguity of one cell (R134, R135). -/
structure Ambiguity where
  /-- satellite (R134; reset not applicable) -/
  sat : SatId
  /-- signal code (R134; reset not applicable) -/
  sig : BitVec 8
  /-- the integer (R134; reset not applicable) -/
  value : Int
  /-- consecutive epochs with a fractional part of at most 0.15 cycle (R134; reset not applicable) -/
  good : Nat
  /-- held (R134; reset not applicable) -/
  held : Bool
  /-- TB0 ns at which the cell was last present (R135; reset not applicable) -/
  seenNs : Nat
  deriving DecidableEq, Repr

/-- Verdict codes (R141). -/
inductive Verdict where
  | pass | passExcl | withheldTeasel | withheldOther | stale | unverified
  deriving DecidableEq, Repr

/-- Cause for which an epoch is WITHHELD (R122). -/
inductive WithholdCause where
  | noPos | pos | late | teasel
  deriving DecidableEq, Repr

/-- Teasel's own state. -/
structure Teasel where
  /-- ambiguities seeded or held (R134; reset none) -/
  amb : List Ambiguity := []
  /-- the initial fix is complete (R134; reset false) -/
  fixDone : Bool := false
  /-- quarantined satellites, with the TB0 ns at which quarantine ends (R139; reset none) -/
  quarantine : List (SatId × Nat) := []
  /-- integrity-lost condition (R142; reset true: Teasel starts at start-up, R134) -/
  lost : Bool := true
  /-- passed epochs of the run since the last break (R143; reset 0) -/
  run : Nat := 0
  /-- last verdict (R141; reset none, read as LOG) -/
  verdict : Option Verdict := none
  /-- epoch sequence number of the last verdict on an epoch (R292; reset 0) -/
  verdictSeq : BitVec 32 := 0
  /-- TB0 ns from which the STALE interval runs (R142; reset none) -/
  staleFrom : Option Nat := none
  /-- Teasel is running, that is it verifies epochs (R133; reset false) -/
  running : Bool := false
  /-- satellites excluded or quarantined in the last epoch (R151; reset 0) -/
  exclLast : Nat := 0
  /-- horizontal difference of the last tested epoch, 0.1 mm (R151; reset 0, LOG) -/
  hDiff : Nat := 0
  /-- up difference of the last tested epoch, 0.1 mm (R151; reset 0, LOG) -/
  uDiff : Int := 0
  /-- satellites with held ambiguities in the last epoch (R151; reset 0) -/
  heldLast : Nat := 0
  /-- latch edge to verdict of the last epoch, us (R151; reset 0) -/
  timeUs : BitVec 16 := 0
  /-- entries into the condition since start-up (R151, R152; reset 0) -/
  entries : BitVec 32 := 0
  /-- epochs released with exclusions since start-up (R151, R152; reset 0) -/
  relExcl : BitVec 32 := 0
  /-- STALE verdicts since start-up (R151, R152; reset 0) -/
  stales : BitVec 32 := 0
  /-- the surveyed baseline has been written or adopted (R129; reset false) -/
  baseSet : Bool := false
  /-- baseline survey (R130; reset idle) -/
  survey : Survey := {}
  deriving DecidableEq, Repr

/-- One correction fragment queued for FRB (R118, R119): its header, and the piece of the epoch's RTCM byte stream that
follows it. The octets of the stream itself are those of RTCM 10403.3, which the model leaves to that standard. -/
structure CorrFrag where
  /-- the 16 header octets (R119; reset not applicable) -/
  header : List Byte
  /-- offset of the piece within the stream (R118; reset not applicable) -/
  off : Nat
  /-- RTCM octets carried (R119; reset not applicable) -/
  n : Nat
  deriving DecidableEq, Repr

/-- Reference solution and correction output. -/
structure Corrections where
  /-- station position source, 0 none, 1 calibrated, 2 surveyed, as last set (R91; reset 0) -/
  source : BitVec 8 := 0
  /-- position mismatch latched (R97; reset true: each start-up sets the latch) -/
  mismatch : Bool := true
  /-- a check of this start-up has passed already (R97; reset false) -/
  firstPassed : Bool := false
  /-- last 30 standalone solutions, newest first, 0.1 mm (R97; reset none) -/
  solutions : List (Int × Int × Int) := []
  /-- self-survey (R93; reset idle) -/
  survey : Survey := {}
  /-- TB5 ms at which GBB last became ON (R88; reset none) -/
  gbbOnMs : Option Nat := none
  /-- last time to first fix, ms of TB5 (R88, R89; reset 0, LOG) -/
  ttff : BitVec 32 := 0
  /-- epoch complete in the scratchpad and under verification (R78, R133; reset none) -/
  epoch : Option Latched := none
  /-- path configuration in force since a TB0 second: OD 0x3020:01-0C as numbers (R111; reset the defaults) -/
  ethCfg : List Nat := [1, 7, 7, 7, 7, 7, 6, 10, 30, 10, 1, 60]
  /-- path configuration in force, OD 0x3021:01-0C (R111; reset the defaults) -/
  radCfg : List Nat := [3, 4, 4, 4, 4, 4, 5, 10, 30, 10, 0, 60]
  /-- TB0 second at which each Ethernet station message was last due and sent: 1005/6, 1033, 1230 (R108; reset 0) -/
  ethSent : List Nat := [0, 0, 0]
  /-- the same for the radio path (R108; reset 0) -/
  radSent : List Nat := [0, 0, 0]
  /-- ephemerides sent on Ethernet: satellite, issue of data, TB0 s (R107; reset none) -/
  ethEph : List (SatId × Nat × Nat) := []
  /-- ephemerides sent on the radio path (R107; reset none) -/
  radEph : List (SatId × Nat × Nat) := []
  /-- station message deferred from the previous correction cycle: type numbers (R120; reset none) -/
  deferred : List Nat := []
  /-- fragments waiting for the correction slot (R118; reset none) -/
  frags : List CorrFrag := []
  /-- cycle whose correction slot the fragments belong to (R110; reset none) -/
  fragCycle : Option (BitVec 32) := none
  /-- NTRIP session (R115; reset off) -/
  ntrip : NtripState := .off
  /-- NTRIP back-off wait, s (R115; reset 1) -/
  ntripWait : Nat := 1
  /-- TB5 ms at which the back-off wait expires (R115; reset 0) -/
  ntripAt : Nat := 0
  /-- RTCM messages of the radio epoch whose fragments wait: number and octets (R118; reset none) -/
  stream : List (Nat × Nat) := []
  /-- raw TCP clients connected (R116; reset none) -/
  tcp : List TcpClient := []
  /-- released epochs (R126, R127; reset 0) -/
  released : BitVec 32 := 0
  /-- withheld, all causes (R126, R127; reset 0) -/
  withheld : BitVec 32 := 0
  /-- withheld, LATE (R126; reset 0) -/
  nLate : BitVec 32 := 0
  /-- withheld, NOPOS (R126; reset 0) -/
  nNoPos : BitVec 32 := 0
  /-- withheld, POS (R126; reset 0) -/
  nPos : BitVec 32 := 0
  /-- withheld, TEASEL (R126; reset 0) -/
  nTeasel : BitVec 32 := 0
  /-- latency of the last released epoch, us, saturating (R125, R127; reset 0) -/
  latency : BitVec 16 := 0
  /-- largest latency since start-up (R125, R127; reset 0) -/
  latencyMax : BitVec 16 := 0
  /-- radio messages omitted or deferred (R120, R126; reset 0) -/
  omitted : BitVec 32 := 0
  /-- raw TCP clients disconnected for slow reading (R116, R126; reset 0) -/
  tcpSlow : BitVec 32 := 0
  /-- TB0 ns until which the fragments carry LRST, after a takeover from Warm standby (R119, R380; reset none) -/
  lrst : Option Nat := none
  deriving DecidableEq, Repr

end Sys2Proof.Machine
end

