-- ==== Sys2Proof/Machine/Parts/Debug.lean ====
section
/-!
DEFINITION. The test access port, debug unlock and the debug module (spec/23_debug.md).
-/
namespace Sys2Proof.Machine

/-- TAP instructions (R653). -/
inductive TapIr where
  | extest | idcode | samplePreload | clamp | highz | dtmcs | dmi | dbgChal | dbgToken | bypass
  deriving DecidableEq, Repr

/-- One trigger: tdata1 and tdata2 of the RISC-V trigger module (R659). -/
structure Trigger where
  /-- tdata1 (R659; reset 0) -/
  cfg : BitVec 64 := 0
  /-- tdata2, the address matched (R659; reset 0) -/
  addr : BitVec 64 := 0
  deriving DecidableEq, Repr

/-- One hart as the debug module sees it (R658, R659). -/
structure Hart where
  /-- halted by the debug module; DBG_STAT.HALTED for harts 0 to 15 (R659, R662; reset false) -/
  halted : Bool := false
  /-- TB5 in 10 us at which it halted, while it is halted (R660; reset 0) -/
  since : Nat := 0
  /-- registers that abstract commands have read or written since the hart halted, by number (R659; reset none listed) -/
  regs : List (Nat × BitVec 64) := []
  /-- tselect (R659; reset 0) -/
  tselect : Nat := 0
  /-- the 12 triggers (R659; reset not armed) -/
  trig : Vector Trigger 12 := Vector.replicate 12 {}
  deriving DecidableEq, Repr

/-- Debug port and debug module. -/
structure Dbg where
  /-- instruction register (R653; reset IDCODE) -/
  ir : TapIr := .idcode
  /-- data register as last captured or shifted (R653; reset IDCODE value) -/
  dr : Nat := 0x2716A3CB
  /-- boundary-scan cells that hold 1, by cell number (R653, R661; reset none) -/
  cells : List Nat := []
  /-- DBG_STAT.DBGEN (R657, R662; reset 0) -/
  enabled : Bool := false
  /-- DBG_STAT.EVER (R657, R662; reset 0) -/
  ever : Bool := false
  /-- TB5 ms at which the arming ends, while armed; DBG_STAT.ARMED and DBG_ARMT read from it (R656, R662; reset none) -/
  armedTo : Option Nat := none
  /-- DBG_STAT.TRIES (R656, R662; reset 0b00) -/
  tries : Nat := 0
  /-- DBG_STAT.LOCKED (R656, R662; reset 0) -/
  locked : Bool := false
  /-- DBG_CHAL0-7, the current challenge, 32 octets; none reads 0 (R655, R662; reset none) -/
  chal : Option (List Byte) := none
  /-- DTMCS.dmistat, status of the last DMI access (R653, R654; reset 0) -/
  dmiStat : Nat := 0
  /-- the hart selected (R658; reset 0) -/
  hartSel : Nat := 0
  /-- harts 0 to 16 (R658; reset not halted) -/
  hart : Vector Hart 17 := Vector.replicate 17 {}
  /-- program buffer, 2 words (R659; reset 0) -/
  progbuf : Vector (BitVec 32) 2 := Vector.replicate 2 0
  /-- debug module registers written by DMI, by address (R654, R659; reset none listed) -/
  dm : List (Nat × BitVec 32) := []
  /-- cmderr of the last abstract command that failed (R659; reset 0) -/
  cmdErr : Nat := 0
  /-- data of the last abstract command, data0 and data1 (R659; reset 0) -/
  data : BitVec 64 := 0
  /-- sberror (R659; reset 0) -/
  sberror : Nat := 0
  /-- system bus data register (R659; reset 0) -/
  sbdata : BitVec 32 := 0
  deriving DecidableEq, Repr

end Sys2Proof.Machine
end

