-- ==== Sys2Proof/Machine/Parts/Dictionary.lean ====
section
/-!
DEFINITION. Object dictionary, sessions, CAN FD and NZ-OD, settings storage (spec/16_object_dictionary.md).
-/
namespace Sys2Proof.Machine

/-- A request as R521 keeps it: the reply to be repeated. -/
structure Reply where
  /-- status of R14 in octet 15 (R518; reset not applicable) -/
  status : BitVec 8
  /-- detail code, octets 16-19 (R518; reset not applicable) -/
  detail : BitVec 32
  /-- reply data, from octet 24 on (R518; reset not applicable) -/
  data : List Byte
  deriving DecidableEq, Repr

/-- One session of R505. -/
structure Session where
  /-- the session exists at present (R505; reset false) -/
  opened : Bool := false
  /-- role (R505, R506; reset Observer) -/
  role : Role := .observer
  /-- challenge issued and not yet used: its octets and the TB5 ms at which it expires (R506, R507; reset none) -/
  challenge : Option (List Byte × Nat) := none
  /-- failed logins in a row (R507; reset 0) -/
  failures : Nat := 0
  /-- TB5 ms at which the lock-out of 60 s ends; it lasts until the next challenge after it (R507; reset none) -/
  lockout : Option Nat := none
  /-- status of the last request, OD 0x2020:02 (R502; reset 0x00) -/
  status : BitVec 8 := 0
  /-- detail code of the last request, OD 0x2020:03 (R502; reset 0) -/
  detail : BitVec 32 := 0
  /-- SEQ of the last request and its reply (R521; reset none) -/
  last : Option (BitVec 32 × Reply) := none
  /-- TB5 ms of the last request (R505; reset 0) -/
  lastMs : Nat := 0
  /-- NZ-OD session key, while the role is above Observer (R520; reset none) -/
  key : Option (List Byte) := none
  /-- communication copy selected, OD 0x1FF0:01 (R509, R525; reset 0) -/
  copy : BitVec 8 := 0
  /-- log read cursor, OD 0x2050:03; none stands for the oldest record (R576; reset none) -/
  cursor : Option (BitVec 32) := none
  deriving DecidableEq, Repr

/-- A segmented SDO transfer (R512). -/
structure SdoTransfer where
  /-- download to the device, else upload from it (R512; reset not applicable) -/
  download : Bool
  /-- index (R512; reset not applicable) -/
  index : BitVec 16
  /-- sub-index (R512; reset not applicable) -/
  sub : BitVec 8
  /-- octets received so far, or octets still to be sent (R512; reset not applicable) -/
  data : List Byte
  /-- total size announced at a download's initiate (R512; reset not applicable) -/
  size : Nat
  /-- toggle bit the next segment must carry (R512; reset not applicable) -/
  toggle : Bool
  /-- TB5 ms of the last segment (R512; reset not applicable) -/
  lastMs : Nat
  deriving DecidableEq, Repr

/-- A DOMAIN download in progress (R522). -/
structure Transfer where
  /-- session slot of the transfer: 0, 1 CAN, 2 service port, 3 to 10 NZ-OD (R522; reset not applicable) -/
  slot : Nat
  /-- index (R522; reset not applicable) -/
  index : BitVec 16
  /-- sub-index (R522; reset not applicable) -/
  sub : BitVec 8
  /-- total size (R522; reset not applicable) -/
  total : Nat
  /-- octets received so far (R522; reset not applicable) -/
  data : List Byte
  /-- TB5 ms of the last message of the transfer (R522; reset not applicable) -/
  lastMs : Nat
  deriving DecidableEq, Repr

/-- NMT states (R510). -/
inductive Nmt where
  | initialisation | preOperational | operational | stopped
  deriving DecidableEq, Repr

/-- A consumed heartbeat (R511). -/
structure HbWatch where
  /-- TB5 ms at which the node was last heard, none before the first (R511; reset none) -/
  heard : Option Nat := none
  /-- the present loss has been reported (R511; reset false) -/
  lost : Bool := false
  deriving DecidableEq, Repr

/-- Run state of a TPDO (R514). -/
structure Tpdo where
  /-- mapped octets last sent (R514; reset none) -/
  lastData : Option (List Byte) := none
  /-- TB5 in 100 us of the last transmission (R514; reset 0) -/
  last100us : Nat := 0
  deriving DecidableEq, Repr

/-- Conditions of R513 that have a register bit and an end. -/
inductive EmcyCond where
  | selfTest | fleetStopped | errPassive | hbLost | sf1Active | voterSafe | integrityLost
  deriving DecidableEq, Repr

/-- One CAN channel (R509 to R516). -/
structure Can where
  /-- CANn_CTRL.FDEN (R516; reset 0) -/
  fden : Bool := false
  /-- CANn_CTRL.BRSEN (R516; reset 0) -/
  brsen : Bool := false
  /-- CANn_STATUS.BUSOFF (R516; reset 0) -/
  busOff : Bool := false
  /-- CANn_STATUS.ERRPASS (R516; reset 0) -/
  errPass : Bool := false
  /-- CANn_STATUS.ERRWARN (R516; reset 0) -/
  errWarn : Bool := false
  /-- CANn_NBT, its bits 30..0 (R516; reset 0) -/
  nbt : BitVec 31 := 0
  /-- CANn_DBT, with its reserved bits 0 (R516; reset 0) -/
  dbt : BitVec 32 := 0
  /-- CANn_ERR.TEC (R516; reset 0) -/
  tec : BitVec 8 := 0
  /-- CANn_ERR.REC (R516; reset 0) -/
  rec' : BitVec 8 := 0
  /-- CANn_ERR.BOFFCNT, wrapping (R516; reset 0) -/
  boffCnt : BitVec 16 := 0
  /-- CANn_QCFG.TXQ (R516; reset 0) -/
  txq : BitVec 5 := 0
  /-- CANn_QCFG.RXQ (R516; reset 0) -/
  rxq : BitVec 5 := 0
  /-- CANn_LOST.COUNT, wrapping (R516; reset 0) -/
  lost : BitVec 32 := 0
  /-- NMT state (R510; reset Initialisation) -/
  nmt : Nmt := .initialisation
  /-- node ID in force, taken when the channel passes through OFF (R509; reset 32) -/
  nodeId : BitVec 8 := 32
  /-- segmented SDO transfer in progress (R512; reset none) -/
  sdo : Option SdoTransfer := none
  /-- the four consumed heartbeats (R511; reset not heard) -/
  hb : Vector HbWatch 4 := Vector.replicate 4 {}
  /-- TB5 ms at which the channel's heartbeat was last produced (R511; reset 0) -/
  hbSentMs : Nat := 0
  /-- TPDO run state (R514; reset none) -/
  tpdo : Vector Tpdo 4 := Vector.replicate 4 {}
  /-- RPDOs discarded since start-up, OD 0x1FFn:08 (R514; reset 0) -/
  discarded : BitVec 32 := 0
  /-- conditions of R513 present on this channel (R513; reset none) -/
  conds : List EmcyCond := []
  /-- TB5 in 100 us of the last EMCY frame (R513; reset none) -/
  emcyAt : Option Nat := none
  /-- EMCY frames that wait for the inhibit time, oldest first (R513; reset none) -/
  emcyWait : List (List Byte) := []
  deriving DecidableEq, Repr

/-- One record of a settings bank (R526). -/
structure SetRec where
  /-- copy, index and sub-index as one key (R526; reset not applicable) -/
  key : Nat
  /-- value octets (R526; reset not applicable) -/
  value : List Byte
  deriving DecidableEq, Repr

/-- One settings bank (R526). -/
structure SetBank where
  /-- the header is valid (R526; reset false) -/
  valid : Bool := false
  /-- bank sequence number (R526; reset 0) -/
  seq : BitVec 32 := 0
  /-- records, oldest first (R526; reset none) -/
  recs : List SetRec := []
  deriving DecidableEq, Repr

/-- One half of the settings region (R526). -/
structure SetHalf where
  /-- format version, 0 when empty (R526; reset 0, LOG) -/
  fmt : BitVec 32 := 0
  /-- the two banks of 512 KiB (R526; reset empty) -/
  bank : Vector SetBank 2 := Vector.replicate 2 {}
  /-- the active bank (R527; reset bank 0, LOG) -/
  active : Fin 2 := 0
  deriving DecidableEq, Repr

/-- What a write still waits for before it is answered (R244, R403, R446). -/
inductive WaitFor where
  | saf (seq : BitVec 16)
  | axis (n : Fin 8)
  deriving DecidableEq, Repr

/-- A write that has been taken and whose answer follows (R244, R427). -/
structure Waiting where
  /-- what it waits for (R244; reset not applicable) -/
  what : WaitFor
  /-- session slot: 0, 1 CAN, 2 service port, 3 to 10 NZ-OD; 11, 12 an RPDO of CAN0, CAN1 (R505; reset not applicable) -/
  slot : Nat
  /-- SEQ of the request; on CAN the command octet of the response (R512, R518; reset not applicable) -/
  seq : BitVec 32
  /-- index (R512; reset not applicable) -/
  index : Nat
  /-- sub-index (R512; reset not applicable) -/
  sub : Nat
  /-- the reply carries a tag (R520; reset not applicable) -/
  tagged : Bool
  deriving DecidableEq, Repr

/-- The dictionary as a whole. -/
structure Dict where
  /-- values in force of the stored objects that differ from their default, by key (R504, R525; reset none listed) -/
  od : List (Nat × List Byte) := []
  /-- values whose taking effect waits for the next start-up, by key (R504, R529; reset none listed) -/
  later : List (Nat × List Byte) := []
  /-- sessions: 0, 1 CAN0, CAN1; 2 service port; 3 to 10 NZ-OD 1 to 8 (R505; reset not open) -/
  sess : Vector Session 11 := Vector.replicate 11 {}
  /-- DOMAIN downloads in progress (R522; reset none) -/
  transfers : List Transfer := []
  /-- the two CAN channels (R509; reset Initialisation) -/
  can : Vector Can 2 := Vector.replicate 2 {}
  /-- settings halves H0 and H1 (R526; reset empty, LOG) -/
  half : Vector SetHalf 2 := Vector.replicate 2 {}
  /-- half in use, OD 0x2070:02 (R528; reset 0, LOG) -/
  halfUsed : Fin 2 := 0
  /-- compactions since start-up, OD 0x2070:05 (R528; reset 0) -/
  compactions : BitVec 32 := 0
  /-- failed logins since start-up, OD 0x2020:06 (R507; reset 0) -/
  failedLogins : BitVec 32 := 0
  /-- NZ-OD datagrams discarded since start-up, OD 0x2020:07 (R520, R523; reset 0) -/
  discarded : BitVec 32 := 0
  /-- TB5 second of the NZ-OD requests counted, and their number (R517, R523; reset 0) -/
  second : Nat := 0
  /-- NZ-OD requests served in that second (R523; reset 0) -/
  served : Nat := 0
  /-- ETH0 and ETH1 addresses in force, since the MAC last passed through OFF: OD 0x2020:08-0F (R525; reset defaults) -/
  ethAddr : List (Nat × List Byte) := []
  /-- writes whose answer follows (R244, R403, R446; reset none) -/
  waiting : List Waiting := []
  deriving DecidableEq, Repr

end Sys2Proof.Machine
end

