-- ==== Sys2Proof/Machine/Parts/Members.lean ====
section
/-!
DEFINITION. Members, tasks, allotment and timed field-node commands (spec/06_robots_tasks.md).
-/
namespace Sys2Proof.Machine

/-- Members, tasks and TFCs. -/
structure Fleet where
  /-- members 1 to 256 that differ from the unenrolled record (R196; reset none) -/
  members : List (Nat × Member) := []
  /-- role epoch in force (R206, R667; reset 0, LOG) -/
  roleEpoch : BitVec 32 := 0
  /-- role epoch committed in MRAM (R667; reset 0, LOG) -/
  epochStored : BitVec 32 := 0
  /-- JOIN frames not answered since start-up (R197, R216; reset 0) -/
  joinIgnored : BitVec 32 := 0
  /-- report corridor items ignored (R205, R216; reset 0) -/
  itemsIgnored : BitVec 32 := 0
  /-- tasks 0 to 65,535 that are not Free (R208; reset none) -/
  tasks : List (Nat × Task) := []
  /-- TFC records 0 to 4,095 that are not Free (R213; reset none) -/
  tfcs : List (Nat × Tfc) := []
  /-- STALE_EPOCH answers (R211, R216; reset 0) -/
  staleAnswers : BitVec 32 := 0
  /-- TFCs Failed since start-up (R216; reset 0) -/
  tfcFailed : BitVec 32 := 0
  /-- result word 1 of the last call, OD 0x6400:04 (R216; reset 0) -/
  callResult : BitVec 32 := 0
  /-- the event queue overflowed: records are dropped until room returns (R212; reset false) -/
  evOverflow : Bool := false
  /-- cycles since the last TICK (R212; reset 0) -/
  tickCount : Nat := 0
  deriving DecidableEq, Repr

end Sys2Proof.Machine
end

