-- ==== Sys2Proof/Machine/Parts/Memory.lean ====
section
/-!
DEFINITION. Scratchpads, hardware queues and CRC channels: blocks MEM, QUE and CRC
(spec/15_memory_queues_crc.md), and the byte memory of the address map (R451).
-/
namespace Sys2Proof.Machine

/-- Power state of a scratchpad bank (R476). -/
inductive BankPower where
  | off | retention | on | filling
  deriving DecidableEq, Repr

/-- One scratchpad bank (R472 to R477, R498). -/
structure Bank where
  /-- CTRL.PWR as written (R498; reset 0b10) -/
  pwr : BitVec 2 := 2
  /-- PSTATE, the state in force (R498; reset 0b10, ON) -/
  st : BankPower := .on
  /-- STAT.CORR (R498; reset 0) -/
  corr : BitVec 16 := 0
  /-- STAT.REPCOL (R498; reset cal, LOG) -/
  repCol : BitVec 5 := 0
  /-- COLL.RETRY (R498; reset 0) -/
  retry : BitVec 24 := 0
  /-- COLL.STARVE, saturating (R498; reset 0) -/
  starve : BitVec 8 := 0
  /-- a port-B write that met COLLIDE and is to be repeated: address, word, edges met (R474, R475; reset none) -/
  portB : Option (Nat × BitVec 64 × Nat) := none
  deriving DecidableEq, Repr

/-- The MEM block. -/
structure Mem where
  /-- bytes of the address space that do not read as 0, by address (R451; reset none listed) -/
  bytes : List Host.Cell := []
  /-- banks 0 to 15 (R472; reset ON) -/
  bank : Vector Bank 16 := Vector.replicate 16 {}
  /-- MEM_ERRADDR (R498; reset 0) -/
  errAddr : BitVec 32 := 0
  /-- MEM_ERRINFO.VALID, W1C (R498; reset 0) -/
  errValid : Bool := false
  /-- MEM_ERRINFO.PORT (R498; reset 0) -/
  errPort : Bool := false
  /-- MEM_ERRINFO.COUNT, saturating (R498; reset 0) -/
  errCount : BitVec 8 := 0
  /-- MEM_SSTAT.WIPING (R478, R498; reset 0) -/
  wiping : Bool := false
  /-- MEM_SSTAT.WIPED, W1C (R498; reset 0) -/
  wiped : Bool := false
  /-- MEM_SSTAT.WIPES (R498; reset 0) -/
  wipes : BitVec 8 := 0
  /-- MEM_STAT.CFG_ERR, W1C (R498; reset 0) -/
  cfgErr : Bool := false
  /-- TB5 ms at which the scrub last began (R473; reset 0) -/
  scrubAt : Nat := 0
  /-- MEM_SCRUB.INTERVAL, ms (R498; reset 0x03E8) -/
  scrub : BitVec 16 := 1000
  /-- errors corrected since start-up, OD 0x2040:01 (R499; reset 0) -/
  nCorr : BitVec 32 := 0
  /-- errors not correctable, OD 0x2040:02 (R499; reset 0) -/
  nUncorr : BitVec 32 := 0
  /-- port-B collision retries, OD 0x2040:03 (R499; reset 0) -/
  nRetry : BitVec 32 := 0
  deriving DecidableEq, Repr

/-- An access to a queue that does not complete yet (R483). -/
structure StalledAccess where
  /-- master number (R486; reset not applicable) -/
  master : Nat
  /-- the word of a write, none for a read (R483; reset not applicable) -/
  word : Option (BitVec 64)
  deriving DecidableEq, Repr

/-- One master's view of a data port (R482, R484). -/
structure PortCopy where
  /-- master number (R482; reset not applicable) -/
  master : Nat
  /-- WLO staged (R482; reset 0) -/
  wlo : BitVec 32 := 0
  /-- RHI latched (R482; reset 0) -/
  rhi : BitVec 32 := 0
  /-- TRYST.EMPTY (R482; reset 0) -/
  empty : Bool := false
  /-- TRYST.FULL (R482; reset 0) -/
  full : Bool := false
  deriving DecidableEq, Repr

/-- One hardware queue (R479 to R491). -/
structure Queue where
  /-- enable record of R38 (R491; reset OFF) -/
  ctl : BlockCtl := {}
  /-- CFG.SIZE (R491; reset 0x0) -/
  size : BitVec 4 := 0
  /-- CFG.WORLD (R489, R491; reset 0b00) -/
  world : BitVec 2 := 0
  /-- BASE (R491; reset 0) -/
  base : BitVec 18 := 0
  /-- FLUSH, 10 ns (R491; reset 0x0064) -/
  flush : BitVec 16 := 0x64
  /-- THR (R491; reset 0) -/
  thr : BitVec 17 := 0
  /-- words available to readers, oldest first (R480, R481; reset none) -/
  avail : List (BitVec 64) := []
  /-- words in the filling bank of a ping-pong queue, oldest first (R480; reset none) -/
  filling : List (BitVec 64) := []
  /-- TB5 in 10 ns at which the first word entered the filling bank (R480; reset none) -/
  fillFrom : Option Nat := none
  /-- STATUS.BANK, ping-pong bank now draining (R491; reset 0) -/
  bank : Bool := false
  /-- WPTR (R481, R491; reset 0) -/
  wptr : BitVec 17 := 0
  /-- RPTR (R481, R491; reset 0) -/
  rptr : BitVec 17 := 0
  /-- CNT.TWDROP (R491; reset 0) -/
  twDrop : BitVec 16 := 0
  /-- CNT.BPRESS (R491; reset 0) -/
  bPress : BitVec 16 := 0
  /-- stalled accesses, oldest first (R483; reset none) -/
  stalled : List StalledAccess := []
  /-- masters' copies of the data port (R482; reset none) -/
  ports : List PortCopy := []
  deriving DecidableEq, Repr

/-- One CRC channel (R492 to R497). -/
structure CrcChan where
  /-- enable record of R38 (R497; reset OFF) -/
  ctl : BlockCtl := {}
  /-- BUSY (R497; reset 0) -/
  busy : Bool := false
  /-- DONE, W1C (R497; reset 0) -/
  done : Bool := false
  /-- BERR, W1C (R497; reset 0) -/
  berr : Bool := false
  /-- ABORTED, W1C (R497; reset 0) -/
  aborted : Bool := false
  /-- CFG.POLY (R497; reset 0b010) -/
  poly : BitVec 3 := 2
  /-- CFG.WORLD (R497; reset 0b00) -/
  world : BitVec 2 := 0
  /-- INIT (R497; reset 0xFFFF_FFFF) -/
  init : BitVec 32 := 0xFFFFFFFF
  /-- VALUE (R497; reset 0xFFFF_FFFF) -/
  value : BitVec 32 := 0xFFFFFFFF
  /-- SADDR (R497; reset 0) -/
  saddr : BitVec 32 := 0
  /-- SLEN (R497; reset 0) -/
  slen : BitVec 25 := 0
  /-- SPOS (R497; reset 0) -/
  spos : BitVec 25 := 0
  deriving DecidableEq, Repr

/-- QUE and CRC blocks. -/
structure Ques where
  /-- queues 0 to 31 (R479; reset OFF) -/
  q : Vector Queue 32 := Vector.replicate 32 {}
  /-- QUE_STAT.CFG_ERR, W1C (R491; reset 0) -/
  cfgErr : Bool := false
  /-- queue SRAM words written through the window or by circular queues, 262,144 words, those not 0 (R479, R490; reset none) -/
  sram : List (Nat × BitVec 64) := []
  /-- queue writes that met a full queue, OD 0x2040:06 (R499; reset 0) -/
  nFull : BitVec 32 := 0
  /-- CRC channels 0 to 3 (R492; reset OFF) -/
  crc : Vector CrcChan 4 := Vector.replicate 4 {}
  /-- CRC_STAT.CFG_ERR, W1C (R497; reset 0) -/
  crcErr : Bool := false
  deriving DecidableEq, Repr

end Sys2Proof.Machine
end

