-- ==== Sys2Proof/Machine/Parts/Vetch.lean ====
section
/-!
DEFINITION. Track map and corridor reservation, the CRE block (spec/05_vetch_corridors.md).
-/
namespace Sys2Proof.Machine

/-- One cell record of the map in force (R154). -/
structure MapCell where
  /-- ZONE (R154; reset not applicable) -/
  zone : BitVec 4
  /-- GATED (R154; reset not applicable) -/
  gated : Bool
  /-- neighbours 0 to 3: a cell ID where the presence bit is 1 (R154; reset not applicable) -/
  slots : List (Option Nat)
  /-- conflicting cells' IDs, from the conflict section (R154, R155; reset not applicable) -/
  confl : List Nat
  /-- LEN, mm (R154; reset not applicable) -/
  len : Nat
  /-- VMAX, mm/s (R154; reset not applicable) -/
  vmax : Nat
  /-- CMASK (R154; reset not applicable) -/
  cmask : BitVec 16
  /-- GIDX (R154; reset not applicable) -/
  gidx : Nat
  deriving DecidableEq, Repr

/-- Present neighbours of a cell (R154). -/
def MapCell.nbs (m : MapCell) : List Nat := m.slots.filterMap id

/-- One gate entry (R156). -/
structure Gate where
  /-- axis MOT0 to MOT7 (R156; reset not applicable) -/
  axis : Fin 8
  /-- low end of the window, counts (R156; reset not applicable) -/
  low : Int
  /-- high end of the window, counts (R156; reset not applicable) -/
  high : Int
  deriving DecidableEq, Repr

/-- A map in force (R157, R160). -/
structure TrackMap where
  /-- map ID (R157; reset not applicable) -/
  id : BitVec 32
  /-- cells, by ID (R154; reset not applicable) -/
  cells : List MapCell
  /-- gates, by index (R156; reset not applicable) -/
  gates : List Gate
  deriving DecidableEq, Repr

/-- One class: guard, enable and stop-envelope table (R162, R192). -/
structure RobotClass where
  /-- CRE_GUARDc.GUARD, ms (R192; reset 0x0000) -/
  guardMs : BitVec 14 := 0
  /-- CRE_GUARDc.CLASS_EN (R192; reset 0) -/
  en : Bool := false
  /-- SPEED_k of CRE_ENVc_k, mm/s (R192; reset 0x0000) -/
  speed : Vector (BitVec 16) 16 := Vector.replicate 16 0
  /-- DIST_k of CRE_ENVc_k, mm (R192; reset 0x0000) -/
  dist : Vector (BitVec 16) 16 := Vector.replicate 16 0
  deriving DecidableEq, Repr

/-- CRE_MEMBERm as written; NCORR and VALID are computed (R192). -/
structure CreMember where
  /-- CLASS (R192; reset 0x0) -/
  cls : BitVec 4 := 0
  /-- ACTIVE (R192; reset 0) -/
  active : Bool := false
  /-- FROZEN (R192; reset 0) -/
  frozen : Bool := false
  deriving DecidableEq, Repr

/-- A result that waits for room in its result queue (R169, R173). -/
structure CreResult where
  /-- request queue the operation came from (R168; reset not applicable) -/
  vendor : Bool
  /-- word 0 (R173; reset not applicable) -/
  w0 : BitVec 64
  /-- word 1 (R173; reset not applicable) -/
  w1 : BitVec 64
  deriving DecidableEq, Repr

/-- Map transfer and validation (R158 to R161). -/
structure MapStore where
  /-- image being validated (R159; reset none) -/
  validating : Option (List Byte) := none
  /-- code of the last failed check, 0 when passed or none run (R158; reset 0) -/
  result : BitVec 8 := 0
  /-- the image in the non-volatile map store (R160, R161; reset none) -/
  stored : Option (List Byte) := none
  /-- image in force that is being copied into the store (R160; reset none) -/
  copying : Option (List Byte) := none
  /-- the map in force is in the store too (R160, R194; reset false) -/
  inStore : Bool := false
  deriving DecidableEq, Repr

/-- Counters of OD 0x6020 (R194, R195). -/
structure CreCounts where
  /-- REQUESTs committed (R194; reset 0) -/
  committed : BitVec 32 := 0
  /-- answered CONFLICT (R194; reset 0) -/
  conflict : BitVec 32 := 0
  /-- answered ENVELOPE_SHORT (R194; reset 0) -/
  envelope : BitVec 32 := 0
  /-- answered GATE_NOT_READY (R194; reset 0) -/
  gate : BitVec 32 := 0
  /-- answered FULL (R194; reset 0) -/
  full : BitVec 32 := 0
  /-- answered DENIED (R194; reset 0) -/
  denied : BitVec 32 := 0
  /-- answered BUSY (R194; reset 0) -/
  busy : BitVec 32 := 0
  /-- largest number in flight (R194; reset 0) -/
  maxInflight : BitVec 16 := 0
  /-- corridor invalidations (R194; reset 0) -/
  invalidations : BitVec 32 := 0
  /-- words discarded since start-up, OD 0x6020:0E (R171, R194; reset 0) -/
  discarded : BitVec 32 := 0
  deriving DecidableEq, Repr

/-- The CRE block. -/
structure Cre where
  /-- CRE_CTRL.RECON (R185, R192; reset 0) -/
  recon : Bool := false
  /-- CRE_MAP_BASE (R192; reset 0x8000_0000) -/
  mapBase : BitVec 32 := 0x80000000
  /-- CRE_MAP_CELLS (R192; reset 0) -/
  mapCells : BitVec 21 := 0
  /-- CRE_QCFG.VREQ (R168, R192; reset 0) -/
  vreq : BitVec 5 := 0
  /-- CRE_QCFG.FREQ (R168, R192; reset 0) -/
  freq : BitVec 5 := 0
  /-- CRE_QCFG.VRES (R168, R192; reset 0) -/
  vres : BitVec 5 := 0
  /-- CRE_QCFG.FRES (R168, R192; reset 0) -/
  fres : BitVec 5 := 0
  /-- CRE_NEXTID (R179, R192; reset 0x0001) -/
  nextId : BitVec 16 := 1
  /-- CRE_SEQ (R177, R192; reset 0) -/
  seq : BitVec 32 := 0
  /-- CRE_RESYNC.DISCARD (R171, R192; reset 0) -/
  resync : BitVec 32 := 0
  /-- CRE_TAB_IDX (R192; reset 0) -/
  tabIdx : BitVec 13 := 0
  /-- CRE_TAB_D0 to D3 as latched (R192; reset 0) -/
  tabD : Vector (BitVec 32) 4 := Vector.replicate 4 0
  /-- the map in force (R160; reset none) -/
  map : Option TrackMap := none
  /-- map transfer, validation and store (R158; reset empty) -/
  store : MapStore := {}
  /-- the 16 classes (R162; reset disabled) -/
  classes : Vector RobotClass 16 := Vector.replicate 16 {}
  /-- CRE_MEMBERm that differ from reset, m = 1 to 256 (R192; reset none listed) -/
  members : List (Nat × CreMember) := []
  /-- live reservation entries by entry number 0 to 8,191 (R178, R192; reset none) -/
  resv : List (Nat × Resv) := []
  /-- live corridors, oldest first (R178; reset none) -/
  corrs : List Corridor := []
  /-- results decided and not yet written: these operations are in flight (R169; reset none) -/
  results : List CreResult := []
  /-- counters (R194; reset 0) -/
  counts : CreCounts := {}
  deriving DecidableEq, Repr

end Sys2Proof.Machine
end

