-- ==== Sys2Proof/Machine/Parts/Yarrow.lean ====
section
/-!
DEFINITION. The Yarrow lanes, the voter and the SAF block (spec/07_fleet_stop.md).
-/
namespace Sys2Proof.Machine

/-- One lane's place in the vote (R222, R223, R252). -/
structure Lane where
  /-- included; SAF_STATUS.LANES bit (R223, R252; reset 1) -/
  included : Bool := true
  /-- it disagreed in the previous lane period (R222; reset false) -/
  disagreed : Bool := false
  /-- SAF_DISAGx.COUNT (R252; reset 0) -/
  count : BitVec 16 := 0
  /-- its copy of the SF2 zone record in MRAM, with whether its CRC is valid (R220; reset 0, valid) -/
  zoneRec : BitVec 16 := 0
  /-- the copy's CRC-32C is valid (R220; reset true, LOG) -/
  zoneOk : Bool := true
  deriving DecidableEq, Repr

/-- One ESTOP channel (R239 to R243). -/
structure Estop where
  /-- level: true for the run level, high (R239, R252; reset low, RAW = 0) -/
  raw : Bool := false
  /-- filtered demand (R240; reset 0) -/
  filt : Bool := false
  /-- unstable at present (R241; reset false) -/
  unstableNow : Bool := false
  /-- unstable fault latched, UNST (R241, R252; reset 0) -/
  unst : Bool := false
  /-- test-pulse fault latched, TPF (R242, R252; reset 0) -/
  tpf : Bool := false
  /-- own pulses followed correctly in a row (R242; reset 0) -/
  followed : Nat := 0
  deriving DecidableEq, Repr

/-- A safety command passed to SAF_CMD and not yet acted on (R244). -/
structure SafCmd where
  /-- CODE (R252; reset not applicable) -/
  code : BitVec 8
  /-- ZONE (R252; reset not applicable) -/
  zone : BitVec 4
  /-- SEQ (R252; reset not applicable) -/
  seq : BitVec 16
  deriving DecidableEq, Repr

/-- What the last permit's loopback was (R228, R230). -/
inductive Loopback where
  | passed | notSent | aborted | missing | awaited
  deriving DecidableEq, Repr

/-- The safety configuration adopted by the lanes (R254), the values of OD 0x7020:01-0A. -/
structure SafCfg where
  /-- ESTOP filter time, 0.25 ms (R253; reset 4) -/
  filter : Nat := 4
  /-- discrepancy time, ms (R253; reset 100) -/
  discrepancy : Nat := 100
  /-- ESTOP mode (R239, R253; reset 0) -/
  mode : Nat := 0
  /-- STOP_OUT zone mask (R253; reset 0x0000) -/
  outMask : BitVec 16 := 0
  /-- SF4 enable (R253; reset 0) -/
  sf4 : Bool := false
  /-- RTK class mask (R253; reset 0x0000) -/
  rtkClass : BitVec 16 := 0
  /-- RTK zone mask (R253; reset 0xFFFF) -/
  rtkZone : BitVec 16 := 0xFFFF
  /-- SF4 release automatic (R253; reset 0) -/
  autoRelease : Bool := false
  /-- degraded time limit, h (R253; reset 72) -/
  degradedH : Nat := 72
  /-- SF1 clear at start-up (R253; reset 0) -/
  sf1Clear : Bool := false
  deriving DecidableEq, Repr

/-- The SAF block. -/
structure Saf where
  /-- lanes A, B, C (R252; reset all included) -/
  lanes : Vector Lane 3 := Vector.replicate 3 {}
  /-- DEGRADED (R223, R252; reset 0) -/
  degraded : Bool := false
  /-- TB5 ns at which DEGRADED was set (R223; reset none) -/
  degradedAt : Option Nat := none
  /-- SAFE, safe state in force (R224, R252; reset 0) -/
  safe : Bool := false
  /-- SF1 state (R252; reset 0b10, awaiting reset) -/
  sf1 : Sf1State := .awaiting
  /-- SF1 demanded by SF1_STOP and not reset since (R218, R244; reset false) -/
  sf1Cmd : Bool := false
  /-- GATE (R228, R252; reset 0) -/
  gate : Bool := false
  /-- ESTOP_A (R239; reset R252's zeros) -/
  estA : Estop := {}
  /-- ESTOP_B (R239; reset R252's zeros) -/
  estB : Estop := {}
  /-- discrepancy fault latched (R243, R252; reset 0) -/
  disc : Bool := false
  /-- TB5 ns at which a discrepancy began to be timed (R243; reset none) -/
  discSince : Option Nat := none
  /-- both channels have demanded together since the discrepancy fault latched (R243; reset false) -/
  discBoth : Bool := false
  /-- both have ceased after that: the fault is clearable (R243; reset false) -/
  discClr : Bool := false
  /-- keep-alive supplied: STOP_OUT energised as requested by the voter (R225, R226; reset off) -/
  keepAlive : Bool := false
  /-- STOP_OUT_A energised at the ball (R225, R252; reset 0) -/
  outA : Bool := false
  /-- STOP_OUT_B energised at the ball (R225, R252; reset 0) -/
  outB : Bool := false
  /-- SAF_OUT.FLT for A (R252; reset 0) -/
  fltA : Bool := false
  /-- SAF_OUT.FLT for B (R252; reset 0) -/
  fltB : Bool := false
  /-- voted permit word last formed (R227; reset zeros) -/
  word : PermitWord := {}
  /-- SF2 zones stopped (R218; reset 0) -/
  sf2 : BitVec 16 := 0
  /-- SF4: RSTOP in force (R245; reset 0) -/
  rstop : BitVec 16 := 0
  /-- Teasel word: cycle (R146, R252; reset 0) -/
  tword0 : BitVec 32 := 0
  /-- Teasel word: integrity bit (R146, R252; reset 0) -/
  tword1 : Bool := false
  /-- Teasel word committed: cycle and bit as a pair (R252; reset none) -/
  tword : Option (BitVec 32 × Bool) := none
  /-- SAF_CMD waiting for the next lane period (R244, R252; reset none) -/
  cmds : List SafCmd := []
  /-- next command sequence number (R244; reset 0, LOG) -/
  cmdSeq : BitVec 16 := 0
  /-- SAF_CMDSTAT.STATUS (R252; reset 0) -/
  cmdStatus : BitVec 8 := 0
  /-- SAF_CMDSTAT.SEQ (R252; reset 0) -/
  cmdStatSeq : BitVec 16 := 0
  /-- loopback of the last permit (R228, R230; reset not sent) -/
  loopback : Loopback := .notSent
  /-- SAF_LOOP.MISS (R252; reset 0) -/
  loopMiss : BitVec 16 := 0
  /-- SAF_LOOP.CONSEC (R230, R252; reset 0) -/
  loopConsec : BitVec 2 := 0
  /-- LOOP_FLT (R252; reset 0) -/
  loopFlt : Bool := false
  /-- SAF_BURST.SENT (R252; reset 0) -/
  sent : BitVec 16 := 0
  /-- SAF_BURST.BLOCKED (R252; reset 0) -/
  blocked : BitVec 16 := 0
  /-- SAF_CFGBUF (R252; reset zeros, LOG) -/
  cfgBuf : Vector Byte 16 := Vector.replicate 16 0
  /-- configuration in force (R254; reset the defaults) -/
  cfg : SafCfg := {}
  /-- CFG_OK (R252; reset 0) -/
  cfgOk : Bool := false
  /-- SAF_CFGCRC (R254, R252; reset 0) -/
  cfgCrc : BitVec 32 := 0
  /-- SYS_CYCLE at the last lane period, for the boundary flag (R221; reset 0) -/
  lastCycle : BitVec 32 := 0
  /-- TB5 ns of the last cycle boundary the lanes saw (R248; reset none) -/
  boundaryAt : Option Nat := none
  /-- counters OD 0x7030:01, stop bursts started (R253; reset 0) -/
  nBursts : BitVec 32 := 0
  /-- OD 0x7030:02, stop frames not sent (R253; reset 0) -/
  nNotSent : BitVec 32 := 0
  /-- OD 0x7030:03, permits withheld after a missing loopback (R253; reset 0) -/
  nWithheld : BitVec 32 := 0
  /-- OD 0x7030:04, lane disagreements (R253; reset 0) -/
  nDisag : BitVec 32 := 0
  /-- OD 0x7030:05, lane exclusions since manufacture, kept (R253; reset 0, LOG) -/
  nExcl : BitVec 16 := 0
  /-- OD 0x7030:06, ESTOP faults latched (R253; reset 0) -/
  nEstopFlt : BitVec 32 := 0
  /-- OD 0x7030:07, low levels shorter than the filter time (R253; reset 0) -/
  nShortLow : BitVec 32 := 0
  deriving DecidableEq, Repr

end Sys2Proof.Machine
end

