-- ==== Sys2Proof/Machine/Parts/Radio.lean ====
section
/-!
DEFINITION. The fleet radios FRA, FRB and MRX, the frames' security state and the field nodes
(spec/08_radio_access.md, spec/09_radio_frames.md).
-/
namespace Sys2Proof.Machine

/-- Registers of one radio that are not in R38 (R282). -/
structure RadioRegs where
  /-- FRx_PROFILE.REGION: false EU, true NA (R282; reset 0) -/
  na : Bool := false
  /-- FRx_PROFILE.LBT_THR, signed dBm (R282; reset 0xB0) -/
  lbtThr : BitVec 8 := 0xB0
  /-- FRx_PROFILE.RND, 10 us (R282; reset 0x00) -/
  rnd : BitVec 7 := 0
  /-- FRx_CH0 to CH3 (R282; reset 0x000) -/
  ch : Vector (BitVec 12) 4 := Vector.replicate 4 0
  /-- FRx_HOPSEED (R282; reset 0x0000_0001) -/
  seed : BitVec 32 := 1
  /-- FRx_TXPWR.PWR (R282; reset 0x30) -/
  pwr : BitVec 6 := 0x30
  /-- FRA_TXPWR.WAKE_PWR (R282; reset 0x12) -/
  wakePwr : BitVec 6 := 0x12
  /-- FRx_QCFG.TXQ (R282; reset 0) -/
  txq : BitVec 5 := 0
  /-- FRx_QCFG.DONEQ (R282; reset 0) -/
  doneq : BitVec 5 := 0
  /-- FRx_QCFG.RXQ (R282; reset 0) -/
  rxq : BitVec 5 := 0
  /-- FRx_CHNOW.N, channel in force (R282; reset 0x000) -/
  chNow : BitVec 12 := 0
  /-- FRA_CHNOW.WIN (R282; reset 0b00) -/
  win : BitVec 2 := 0
  /-- FRx_RSSI, mean RSSI of the last listen (R282; reset 0x80) -/
  rssi : BitVec 8 := 0x80
  /-- FRx_STATUS.PLL_LOCK (R282; reset 0) -/
  pllLock : Bool := false
  /-- FRx_CNT_TX (R282; reset 0) -/
  cntTx : BitVec 32 := 0
  /-- FRx_CNT_BUSY (R282; reset 0) -/
  cntBusy : BitVec 32 := 0
  /-- FRx_CNT_BLOCK (R282; reset 0) -/
  cntBlock : BitVec 32 := 0
  /-- FRx_CNT_LATE (R282; reset 0) -/
  cntLate : BitVec 32 := 0
  /-- FRx_CNT_RXERR (R282; reset 0) -/
  cntRxErr : BitVec 32 := 0
  deriving DecidableEq, Repr

/-- An item due to a member (R297). -/
structure DueItem where
  /-- member it is due to (R297; reset not applicable) -/
  member : Nat
  /-- the item (R297; reset not applicable) -/
  item : CmdItem
  /-- cycle from which it may be sent again; none when it is due now (R297; reset not applicable) -/
  after : Option (BitVec 32)
  /-- sequence of the pair delta that describes the change it rests on (R367; reset not applicable) -/
  delta : BitVec 32
  deriving DecidableEq, Repr

/-- Content of a frame queued for FRB, or of a Cowslip segment queued for FRA (R279). -/
inductive FrbContent where
  | cmd (member : Nat) (items : List CmdItem)
  | joinAccept (member : Nat) (nonce : BitVec 64) (mapId : BitVec 32) (cls : BitVec 4) (role : BitVec 5)
      (repoch : BitVec 32) (gen : BitVec 8)
  | nodeDl (node : Nat) (dl : NodeDl) (ofs : Nat)
  | corr (header : List Byte) (off n : Nat)
  | psdu (addr : BitVec 32)
  deriving DecidableEq, Repr

/-- A frame waiting in the FRB transmit queue (R275, R279). -/
structure FrbFrame where
  /-- KIND of R279: 0 grant or command, 1 correction fragment, 2 node downlink, 3 Cowslip segment (R279; reset not applicable) -/
  kind : BitVec 3
  /-- mode of R261 (R279; reset not applicable) -/
  mode : BitVec 2
  /-- PSDU length with FCS, octets (R261, R262; reset not applicable) -/
  psdu : Nat
  /-- launch time when LAUNCH_EN (R280; reset not applicable) -/
  launch : Option (BitVec 32)
  /-- LATE_DROP (R280; reset not applicable) -/
  lateDrop : Bool
  /-- the launch time has passed or its instant has come (R280; reset not applicable) -/
  ripe : Bool
  /-- TAG, when the frame came by a descriptor (R279; reset not applicable) -/
  tag : Option (BitVec 16)
  /-- cycle whose correction slot a fragment belongs to (R275; reset not applicable) -/
  corrCycle : Option (BitVec 32)
  /-- delta sequence the frame waits for, in a pair with mirrored grants (R367; reset not applicable) -/
  waitDelta : Option (BitVec 32)
  /-- frame counter, given when the frame is sent (R289; reset not applicable) -/
  fcnt : BitVec 32
  /-- content (R275; reset not applicable) -/
  content : FrbContent
  deriving DecidableEq, Repr

/-- The unvoted fields FRA adds to a permit (R292). -/
structure PermitExtra where
  /-- UNIT (R286; reset not applicable) -/
  unit : BitVec 8
  /-- FCNT (R286; reset not applicable) -/
  fcnt : BitVec 32
  /-- REPOCH (R292; reset not applicable) -/
  repoch : BitVec 32
  /-- MAP_ID (R292; reset not applicable) -/
  mapId : BitVec 32
  /-- ISEQ (R292; reset not applicable) -/
  iseq : BitVec 32
  /-- PSFD_MS (R292; reset not applicable) -/
  psfdMs : BitVec 32
  /-- PSFD_FR (R292; reset not applicable) -/
  psfdFr : BitVec 16
  /-- PAGE (R292; reset not applicable) -/
  page : BitVec 8
  deriving DecidableEq, Repr

/-- A frame FRA can put on air. -/
inductive FraFrame where
  | permit (w : PermitWord) (x : PermitExtra)
  | stop (fcnt : BitVec 32) (cyc16 : BitVec 16) (stop : Bool) (zstop rstop rcls : BitVec 16)
  | cowslip (addr : BitVec 16) (seg restart : Nat)
  | segment (f : FrbFrame)
  deriving DecidableEq, Repr

/-- A listen in progress on FRA, or what waits for it (R267, R272, R276, R277). -/
inductive FraListen where
  | permit (win : Nat)
  | stop (tries : Nat)
  | cowslip
  deriving DecidableEq, Repr

/-- A stop burst in progress (R236, R277). -/
structure Burst where
  /-- stop frames still to send, the one in progress included (R236; reset not applicable) -/
  left : Nat
  /-- STOP at the request (R236; reset not applicable) -/
  stop : Bool
  /-- ZSTOP at the request (R236; reset not applicable) -/
  zstop : BitVec 16
  /-- RSTOP at the request (R236; reset not applicable) -/
  rstop : BitVec 16
  /-- RCLS at the request (R236; reset not applicable) -/
  rcls : BitVec 16
  deriving DecidableEq, Repr

/-- A Cowslip call (R276, R312). -/
structure Call where
  /-- node called (R310; reset not applicable) -/
  node : Nat
  /-- next segment index, 0 to 3 (R276; reset not applicable) -/
  seg : Nat
  /-- restarts so far (R276; reset not applicable) -/
  restarts : Nat
  deriving DecidableEq, Repr

/-- FRA and the traffic it serves. -/
structure Fra where
  /-- registers (R282; reset as listed) -/
  regs : RadioRegs := {}
  /-- frame on air, TXON (R282; reset none) -/
  onAir : Option FraFrame := none
  /-- TB4 ns at which the frame on air began (R292; reset 0) -/
  airFrom : Nat := 0
  /-- listen in progress (R282; reset none) -/
  listen : Option FraListen := none
  /-- TB4 ns at which the listen began (R267; reset 0) -/
  listenFrom : Nat := 0
  /-- stop burst in progress (R236; reset none) -/
  burst : Option Burst := none
  /-- cycle of the last stop-burst request and the bits the voted word carried then (R237; reset none) -/
  holdBack : Option (BitVec 32 × PermitWord) := none
  /-- permit of the present cycle still to be sent (R272; reset false) -/
  permitDue : Bool := false
  /-- a permit that begins before the vote of its cycle: its window, its first SHR bit in ns of TB4, and whether the read-back
  will agree (R229, R272; reset none, LOG) -/
  voteWait : Option (Nat × Nat × Bool) := none
  /-- permit of the present cycle was begun (R228; reset false) -/
  permitBegun : Bool := false
  /-- cycle and TB4 ns at the SFD of the latest permit sent whole (R292; reset none) -/
  lastPermit : Option (BitVec 32 × Nat) := none
  /-- Cowslip calls waiting or running, the first is running (R276; reset none) -/
  calls : List Call := []
  /-- a segment may still begin in the present Cowslip window (R276; reset false) -/
  segDue : Bool := false
  /-- Cowslip segments queued by descriptors, oldest first (R279; reset none) -/
  queue : List FrbFrame := []
  /-- FRA_SBCFGs.MODE, true LBT (R265, R282; reset per R265) -/
  sbLbt : Vector Bool 6 := #v[true, true, false, false, false, false]
  /-- FRA_SBCFGs.LIMIT, 0.1 s (R265, R282; reset per R265) -/
  sbLimit : Vector (BitVec 16) 6 := #v[0, 0, 360, 36, 3600, 360]
  /-- duty bins: TB5 second, sub-band, transmit time in us (R268; reset none) -/
  bins : List (Nat × Nat × Nat) := []
  /-- permits not sent under R272, OD 0x5040:05 (R283; reset 0) -/
  nPermitUnsent : BitVec 32 := 0
  /-- frames not sent for limits of R268, OD 0x5040:06 (R283; reset 0) -/
  nLimit : BitVec 32 := 0
  /-- Cowslip calls restarted, OD 0x5040:08 (R283; reset 0) -/
  nRestart : BitVec 32 := 0
  deriving DecidableEq, Repr

/-- FRB with MRX. -/
structure Frb where
  /-- registers (R282; reset as listed) -/
  regs : RadioRegs := {}
  /-- frames queued, oldest first (R275; reset none) -/
  queue : List FrbFrame := []
  /-- frame on air (R282; reset none) -/
  onAir : Option FrbFrame := none
  /-- TB4 ns at which the frame on air began (R281; reset 0) -/
  airFrom : Nat := 0
  /-- slot open at present (R275; reset none) -/
  slot : Option FrbSlot := none
  /-- listen in progress in the open slot (R282; reset false) -/
  listening : Bool := false
  /-- TB4 ns at which the listen began (R267; reset 0) -/
  listenFrom : Nat := 0
  /-- TB4 ns at which the last listen of the slot ended busy (R275; reset none) -/
  busyAt : Option Nat := none
  /-- a clear listen holds for the open slot's transmissions (R267, R275; reset false) -/
  clear : Bool := false
  /-- MRX receiving, MRX_ON (R282; reset 0) -/
  mrxOn : Bool := false
  /-- MRX channel (R274; reset 0, LOG) -/
  mrxCh : BitVec 12 := 0
  /-- correction fragments discarded, OD 0x5040:07 (R283; reset 0) -/
  nFragLost : BitVec 32 := 0
  deriving DecidableEq, Repr

/-- A request in assembly (R302). -/
structure Assembly where
  /-- member (R302; reset not applicable) -/
  member : Nat
  /-- TAG (R301; reset not applicable) -/
  tag : BitVec 16
  /-- RESTORE, with its corridor ID (R300; reset not applicable) -/
  restore : Option (BitVec 16)
  /-- cycle of the first segment received (R302; reset not applicable) -/
  since : BitVec 32
  /-- NCELLS, cell 0 ID and its entry time, once the first segment came (R301; reset not applicable) -/
  head : Option (Nat × Nat × BitVec 32)
  /-- segment count (R301; reset not applicable) -/
  total : Nat
  /-- segments received: index of the first cell and the cells (R301; reset not applicable) -/
  segs : List (Nat × List SegCell)
  deriving DecidableEq, Repr

/-- Frames: security counters, items due, uplink requests and nodes. -/
structure Frames where
  /-- group-key counter shared by types 0x1 to 0x3 (R289; reset 0) -/
  group : Counter := {}
  /-- member links that differ from empty (R290; reset none) -/
  links : List (Nat × MemberLink) := []
  /-- items due, in the order they fell due (R297; reset none) -/
  due : List DueItem := []
  /-- requests in assembly (R302; reset none) -/
  asm : List Assembly := []
  /-- requests in flight or decided in the last 40 cycles (R302; reset none) -/
  decided : List Decided := []
  /-- nodes 1 to 1,024 that differ from the unenrolled record (R305; reset none) -/
  nodes : List (Nat × Node) := []
  /-- frames discarded as replays, OD 0x5110:01 (R290; reset 0) -/
  nReplay : BitVec 32 := 0
  /-- frames discarded for MIC and the like, OD 0x5110:02 (R290, R316; reset 0) -/
  nMic : BitVec 32 := 0
  /-- incomplete requests discarded, OD 0x5110:03 (R302; reset 0) -/
  nIncomplete : BitVec 32 := 0
  /-- duplicate requests answered, OD 0x5110:04 (R302; reset 0) -/
  nDuplicate : BitVec 32 := 0
  /-- NODE_ACK answers MISSED, OD 0x5110:05 (R315; reset 0) -/
  nMissed : BitVec 32 := 0
  deriving DecidableEq, Repr

end Sys2Proof.Machine
end

