-- ==== Sys2Proof/Machine/Parts/Pair.lean ====
section
/-!
DEFINITION. Operation as a pair, the PAIR block (spec/11_pair.md).
-/
namespace Sys2Proof.Machine

/-- The streamed part of the state as the last delta described it, from which the next delta is taken (R22, R366). -/
structure Streamed where
  /-- reservation entries (R365; reset none) -/
  resv : List (Nat × Resv) := []
  /-- corridors (R365; reset none) -/
  corrs : List Corridor := []
  /-- members (R365; reset none) -/
  members : List (Nat × Member) := []
  /-- CRE members, for FREEZE records (R365; reset none) -/
  cre : List (Nat × CreMember) := []
  /-- tasks (R365; reset none) -/
  tasks : List (Nat × Task) := []
  /-- TFCs (R365; reset none) -/
  tfcs : List (Nat × Tfc) := []
  /-- nodes (R365; reset none) -/
  nodes : List (Nat × Node) := []
  /-- links: keys and counters (R365; reset none) -/
  links : List (Nat × MemberLink) := []
  /-- request history (R365; reset none) -/
  hist : List Decided := []
  /-- group key generations in force and in use (R365; reset 0) -/
  group : BitVec 32 × BitVec 32 := (0, 0)
  deriving DecidableEq, Repr

/-- A complete REQUEST a standby heard (R371). -/
structure HeardReq where
  /-- member (R371; reset not applicable) -/
  member : Nat
  /-- TAG (R371; reset not applicable) -/
  tag : BitVec 16
  /-- cycle in which it was heard (R371; reset not applicable) -/
  cycle : BitVec 32
  /-- its segments (R371; reset not applicable) -/
  asm : Assembly
  deriving DecidableEq, Repr

/-- Phase alignment of one cell of the standby (R378). -/
structure PhaseCell where
  /-- system nibble and signal (R378; reset not applicable) -/
  sig : BitVec 8
  /-- PRN (R378; reset not applicable) -/
  prn : BitVec 8
  /-- epochs in a row with n = 0 and |r| at most 0.05 cycle (R378; reset not applicable) -/
  good : Nat
  /-- the partner released the cell in its last streamed epoch (R379; reset not applicable) -/
  streamed : Bool
  deriving DecidableEq, Repr

/-- The common terms f and b of one system and signal (R378). -/
structure PhaseTerm where
  /-- signal code (R378; reset not applicable) -/
  sig : BitVec 8
  /-- f, 10^-6 cycle (R378; reset not applicable) -/
  f : Int
  /-- b, 0.1 mm (R378; reset not applicable) -/
  b : Int
  deriving DecidableEq, Repr

/-- What the partner's heartbeats last reported (R363). -/
structure Partner where
  /-- role epoch (R363; reset 0) -/
  repoch : BitVec 32 := 0
  /-- device state (R363; reset Start-up) -/
  dstate : DevState := .startUp
  /-- position (R363; reset false) -/
  pos : Bool := false
  /-- ELIGIBLE (R363; reset false) -/
  eligible : Bool := false
  /-- pair configuration CRC (R363; reset 0) -/
  cfgCrc : BitVec 32 := 0
  /-- unit ID (R391; reset 0) -/
  unit : BitVec 8 := 0
  deriving DecidableEq, Repr

/-- The PAIR block and the firmware's pair state. -/
structure Pair where
  /-- PAIR_CTRL.ARM (R390; reset 0) -/
  arm : Bool := false
  /-- HOLDING (R390; reset 0) -/
  holding : Bool := false
  /-- HOLD_IN (R390; reset 1) -/
  holdIn : Bool := true
  /-- TB5 ns since which HOLD_IN has read its present level (R360; reset 0) -/
  holdInAt : Nat := 0
  /-- POS strap (R354, R390; reset strap, LOG) -/
  pos : Bool := false
  /-- LINK (R364, R390; reset 0) -/
  link : Bool := false
  /-- HB_OK (R363, R390; reset 0) -/
  hbOk : Bool := false
  /-- CLAIMED, W1C (R390; reset 0) -/
  claimed : Bool := false
  /-- RACE, W1C (R390; reset 0) -/
  race : Bool := false
  /-- CONFLICT (R390; reset 0) -/
  conflict : Bool := false
  /-- KA_LOST, W1C (R390; reset 0) -/
  kaLost : Bool := false
  /-- FMT (R364, R390; reset 0) -/
  fmt : Bool := false
  /-- PAIRED (R390; reset 0) -/
  paired : Bool := false
  /-- the claim is in its 1 ms sample (R360; reset false) -/
  sampling : Bool := false
  /-- the claim completed and the unit holds by it (R360; reset false) -/
  claimDone : Bool := false
  /-- TB5 ns at which the hold was asserted (R360; reset 0) -/
  claimAt : Nat := 0
  /-- TB5 ns of the last keep-alive write (R359; reset 0) -/
  kaAt : Nat := 0
  /-- TB4 NS field at which the marker of the last heartbeat left (R342; reset 0, LOG) -/
  hbTx : BitVec 32 := 0
  /-- TB4 NS field at which the partner's last heartbeat arrived (R342; reset 0, LOG) -/
  hbRx : BitVec 32 := 0
  /-- TB5 ns at which the next partner heartbeat counts as missed (R363; reset none) -/
  hbDue : Option Nat := none
  /-- HBSTAT.MISS (R390; reset 0) -/
  miss : BitVec 2 := 0
  /-- HBSTAT.TOTAL (R390; reset 0) -/
  missTotal : BitVec 16 := 0
  /-- TXSEQ, last delta sent (R390; reset 0) -/
  txSeq : BitVec 32 := 0
  /-- ACKSEQ (R390; reset 0) -/
  ackSeq : BitVec 32 := 0
  /-- RXSEQ, last delta applied (R390; reset 0) -/
  rxSeq : BitVec 32 := 0
  /-- LNK.L0_LOCK (R390; reset 0) -/
  l0 : Bool := false
  /-- LNK.L1_LOCK (R390; reset 0) -/
  l1 : Bool := false
  /-- LNK.CODEERR (R390; reset 0) -/
  codeErr : BitVec 16 := 0
  /-- PAIR_MIR0 to 3 (R390; reset 0) -/
  mir : Vector (BitVec 32) 4 := Vector.replicate 4 0
  /-- PAIR_MIRCNT (R390; reset 0) -/
  mirCnt : BitVec 32 := 0
  /-- partner as its heartbeats say (R363; reset zeros) -/
  partner : Partner := {}
  /-- streamed state as last described (R366; reset empty) -/
  sent : Streamed := {}
  /-- rolling snapshot part sent next, 0 to 199 (R369; reset 0) -/
  part : Nat := 0
  /-- a requested snapshot is awaited by this standby (R368, R369; reset false) -/
  snapAwait : Bool := false
  /-- deltas buffered meanwhile (R369; reset none) -/
  buffered : List PairDelta := []
  /-- a full snapshot was applied since standby was entered (R372; reset false) -/
  snapDone : Bool := false
  /-- in-sequence deltas applied after it (R372; reset 0) -/
  deltasOk : Nat := 0
  /-- requests heard in standby, last 8 cycles (R371; reset none) -/
  heard : List HeardReq := []
  /-- members whose ROLE_ACK was heard in standby (R371; reset none) -/
  acksHeard : List Nat := []
  /-- highest REPOCH heard in a valid PERMIT of the partner (R371; reset none) -/
  repochHeard : Option (BitVec 32) := none
  /-- last counter accepted from the partner under the group key (R290; reset none) -/
  rxPartner : Option (BitVec 32) := none
  /-- takeover epoch E_T (R375; reset 0) -/
  takeover : Option (BitVec 32) := none
  /-- takeovers since start-up (R391; reset 0) -/
  nTakeover : BitVec 32 := 0
  /-- snapshots requested (R391; reset 0) -/
  nSnap : BitVec 32 := 0
  /-- delta gaps (R391; reset 0) -/
  nGap : BitVec 32 := 0
  /-- rolling snapshot mismatches (R391; reset 0) -/
  nMismatch : BitVec 32 := 0
  /-- last takeover time, us (R391; reset 0) -/
  tkTime : BitVec 32 := 0
  /-- TB5 ns at which HOLD_IN deasserted for the last takeover, until the first permit (R391; reset none) -/
  tkFrom : Option Nat := none
  /-- messages answered ROLE_STALE (R391; reset 0) -/
  nStale : BitVec 32 := 0
  /-- requests rebuilt at the last reconciliation (R391; reset 0) -/
  nRebuilt : BitVec 16 := 0
  /-- unknown corridors reported under R384 (R391; reset 0) -/
  nUnknown : BitVec 32 := 0
  /-- first cycle T of the reconciliation window, once known (R383; reset none) -/
  windowT : Option (BitVec 32) := none
  /-- the window is open (R383; reset false) -/
  window : Bool := false
  /-- members with an unacknowledged corrective ROLE command after a takeover (R375; reset none) -/
  roleFix : List Nat := []
  /-- SWAP has been accepted and its final delta is not sent yet (R388; reset false) -/
  swapAsk : Bool := false
  /-- a swap is in progress: sequence of the final delta (R388; reset none) -/
  swap : Option (BitVec 32) := none
  /-- TB5 ns of the swap release, until the partner claims (R388; reset none) -/
  swapRel : Option Nat := none
  /-- phase alignment per cell (R378; reset none) -/
  phase : List PhaseCell := []
  /-- common terms per signal (R378; reset none) -/
  terms : List PhaseTerm := []
  /-- phase alignment complete (R378; reset false) -/
  aligned : Bool := false
  deriving DecidableEq, Repr

end Sys2Proof.Machine
end

