-- ==== Sys2Proof/Machine/Parts/Recorder.lean ====
section
/-!
DEFINITION. Event recorder EVR: staging, always-on buffer, flush, log ring (spec/18_event_recorder.md).
-/
namespace Sys2Proof.Machine

/-- TYPE of a record (R558, R560). The low octet of most types is the catalogue's, which the spec does not give. -/
inductive RecType where
  | code (t : BitVec 16)
  | event (e : Event)
  deriving DecidableEq, Repr

/-- Body of a record (R558). A block's own event carries its numbers; their layout is the catalogue's. -/
inductive RecBody where
  | octets (b : List Byte)
  | numbers (n : List Nat)
  deriving DecidableEq, Repr

/-- One record (R558). -/
structure Rec where
  /-- TYPE (R558; reset not applicable) -/
  typ : RecType
  /-- SEV, 0 info to 3 safety (R558; reset not applicable) -/
  sev : Nat
  /-- body (R558; reset not applicable) -/
  body : RecBody
  /-- octets the record occupies, with the zero octets after it (R558; reset not applicable) -/
  size : Nat
  /-- OPSEC (R561; reset not applicable) -/
  opsec : BitVec 32
  /-- PCYC (R561; reset not applicable) -/
  pcyc : BitVec 24
  /-- stamp taken from the FBC (R559; reset not applicable) -/
  fbc : Bool
  /-- TINV (R558; reset not applicable) -/
  tinv : Bool
  /-- AON (R558; reset not applicable) -/
  aon : Bool
  /-- DEGR (R558; reset not applicable) -/
  degr : Bool
  /-- TEST (R558; reset not applicable) -/
  test : Bool
  /-- stamp, ns of the base used (R559; reset not applicable) -/
  stamp : Nat
  deriving DecidableEq, Repr

/-- One master's staged record (R563, R575). -/
structure Staging where
  /-- TYPE (R575; reset 0) -/
  typ : BitVec 16 := 0
  /-- SEV (R575; reset 0) -/
  sev : BitVec 2 := 0
  /-- LEN (R575; reset 0) -/
  len : BitVec 10 := 0
  /-- body octets appended so far (R575; reset none) -/
  data : List Byte := []
  /-- EVR_RECRES.STATUS (R575; reset 0x00) -/
  res : BitVec 8 := 0
  deriving DecidableEq, Repr

/-- A flush in progress (R566). -/
structure Flush where
  /-- started or extended by power fail (R566; reset not applicable) -/
  power : Bool
  /-- records at the buffer's start that the flush copies (R566; reset not applicable) -/
  count : Nat
  /-- a trigger has arrived since (R566; reset not applicable) -/
  again : Bool
  deriving DecidableEq, Repr

/-- One segment of the ring (R569). -/
structure Segment where
  /-- segment sequence number (R569; reset not applicable) -/
  seq : BitVec 32
  /-- record number of its first record (R569; reset not applicable) -/
  first : BitVec 32
  /-- records, oldest first (R569; reset not applicable) -/
  recs : List Rec
  deriving DecidableEq, Repr

/-- The event recorder. -/
structure Evr where
  /-- staging copies, by master number, those not at reset (R563; reset none listed) -/
  staging : List (Nat × Staging) := []
  /-- records of the always-on buffer in commit order (R563; reset none) -/
  buffer : List Rec := []
  /-- flush in progress, EVR_STAT.FLUSH (R566; reset none) -/
  flush : Option Flush := none
  /-- the ring's segments in use, oldest first, at most 64 (R569; reset none, LOG) -/
  ring : List Segment := []
  /-- number of the next record to be committed to the ring (R569; reset 0, LOG) -/
  ringNext : BitVec 32 := 0
  /-- EVR_STAT.LOST, W1C (R565, R575; reset 0) -/
  lost : Bool := false
  /-- EVR_LOSTCNT, AON (R575; reset 0) -/
  lostCnt : BitVec 32 := 0
  /-- records lost since the previous RECORDS_LOST (R565; reset 0) -/
  lostRun : Nat := 0
  /-- records lost since start-up, OD 0x2050:07 (R576; reset 0) -/
  lostUp : BitVec 32 := 0
  /-- EVR_STAT.DEGR (R573, R575; reset 0) -/
  degr : Bool := false
  /-- EVR_STAT.LOGFAIL, AON (R572, R575; reset 0) -/
  logFail : Bool := false
  /-- failure marker in the miscellaneous MRAM region (R572; reset false, LOG) -/
  marker : Bool := false
  /-- start-ups since LOG_FAILED (R562; reset 0) -/
  failStarts : Nat := 0
  /-- EVR_STAT.PFAIL (R575; reset 0) -/
  pfail : Bool := false
  /-- EVR_OPSEC, AON (R561, R575; reset 0) -/
  opsec : BitVec 32 := 0
  /-- crystal ticks of the second of OPSEC in progress (R561; reset 0) -/
  opTicks : Nat := 0
  /-- power-cycle count in PD_AON; EVR_PCYC reads it modulo 2^24 (R561, R575; reset 0) -/
  pcyc : BitVec 32 := 0
  /-- OPSEC and power-cycle count in MRAM (R561; reset 0, LOG) -/
  mramOpsec : BitVec 32 := 0
  /-- power-cycle count in MRAM (R561; reset 0, LOG) -/
  mramPcyc : BitVec 32 := 0
  /-- TB5 ms at which the last flush ended (R566; reset 0) -/
  flushEndMs : Nat := 0
  /-- flushes since start-up, OD 0x2050:0B (R576; reset 0) -/
  flushes : BitVec 32 := 0
  deriving DecidableEq, Repr

end Sys2Proof.Machine
end

