-- ==== Sys2Proof/Machine/Parts/Output.lean ====
section
/-!
DEFINITION. What the unit puts on its ports, and the answer to the latest request. Both are the model's own
fields: the spec's frames, replies and pulses leave the unit, and these lists are where a claim can see them.
-/
namespace Sys2Proof.Machine

/-- A message or signal that left the unit. -/
inductive Out where
  /-- a CAN frame on CANn: COB-ID and data (R512, R513) -/
  | can (n : Fin 2) (cob : Nat) (data : List Byte)
  /-- an NZ-OD reply: session slot, OP, SEQ, and whether it carries a tag (R518, R520) -/
  | reply (slot op : Nat) (seq : BitVec 32) (r : Reply) (tagged : Bool)
  /-- an EVENT message on the service port (R573, R578) -/
  | serviceEvent (r : Rec)
  /-- a frame FRA began to send (R272, R277, R276) -/
  | fra (f : FraFrame)
  /-- a frame FRB began to send (R275) -/
  | frb (f : FrbFrame)
  /-- a correction epoch on Ethernet: its RTCM message numbers in order, marked as test or not (R110, R112) -/
  | rtcm (msgs : List Nat) (test : Bool)
  /-- an NTRIP connection attempt (R115) -/
  | ntripConnect
  /-- a PTP message of a domain: messageType and sequenceId (R345) -/
  | ptp (domain : Fin 3) (msg : Nat) (seq : BitVec 16)
  /-- an Announce of a domain: sequenceId, clockClass, clockAccuracy, timeSource, ptpTimescale, currentUtcOffset,
  priority1, priority2 (R346) -/
  | announce (domain : Fin 3) (seq : BitVec 16) (cls acc src : BitVec 8) (ptpScale : Bool) (utc : Int) (p1 p2 : Nat)
  /-- a PPS pulse of a width in ms (R339) -/
  | pps (p : Fin 2) (width : Nat)
  /-- a pair heartbeat (R363) -/
  | heartbeat (h : Heartbeat)
  /-- a pair delta (R366) -/
  | delta (d : PairDelta)
  /-- acknowledgement of a delta (R367) -/
  | deltaAck (seq : BitVec 32)
  /-- a request for a snapshot (R368) -/
  | snapshotRequest
  /-- a rolling or requested snapshot part: LAST, part index, SEQ of the last delta it includes (R365, R369) -/
  | snapshotPart (requested last : Bool) (part : Nat) (seq : BitVec 32) (recs : List PairRec)
  /-- an answer ROLE_STALE to the partner or a member (R385) -/
  | roleStale
  /-- a PHASE message of the pair (R378) -/
  | phase (seq : BitVec 32)
  /-- a hello of the pair link (R364) -/
  | hello
  /-- SF1_STOP or ZONE_STOP passed to the active unit: code and zone (R387) -/
  | safetyStop (code zone : Nat)
  deriving DecidableEq, Repr

/-- The answer to the latest request (R14, R502). -/
structure Answer where
  /-- status (R14; reset OK, LOG) -/
  status : Status := .ok
  /-- detail code (R502; reset 0, LOG) -/
  detail : BitVec 32 := 0
  /-- value returned (R519; reset none) -/
  value : List Byte := []
  /-- corridor ID that accompanies CONFLICT (R14; reset 0, LOG) -/
  corridor : BitVec 16 := 0
  deriving DecidableEq, Repr

end Sys2Proof.Machine
end

