-- ==== Sys2Proof/Machine/Parts/Power.lean ====
section
/-!
DEFINITION. Supplies, power domains and clocks: blocks PMU and CLK (spec/21_power_clocks.md).
-/
namespace Sys2Proof.Machine

/-- The state of the root PLL's reference (R623, R624). -/
inductive RefState where
  | tcxo | slewToRef | onRef | holding | slewToTcxo
  deriving DecidableEq, Repr

/-- Supplies, domains and clocks. -/
structure Pwr where
  /-- PMU_STAT.VIN_OK (R632; reset 0) -/
  vinOk : Bool := false
  /-- PMU_STAT.PFAIL (R613, R632; reset 0) -/
  pfail : Bool := false
  /-- PMU_STAT.PFAIL_NOW (R613, R632; reset 0) -/
  pfailNow : Bool := false
  /-- PMU_STAT.VBAT_OK (R632; reset 0) -/
  vbatOk : Bool := false
  /-- PMU_STAT.VSTOP_OK (R617, R632; reset 0) -/
  vstopOk : Bool := false
  /-- PMU_STAT.VOUT_OVL, W1C (R612, R632; reset 0) -/
  voutOvl : Bool := false
  /-- PMU_STAT.CFG_ERR, W1C (R619, R632; reset 0) -/
  cfgErr : Bool := false
  /-- PMU_PFTHR.THR, 0.1 V, AON (R613, R632; reset 0x02D) -/
  pfThr : BitVec 9 := 0x2D
  /-- PMU_PDSTAT.ON (R632; reset 0xFFF) -/
  pdStat : BitVec 12 := 0xFFF
  /-- PMU_PDREQ.REQ (R632; reset 0xFFF) -/
  pdReq : BitVec 12 := 0xFFF
  /-- PMU_VIN.MV (R632; reset 0) -/
  vinMv : BitVec 16 := 0
  /-- PMU_VBAT.MV (R632; reset 0) -/
  vbatMv : BitVec 16 := 0
  /-- PMU_VSTOP.MV (R632; reset 0) -/
  vstopMv : BitVec 16 := 0
  /-- PMU_PFCNT.COUNT, AON (R632; reset 0) -/
  pfCnt : BitVec 32 := 0
  /-- power fails since start-up, OD 0x2014:06 (R634; reset 0) -/
  pfUp : BitVec 32 := 0
  /-- CLK_REFSEL.SEL (R623, R633; reset 0) -/
  refSel : Bool := false
  /-- reference selection in force since the start-up (R623; reset 0) -/
  refNow : Bool := false
  /-- CLK_STAT.LOCK (R633; reset 0) -/
  pllLock : Bool := false
  /-- reference of the root PLL: REFIN, SLEW and LOST of CLK_STAT read from it (R624, R633; reset TCXO) -/
  ref : RefState := .tcxo
  /-- CLK_STAT.QUAL (R633; reset 0) -/
  qual : Bool := false
  /-- TB5 ms at which REF10_IN was lost, while it may return (R624; reset none) -/
  lostMs : Option Nat := none
  /-- CLK_REFOFS.PPB (R633; reset 0) -/
  refOfs : BitVec 32 := 0
  /-- CLK_LOSSCNT.COUNT (R633; reset 0) -/
  lossCnt : BitVec 32 := 0
  /-- REF10_IN losses since start-up, OD 0x2015:05 (R634; reset 0) -/
  lossUp : BitVec 32 := 0
  deriving DecidableEq, Repr

end Sys2Proof.Machine
end

