-- ==== Sys2Proof/Machine/Parts/Security.lean ====
section
/-!
DEFINITION. Keys, life cycle and tamper: blocks KEY and TMP, enrolments (spec/17_security.md).
-/
namespace Sys2Proof.Machine

/-- Life-cycle states (R547). -/
inductive LifeCycle where
  | manufacturing | deployed | serviceReturn | decommissioned
  deriving DecidableEq, Repr

/-- One key slot (R537, R554). -/
structure KeySlot where
  /-- KEY_SLOTs_ATTR (R554; reset 0) -/
  attr : BitVec 32 := 0
  /-- KEY_SLOTs_INFO.ID (R554; reset 0x00) -/
  id : BitVec 8 := 0
  /-- index of the key: member ID, node ID or 0 (R538; reset 0) -/
  index : BitVec 16 := 0
  /-- generation; INFO.GEN reads it modulo 256 (R554; reset 0) -/
  gen : BitVec 32 := 0
  /-- KEY_SLOTs_INFO.VALID (R554; reset 0) -/
  valid : Bool := false
  /-- the key itself, which no register reads (R534; reset none) -/
  key : List Byte := []
  /-- order number of the slot's last use (R537; reset 0) -/
  used : Nat := 0
  deriving DecidableEq, Repr

/-- Operations of KEY_CMD.OP (R554). -/
inductive KeyOp where
  | load | clear | derive | enc | dec | mac | sign | ecdh | wrap
  deriving DecidableEq, Repr

/-- A KEY operation in progress (R552, R554). -/
structure KeyBusy where
  /-- operation (R554; reset not applicable) -/
  op : KeyOp
  /-- slot used (R554; reset not applicable) -/
  slot : Fin 32
  /-- destination slot (R554; reset not applicable) -/
  dst : Fin 32
  /-- KEY_SRC at the start (R554; reset not applicable) -/
  src : BitVec 32
  /-- KEY_DST at the start (R554; reset not applicable) -/
  dstAddr : BitVec 32
  /-- KEY_LEN at the start (R554; reset not applicable) -/
  len : BitVec 16
  /-- what stood at KEY_AUX at the start (R554; reset not applicable) -/
  aux : KeyAux
  deriving DecidableEq, Repr

/-- A commit record of the key region (R541). -/
structure KeyCommit where
  /-- key ID (R541; reset not applicable) -/
  id : BitVec 8
  /-- NOR location, false A, true B (R541; reset not applicable) -/
  loc : Bool
  /-- generation (R541; reset not applicable) -/
  gen : BitVec 32
  /-- CRC-32C of the blob (R541; reset not applicable) -/
  crc : BitVec 32
  deriving DecidableEq, Repr

/-- Group-key renewal (R543). -/
structure Renewal where
  /-- generation renewed to (R543; reset not applicable) -/
  gen : BitVec 32
  /-- activation cycle (R543; reset not applicable) -/
  cycle : BitVec 32
  /-- members whose report has not yet followed the activation cycle (R543; reset not applicable) -/
  waiting : List Nat
  deriving DecidableEq, Repr

/-- An enrolled member (R196, R546). -/
structure EnrolMember where
  /-- member ID 1 to 256 (R546; reset not applicable) -/
  id : Nat
  /-- radio address (R546; reset not applicable) -/
  addr : BitVec 64
  /-- class (R546; reset not applicable) -/
  cls : BitVec 4
  /-- role (R546; reset not applicable) -/
  role : BitVec 8
  deriving DecidableEq, Repr

/-- An enrolled field node (R546). -/
structure EnrolNode where
  /-- node ID 1 to 1,024 (R546; reset not applicable) -/
  id : Nat
  /-- radio address (R546; reset not applicable) -/
  addr : BitVec 64
  /-- wake address (R317, R546; reset not applicable) -/
  wake : BitVec 16
  /-- node key generation (R546; reset not applicable) -/
  gen : BitVec 8
  deriving DecidableEq, Repr

/-- The TMP block's registers, in PD_AON (R555). -/
structure Tmp where
  /-- TMP_STAT.ACTIVE (R555; reset 0) -/
  active : BitVec 6 := 0
  /-- TMP_STAT.SEEN, W1C (R555; reset 0) -/
  seen : BitVec 6 := 0
  /-- TMP_STAT.TAMPERED (R550, R555; reset 0) -/
  tampered : Bool := false
  /-- TMP_STAT.KWKL (R555; reset 0) -/
  kwkl : Bool := false
  /-- TMP_RESP (R555; reset 0x050A) -/
  resp : BitVec 12 := 0x50A
  /-- TMP_LOOP (R555; reset 0b00) -/
  loop : BitVec 2 := 0
  /-- TMP_TEMP.T, 0.125 degC (R555; reset 0) -/
  temp : BitVec 16 := 0
  /-- TMP_CNT.COUNT (R555; reset 0) -/
  cnt : BitVec 32 := 0
  deriving DecidableEq, Repr

/-- KEY block, stored keys, enrolments, life cycle and tamper. -/
structure Security where
  /-- KEY_ROOT.TEST (R531, R554; reset 0) -/
  testRoot : Bool := false
  /-- DEPLOY fuse (R547; reset not blown, LOG) -/
  deploy : Bool := false
  /-- DECOM fuse (R547; reset not blown, LOG) -/
  decom : Bool := false
  /-- return fuses blown, 0 to 32 (R547; reset 0, LOG) -/
  returns : Nat := 0
  /-- debug has been enabled since start-up (R547; reset false) -/
  debugSeen : Bool := false
  /-- KEY_SRC (R554; reset 0) -/
  src : BitVec 32 := 0
  /-- KEY_DST (R554; reset 0) -/
  dst : BitVec 32 := 0
  /-- KEY_LEN (R554; reset 0) -/
  len : BitVec 16 := 0
  /-- KEY_AUX (R554; reset 0) -/
  aux : BitVec 32 := 0
  /-- operation in progress, KEY_STAT.BUSY (R554; reset none) -/
  busy : Option KeyBusy := none
  /-- KEY_STAT.ABORTED, W1C (R552, R554; reset 0) -/
  aborted : Bool := false
  /-- KEY_STAT.STATUS (R554; reset 0x00) -/
  status : BitVec 8 := 0
  /-- the 32 key slots (R537; reset empty) -/
  slots : Vector KeySlot 32 := Vector.replicate 32 {}
  /-- order number of the next slot use (R537; reset 0) -/
  useCtr : Nat := 0
  /-- the KWK held in the PD_AON latch (R550; reset none) -/
  kwk : Option (List Byte) := none
  /-- NOR blobs: key ID and location (A 0, B 1) as key, blob octets (R541; reset none) -/
  nor : List (Nat × List Byte) := []
  /-- commit records in the MRAM key region, oldest first (R541; reset none) -/
  commits : List KeyCommit := []
  /-- site key generation in force, 0 when absent (R542, R556; reset 0, LOG) -/
  siteGen : BitVec 32 := 0
  /-- group key generation in force, 0 when absent (R542, R556; reset 0, LOG) -/
  groupGen : BitVec 32 := 0
  /-- group key generation under which frames are sent (R543; reset 0, LOG) -/
  groupTx : BitVec 32 := 0
  /-- group-key renewal that has not ended (R543; reset none) -/
  renewal : Option Renewal := none
  /-- own unit certificate, OD 0x9030:01 (R544; reset none, LOG) -/
  ownCert : Option (List Byte) := none
  /-- site authority public key, OD 0x9030:02 (R544; reset none, LOG) -/
  siteAuth : Option (List Byte) := none
  /-- certificates of units enrolled at the site, OD 0x9030:03 to 06 (R544; reset none, LOG) -/
  certs : Vector (Option (List Byte)) 4 := Vector.replicate 4 none
  /-- enrolled members, by ID (R546; reset none) -/
  members : List EnrolMember := []
  /-- enrolled field nodes, by ID (R546; reset none) -/
  nodes : List EnrolNode := []
  /-- key operations refused since start-up, OD 0x9010:06 (R536; reset 0) -/
  refused : BitVec 32 := 0
  /-- TB5 ms of the first refusal the present record covers (R536; reset none) -/
  refusedAt : Option Nat := none
  /-- blobs that failed to load since start-up, OD 0x9010:07 (R538; reset 0) -/
  blobFails : BitVec 32 := 0
  /-- tamper events since manufacture, OD 0x9040:0A (R556; reset 0, LOG) -/
  tamperEvents : BitVec 32 := 0
  /-- TMP block (R555; reset per register) -/
  tmp : Tmp := {}
  deriving DecidableEq, Repr

end Sys2Proof.Machine
end

