-- ==== Sys2Proof/Machine/Parts/StartUp.lean ====
section
/-!
DEFINITION. Start-up, self-test and calibration (spec/20_startup_calibration.md), with the strap of
spec/22_package_balls.md (R644).
-/
namespace Sys2Proof.Machine

/-- Start-up state. -/
structure Start where
  /-- SYS_BOOT.CAUSE (R594, R609; reset 0b00, VIN) -/
  cause : StartCause := .vin
  /-- SYS_BOOT.WDCNT (R599, R609; reset 0b00) -/
  wdcnt : Nat := 0
  /-- SYS_STEST.FAIL (R600, R609; reset 0x00) -/
  fail : BitVec 8 := 0
  /-- SYS_STEST.DONE (R609; reset 0b00000) -/
  done : BitVec 5 := 0
  /-- failing units, OD 0x2012:05 (R610; reset 0, LOG) -/
  units : BitVec 32 := 0
  /-- SYS_STARTT.MS (R609; reset 0x0000_0000) -/
  startT : BitVec 32 := 0
  /-- first permit after start-up, OD 0x2012:04 (R597, R610; reset 0) -/
  firstPermit : BitVec 32 := 0
  /-- what the start-up in progress meets, until it ends (R596; reset none, LOG) -/
  input : Option StartInput := none
  /-- the dictionary answers: initialisation is done (R530, R598; reset false) -/
  answers : Bool := false
  /-- only the boot ROM service loader of R604 answers (R604; reset false) -/
  loader : Bool := false
  /-- factory calibration verified at this start-up (R606; reset true, LOG) -/
  fcal : Bool := true
  /-- PMIC ramps that failed to lock the root PLL (R626; reset 0) -/
  ramps : Nat := 0
  /-- the start-up has failed and waits for the next try (R626; reset false) -/
  retry : Bool := false
  /-- user calibration parts in force since the last TB0 second boundary, by object key (R605; reset none listed) -/
  userCal : List (Nat × Int) := []
  /-- FRA's user offset in force, 0.5 dB, since FRA's last pass through OFF (R605; reset 0) -/
  paFra : Int := 0
  /-- FRB's user offset in force, 0.5 dB (R605; reset 0) -/
  paFrb : Int := 0
  /-- level of the PAIR_POS ball (R644; reset low, LOG) -/
  pairPosBall : Bool := false
  /-- level of the TESTEN ball (R646; reset low) -/
  testenBall : Bool := false
  deriving DecidableEq, Repr

end Sys2Proof.Machine
end

