-- ==== Sys2Proof/Machine/Parts/Time.lean ====
section
/-!
DEFINITION. The TIM block, pulses, capture and network time (spec/10_time.md).
-/
namespace Sys2Proof.Machine

/-- State of a base (R328). -/
inductive BaseState where
  | free | locked | holdover | refused | catchup
  deriving DecidableEq, Repr

/-- One time base (R318 to R332). Full time is held in units of 2^-32 ns, the unit of RATE (R322). -/
structure Base where
  /-- full time SEC x 10^9 + SUB with 32 fractional bits (R319, R322; reset 0) -/
  t : Nat := 0
  /-- RATE (R322, R350; reset 0) -/
  rate : BitVec 32 := 0
  /-- SLEW, the part that remains, in 2^-32 ns (R323, R350; reset 0) -/
  slew : Int := 0
  /-- remainder of the slew's spreading, in 10^-9 of that unit (R323; reset 0) -/
  slewFrac : Nat := 0
  /-- SLEWRT, ns/s (R323, R350; reset 0x3E8) -/
  slewRt : BitVec 11 := 0x3E8
  /-- STEPL last written (R324, R350; reset 0) -/
  stepL : BitVec 32 := 0
  /-- armed step, ns (R324; reset none) -/
  step : Option Int := none
  /-- STEPSEQ (R324, R350; reset 0) -/
  stepSeq : BitVec 16 := 0
  /-- CFG_ERR, W1C (R350; reset 0) -/
  cfgErr : Bool := false
  /-- shadow registers latched by reading NS: SUB, SECL, SECH and STEPSEQ (R320; reset 0) -/
  shSub : BitVec 30 := 0
  /-- shadow SECL (R320; reset 0) -/
  shSecL : BitVec 32 := 0
  /-- shadow SECH (R320; reset 0) -/
  shSecH : BitVec 16 := 0
  /-- shadow STEPSEQ (R320; reset 0) -/
  shSeq : BitVec 16 := 0
  /-- TBn_CTRL.TRACK (R350; reset 0) -/
  track : Bool := false
  /-- TBn_AOFS, ns (R350; reset 0) -/
  aofs : BitVec 64 := 0
  /-- state (R328; reset FREE) -/
  st : BaseState := .free
  /-- in service (R329; reset false) -/
  service : Bool := false
  /-- source present (R352; reset false) -/
  present : Bool := false
  /-- source qualified (R327; reset false) -/
  qualified : Bool := false
  /-- consecutive valid measurements of the source (R327; reset 0) -/
  good : Nat := 0
  /-- last measured offset, ns (R327, R352; reset 0, LOG) -/
  delta : Int := 0
  /-- JUMP_REFUSED flagged (R330; reset 0) -/
  jump : Bool := false
  /-- TE at the last valid measurement, none when unknown (R332; reset none) -/
  te0 : Option Nat := none
  /-- TB5 ns of that measurement (R332; reset 0) -/
  te0At : Nat := 0
  /-- error bound of the present source, ns (R327; reset 0, LOG) -/
  es : Nat := 0
  /-- refusals since start-up (R352; reset 0) -/
  refusals : BitVec 32 := 0
  /-- time was valid at the last evaluation, as applied to outputs at a second boundary (R333; reset false) -/
  validNow : Bool := false
  deriving DecidableEq, Repr

/-- A PPS output (R339, R350). -/
structure Pps where
  /-- EN (R350; reset 0) -/
  en : Bool := false
  /-- SRC (R350; reset 0b000) -/
  src : BitVec 3 := 0
  /-- POL (R350; reset 0) -/
  pol : Bool := false
  /-- GATE (R350; reset 0) -/
  gate : Bool := false
  /-- WCODE (R350; reset 0) -/
  wcode : Bool := false
  /-- WIDTH, ms (R350; reset 0x0064) -/
  width : BitVec 16 := 100
  /-- DELAY, 100 ps (R350; reset 0) -/
  delay : BitVec 19 := 0
  /-- COUNT (R350; reset 0) -/
  count : BitVec 16 := 0
  /-- SUPPR (R350; reset 0) -/
  suppr : Bool := false
  /-- SKIP, W1C (R350; reset 0) -/
  skip : Bool := false
  /-- the next pulse is to be omitted (R325; reset false) -/
  omit' : Bool := false
  /-- dictionary settings of this output wait for the next second boundary (R353; reset false) -/
  odPend : Bool := false
  /-- width of the last pulse emitted, ms (R333, R339; reset 0) -/
  lastWidth : Nat := 0
  deriving DecidableEq, Repr

/-- An event input EVTi (R341, R350). -/
structure Evt where
  /-- EN (R350; reset 0) -/
  en : Bool := false
  /-- EDGE (R350; reset 0b01) -/
  edge : BitVec 2 := 1
  /-- SRC (R350; reset 0b000) -/
  src : BitVec 3 := 0
  /-- QUEUE (R350; reset 0) -/
  queue : BitVec 5 := 0
  /-- LAST.NS (R350; reset 0) -/
  last : BitVec 32 := 0
  /-- SEQ of the next record (R341; reset 0) -/
  seq : BitVec 8 := 0
  /-- LOST for the next record (R341; reset 0) -/
  lost : Bool := false
  /-- TB5 ns of the last captured edge (R341; reset none) -/
  prev : Option Nat := none
  deriving DecidableEq, Repr

/-- One PTP domain (R345 to R347). -/
structure Ptp where
  /-- port state, IEEE 1588-2019 encoding (R352; reset 0, LOG) -/
  port : BitVec 8 := 0
  /-- foreign masters followed, at most 4: identity, rank, clockAccuracy bound ns (R345; reset none) -/
  foreign : List (BitVec 64 × Nat × Nat) := []
  /-- offset from master, ns (R352; reset 0, LOG) -/
  offset : Int := 0
  /-- mean path delay, ns (R352; reset 0, LOG) -/
  mpd : Nat := 0
  /-- Delay_Req answered in the present second (R345; reset 0) -/
  answered : Nat := 0
  /-- TB5 second that count belongs to (R345; reset 0) -/
  answeredSec : Nat := 0
  /-- Delay_Req dropped since start-up (R352; reset 0) -/
  dropped : BitVec 32 := 0
  /-- sequenceId of the next Sync (R345; reset 0, LOG) -/
  syncSeq : BitVec 16 := 0
  /-- sequenceId of the next Announce (R345; reset 0, LOG) -/
  annSeq : BitVec 16 := 0
  /-- sequenceId of the next Delay_Req or Pdelay_Req (R345; reset 0, LOG) -/
  reqSeq : BitVec 16 := 0
  /-- last Sync: master's time and own receive time, ns (R345; reset none) -/
  sync : Option (Int × Int) := none
  deriving DecidableEq, Repr

/-- Time-stamp and PHY registers of one Ethernet MAC (R351). -/
structure EthTs where
  /-- TSEN (R351; reset 0) -/
  tsen : Bool := false
  /-- BASE (R351; reset 0b101) -/
  base : BitVec 3 := 5
  /-- PHY latency TX, ns (R351; reset cal: OD 0xA840 default 0) -/
  phyTx : BitVec 16 := 0
  /-- PHY latency RX, ns (R351; reset cal: OD 0xA840 default 0) -/
  phyRx : BitVec 16 := 0
  /-- PTPMAP DOM1 to DOM3 (R351; reset 0) -/
  dom : Vector (BitVec 8) 3 := Vector.replicate 3 0
  /-- PTPMAP MEN (R351; reset 0) -/
  men : BitVec 3 := 0
  deriving DecidableEq, Repr

/-- The fall-back counter in PD_AON (R336 to R338). -/
structure Fbc where
  /-- ns since the PTP epoch with 32 fractional bits (R336; reset 0) -/
  t : Nat := 0
  /-- INCL (R350; reset 0x9400_0000) -/
  incL : BitVec 32 := 0x94000000
  /-- INCH (R350; reset 0x7735) -/
  incH : BitVec 16 := 0x7735
  /-- phase of the 32.768 kHz clock against CLK_TIM, in 1/32768 of CLK_TIM ticks x 32768 (R336; reset 0, LOG) -/
  phase : Nat := 0
  /-- FBC_VALID (R350; reset 0) -/
  valid : Bool := false
  /-- CLKFAIL (R350; reset 0) -/
  clkFail : Bool := false
  /-- T4OFS (R350; reset 0) -/
  t4ofs : BitVec 64 := 0
  /-- CAP: TB0 NS at the last 32.768 kHz edge (R350; reset 0) -/
  cap : BitVec 32 := 0
  /-- LOAD written, to act at the next edge (R350; reset false) -/
  loadReq : Bool := false
  /-- TB0's TE stored in PD_AON (R337; reset none) -/
  te : Option Nat := none
  /-- Y_F stored, 0.1 ppm (R337; reset 50) -/
  yf : Nat := 50
  /-- FBC time at the last load (R337; reset 0) -/
  loadAt : Nat := 0
  /-- shadow of NSH latched by reading NSL (R350; reset 0) -/
  shH : BitVec 32 := 0
  deriving DecidableEq, Repr

/-- The TIM block and network time. -/
structure Tim where
  /-- CLK_TIM edges since the bases were initialised: TB5 is 2.5 ns times this (R318; reset 0) -/
  ticks : Nat := 0
  /-- TB0 to TB4; TB5 follows from ticks (R318; reset 0) -/
  base : Vector Base 5 := Vector.replicate 5 {}
  /-- TB5_STAT.CFG_ERR (R324, R350; reset 0) -/
  tb5Err : Bool := false
  /-- shadow registers of TB5 (R320; reset 0) -/
  tb5Sh : BitVec 30 × BitVec 32 × BitVec 16 := (0, 0, 0)
  /-- TIM_STAT.CFG_ERR (R350; reset 0) -/
  cfgErr : Bool := false
  /-- FBC (R336; reset as listed) -/
  fbc : Fbc := {}
  /-- PPS0 and PPS1 (R339; reset disabled) -/
  pps : Vector Pps 2 := Vector.replicate 2 {}
  /-- REF10_CFG.EN (R350; reset 0) -/
  refEn : Bool := false
  /-- REF10_CFG.GATE (R350; reset 0) -/
  refGate : Bool := false
  /-- dictionary settings of REF10_OUT and EVTi wait for the next second boundary (R353; reset false) -/
  odPend : Bool := false
  /-- REF10_OUT was re-phased at the last step of TB0 (R340; reset 0 times) -/
  refPhase : Nat := 0
  /-- EVT0 to EVT3 (R341; reset disabled) -/
  evt : Vector Evt 4 := Vector.replicate 4 {}
  /-- captures dropped since start-up, OD 0x4110:06 (R352; reset 0) -/
  evtDropped : BitVec 32 := 0
  /-- PTP domains 0 to 2 (R345; reset disabled) -/
  ptp : Vector Ptp 3 := Vector.replicate 3 {}
  /-- ETH0 and ETH1 time-stamp registers (R351; reset as listed) -/
  eth : Vector EthTs 2 := Vector.replicate 2 {}
  /-- leap-second count in force, s (R335; reset 37) -/
  leap : Int := 37
  /-- pending leap: 0 none, 1 insert, 2 delete (R335; reset 0) -/
  leapPend : BitVec 8 := 0
  /-- pending leap instant, TB0 s (R335; reset 0, LOG) -/
  leapAt : Nat := 0
  /-- TB0 has been LOCKED since start-up (R346; reset false) -/
  everLocked : Bool := false
  /-- pair theta, ns (R342; reset 0, LOG) -/
  theta : Int := 0
  /-- heartbeats in a row with |theta| at most 50 ns (R342; reset 0) -/
  thetaGood : Nat := 0
  /-- heartbeats in a row above 50 ns (R342; reset 0) -/
  thetaBad : Nat := 0
  /-- pair time aligned, OD 0x4020:02 (R342; reset 0) -/
  aligned : Bool := false
  deriving DecidableEq, Repr

end Sys2Proof.Machine
end

