-- ==== Sys2Proof/Machine/Parts/Update.lean ====
section
/-!
DEFINITION. Firmware images, slots, microcode, trial and the service port (spec/19_update.md).
-/
namespace Sys2Proof.Machine

/-- The three engines whose code is microcode (R580). -/
inductive Engine where
  | gbb | radio | cle
  deriving DecidableEq, Repr

/-- The fields of an image header that the device acts on (R580). -/
structure ImageInfo where
  /-- KIND: 1 main, 2 GBB, 3 radio, 4 CLE (R580; reset 1, LOG) -/
  kind : Nat := 1
  /-- version (R580; reset 0, LOG) -/
  version : BitVec 32 := 0
  /-- security version (R580; reset 0, LOG) -/
  secVer : Nat := 0
  /-- octets 16-19: settings format version, or lowest compatible main version (R580; reset 1, LOG) -/
  word16 : BitVec 32 := 1
  /-- octets 20-23: pair format version, or highest compatible main version (R580; reset 1, LOG) -/
  word20 : BitVec 32 := 1
  /-- a Fleet module (type 3) is carried (R581; reset false, LOG) -/
  fleet : Bool := false
  deriving DecidableEq, Repr

/-- A stored image: slot or microcode store area (R579, R583). -/
structure Stored where
  /-- header fields (R580; reset not applicable) -/
  info : ImageInfo
  /-- octets of the image (R579; reset not applicable) -/
  octets : List Byte
  /-- header and signature verify when the boot ROM reads them (R589; reset not applicable) -/
  verifies : Bool
  deriving DecidableEq, Repr

/-- A microcode store area (R579, R588). -/
structure StoreArea where
  /-- image held, none when marked empty (R583; reset none, LOG) -/
  image : Option Stored := none
  /-- it is confirmed (R588, R591; reset false) -/
  confirmed : Bool := false
  /-- OPSEC at which the trial's window ends, while in trial (R588; reset none) -/
  trialEnd : Option Nat := none
  /-- version of the microcode the engine runs, OD 0x2000:07 to 09 (R525; reset 0, LOG) -/
  running : BitVec 32 := 0
  deriving DecidableEq, Repr

/-- An activation in progress (R584 to R586). -/
inductive Activation where
  | waiting (e : Engine) (rollback : Bool)
  /-- the engine pauses until an instant: ns of TB5, of TB4 for the radio -/
  | pause (e : Engine) (endNs : Nat) (rollback : Bool)
  deriving DecidableEq, Repr

/-- Download states of OD 0x2060:02 (R592). -/
inductive Download where
  | none | receiving | verifying | stored | refused
  deriving DecidableEq, Repr

/-- The update logic. -/
structure Upd where
  /-- slots A and B (R579; reset slot A holds the running image, LOG) -/
  slot : Vector (Option Stored) 2 := #v[some ⟨{}, [], true⟩, none]
  /-- UPD_SLOT.RUN (R591; reset 0) -/
  run : Fin 2 := 0
  /-- UPD_SLOT.PREF (R591; reset 0) -/
  pref : Fin 2 := 0
  /-- UPD_SLOT.TRIAL (R591; reset 0) -/
  trial : Bool := false
  /-- UPD_SLOT.TCOUNT (R591; reset 0b00) -/
  tcount : Nat := 0
  /-- UPD_SLOT.FALLBACK, W1C (R589, R591; reset 0) -/
  fallback : Bool := false
  /-- OPSEC at which the confirmation window ends, while in trial (R587; reset none) -/
  winEnd : Option Nat := none
  /-- the last trial was rolled back, until the next activation (R587; reset false) -/
  rolledBack : Bool := false
  /-- UPD_SVFUSE.SV (R591; reset 0) -/
  svFuse : Nat := 0
  /-- microcode store areas: GBB, radio, CLE (R579; reset empty) -/
  area : Vector StoreArea 3 := Vector.replicate 3 {}
  /-- download state, OD 0x2060:02 (R592; reset none) -/
  dl : Download := .none
  /-- image received and under verification (R583; reset none) -/
  checking : Option (List Byte) := none
  /-- refusal code, OD 0x2060:03 (R582, R592; reset 0) -/
  refusal : Nat := 0
  /-- class of the stored image that awaits activation: 1 to 4 (R583, R584; reset none) -/
  ready : Option Nat := none
  /-- version of the stored image, OD 0x2060:04 (R592; reset 0, LOG) -/
  readyVer : BitVec 32 := 0
  /-- activation in progress (R584; reset none) -/
  act : Option Activation := none
  /-- migration mode read at activation, while it waits for the first start (R590; reset none) -/
  migrate : Option Bool := none
  /-- last activation pause, OD 0x2060:0D (R585, R592; reset 0, LOG) -/
  pauseMs : BitVec 16 := 0
  /-- FBC ticks of the last permit of the old image, while the pause runs (R585; reset none) -/
  lastPermit : Option Nat := none
  /-- UPD_PORT.USB_CFG (R591; reset 0) -/
  usbCfg : Bool := false
  /-- TB5 ms of the last frame received on SERVICE_UART (R591; reset none) -/
  uartMs : Option Nat := none
  /-- UPD_PORT.BADFRM, wrapping (R591; reset 0) -/
  badFrm : BitVec 16 := 0
  /-- the engine whose microcode pause runs (R586; reset none) -/
  paused : Option Engine := none
  deriving DecidableEq, Repr

end Sys2Proof.Machine
end

