-- ==== Sys2Proof/Machine/State.lean ====
section
/-!
DEFINITION. The state of the unit: every register, table, queue, buffer, counter, mode and latch the spec names,
grouped by chapter, the queue of waiting commands, and three fields of the model's own (out, ans, free).
-/
namespace Sys2Proof.Machine

/-- Reasons to stop. No rule of the spec stops the unit, so no meaning answers with one. -/
inductive Fault where
  /-- Raised by nothing in this model: kept so that the type has a name to print. Safe. -/
  | none
  deriving DecidableEq, Repr

/-- Reasons to refuse a command. -/
inductive Refusal where
  /-- Raised by exec's arm of a command that has no meaning in this model yet. Safe: nothing can be proved of it. -/
  | notModelled (mnemonic : String)
  deriving DecidableEq, Repr

/-- The unit. -/
structure State where
  /-- commands that wait, first in, first out (the model's own; reset empty) -/
  pending : List Instr := []
  /-- device state, cycle and tick (chapter 01) -/
  dev : Device := {}
  /-- enable records of the blocks that exist once (R38) -/
  blk : Blocks := {}
  /-- GNSS front end (chapter 02) -/
  grf : Grf := {}
  /-- GNSS baseband (chapter 02) -/
  gbb : Gbb := {}
  /-- reference and corrections (chapter 03) -/
  corr : Corrections := {}
  /-- Teasel (chapter 04) -/
  tsl : Teasel := {}
  /-- map and Vetch (chapter 05) -/
  cre : Cre := {}
  /-- members, tasks, TFCs (chapter 06) -/
  fleet : Fleet := {}
  /-- Yarrow lanes and voter (chapter 07) -/
  saf : Saf := {}
  /-- FRA (chapter 08) -/
  fra : Fra := {}
  /-- FRB with MRX (chapter 08) -/
  frb : Frb := {}
  /-- frames, counters, nodes (chapter 09) -/
  frames : Frames := {}
  /-- time (chapter 10) -/
  tim : Tim := {}
  /-- pair (chapter 11) -/
  pair : Pair := {}
  /-- axes and control loops (chapters 12 and 13) -/
  mot : Motor := {}
  /-- cores, JDX, INT (chapter 14) -/
  cores : Cores := {}
  /-- scratchpads and byte memory (chapter 15) -/
  mem : Mem := {}
  /-- queues and CRC (chapter 15) -/
  ques : Ques := {}
  /-- dictionary (chapter 16) -/
  dict : Dict := {}
  /-- keys, life cycle, tamper (chapter 17) -/
  sec : Security := {}
  /-- event recorder (chapter 18) -/
  evr : Evr := {}
  /-- update (chapter 19) -/
  upd : Upd := {}
  /-- start-up and calibration (chapter 20) -/
  start : Start := {}
  /-- power and clocks (chapter 21) -/
  pwr : Pwr := {}
  /-- debug port (chapter 23) -/
  dbg : Dbg := {}
  /-- what the unit has put on its ports, newest first (the model's own; reset none) -/
  out : List Out := []
  /-- answer to the latest request (the model's own; reset OK) -/
  ans : Answer := {}
  /-- counter of free values taken (the model's own; reset 0) -/
  free : Nat := 0
  deriving DecidableEq, Repr

/-- The unit right after reset of every power domain: each register at its table's value, every field the spec gives
no reset value at the value its log entry names, and nothing waiting. -/
def State.reset : State := {}

end Sys2Proof.Machine
end

