-- ==== Sys2Proof/Machine/Ops.lean ====
section
/-!
DEFINITION. The named operations every meaning is built from: sparse tables, octets, check values, byte memory,
dictionary values, free values and answers.
-/
namespace Sys2Proof

/-- Numeric value of a status code (R14). -/
def Status.code : Status → BitVec 8
  | .ok => 0x00 | .busy => 0x01 | .full => 0x02 | .conflict => 0x03 | .envelopeShort => 0x04
  | .gateNotReady => 0x05 | .staleEpoch => 0x06 | .roleStale => 0x07 | .denied => 0x08
  | .collide => 0x09 | .jumpRefused => 0x0A | .enablePending => 0x0B | .withheld => 0x0C

/-- Rank of a role (R12). -/
def Role.rank : Role → Nat
  | .observer => 0 | .operator => 1 | .engineer => 2 | .vendor => 3

end Sys2Proof

namespace Sys2Proof.Machine

/-- What a meaning answers. -/
abbrev Result := Host.Outcome State Fault Refusal

/-! ### Sparse tables: keys rise, so that equal tables are equal lists -/

/-- The entry of key `i`, if listed. -/
def tabGet {α : Type} : List (Nat × α) → Nat → Option α
  | [], _ => none
  | (k, v) :: t, i => if i = k then some v else tabGet t i

/-- Puts an entry at its place. -/
def tabPut {α : Type} : List (Nat × α) → Nat → α → List (Nat × α)
  | [], i, v => [(i, v)]
  | (k, w) :: t, i, v =>
    if i < k then (i, v) :: (k, w) :: t
    else if i = k then (i, v) :: t
    else (k, w) :: tabPut t i v

/-- Takes the entry of key `i` out. -/
def tabDel {α : Type} (t : List (Nat × α)) (i : Nat) : List (Nat × α) :=
  t.filter fun p => p.1 ≠ i

/-- Sets an entry of a table that does not list entries equal to `d`. -/
def tabSet {α : Type} [DecidableEq α] (d : α) (t : List (Nat × α)) (i : Nat) (v : α) : List (Nat × α) :=
  if v = d then tabDel t i else tabPut t i v

/-- The entry of key `i` of a table that does not list entries equal to `d`. -/
def tabGetD {α : Type} (d : α) (t : List (Nat × α)) (i : Nat) : α := (tabGet t i).getD d

/-- Keys rise strictly. -/
def tabSorted {α : Type} : List (Nat × α) → Bool
  | [] => true
  | [_] => true
  | (a, _) :: (b, y) :: t => a < b && tabSorted ((b, y) :: t)

/-- Replaces the element of a list at a place. -/
def listSet {α : Type} (l : List α) (i : Nat) (v : α) : List α := l.set i v

/-! ### Octets, little-endian (R6) -/

/-- The number that octets give, lowest first. -/
def leNat : List Byte → Nat
  | [] => 0
  | b :: t => b.toNat + 256 * leNat t

/-- The lowest `n` octets of a number, lowest first. -/
def leBytes : Nat → Nat → List Byte
  | 0, _ => []
  | n + 1, v => BitVec.ofNat 8 v :: leBytes n (v / 256)

/-- A number's octets, two's complement when negative. -/
def leBytesInt (n : Nat) (v : Int) : List Byte := leBytes n (v % (2 ^ (8 * n) : Int)).toNat

/-- The signed number that octets give, lowest first. -/
def leInt (l : List Byte) : Int :=
  let v := leNat l
  if 2 * v < 2 ^ (8 * l.length) then v else (v : Int) - 2 ^ (8 * l.length)

/-- Big-endian octets of a number. -/
def beBytes (n v : Nat) : List Byte := (leBytes n v).reverse

/-- Bits [hi:lo] of a number (R5). -/
def bitsOf (v hi lo : Nat) : Nat := v / 2 ^ lo % 2 ^ (hi + 1 - lo)

/-- A Bool as a bit. -/
def bit (b : Bool) : Nat := if b then 1 else 0

/-- Bit `i` of a number. -/
def bitAt (v i : Nat) : Bool := v / 2 ^ i % 2 = 1

/-- Count of a 32-bit wrapping counter advanced by one. -/
def bump (c : BitVec 32) : BitVec 32 := c + 1

/-- Saturating increment. -/
def satInc {w : Nat} (c : BitVec w) : BitVec w := if c = BitVec.allOnes w then c else c + 1

/-- One 32-bit time, epoch or sequence number precedes another (R165). -/
def precedes (a b : BitVec 32) : Bool := 1 ≤ (b - a).toNat && (b - a).toNat ≤ 2147483647

/-- Equal, or precedes. -/
def precEq (a b : BitVec 32) : Bool := a = b || precedes a b

/-! ### Check values (R492) -/

/-- Width of a polynomial code. -/
def crcWidth (p : BitVec 3) : Nat :=
  match p.toNat with
  | 0 => 24 | 3 => 16 | 4 => 8 | _ => 32

/-- Polynomial of a code, reflected for the reflected ones. -/
def crcPoly (p : BitVec 3) : BitVec 32 :=
  match p.toNat with
  | 0 => 0x864CFB | 1 => 0xEDB88320 | 3 => 0x1021 | 4 => 0x2F | _ => 0x82F63B78

/-- Initial value of a code. -/
def crcInit (p : BitVec 3) : BitVec 32 :=
  match p.toNat with
  | 0 => 0 | 3 => 0xFFFF | 4 => 0xFF | _ => 0xFFFFFFFF

/-- Final XOR of a code. -/
def crcFinal (p : BitVec 3) : BitVec 32 := if crcWidth p = 32 then 0xFFFFFFFF else 0

/-- One bit of a reflected register. -/
def crcBitR (poly r : BitVec 32) : BitVec 32 := if r.getLsbD 0 then (r >>> 1) ^^^ poly else r >>> 1

/-- One bit of a register that is not reflected, `w` bits wide. -/
def crcBitL (w : Nat) (poly r : BitVec 32) : BitVec 32 :=
  let m : BitVec 32 := BitVec.ofNat 32 (2 ^ w - 1)
  if r.getLsbD (w - 1) then ((r <<< 1) ^^^ poly) &&& m else (r <<< 1) &&& m

/-- Applies a step eight times. -/
def eight {α : Type} (f : α → α) (x : α) : α := f (f (f (f (f (f (f (f x)))))))

/-- The running register after one octet (R493). -/
def crcByte (p : BitVec 3) (r : BitVec 32) (b : Byte) : BitVec 32 :=
  if crcWidth p = 32 then eight (crcBitR (crcPoly p)) (r ^^^ b.setWidth 32)
  else eight (crcBitL (crcWidth p) (crcPoly p)) (r ^^^ (b.setWidth 32 <<< (crcWidth p - 8)))

/-- The running register after octets (R493). -/
def crcRun (p : BitVec 3) (r : BitVec 32) (l : List Byte) : BitVec 32 := l.foldl (crcByte p) r

/-- CRC-32C of octets (R492). -/
def crc32c (l : List Byte) : BitVec 32 := crcRun 2 0xFFFFFFFF l ^^^ 0xFFFFFFFF

/-- CRC-24Q of octets (R492). -/
def crc24q (l : List Byte) : BitVec 32 := crcRun 0 0 l

/-! ### Byte memory (R451) -/

/-- The octet at an address; an unlisted one reads 0. -/
def Mem.get (m : Mem) (a : Nat) : Byte := tabGetD 0 m.bytes a

/-- Writes one octet. -/
def Mem.put (m : Mem) (a : Nat) (b : Byte) : Mem := { m with bytes := tabSet 0 m.bytes a b }

/-- Octets from an address on. -/
def Mem.read (m : Mem) (a : Nat) : Nat → List Byte
  | 0 => []
  | n + 1 => m.get a :: m.read (a + 1) n

/-- Writes octets from an address on. -/
def Mem.write (m : Mem) (a : Nat) : List Byte → Mem
  | [] => m
  | b :: t => (m.put a b).write (a + 1) t

/-- The memory holds its canonical form: addresses rise, and no listed octet is 0. -/
def Mem.wf (m : Mem) : Bool := tabSorted m.bytes && m.bytes.all fun c => c.2 ≠ 0

/-- Clears every octet of a range. -/
def Mem.clear (m : Mem) (a n : Nat) : Mem :=
  { m with bytes := m.bytes.filter fun c => c.1 < a || a + n ≤ c.1 }

/-! ### Dictionary values -/

/-- Key of an object in the store. -/
def odKey (idx sub : Nat) : Nat := idx * 256 + sub

/-- Value in force of a stored unsigned object, with its default. -/
def State.od (s : State) (idx sub dflt : Nat) : Nat :=
  match tabGet s.dict.od (odKey idx sub) with
  | some v => leNat v
  | none => dflt

/-- Value in force of a stored signed object, with its default. -/
def State.odInt (s : State) (idx sub : Nat) (dflt : Int) : Int :=
  match tabGet s.dict.od (odKey idx sub) with
  | some v => leInt v
  | none => dflt

/-- Octets in force of a stored object, if it differs from its default. -/
def State.odOctets (s : State) (idx sub : Nat) : Option (List Byte) := tabGet s.dict.od (odKey idx sub)

/-! ### Free values -/

/-- Takes a free value. -/
def State.takeFree (s : State) : BitVec 64 × State := (Config.freeValue s.free, { s with free := s.free + 1 })

/-! ### Status codes and answers (R14, R502) -/

/-- Detail codes of R502, by cause. -/
inductive Detail where
  | noIndex | noSub | writeOnly | readOnly | role | length | range | state | other | session | busy | full
  deriving DecidableEq, Repr

/-- Numeric value of a detail code (R502). -/
def Detail.code : Detail → BitVec 32
  | .noIndex => 0x06020000 | .noSub => 0x06090011 | .writeOnly => 0x06010001 | .readOnly => 0x06010002
  | .role => 0x06010000 | .length => 0x06070010 | .range => 0x06090030 | .state => 0x08000022
  | .other => 0x08000020 | .session => 0x08000000 | .busy => 0x08000021 | .full => 0x05040005

/-- Detail code that goes with a status where no rule names a closer one (R502). -/
def detailOf : Status → BitVec 32
  | .ok => 0
  | .enablePending => 0
  | .busy => Detail.busy.code
  | .full => Detail.full.code
  | _ => Detail.other.code

/-- Answers the latest request with a status (R14). -/
def State.answer (s : State) (st : Status) : State := { s with ans := { status := st, detail := detailOf st } }

/-- Answers OK with a value. -/
def State.answerValue (s : State) (v : List Byte) : State := { s with ans := { status := .ok, value := v } }

/-- Answers DENIED with a detail code (R502). -/
def State.deny (s : State) (d : Detail) : State := { s with ans := { status := .denied, detail := d.code } }

/-- Puts a message on a port. -/
def State.emit (s : State) (o : Out) : State := { s with out := o :: s.out }

/-- Runs a change when the role suffices and answers DENIED otherwise (R13). -/
def State.asRole (s : State) (r min : Role) (f : State → State) : State :=
  if min.rank ≤ r.rank then f s else s.deny .role

/-- The unit is in *Listening*. -/
def State.listening (s : State) : Bool := s.dev.dstate = .listening

/-- Runs a change in *Listening* and answers DENIED otherwise. -/
def State.inListening (s : State) (f : State → State) : State :=
  if s.listening then f s else s.deny .state

/-- The unit is a standby of a pair. -/
def State.standby (s : State) : Bool := s.dev.dstate = .hotStandby || s.dev.dstate = .warmStandby

/-- The unit transmits corrections (R112). -/
def State.transmits (s : State) : Bool := s.dev.dstate = .run || s.dev.dstate = .debugSession

/-- The unit is in *Run*. -/
def State.inRun (s : State) : Bool := s.dev.dstate = .run

/-- The hold gate lets FRA, FRB, STOP_OUT and axis motion through: the unit is single, or it holds and its
partner does not (R361). -/
def State.pairGate (s : State) : Bool := !s.pair.paired || (s.pair.holding && !s.pair.holdIn)

/-- The run line: *Run*, and in a pair the hold (R221, R359). It falls with step 2 of R31. -/
def State.runLine (s : State) : Bool := s.dev.dstate = .run && !s.dev.lineDown && (!s.pair.paired || s.pair.holding)

/-- Sets a cause of *Listening* (R29). The transition that follows is taken at the next management tick (R24). -/
def State.setCause (s : State) (i : Nat) : State :=
  { s with dev := { s.dev with cause := s.dev.cause ||| (1#8 <<< i) } }

/-- Clears a cause of *Listening* (R29). -/
def State.clearCause (s : State) (i : Nat) : State :=
  { s with dev := { s.dev with cause := s.dev.cause &&& ~~~(1#8 <<< i) } }

/-- Repeats a change a number of times. -/
def iterate {α : Type} (f : α → α) : Nat → α → α
  | 0, x => x
  | n + 1, x => iterate f n (f x)

end Sys2Proof.Machine
end

