-- ==== Sys2Proof/Machine/Clock.lean ====
section
/-!
DEFINITION. The clock: how the time bases, the FBC and the operating seconds run on, and the instants they show
(spec/10_time.md, R318 to R338).
-/
namespace Sys2Proof.Machine

/-- One ns of a base, whose time is held in 2^-32 ns (R322). -/
def nsUnit : Nat := 4294967296

/-- What a base advances by at one CLK_TIM edge without slew (R322). -/
def Base.inc (b : Base) : Nat := (10737418240 + b.rate.toInt).toNat

/-- A base after `n` CLK_TIM edges: rate, and slew spread evenly (R322, R323). -/
def Base.after (b : Base) (n : Nat) : Base :=
  let adv := n * b.inc
  if b.slew = 0 then { b with t := b.t + adv }
  else
    let acc := b.slewFrac + adv * b.slewRt.toNat
    let give := min (acc / 1000000000) b.slew.natAbs
    let rest := if 0 < b.slew then b.slew - give else b.slew + give
    { b with
      t := if 0 < b.slew then b.t + adv + give else b.t + adv - give
      slew := rest
      slewFrac := if rest = 0 then 0 else acc % 1000000000 }

/-- Whole ns of a base. -/
def Base.ns (b : Base) : Nat := b.t / nsUnit

/-- The NS field (R319). -/
def Base.nsField (b : Base) : BitVec 32 := BitVec.ofNat 32 b.ns

/-- SUB (R319). -/
def Base.sub (b : Base) : Nat := b.ns % 1000000000

/-- SEC (R319). -/
def Base.sec (b : Base) : Nat := b.ns / 1000000000

/-- Full time in ms. -/
def Base.ms (b : Base) : Nat := b.ns / 1000000

/-- A base set forward or back by whole ns, never below 0. -/
def Base.shift (b : Base) (d : Int) : Base := { b with t := ((b.t : Int) + d * nsUnit).toNat }

/-- CLK_TIM edges times 32 in one tick of the 32.768 kHz crystal: 390,625. -/
def fbcTick : Nat := 390625

/-- FBC increment in 2^-32 ns (R336). -/
def Fbc.inc (f : Fbc) : Nat := f.incH.toNat * nsUnit + f.incL.toNat

/-- The FBC after `n` CLK_TIM edges; `tb0` is TB0 before them. A load acts at the first crystal edge (R336, R337). -/
def Fbc.after (f : Fbc) (tb0 : Base) (n : Nat) : Fbc :=
  let ph := f.phase + 32 * n
  let k := ph / fbcTick
  if k = 0 then { f with phase := ph }
  else
    let first := (fbcTick - f.phase + 31) / 32
    let back := ph % fbcTick / 32
    let t0 := if f.loadReq then (tb0.after first).t + (k - 1) * f.inc else f.t + k * f.inc
    { f with
      phase := ph % fbcTick
      t := t0
      loadReq := false
      valid := f.valid || f.loadReq
      loadAt := if f.loadReq then (tb0.after first).t else f.loadAt
      cap := (tb0.after (n - back)).nsField }

/-- A master domain copies TB0 plus its offset (R327). -/
def Base.copy (b tb0 : Base) : Base :=
  { b with t := ((tb0.t : Int) + b.aofs.toInt * nsUnit).toNat, rate := tb0.rate, slew := tb0.slew,
           slewFrac := tb0.slewFrac, slewRt := tb0.slewRt, st := tb0.st }

/-- TIM after `n` CLK_TIM edges. -/
def Tim.after (t : Tim) (n : Nat) : Tim :=
  let b0 := t.base[0].after n
  let f := fun (b : Base) => if b.track then b.copy b0 else b.after n
  { t with
    ticks := t.ticks + n
    base := #v[b0, f t.base[1], f t.base[2], f t.base[3], t.base[4].after n]
    fbc := t.fbc.after t.base[0] n }

/-- Operating seconds after `k` crystal ticks with VIN valid (R561). -/
def Evr.tick (e : Evr) (k : Nat) : Evr :=
  { e with opTicks := (e.opTicks + k) % 32768, opsec := e.opsec + BitVec.ofNat 32 ((e.opTicks + k) / 32768) }

/-- The unit `n` CLK_TIM edges later, with nothing but its clocks moved. -/
def State.run (s : State) (n : Nat) : State :=
  let k := (s.tim.fbc.phase + 32 * n) / fbcTick
  { s with tim := s.tim.after n, evr := if s.pwr.vinOk then s.evr.tick k else s.evr }

/-- In *Dormant* only PD_AON's crystal runs: the FBC and the operating seconds `k` ticks later (R33, R338). -/
def State.sleep (s : State) (k : Nat) : State :=
  { s with tim := { s.tim with fbc := { s.tim.fbc with t := s.tim.fbc.t + k * s.tim.fbc.inc } },
           evr := if s.pwr.vinOk then s.evr.tick k else s.evr }

/-! ### Instants -/

/-- Time base `n`, 0 to 4. -/
def State.tb (s : State) (n : Fin 5) : Base := s.tim.base[n]

/-- TB0 in ns. -/
def State.tb0ns (s : State) : Nat := s.tim.base[0].ns

/-- TB4 in ns. -/
def State.tb4ns (s : State) : Nat := s.tim.base[4].ns

/-- Full TB4 time in ms (R17). -/
def State.tb4ms (s : State) : Nat := s.tim.base[4].ms

/-- Fleet time, 32 bits (R319). -/
def State.fleetMs (s : State) : BitVec 32 := BitVec.ofNat 32 s.tb4ms

/-- TB5 in ns. -/
def State.tb5ns (s : State) : Nat := s.tim.ticks * 5 / 2

/-- TB5 in ms. -/
def State.tb5ms (s : State) : Nat := s.tim.ticks / 400000

/-- TB5 in units of 10 us (R456). -/
def State.tb5u10 (s : State) : Nat := s.tim.ticks / 4000

/-- TB5 in units of 10 ns. -/
def State.tb5c (s : State) : Nat := s.tim.ticks / 4

/-- TB5 in s. -/
def State.tb5s (s : State) : Nat := s.tim.ticks / 400000000

/-- Cycle number of an instant given in ms of full TB4 (R17). -/
def cycleOf (ms : Nat) : BitVec 32 := BitVec.ofNat 32 (ms / 50)

/-! ### Moving to an instant: a periodic command or an expiry stands for its instant, and time never moves back -/

/-- The least number at which a test holds that, once true, stays true; searched below 2^k above `lo`. -/
def least (p : Nat → Bool) (lo : Nat) : Nat → Nat
  | 0 => lo
  | k + 1 => if p (lo + 2 ^ k - 1) then least p lo k else least p (lo + 2 ^ k) k

/-- CLK_TIM edges until a base reaches an instant in ns. -/
def Base.ticksTo (b : Base) (ns : Nat) : Nat := least (fun n => ns ≤ (b.after n).ns) 0 64

/-- Moves to the first edge at which TB4 has reached `ns`. -/
def State.reachTb4 (s : State) (ns : Nat) : State :=
  if ns ≤ s.tb4ns then s else s.run (s.tim.base[4].ticksTo ns)

/-- Moves to the first edge at which TB0 has reached `ns`. -/
def State.reachTb0 (s : State) (ns : Nat) : State :=
  if ns ≤ s.tb0ns then s else s.run (s.tim.base[0].ticksTo ns)

/-- Moves to the first edge at which a base has reached `ns`. -/
def State.reachBase (s : State) (n : Fin 5) (ns : Nat) : State :=
  if ns ≤ (s.tb n).ns then s else s.run ((s.tb n).ticksTo ns)

/-- Moves to a count of CLK_TIM edges. -/
def State.reachTicks (s : State) (t : Nat) : State := if t ≤ s.tim.ticks then s else s.run (t - s.tim.ticks)

/-- Moves to an instant of TB5 in ms. -/
def State.reachMs (s : State) (ms : Nat) : State := s.reachTicks (ms * 400000)

/-- Moves to an instant of TB5 in ns, at the first edge at or after it. -/
def State.reachNs (s : State) (ns : Nat) : State := s.reachTicks ((ns * 2 + 4) / 5)

/-! ### Time-error estimate (R332) -/

/-- Time-error estimate of a base in ns, none when unknown (R332). -/
def State.te (s : State) (n : Fin 5) : Option Nat :=
  let b := if (s.tb n).track then s.tb 0 else s.tb n
  let y := s.od 0x4000 4 2000
  let d := s.od 0x4000 5 50
  match b.st with
  | .locked => some (b.es + b.delta.natAbs)
  | .catchup => some (b.es + (b.slew.natAbs + nsUnit - 1) / nsUnit)
  | .free => b.te0
  | _ => b.te0.map fun t0 =>
      let t := s.tb5ns - b.te0At
      t0 + (y * t + 99999999999) / 100000000000 + (d * t * t + 1999999999999999999999) / 2000000000000000000000

/-- A base's time is valid while its estimate is at most its holdover limit (R332). -/
def State.timeValid (s : State) (n : Fin 5) : Bool :=
  match s.te n with
  | some e => e ≤ s.od (0x4010 + n) 8 1000
  | none => false

end Sys2Proof.Machine
end

