-- ==== Sys2Proof/Machine/Log.lean ====
section
/-!
DEFINITION. Event records: stamping, commit to the always-on buffer, and the start of a flush
(spec/18_event_recorder.md, R558 to R566, R573).
-/
namespace Sys2Proof

/-- Subject of a block's event (R560). -/
def Event.subject : Event → BitVec 8
  | .heartbeatLost | .canState => 0x10
  | .stateChange | .accessViolation | .monitorEvent | .jobOverrun | .fleetStopped | .eccDouble
  | .clockFailure | .vstopFall | .voutOverload | .temperature | .refLost | .pllFailed
  | .selfTestFailed | .calibrationCleared | .testenHigh | .slotFallback | .rolledBack | .imageActivated
  | .lifeCycleChanged => 0x20
  | .biasFault | .surveyDone | .stationMismatch | .ntripRefused | .stationPosition => 0x30
  | .integrityLost | .integrityRecovered | .staleVerdict | .baselineChanged => 0x38
  | .jumpRefused => 0x40
  | .nodeMissed | .nodeUnreachable | .nodeDrift | .keyExhausted => 0x50
  | .mapRejected | .mapInForce | .corridorInvalid | .memberSilent
  | .staleEpoch | .tfcFailed => 0x60
  | .sf1Demand | .sf1Reset | .zoneStop | .zoneReset | .sf4Change | .laneExcluded | .safeState | .degradedSet
  | .estopFault | .discrepancy | .loopbackMissing | .stopBurst | .configAdopted | .configRefused
  | .outFault | .laneDisagreed | .resetRefused => 0x70
  | .axisFault | .axisLimit | .homingFailed | .inputUnstable
  | .gateLost => 0x78
  | .claim | .takeover | .raceLost | .holdConflict | .linkState | .helloRefused | .pairTime | .eligibility
  | .keepAliveLost | .samePosition | .swap | .unknownCorridor | .axisAlignment | .partnerLost => 0x80
  | .loginFailed | .keyRefused | .keyImported | .keyRenewed | .enrolment | .tamper | .tamperCleared
  | .debugTokenFailed | .debugEnabled | .certificate => 0x90

/-- SEV of a block's event: 3 for every type of subject 0x70 and for no other (R560); 2 for the fall of VSTOP_OK
(R617); otherwise the catalogue's value, which the spec does not state. -/
def Event.sev (e : Event) : Nat :=
  if e.subject = 0x70 then 3
  else match e with
    | .vstopFall => 2
    | _ => (Config.eventSev e).val

end Sys2Proof

namespace Sys2Proof.Machine

/-- Octets a record with a body of `body` octets occupies (R558). -/
def recOctets (body : Nat) : Nat := (16 + 10 + body + 3) / 4 * 4

/-- Octets held in the buffer (R575). -/
def Evr.fill (e : Evr) : Nat := (e.buffer.map Rec.size).sum

/-- A record's header as the recorder fills it (R559). -/
def State.mkRec (s : State) (typ : RecType) (sev : Nat) (body : RecBody) (len : Nat) (aon : Bool) : Rec :=
  let fbc := s.tim.base[0].st = .free || s.tim.fbc.clkFail || s.dev.dstate = .dormant
  { typ := typ, sev := sev, body := body, size := recOctets len
    opsec := s.evr.opsec, pcyc := s.evr.pcyc.setWidth 24
    fbc := fbc, tinv := !s.timeValid 0, aon := aon, degr := s.evr.degr, test := s.sec.testRoot
    stamp := if fbc then s.tim.fbc.t / nsUnit else s.tb0ns }

/-- Starts a flush or marks the one in progress (R566); degraded mode starts none (R573). -/
def Evr.startFlush (e : Evr) (power : Bool) : Evr :=
  if e.degr then e
  else match e.flush with
    | none => { e with flush := some ⟨power, e.buffer.length, false⟩ }
    | some f => { e with flush := some (if power then { f with power := true } else { f with again := true }) }

/-- Drops the oldest records after the pinned LOG_FAILED until `need` octets fit (R573). -/
def Evr.makeRoom (e : Evr) (need : Nat) : Nat → Evr
  | 0 => e
  | k + 1 =>
    if e.fill + need ≤ 16384 then e
    else match e.buffer with
      | p :: _ :: t =>
        { e with buffer := p :: t, lostCnt := bump e.lostCnt, lostUp := bump e.lostUp }.makeRoom need k
      | _ => e

/-- Commits a record to the buffer and says how (R563, R565, R573). `lost` is the RECORDS_LOST record to put first
when records were lost before. -/
def Evr.commit (e : Evr) (r lostRec : Rec) : Evr × Status :=
  if e.degr then
    let e' := e.makeRoom r.size e.buffer.length
    ({ e' with buffer := e'.buffer ++ [r] }, .ok)
  else if 16384 < e.fill + r.size + 32 then
    ({ e with lost := true, lostCnt := bump e.lostCnt, lostUp := bump e.lostUp, lostRun := e.lostRun + 1 }, .full)
  else
    let pre := if e.lostRun = 0 then e.buffer else e.buffer ++ [lostRec]
    let e1 := { e with buffer := pre ++ [r], lostRun := 0 }
    if 2 ≤ r.sev || 12288 ≤ e1.fill then (e1.startFlush false, .ok) else (e1, .ok)

/-- The unit after a record was committed, and the status of the commit. In degraded mode the record also goes out as
an EVENT message on the service port (R573). -/
def State.commitRec (s : State) (r : Rec) : State × Status :=
  let lostRec := s.mkRec (.code 0x0002) 1 (.octets (leBytes 4 s.evr.lostRun)) 4 false
  let c := s.evr.commit r lostRec
  ({ s with evr := c.1, out := if s.evr.degr then .serviceEvent r :: s.out else s.out }, c.2)

/-- A record of a block's event with its numbers; the layout of its body is the catalogue's (R560). -/
def State.event (s : State) (e : Event) (n : List Nat) : State :=
  (s.commitRec (s.mkRec (.event e) e.sev (.numbers n) (Config.eventBody e).val false)).1

/-- A record PD_AON writes without a core (R551). -/
def State.eventAon (s : State) (e : Event) (n : List Nat) : State :=
  (s.commitRec (s.mkRec (.event e) e.sev (.numbers n) (Config.eventBody e).val true)).1

/-- A record of the recorder's own (R562). -/
def State.ownRec (s : State) (code : BitVec 16) (sev : Nat) (body : List Byte) : State :=
  (s.commitRec (s.mkRec (.code code) sev (.octets body) body.length false)).1

/-- Starts a flush (R566). -/
def State.flushLog (s : State) : State := { s with evr := s.evr.startFlush false }

end Sys2Proof.Machine
end

