-- ==== Sys2Proof/Machine/Irq.lean ====
section
/-!
DEFINITION. Acceptance of jobs by the JDX, the way of a flow's jobs to the ready lists, and the interrupt router
(spec/14_cores_dispatch.md, R456 to R466).
-/
namespace Sys2Proof.Machine

/-- Quota of a world (R458). -/
def jobQuota (w : BitVec 2) : Nat :=
  match w.toNat with
  | 0 => 2816 | 1 => 1024 | 2 => 256 | _ => 0

/-- Jobs of a world accepted and not ended (R458). -/
def Cores.jobCount (c : Cores) (w : BitVec 2) : Nat := (c.jobs.filter fun a => a.job.world = w).length

/-- World of an application core (R448): cores 12 to 14 by FLEET, core 15 Service, the others Vendor. -/
def Cores.worldOf (c : Cores) (k : Fin 16) : BitVec 2 :=
  if k.val = 15 then 2
  else if 12 ≤ k.val && c.fleet.getLsbD (k.val - 12) then 1
  else 0

/-- The remembered core of a flow, if it still belongs to the job's world (R460). -/
def Cores.remembered (c : Cores) (j : Job) : Option (Fin 16) :=
  match tabGet c.served j.flow.toNat with
  | some k => if c.worldOf k = j.world then some k else none
  | none => none

/-- No older job of the flow is still unended, and none of it is in service (R459). -/
def Cores.isOldest (c : Cores) (a : Accepted) : Bool :=
  match c.jobs.filter fun b => b.job.flow = a.job.flow with
  | b :: _ => b.seq = a.seq
  | [] => false

/-- A due time that lies ahead, in 10 us units of TB5 (R461). -/
def dueAhead (due : BitVec 32) (now : Nat) : Bool :=
  let d := (due - BitVec.ofNat 32 now).toNat
  1 ≤ d && d ≤ 2147483647

/-- Moves the oldest job of every flow on: to the delay lists or to a ready list (R459, R461). -/
def Cores.promote (c : Cores) (now nowC : Nat) : Cores :=
  c.jobs.foldl (fun c a =>
    if a.place = .behind && c.isOldest a then
      if a.job.delay && dueAhead a.job.due now then
        { c with jobs := c.jobs.map fun b => if b.seq = a.seq then { b with place := .delayed } else b }
      else
        { c with
          jobs := c.jobs.map fun b =>
            if b.seq = a.seq then { b with place := .ready c.nextReady (c.remembered a.job).isSome nowC } else b
          nextReady := c.nextReady + 1 }
    else c) c

/-- Accepts a job if its world is below quota (R458). -/
def Cores.accept (c : Cores) (j : Job) (now nowC : Nat) : Option Cores :=
  if c.jobCount j.world < jobQuota j.world then
    some (Cores.promote { c with jobs := c.jobs ++ [⟨c.nextSeq, j, .behind⟩], nextSeq := c.nextSeq + 1 } now nowC)
  else none

/-- The record of an interrupt source; a source that is not listed reads as at reset (R466). -/
def Cores.src (c : Cores) (n : Nat) : IntSrc := tabGetD {} c.srcs n

/-- Sources that exist (R464). -/
def intSourceExists (n : Nat) : Bool :=
  n ≤ 3 || (8 ≤ n && n ≤ 10) || (12 ≤ n && n ≤ 14) || (16 ≤ n && n ≤ 20) || (24 ≤ n && n ≤ 29) ||
  (32 ≤ n && n ≤ 41) || (44 ≤ n && n ≤ 46) || (48 ≤ n && n ≤ 52) || (64 ≤ n && n ≤ 96)

/-- Sets the pending bit of an enabled source and raises its direct interrupt; source 96 is always direct to core 0
(R464, R465). -/
def Cores.raiseDirect (c : Cores) (n : Nat) (core : Nat) : Cores := { c with direct := c.direct ++ [(core, n)] }

/-- JDX_FAULT.OVF is set, with its own interrupt (R458, R464). -/
def Cores.setOvf (c : Cores) : Cores :=
  let x := c.src 96
  let c' := { c with ovf := true, nOvf := if c.ovf then c.nOvf else bump c.nOvf }
  if !x.en then c'
  else if x.pend then { c' with srcs := tabSet {} c'.srcs 96 { x with merge := satInc x.merge } }
  else { c' with srcs := tabSet {} c'.srcs 96 { x with pend := true } }.raiseDirect 96 0

/-- An event of a source (R465): merged while pending; else a job from its template or a direct interrupt. -/
def Cores.raise (c : Cores) (n : Nat) (now nowC : Nat) : Cores :=
  let x := c.src n
  if !x.en then c
  else if x.pend then { c with srcs := tabSet {} c.srcs n { x with merge := satInc x.merge } }
  else
    let c1 := { c with srcs := tabSet {} c.srcs n { x with pend := true } }
    if x.direct then c1.raiseDirect n x.core.toNat
    else
      let j := tabGetD {} c.tpls x.tpl.toNat
      match c1.accept { j with user := j.user.set 0 (BitVec.ofNat 32 n) } now nowC with
      | some c2 => c2
      | none => c1.setOvf

/-- An event of an interrupt source (R464, R465). -/
def State.raise (s : State) (n : Nat) : State := { s with cores := s.cores.raise n s.tb5u10 s.tb5c }

/-- Posts a job of Vendor firmware (R457). -/
def State.postJob (s : State) (j : Job) : Option State :=
  (s.cores.accept j s.tb5u10 s.tb5c).map fun c => { s with cores := c }

end Sys2Proof.Machine
end

