-- ==== Sys2Proof/Machine/Fifo.lean ====
section
/-!
DEFINITION. The hardware queues' operations that engines and cores share (spec/15_memory_queues_crc.md, R479 to R491).
-/
namespace Sys2Proof.Machine

/-- Size in words (R479). -/
def Queue.words (q : Queue) : Nat := 2 ^ (q.size.toNat + 5)

/-- Ping-pong organisation (R479). -/
def Queue.pingPong (q : Queue) : Bool := q.words ≤ 256

/-- Words held (R488). -/
def Queue.held (q : Queue) : Nat := q.avail.length + q.filling.length

/-- Words a writer finds room for (R480, R481). -/
def Queue.room (q : Queue) : Nat :=
  if q.pingPong then q.words / 2 - q.filling.length else q.words - q.avail.length

/-- A hand-over can take place now: the draining bank is empty, and the filling bank is full or has held a word for
the flush time (R480). -/
def Queue.canHandOver (q : Queue) (now : Nat) : Bool :=
  q.pingPong && q.avail.isEmpty && !q.filling.isEmpty &&
    (q.filling.length = q.words / 2 || (match q.fillFrom with
      | some t => t + q.flush.toNat ≤ now
      | none => false))

/-- Hands the banks over (R480). -/
def Queue.handOver (q : Queue) : Queue :=
  { q with avail := q.filling, filling := [], fillFrom := none, bank := !q.bank }

/-- The queue once a hand-over that can take place has taken place. -/
def Queue.settle (q : Queue) (now : Nat) : Queue := if q.canHandOver now then q.handOver else q

/-- Adds words, for which there is room (R480, R481). -/
def Queue.add (q : Queue) (ws : List (BitVec 64)) (now : Nat) : Queue :=
  if q.pingPong then
    { q with filling := q.filling ++ ws, fillFrom := if q.filling.isEmpty then some now else q.fillFrom }.settle now
  else
    { q with avail := q.avail ++ ws, wptr := BitVec.ofNat 17 ((q.wptr.toNat + ws.length) % (2 * q.words)) }

/-- Takes the oldest available word (R482). -/
def Queue.take (q : Queue) : Queue :=
  { q with avail := q.avail.tail
           rptr := if q.pingPong then q.rptr else BitVec.ofNat 17 ((q.rptr.toNat + 1) % (2 * q.words)) }

/-- Queue `n` of the unit. -/
def State.queue (s : State) (n : Fin 32) : Queue := s.ques.q[n]

/-- Puts a queue back, raising source 64 + n when AVAIL rises to the threshold (R488). -/
def State.setQueue (s : State) (n : Fin 32) (q : Queue) : State :=
  let old := (s.queue n).avail.length
  let s' := { s with ques := { s.ques with q := s.ques.q.set n q } }
  if q.thr ≠ 0 && old < q.thr.toNat && q.thr.toNat ≤ q.avail.length then s'.raise (64 + n) else s'

/-- Words of a circular queue stored in the queue SRAM from its write pointer on (R479, R490). -/
def sramStore (m : List (Nat × BitVec 64)) (base words : Nat) : Nat → List (BitVec 64) → List (Nat × BitVec 64)
  | _, [] => m
  | p, w :: t => sramStore (tabSet 0 m (base + p % words) w) base words (p + 1) t

/-- Adds words to a queue that is ON and has room, and keeps the queue SRAM in step. -/
def State.queueAdd (s : State) (n : Fin 32) (ws : List (BitVec 64)) : State :=
  let q := (s.queue n).settle s.tb5c
  let s1 := if q.pingPong then s
    else { s with ques := { s.ques with sram := sramStore s.ques.sram q.base.toNat q.words q.wptr.toNat ws } }
  s1.setQueue n (q.add ws s.tb5c)

/-- An engine's record: accepted only when the queue is ON and has room for all its words (R485, R487). -/
def State.enginePush (s : State) (n : Fin 32) (ws : List (BitVec 64)) : Option State :=
  let q := (s.queue n).settle s.tb5c
  if q.ctl.st = .on && ws.length ≤ q.room then some (s.queueAdd n ws) else none

/-- A queue number register field as a queue. -/
def queueOf (n : BitVec 5) : Fin 32 := n.toFin

/-- The queue emptied and its pointers and banks reset, with a release of every stalled access (R487). -/
def Queue.reset (q : Queue) : Queue :=
  { q with
    avail := [], filling := [], fillFrom := none, bank := false, wptr := 0, rptr := 0, stalled := []
    ports := q.stalled.foldl (fun ps a =>
      ps.map fun p => if p.master = a.master then
        (if a.word.isSome then { p with full := true } else { p with empty := true }) else p) q.ports }

end Sys2Proof.Machine
end

