-- ==== Sys2Proof/Machine/Vetch.lean ====
section
/-!
DEFINITION. Vetch: evaluation, commit, release, marking and invalidation of corridors
(spec/05_vetch_corridors.md).
-/
namespace Sys2Proof.Machine

/-! ### Fleet time (R165, R166) -/

/-- A time lies within 2^30 ms of fleet time (R166). -/
def inRange (now t : BitVec 32) : Bool := (t - now + 0x40000000).toNat < 2 ^ 31

/-! ### Words (R170, R171, R173) -/

/-- A header word's fields (R170). -/
structure VHeader where
  /-- OP -/
  op : Nat
  /-- NCELLS -/
  ncells : Nat
  /-- MEMBER -/
  member : Nat
  /-- UNSENT -/
  unsent : Bool
  /-- MARK -/
  mark : Nat
  /-- TAG -/
  tag : BitVec 16
  /-- CORRIDOR -/
  corr : BitVec 16

/-- Reads a header word (R170). -/
def VHeader.ofWord (w : Dword) : VHeader :=
  let n := w.toNat
  ⟨bitsOf n 7 0, bitsOf n 15 8, bitsOf n 24 16, bitAt n 25, bitsOf n 31 26, w.extractLsb' 32 16, w.extractLsb' 48 16⟩

/-- A requested cell (R171). -/
structure CellAsk where
  /-- entry time -/
  entry : BitVec 32
  /-- exit time -/
  exit : BitVec 32
  /-- cell ID -/
  cell : Nat
  /-- planned speed, mm/s -/
  v : Nat
  /-- reserved bits of word B -/
  rsvd : Nat

/-- Reads a cell's two words (R171). -/
def CellAsk.ofWords (p : Dword × Dword) : CellAsk :=
  ⟨p.1.extractLsb' 0 32, p.1.extractLsb' 32 32, bitsOf p.2.toNat 19 0, bitsOf p.2.toNat 35 20, bitsOf p.2.toNat 63 36⟩

/-- Reasons of DENIED (R175). -/
inductive DenyReason where
  | format | member | cls | ncells | cellId | link | repeated | mask | speed | timeOrder | timeRange | world
  | unknownCorr | frozen | recon | idLive | noMap
  deriving DecidableEq, Repr

/-- Numeric value of a reason (R175). -/
def DenyReason.code : DenyReason → Nat
  | .format => 1 | .member => 2 | .cls => 3 | .ncells => 4 | .cellId => 5 | .link => 6 | .repeated => 7 | .mask => 8
  | .speed => 9 | .timeOrder => 0xA | .timeRange => 0xB | .world => 0xC | .unknownCorr => 0xD | .frozen => 0xE
  | .recon => 0xF | .idLive => 0x10 | .noMap => 0x11

/-- Verdict on an operation. -/
inductive VVerdict where
  | ok
  | busy
  | denied (r : DenyReason) (cell : Nat)
  | short (cell : Nat)
  | full
  | conflict (cell : Nat) (corr : BitVec 16) (blocker : Nat)
  | gate (cell : Nat)
  deriving DecidableEq, Repr

/-- Status of a verdict. -/
def VVerdict.status : VVerdict → Status
  | .ok => .ok | .busy => .busy | .denied _ _ => .denied | .short _ => .envelopeShort | .full => .full
  | .conflict _ _ _ => .conflict | .gate _ => .gateNotReady

/-! ### Map, members, classes -/

/-- A cell of the map in force. -/
def Cre.cell (c : Cre) (i : Nat) : Option MapCell :=
  match c.map with
  | some m => m.cells[i]?
  | none => none

/-- CRE_MEMBERm. -/
def Cre.member (c : Cre) (m : Nat) : CreMember := tabGetD {} c.members m

/-- Puts a member's record back. -/
def Cre.setMember (c : Cre) (m : Nat) (x : CreMember) : Cre := { c with members := tabSet {} c.members m x }

/-- Class record of a member. -/
def Cre.classOf (c : Cre) (m : Nat) : RobotClass := c.classes[(c.member m).cls.toFin]

/-- Live corridors of a member (R192, NCORR). -/
def Cre.ncorr (c : Cre) (m : Nat) : Nat := (c.corrs.filter fun k => k.holder = m).length

/-- The live corridor of an ID. -/
def Cre.corr (c : Cre) (id : BitVec 16) : Option Corridor := c.corrs.find? fun k => k.id = id

/-- A corridor ID is live. -/
def Cre.live (c : Cre) (id : BitVec 16) : Bool := c.corrs.any fun k => k.id = id

/-- A stop-envelope table is valid (R162). -/
def RobotClass.tableOk (r : RobotClass) : Bool :=
  r.speed[0] = 0 && (List.range 15).all fun k =>
    (r.speed.toList.getD k 0).toNat < (r.speed.toList.getD (k + 1) 0).toNat &&
      (r.dist.toList.getD k 0).toNat ≤ (r.dist.toList.getD (k + 1) 0).toNat

/-- Stop distance at a planned speed: that of the first point at or above it (R163). -/
def RobotClass.stopDist (r : RobotClass) (v : Nat) : Option Nat :=
  match (r.speed.toList.zip r.dist.toList).find? fun p => v ≤ p.1.toNat with
  | some p => some p.2.toNat
  | none => none

/-- A reservation is indefinite (R180, R181). -/
def Resv.indefinite (b : Resv) : Bool := b.overdue || b.frozen

/-- Two cells are one, or conflict on the map (R176). -/
def Cre.sameGround (c : Cre) (a b : Nat) : Bool :=
  a = b || (match c.cell a with
    | some m => m.confl.contains b
    | none => false)

/-- The conflict test of a cell, window and holder against a live reservation (R176). -/
def Cre.conflicts (c : Cre) (holder cell : Nat) (entry exit : BitVec 32) (b : Resv) : Bool :=
  if b.holder = holder || !c.sameGround cell b.cell then false
  else
    let g := BitVec.ofNat 32 (max (c.classOf holder).guardMs.toNat (c.classOf b.holder).guardMs.toNat)
    if b.indefinite then !precEq (exit + g) b.entry
    else !(precEq (exit + g) b.entry || precEq (b.exit + g) entry)

/-! ### Checks (R174) -/

/-- The operations of R172 by code. -/
def vetchOps : List Nat := [1, 2, 3, 4, 5, 6, 7]

/-- A reserved header field is not 0 (R170). -/
def VHeader.badFormat (h : VHeader) : Bool :=
  !vetchOps.contains h.op || (h.op ≠ 1 && h.op ≠ 2 && h.op ≠ 7 && h.ncells ≠ 0) || (h.op ≠ 3 && h.unsent) ||
    (h.op ≠ 2 && h.op ≠ 3 && h.op ≠ 7 && h.corr ≠ 0)

/-- The operation may come on the Fleet queue (R172). -/
def VHeader.fleetMay (h : VHeader) : Bool := h.op = 1 || h.op = 2 || (h.op = 3 && !h.unsent)

/-- Header checks, in their order (R174, R175). -/
def Cre.headerCheck (c : Cre) (vendor : Bool) (h : VHeader) : Option DenyReason :=
  let req := h.op = 1 || h.op = 7
  let rel := h.op = 2 || h.op = 3
  let k := c.corr h.corr
  let mine := match k with
    | some k => k.holder = h.member
    | none => false
  let frozenCorr := c.resv.any fun p => p.2.corr = h.corr && p.2.frozen
  let cells := match k with
    | some k => k.ncells
    | none => 0
  if h.badFormat then some .format
  else if !vendor && !h.fleetMay then some .world
  else if h.member = 0 || 256 < h.member || !(c.member h.member).active then some .member
  else if req && !(c.classOf h.member).en then some .cls
  else if req && c.map.isNone then some .noMap
  else if h.op = 7 && !c.recon then some .recon
  else if h.op = 7 && (h.corr = 0 || c.live h.corr) then some .idLive
  else if rel && !mine then some .unknownCorr
  else if rel && !h.unsent && frozenCorr then some .frozen
  else if h.op = 4 && (c.member h.member).frozen then some .frozen
  else if req && (h.ncells = 0 || 64 < h.ncells) then some .ncells
  else if h.op = 2 && (h.ncells = 0 || cells < h.ncells) then some .ncells
  else none

/-- Checks of cell `i` by itself (R174, R175). -/
def Cre.cellCheck (c : Cre) (cls : BitVec 4) (now : BitVec 32) (a : CellAsk) : Option DenyReason :=
  if a.rsvd ≠ 0 then some .format
  else match c.cell a.cell with
    | none => some .cellId
    | some m =>
      if !m.cmask.getLsbD cls.toNat then some .mask
      else if m.vmax < a.v then some .speed
      else if !precedes a.entry a.exit then some .timeOrder
      else if !inRange now a.entry || !inRange now a.exit then some .timeRange
      else none

/-- Checks of a cell against the one before it and those before that (R174, R175). -/
def Cre.stepCheck (c : Cre) (prev : List CellAsk) (a : CellAsk) : Option DenyReason :=
  match prev with
  | [] => none
  | p :: _ =>
    let linked := match c.cell p.cell with
      | some m => m.nbs.contains a.cell
      | none => false
    if !linked then some .link
    else if prev.any fun q => q.cell = a.cell then some .repeated
    else if precedes a.entry p.entry || precedes p.exit a.entry then some .timeOrder
    else none

/-- Cell checks, cell by cell; `prev` holds the cells before, the nearest first. -/
def Cre.cellChecks (c : Cre) (cls : BitVec 4) (now : BitVec 32) (prev : List CellAsk) :
    List CellAsk → Option (DenyReason × Nat)
  | [] =>
    match prev with
    | p :: t => if precedes now p.exit then none else some (.timeRange, t.length)
    | [] => none
  | a :: t =>
    match c.cellCheck cls now a with
    | some r => some (r, prev.length)
    | none =>
      match c.stepCheck prev a with
      | some r => some (r, prev.length)
      | none => c.cellChecks cls now (a :: prev) t

/-- Length of a cell, mm. -/
def Cre.lenOf (c : Cre) (a : CellAsk) : Nat :=
  match c.cell a.cell with
  | some m => m.len
  | none => 0

/-- Lowest cell that fails the stop envelope (R164). -/
def Cre.envelope (c : Cre) (r : RobotClass) (i : Nat) : List CellAsk → Option Nat
  | [] => none
  | a :: t =>
    let ahead := ((a :: t).map c.lenOf).sum
    match r.stopDist a.v with
    | some d => if d ≤ ahead then c.envelope r (i + 1) t else some i
    | none => some i

/-- The live reservation with the earliest entry time among some. -/
def earliest : List Resv → Option Resv
  | [] => none
  | b :: t =>
    match earliest t with
    | some x => if precedes x.entry b.entry then some x else some b
    | none => some b

/-- Lowest cell that conflicts, and the blocker (R174, R177). -/
def Cre.conflictAt (c : Cre) (holder i : Nat) : List CellAsk → Option (Nat × Resv)
  | [] => none
  | a :: t =>
    match earliest ((c.resv.map Prod.snd).filter fun b => c.conflicts holder a.cell a.entry a.exit b) with
    | some b => some (i, b)
    | none => c.conflictAt holder (i + 1) t

/-- Gate of a cell, when it is gated. -/
def Cre.gateOf (c : Cre) (cell : Nat) : Option Gate :=
  match c.cell cell, c.map with
  | some m, some t => if m.gated then t.gates[m.gidx]? else none
  | _, _ => none

/-- An axis reads locked with its position inside a gate's window (R21, R183). -/
def State.gateReady (s : State) (g : Gate) : Bool :=
  let a := s.mot.axis[g.axis]
  a.locked && g.low ≤ a.mo.pos && a.mo.pos ≤ g.high

/-- Lowest gated cell that is not ready (R183). -/
def State.gateAt (s : State) (i : Nat) : List CellAsk → Option Nat
  | [] => none
  | a :: t =>
    match s.cre.gateOf a.cell with
    | some g => if s.gateReady g then s.gateAt (i + 1) t else some i
    | none => s.gateAt (i + 1) t

/-- The verdict on an operation against the table as it stands (R174, R177). -/
def State.vetchVerdict (s : State) (vendor : Bool) (h : VHeader) (cells : List CellAsk) : VVerdict :=
  let c := s.cre
  if s.blk.cre.st ≠ .on || (h.op = 1 && c.recon) then .busy
  else match c.headerCheck vendor h with
    | some r => .denied r 0
    | none =>
      if h.op ≠ 1 && h.op ≠ 7 then .ok
      else match c.cellChecks (c.member h.member).cls s.fleetMs [] cells with
        | some p => .denied p.1 p.2
        | none =>
          match c.envelope (c.classOf h.member) 0 cells with
          | some i => .short i
          | none =>
            if 8192 < c.resv.length + cells.length || 4 ≤ c.ncorr h.member then .full
            else match c.conflictAt h.member 0 cells with
              | some p => .conflict p.1 p.2.corr p.2.holder
              | none =>
                match s.gateAt 0 cells with
                | some i => .gate i
                | none => .ok

/-! ### Commit (R177 to R183) -/

/-- The next corridor ID that is neither 0 nor live, searched `n` steps (R179). -/
def Cre.nextFree (c : Cre) (id : BitVec 16) : Nat → BitVec 16
  | 0 => id
  | n + 1 => if id = 0 || c.live id then c.nextFree (id + 1) n else id

/-- The lowest free entry number from `i` on, searched `n` steps. -/
def freeEntry (t : List (Nat × Resv)) (i : Nat) : Nat → Nat
  | 0 => i
  | n + 1 => if (tabGet t i).isSome then freeEntry t (i + 1) n else i

/-- Reserves cells from index `i` on (R178, R183). -/
def Cre.reserve (c : Cre) (id : BitVec 16) (holder i : Nat) : List CellAsk → Cre
  | [] => c
  | a :: t =>
    let r : Resv :=
      { cell := a.cell, holder := holder, entry := a.entry, exit := a.exit, corr := id, idx := i, overdue := false
        frozen := false, blocked := false, hold := (c.gateOf a.cell).map Gate.axis, aged := false }
    { c with resv := tabPut c.resv (freeEntry c.resv 0 8192) r }.reserve id holder (i + 1) t

/-- Commits a corridor under an ID (R177). -/
def Cre.commitCorr (c : Cre) (id : BitVec 16) (holder : Nat) (cells : List CellAsk) : Cre :=
  { c.reserve id holder 0 cells with corrs := c.corrs ++ [⟨id, holder, cells.length, none⟩] }

/-- Drops corridors of which no live cell remains (R182). -/
def Cre.dropEmpty (c : Cre) : Cre :=
  { c with corrs := c.corrs.filter fun k => c.resv.any fun p => p.2.corr = k.id }

/-- Frees the reservations that a test picks (R182). -/
def Cre.free (c : Cre) (f : Resv → Bool) : Cre := ({ c with resv := c.resv.filter fun p => !f p.2 }).dropEmpty

/-- Changes the reservations of a member. -/
def Cre.mapResv (c : Cre) (m : Nat) (f : Resv → Resv) : Cre :=
  { c with resv := c.resv.map fun (p : Nat × Resv) => if p.2.holder = m then (p.1, f p.2) else p }

/-- What an operation that is OK does to the table (R172). -/
def Cre.apply (c : Cre) (h : VHeader) (cells : List CellAsk) : Cre :=
  match h.op with
  | 1 =>
    let c1 := c.commitCorr c.nextId h.member cells
    { c1 with nextId := c1.nextFree (c.nextId + 1) 1026 }
  | 2 => c.free fun r => r.corr = h.corr && r.idx < h.ncells
  | 3 => c.free fun r => r.corr = h.corr
  | 4 => (c.setMember h.member { c.member h.member with frozen := true }).mapResv h.member fun r => { r with frozen := true }
  | 5 => (c.setMember h.member { c.member h.member with frozen := false }).mapResv h.member fun r =>
      { r with frozen := false }
  | 6 => (c.setMember h.member { c.member h.member with frozen := false }).free fun r => r.holder = h.member
  | _ => c.commitCorr h.corr h.member cells

/-! ### Invalidation (R184) -/

/-- Number of a reason in a record. -/
def InvalidReason.code : InvalidReason → Nat
  | .blocked _ => 0 | .gateLost => 1 | .restart => 2

/-- Corridor that blocks, in a record. -/
def InvalidReason.blocker : InvalidReason → Nat
  | .blocked b => b.toNat
  | _ => 0

/-- Latches a corridor invalid, with its record and interrupt (R184, R464). -/
def State.invalidate (s : State) (id : BitVec 16) (r : InvalidReason) : State :=
  match s.cre.corr id with
  | some k =>
    if k.invalid.isSome then s
    else
      let c := s.cre
      let s1 := { s with cre := { c with
        corrs := c.corrs.map fun (x : Corridor) => if x.id = id then { x with invalid := some r } else x
        counts := { c.counts with invalidations := bump c.counts.invalidations } } }
      (s1.event .corridorInvalid [id.toNat, k.holder, r.code, r.blocker]).raise 20
  | none => s

/-- Invalidates corridors in turn. -/
def State.invalidateAll (s : State) (l : List (BitVec 16 × InvalidReason)) : State :=
  l.foldl (fun s p => s.invalidate p.1 p.2) s

/-- The indefinite reservation of another holder that conflicts with a live reservation, if any (R184). -/
def Cre.blockerOf (c : Cre) (r : Resv) : Option Resv :=
  (c.resv.map Prod.snd).find? fun b => b.indefinite && c.conflicts r.holder r.cell r.entry r.exit b

/-- Marks reservations BLOCKED and invalidates their corridors (R184). -/
def State.blockScan (s : State) : State :=
  let c := s.cre
  let hit := c.resv.filterMap fun p => (c.blockerOf p.2).map fun b => (p.2.corr, InvalidReason.blocked b.corr)
  let s1 := { s with cre := { c with
    resv := c.resv.map fun (p : Nat × Resv) => if (c.blockerOf p.2).isSome then (p.1, { p.2 with blocked := true }) else p } }
  s1.invalidateAll hit

/-- Corridors with a hold on an axis are invalidated (R184, R418). -/
def State.gateLost (s : State) (axis : Fin 8) : State :=
  s.invalidateAll ((s.cre.resv.filter fun p => p.2.hold = some axis).map fun p => (p.2.corr, .gateLost))

/-- Live holds of an axis (R183). -/
def Cre.holds (c : Cre) (axis : Fin 8) : Nat := (c.resv.filter fun p => p.2.hold = some axis).length

/-- Every reservation whose exit time fleet time no longer precedes is OVERDUE (R180). -/
def State.overdueScan (s : State) : State :=
  let now := s.fleetMs
  ({ s with cre := { s.cre with
      resv := s.cre.resv.map fun (p : Nat × Resv) => if precedes now p.2.exit then p else (p.1, { p.2 with overdue := true }) } }).blockScan

/-- Entry times more than 2^30 ms old move forward (R167). -/
def State.agedScan (s : State) : State :=
  let now := s.fleetMs
  { s with cre := { s.cre with
      resv := s.cre.resv.map fun (p : Nat × Resv) =>
        let d := (now - p.2.entry).toNat
        if 2 ^ 30 < d && d ≤ 2 ^ 31 then (p.1, { p.2 with entry := now - 0x40000000, aged := true }) else p } }

/-- The CRE enters ON: R180 at once, and every live corridor invalid with reason RESTART (R193). -/
def State.creEnterOn (s : State) : State :=
  (s.invalidateAll (s.cre.corrs.map fun k => (k.id, .restart))).overdueScan

/-- Validity bit of a member (R186, R193). -/
def State.memberValid (s : State) (m : Nat) : Bool :=
  s.blk.cre.st = .on && (s.cre.member m).active && !(s.cre.member m).frozen &&
    s.cre.corrs.all fun k => k.holder ≠ m || k.invalid.isNone

/-! ### Operations (R168 to R173) -/

/-- What an operation answered. -/
structure VResult where
  /-- verdict -/
  v : VVerdict
  /-- assigned, restored, blocking or target corridor; else 0 (R173) -/
  corr : BitVec 16
  /-- result word 0 -/
  w0 : Dword
  /-- result word 1 -/
  w1 : Dword

/-- The two result words (R173). -/
def vetchWords (h : VHeader) (v : VVerdict) (corr : BitVec 16) (seq : BitVec 32) : Dword × Dword :=
  let rc : Nat × Nat × Nat := match v with
    | .denied r i => (r.code, i, 0)
    | .short i => (0, i, 0)
    | .conflict i _ b => (0, i, b)
    | .gate i => (0, i, 0)
    | _ => (0, 0, 0)
  (BitVec.ofNat 64 (v.status.code.toNat + rc.1 * 2 ^ 8 + rc.2.1 * 2 ^ 16 + h.op * 2 ^ 24 + h.tag.toNat * 2 ^ 32 +
      corr.toNat * 2 ^ 48),
   BitVec.ofNat 64 (seq.toNat + h.member * 2 ^ 32 + rc.2.2 * 2 ^ 41))

/-- Counts an answer (R194). -/
def CreCounts.count (k : CreCounts) (op : Nat) (st : Status) : CreCounts :=
  match st with
  | .ok => if op = 1 then { k with committed := bump k.committed } else k
  | .conflict => { k with conflict := bump k.conflict }
  | .envelopeShort => { k with envelope := bump k.envelope }
  | .gateNotReady => { k with gate := bump k.gate }
  | .full => { k with full := bump k.full }
  | .denied => { k with denied := bump k.denied }
  | .busy => { k with busy := bump k.busy }
  | _ => k

/-- Decides and commits one operation (R174, R177). -/
def State.vetchDecide (s : State) (vendor : Bool) (h : VHeader) (cells : List CellAsk) : State × VResult :=
  let v := s.vetchVerdict vendor h cells
  let c := s.cre
  let c1 := if v = .ok then { c.apply h cells with seq := c.seq + 1 } else c
  let corr := match v with
    | .ok => if h.op = 1 then c.nextId else h.corr
    | .conflict _ b _ => b
    | _ => if h.op = 2 || h.op = 3 then h.corr else 0
  let w := vetchWords h v corr c1.seq
  let s1 := { s with cre := { c1 with counts := { c1.counts.count h.op v.status with
    maxInflight := BitVec.ofNat 16 (max c1.counts.maxInflight.toNat (c1.results.length + 1)) } } }
  let s2 := if v = .ok then s1.blockScan else s1
  ({ s2 with ans := { status := v.status, detail := detailOf v.status, corridor := corr } }, ⟨v, corr, w.1, w.2⟩)

/-- Result queue of a request queue (R168). -/
def State.resultQueue (s : State) (vendor : Bool) : Fin 32 := queueOf (if vendor then s.cre.vres else s.cre.fres)

/-- Writes a result, or holds it while its queue has no room or an older one of that queue waits (R169). -/
def State.vetchResult (s : State) (vendor : Bool) (w0 w1 : Dword) : State :=
  let hold := { s with cre := { s.cre with results := s.cre.results ++ [⟨vendor, w0, w1⟩] } }
  if s.cre.results.any fun r => r.vendor = vendor then hold
  else (s.enginePush (s.resultQueue vendor) [w0, w1]).getD hold

/-- Takes an operation's words from the front of its request queue, where they stand there (R168, R171). -/
def State.vetchTake (s : State) (vendor : Bool) (ws : List Dword) : State :=
  let n := queueOf (if vendor then s.cre.vreq else s.cre.freq)
  let q := (s.queue n).settle s.tb5c
  if q.avail.take ws.length = ws then s.setQueue n (iterate Queue.take ws.length q) else s

/-- One operation from header to result, at most 1,024 being in flight (R168, R169, R171). A word without a valid MARK is
discarded and counted. -/
def State.vetchOp (s : State) (vendor : Bool) (w : Dword) (cells : List (Dword × Dword)) : State × Option VResult :=
  let h := VHeader.ofWord w
  if s.blk.cre.st = .off || s.blk.cre.st = .starting || 1024 ≤ s.cre.results.length then (s, none)
  else
    let body := if h.op = 1 || h.op = 7 then cells.take h.ncells else []
    let s1 := s.vetchTake vendor (w :: body.flatMap fun p => [p.1, p.2])
    if h.mark ≠ 0x29 then
      ({ s1 with cre := { s1.cre with
          resync := bump s1.cre.resync, counts := { s1.cre.counts with discarded := bump s1.cre.counts.discarded } } },
        none)
    else
      let d := s1.vetchDecide vendor h (body.map CellAsk.ofWords)
      (d.1.vetchResult vendor d.2.w0 d.2.w1, some d.2)

/-- A header word of the unit's own firmware (R170). -/
def vetchHeader (op ncells member : Nat) (unsent : Bool) (tag corr : BitVec 16) : Dword :=
  BitVec.ofNat 64 (op + ncells * 2 ^ 8 + member * 2 ^ 16 + bit unsent * 2 ^ 25 + 0x29 * 2 ^ 26 + tag.toNat * 2 ^ 32 +
    corr.toNat * 2 ^ 48)

/-- An operation of the unit's own firmware, submitted on the Vendor queue. It takes effect in the order of submission;
while the CRE takes none its words wait in the queue (R168). -/
def State.vetchSend (s : State) (w : Dword) (cells : List (Dword × Dword)) : State × Option VResult :=
  let r := s.vetchOp true w cells
  match r.2 with
  | some _ => r
  | none => ((s.enginePush (queueOf s.cre.vreq) (w :: cells.flatMap fun p => [p.1, p.2])).getD s, none)

/-- A management operation that firmware submits. -/
def State.vetchSubmit (s : State) (op ncells member : Nat) (unsent : Bool) (corr : BitVec 16) : State :=
  (s.vetchSend (vetchHeader op ncells member unsent 0 corr) []).1

/-- Sets a header word's OP field to the operation a command names. -/
def withOp (w : Dword) (op : Nat) : Dword := (w &&& 0xFFFFFFFFFFFFFF00) ||| BitVec.ofNat 64 op

/-- Latches a reservation entry (R192). -/
def State.tabLatch (s : State) (i : BitVec 13) : State :=
  let d : Vector (BitVec 32) 4 := match tabGet s.cre.resv i.toNat with
    | some r => #v[BitVec.ofNat 32 (r.cell + r.holder * 2 ^ 20), r.entry, r.exit,
        BitVec.ofNat 32 (r.corr.toNat + r.idx * 2 ^ 16 + 2 ^ 24 + bit r.overdue * 2 ^ 25 + bit r.frozen * 2 ^ 26 +
          bit r.blocked * 2 ^ 27 + bit r.hold.isSome * 2 ^ 28 + bit r.aged * 2 ^ 29)]
    | none => #v[0, 0, 0, 0]
  { s with cre := { s.cre with tabIdx := i, tabD := d } }

/-! ### Registers (R192) -/

/-- Changes a class's record. -/
def State.setClass (s : State) (c : Fin 16) (f : RobotClass → RobotClass) : State :=
  { s with cre := { s.cre with classes := s.cre.classes.set c (f s.cre.classes[c]) } }

/-- A write of CRE_GUARDc (R192). -/
def State.guardWrite (s : State) (c : Fin 16) (w : Word) : State :=
  let r := s.cre.classes[c]
  let g : BitVec 14 := w.extractLsb' 0 14
  let r1 := if r.en || 10000 < g.toNat then r else { r with guardMs := g }
  let en := w.getLsbD 16
  s.setClass c fun _ => if en && !r1.tableOk then r1 else { r1 with en := en }

/-- A write of CRE_ENVc_k (R192). -/
def State.envWrite (s : State) (c k : Fin 16) (w : Word) : State :=
  let r := s.cre.classes[c]
  if r.en then s
  else s.setClass c fun _ => { r with speed := r.speed.set k (w.extractLsb' 0 16), dist := r.dist.set k (w.extractLsb' 16 16) }

/-- A write of CRE_MEMBERm (R192). -/
def State.creMemberWrite (s : State) (m : Nat) (w : Word) : State :=
  let x := s.cre.member m
  let busy := 0 < s.cre.ncorr m
  { s with cre := s.cre.setMember m { x with
      cls := if busy then x.cls else w.extractLsb' 0 4, active := w.getLsbD 4 || (busy && x.active) } }

/-- CRE register writes other than ENABLE (R192). -/
def State.creWrite (s : State) (off : Nat) (w : Word) : State :=
  let isOff := s.blk.cre.st = .off
  if h : 0x100 ≤ off ∧ off < 0x140 then s.guardWrite ⟨(off - 0x100) / 4, by omega⟩ w
  else if 0x400 ≤ off && off < 0x800 then s.creMemberWrite ((off - 0x400) / 4 + 1) w
  else if h : 0x800 ≤ off ∧ off < 0xC00 then
    s.envWrite ⟨(off - 0x800) / 0x40, by omega⟩ ⟨(off - 0x800) % 0x40 / 4, by omega⟩ w
  else match off with
    | 0x00 => { s with cre := { s.cre with recon := w.getLsbD 1 } }
    | 0x10 => if isOff && w.toNat % 64 = 0 then { s with cre := { s.cre with mapBase := w } } else s
    | 0x14 => if isOff then { s with cre := { s.cre with mapCells := w.extractLsb' 0 21 } } else s
    | 0x18 => { s with cre := { s.cre with
        vreq := w.extractLsb' 0 5, freq := w.extractLsb' 8 5, vres := w.extractLsb' 16 5, fres := w.extractLsb' 24 5 } }
    | 0x1C =>
      let n : BitVec 16 := w.extractLsb' 0 16
      if n = 0 then s else { s with cre := { s.cre with nextId := n } }
    | 0x30 => s.tabLatch (w.extractLsb' 0 13)
    | _ => s

/-! ### The map image (R154 to R160) -/

/-- Little-endian number of `n` octets at a place. -/
def leAt (l : List Byte) (a n : Nat) : Nat := leNat ((l.drop a).take n)

/-- Counts of an image: cells, conflicts, gates (R157). -/
def mapCounts (l : List Byte) : Nat × Nat × Nat := (leAt l 12 4, leAt l 16 4, leAt l 20 2)

/-- Conflict entry of an image. -/
def mapConfl (l : List Byte) (cells i : Nat) : Nat := leAt l (64 + 32 * cells + 4 * i) 4

/-- A cell record of an image (R154). -/
def mapCell (l : List Byte) (cells i : Nat) : MapCell :=
  let a := 64 + 32 * i
  let w := leAt l a 4
  let c := leAt l (a + 20) 4
  { zone := BitVec.ofNat 4 (bitsOf w 23 20), gated := bitAt w 24
    slots := (List.range 4).map fun j => if bitAt w (28 + j) then some (bitsOf (leAt l (a + 4 + 4 * j) 4) 19 0) else none
    confl := (List.range (bitsOf c 23 20)).map fun j => bitsOf (mapConfl l cells (bitsOf c 19 0 + j)) 19 0
    len := leAt l (a + 24) 2, vmax := leAt l (a + 26) 2, cmask := BitVec.ofNat 16 (leAt l (a + 28) 2)
    gidx := bitsOf (leAt l (a + 30) 2) 11 0 }

/-- Offset of the gate section. -/
def gateOff (cells confl : Nat) : Nat := 64 + 32 * cells + 4 * confl

/-- A gate entry of an image (R156). -/
def mapGate (l : List Byte) (off i : Nat) : Gate :=
  let a := off + 16 * i
  ⟨⟨leAt l a 1 % 8, by omega⟩, leInt ((l.drop (a + 4)).take 4), leInt ((l.drop (a + 8)).take 4)⟩

/-- The map an image describes. -/
def mapOf (l : List Byte) : TrackMap :=
  let n := mapCounts l
  { id := BitVec.ofNat 32 (leAt l 8 4), cells := (List.range n.1).map (mapCell l n.1)
    gates := (List.range n.2.2).map (mapGate l (gateOff n.1 n.2.1)) }

/-- Reserved fields of a cell record are 0 (R154). -/
def cellRsvdOk (l : List Byte) (i : Nat) : Bool :=
  let a := 64 + 32 * i
  bitsOf (leAt l a 4) 27 25 = 0 && ((List.range 4).all fun j => leAt l (a + 4 + 4 * j) 4 < 2 ^ 20) &&
    leAt l (a + 20) 4 < 2 ^ 24 && leAt l (a + 30) 2 < 2 ^ 12

/-- Reserved fields of a gate entry are 0 (R156). -/
def gateRsvdOk (l : List Byte) (off i : Nat) : Bool :=
  let a := off + 16 * i
  leAt l a 1 < 8 && leAt l (a + 1) 3 = 0 && leAt l (a + 12) 4 = 0

/-- Checks 4 to 10 of a well-sized image, in order; 0 when all pass (R158). -/
def mapDeepCheck (l : List Byte) : Nat :=
  let n := mapCounts l
  let m := mapOf l
  let idx := List.range n.1
  let off := gateOff n.1 n.2.1
  if !idx.all fun i => bitsOf (leAt l (64 + 32 * i) 4) 19 0 = i then 4
  else if (m.cells.zipIdx.any fun p => p.1.nbs.any fun b => n.1 ≤ b || b = p.2) ||
      (List.range n.2.1).any (fun i => n.1 ≤ bitsOf (mapConfl l n.1 i) 19 0) ||
      (m.cells.zipIdx.any fun p => p.1.confl.contains p.2) then 5
  else if idx.any fun i =>
      let c := leAt l (64 + 32 * i + 20) 4
      8 < bitsOf c 23 20 || n.2.1 < bitsOf c 19 0 + bitsOf c 23 20 then 6
  else if m.cells.zipIdx.any fun p => p.1.confl.any fun b =>
      !(match m.cells[b]? with
        | some x => x.confl.contains p.2
        | none => false) then 7
  else if (m.cells.any fun c => c.gated && n.2.2 ≤ c.gidx) || m.gates.any fun g => g.high < g.low then 8
  else if m.cells.any fun c => c.len = 0 then 9
  else if leAt l 6 2 ≠ 0 || leAt l 22 2 ≠ 0 || !((l.drop 30).take 30).all (fun b => b = 0) ||
      !idx.all (cellRsvdOk l) || (List.range n.2.1).any (fun i => 2 ^ 20 ≤ mapConfl l n.1 i) ||
      !(List.range n.2.2).all (gateRsvdOk l off) then 10
  else 0

/-- The code of the first check that fails, 0 when the image passes (R158). -/
def mapCheck (l : List Byte) : Nat :=
  let n := mapCounts l
  if l.length < 64 || leAt l 0 4 ≠ 0x504D5A4E || leAt l 4 2 ≠ 1 then 1
  else if (crc32c (l.take 60 ++ l.drop 64)).toNat ≠ leAt l 60 4 then 2
  else if n.1 = 0 || 1048576 < n.1 || 1048576 < n.2.1 || 4096 < n.2.2 ||
      l.length ≠ 64 + 32 * n.1 + 4 * n.2.1 + 16 * n.2.2 then 3
  else mapDeepCheck l

/-- Changes the map store's record. -/
def State.setStore (s : State) (f : MapStore → MapStore) : State := { s with cre := { s.cre with store := f s.cre.store } }

/-- The map of an image that passed is put in force: reservations, corridors and holds are emptied (R160). -/
def State.mapTake (s : State) (img : List Byte) : State :=
  let m := mapOf img
  { s with
    mem := s.mem.write s.cre.mapBase.toNat img
    cre := { s.cre with map := some m, mapCells := BitVec.ofNat 21 m.cells.length, resv := [], corrs := [] }
    dev := { s.dev with cause := s.dev.cause &&& 0xFB } }

/-- An image that passed is put in force, recorded, and on its way into the store when it fits (R160). -/
def State.mapInForce (s : State) (img : List Byte) : State :=
  let old := match s.cre.map with
    | some m => m.id.toNat
    | none => 0
  let fits := img.length ≤ 12582912
  (((s.mapTake img).setStore fun k => { k with
    validating := none, result := 0, inStore := false
    copying := if fits then some img else none, stored := if fits then k.stored else none }).clearCause 2).event .mapInForce
    [old, leAt img 8 4]

/-- MAP_VALIDATION_END (R158, R160). -/
def execMapValidationEnd (s : State) : Result :=
  match s.cre.store.validating with
  | none => .next s
  | some img =>
    if mapCheck img = 0 then .next (s.mapInForce img)
    else .next ((s.setStore fun k => { k with validating := none, result := BitVec.ofNat 8 (mapCheck img) }).event
      .mapRejected [mapCheck img])

/-- MAP_STORE_COPY_COMPLETE (R160). -/
def execMapStoreCopyComplete (s : State) : Result :=
  match s.cre.store.copying with
  | some img => .next (s.setStore fun k => { k with copying := none, stored := some img, inStore := true })
  | none => .next s

/-- OVERDUE_SCAN (R180): at the next ms of TB4, while the CRE is ON. -/
def execOverdueScan (s : State) : Result :=
  let s1 := s.reachTb4 ((s.tb4ns / 1000000 + 1) * 1000000)
  if s.blk.cre.st = .on then .next s1.overdueScan else .next s1

/-- AGED_SCAN (R167): in the ms of TB4 that OVERDUE_SCAN has reached. -/
def execAgedScan (s : State) : Result :=
  if s.blk.cre.st = .on then .next s.agedScan else .next s

/-- MARK_RESYNC_DISCARD (R171): a word read as a header; one with a valid MARK is no discard and is left. -/
def execMarkResyncDiscard (vendor : Bool) (w : Dword) (s : State) : Result :=
  if (VHeader.ofWord w).mark = 0x29 && vetchOps.contains (VHeader.ofWord w).op then .next s
  else .next (s.vetchOp vendor w []).1

end Sys2Proof.Machine
end

