-- ==== Sys2Proof/Machine/Profile.lean ====
section
/-!
DEFINITION. The profile generator: one 10 us step of a jerk-limited motion (spec/12_axes.md, R405, R406). Positions are in
10^-15 count, velocities in 10^-15 count per tick, accelerations and jerks likewise, so one tick adds jerk to
acceleration, acceleration to velocity and velocity to position, exactly. The rules bound the motion and fix where it
ends; the tick-by-tick course within those bounds is a DESIGN CHOICE (log entry 74).
-/
namespace Sys2Proof.Machine

/-- One count. -/
def countUnit : Nat := 1000000000000000

/-- Limits of a motion in tick units. -/
structure Limits where
  /-- velocity -/
  v : Nat
  /-- acceleration -/
  a : Nat
  /-- jerk -/
  j : Nat

/-- Velocity and acceleration of a profile. -/
structure Kin where
  /-- velocity -/
  v : Int
  /-- acceleration -/
  a : Int
  deriving DecidableEq, Repr

/-- The same motion seen in the other direction. -/
def Kin.neg (k : Kin) : Kin := ⟨-k.v, -k.a⟩

/-- After a jerk. -/
def Kin.step (k : Kin) (j : Int) : Kin := ⟨k.v + (k.a + j), k.a + j⟩

/-- Distance from velocity `v` at zero acceleration to rest (R406). -/
def restDistance (l : Limits) (v : Nat) : Nat :=
  if l.a * l.a ≤ v * l.j then v * v / (2 * l.a) + v * l.a / (2 * l.j) + 2
  else Nat.sqrt (v * v * v / l.j) + 2

/-- Distance to rest from a velocity of at least 0 and any acceleration, rounded up by one tick's travel. -/
def stopDistance (l : Limits) (k : Kin) : Int :=
  let a := k.a.natAbs
  let v1 : Int := k.v + a * a / (2 * l.j)
  if 0 ≤ k.a then k.v * a / l.j + a * a * a / (3 * l.j * l.j) + restDistance l v1.toNat + k.v + a
  else restDistance l v1.toNat - (v1 * a / l.j - a * a * a / (6 * l.j * l.j)) + k.v + a

/-- The velocity is not braked past rest: bringing the acceleration back to 0 leaves it at 0 or above. -/
def notOver (l : Limits) (k : Kin) : Bool := 0 ≤ k.a || k.a * k.a ≤ 2 * l.j * k.v

/-- The bounds of R405 hold and a stop before `rem` is possible. -/
def mayTake (l : Limits) (rem : Int) (k : Kin) : Bool :=
  k.a ≤ l.a && k.v + (if 0 ≤ k.a then k.a * k.a / (2 * l.j) + k.a else 0) ≤ l.v && stopDistance l k ≤ rem - k.v

/-- Jerk of a tick that brings a velocity of at least 0 to rest as fast as the bounds allow. -/
def brakeJerk (l : Limits) (k : Kin) : Int :=
  (least (fun n =>
    let x := k.step ((n : Int) - l.j)
    0 ≤ x.a + l.a && notOver l x) 0 (Nat.log2 (2 * l.j + 1) + 1) : Int) - l.j

/-- One tick towards rest. -/
def brakeTick (l : Limits) (k : Kin) : Kin :=
  if k.v.natAbs ≤ 3 && k.a.natAbs ≤ 3 then ⟨0, 0⟩
  else if 0 < k.v || (k.v = 0 && 0 < k.a) then k.step (max (-(l.j : Int)) (min l.j (brakeJerk l k)))
  else (k.neg.step (max (-(l.j : Int)) (min l.j (brakeJerk l k.neg)))).neg

/-- One tick towards a velocity. -/
def veloTick (l : Limits) (target : Int) (k : Kin) : Kin :=
  let d := brakeTick l ⟨k.v - target, k.a⟩
  ⟨d.v + target, d.a⟩

/-- One tick towards a point `rem` ahead, seen in its direction: the largest jerk that keeps every bound, else braking. -/
def aheadTick (l : Limits) (rem : Int) (k : Kin) : Kin :=
  if k.v < 0 then brakeTick l k
  else
    let n := least (fun n => mayTake l rem (k.step ((l.j : Int) - n))) 0 (Nat.log2 (2 * l.j + 1) + 1)
    if n ≤ 2 * l.j then k.step ((l.j : Int) - n) else brakeTick l k

/-- One tick towards a position: position, velocity and acceleration after it, and whether it has arrived at rest. -/
def moveTick (l : Limits) (pos target : Int) (k : Kin) : Int × Kin × Bool :=
  let rem := target - pos
  if rem.natAbs ≤ 3 && k.v.natAbs ≤ 3 && k.a.natAbs ≤ 3 then (target, ⟨0, 0⟩, true)
  else
    let x := if 0 ≤ rem then aheadTick l rem k else (aheadTick l (-rem) k.neg).neg
    (pos + x.v, x, false)

end Sys2Proof.Machine
end

