-- ==== Sys2Proof/Machine/Access.lean ====
section
/-!
DEFINITION. The address map, the firewall's decision and what a violation does
(spec/14_cores_dispatch.md, R450 to R454).
-/
namespace Sys2Proof.Machine

/-- One row of the address map: bounds, and the worlds that may read, write and execute (bit w for world w). -/
structure Region where
  /-- first address -/
  lo : Nat
  /-- last address -/
  hi : Nat
  /-- worlds that may read -/
  r : BitVec 3
  /-- worlds that may write -/
  w : BitVec 3
  /-- worlds that may execute -/
  x : BitVec 3
  /-- secure masters only -/
  sec : Bool := false
  deriving DecidableEq, Repr

/-- The memory regions of R451 and R453, in ascending order. The MRAM row is split at the end of the log region
(R569), the only part Service may read. -/
def regions : List Region := [
  ⟨0x00000000, 0x0000FFFF, 1, 0, 1, true⟩,
  ⟨0x08000000, 0x082FFFFF, 1, 1, 0, false⟩,
  ⟨0x08300000, 0x083BFFFF, 3, 3, 0, false⟩,
  ⟨0x083C0000, 0x083FFFFF, 5, 5, 0, false⟩,
  ⟨0x0C000000, 0x0C03FFFF, 1, 1, 0, true⟩,
  ⟨0x10000000, 0x103FFFFF, 5, 1, 0, false⟩,
  ⟨0x10400000, 0x107FFFFF, 1, 1, 0, false⟩,
  ⟨0x20000000, 0x23FFFFFF, 1, 0, 1, false⟩,
  ⟨0x30000000, 0x301FFFFF, 1, 1, 0, false⟩] ++ [
  ⟨0x80000000, 0x83FFFFFF, 3, 1, 0, false⟩,
  ⟨0x84000000, 0x87FFFFFF, 3, 1, 0, false⟩,
  ⟨0x88000000, 0x887FFFFF, 3, 1, 0, false⟩,
  ⟨0x88800000, 0x88FFFFFF, 3, 1, 0, false⟩,
  ⟨0x89000000, 0x9FFFFFFF, 1, 1, 0, false⟩,
  ⟨0xA0000000, 0xA0FFFFFF, 3, 1, 2, false⟩,
  ⟨0xA1000000, 0xAFFFFFFF, 3, 3, 0, false⟩,
  ⟨0xB0000000, 0xB3FFFFFF, 5, 5, 4, false⟩,
  ⟨0xB4000000, 0xBFFFFFFF, 1, 1, 0, false⟩]

/-- The region an address lies in, if any. -/
def regionOf (a : Nat) : Option Region := regions.find? fun r => r.lo ≤ a && a ≤ r.hi

/-- A world is among a set of worlds. -/
def worldIn (m : BitVec 3) (w : BitVec 2) : Bool := w.toNat < 3 && m.getLsbD w.toNat

/-- A queue's data port or a CRC channel is granted to a world (R489). -/
def granted (grant w : BitVec 2) : Bool := w = 0 || w = grant

/-- The firewall passes an access to a peripheral block at an offset (R452). TIM itself ignores writes of other worlds,
without an event (R350). -/
def State.periphAllows (s : State) (b : Bus) (blk off : Nat) (k : AccessKind) : Bool :=
  let v := b.world = 0
  let rd := k = .read
  match blk with
  | 0x00 => v || (rd && off ≤ 0x2F)
  | 0x03 => v || off ≤ 0x60
  | 0x07 => true
  | 0x11 =>
    v || (off < 0x100 && (if h : off / 0x40 < 4 then granted (s.ques.crc[off / 0x40]'h).world b.world else false))
  | 0x12 =>
    v || (0x1000 ≤ off && (if h : (off - 0x1000) / 0x20 < 32 then
      granted (s.ques.q[(off - 0x1000) / 0x20]'h).world b.world else false))
  | 0x13 => b.secure
  | 0x14 => v || (b.world = 2 && rd)
  | 0x16 => v || b.world = 2
  | 0x18 => v && rd
  | _ => v && blk ≤ 0x19

/-- Both checks of R450 pass for an access. -/
def State.allows (s : State) (b : Bus) (a : Nat) (k : AccessKind) : Bool :=
  if 0x40000000 ≤ a && a ≤ 0x4019FFFF && k ≠ .execute then
    s.periphAllows b ((a - 0x40000000) / 0x10000) (a % 0x10000) k
  else
    match regionOf a with
    | some r =>
      (!r.sec || b.secure) &&
        (match k with
         | .read => worldIn r.r b.world
         | .write => worldIn r.w b.world
         | .execute => worldIn r.x b.world)
    | none => false

/-- Number of an access kind in a violation record. -/
def AccessKind.code : AccessKind → Nat
  | .read => 0 | .write => 1 | .execute => 2

/-- The firewall's record of a violation: identical ones of one master within one second of TB5 share one (R454). -/
def State.violation (s : State) (b : Bus) (a : Nat) (k : AccessKind) : State :=
  let now := s.tb5ns
  let same := s.cores.viol.any fun v =>
    v.1 = b.id && v.2.1 = b.world.toNat && v.2.2.1 = a && v.2.2.2.1 = (AccessKind.code k) &&
      now < v.2.2.2.2 + 1000000000
  if same then s
  else
    let keep := s.cores.viol.filter fun v => now < v.2.2.2.2 + 1000000000
    let s1 := { s with cores := { s.cores with viol := (b.id, b.world.toNat, a, AccessKind.code k, now) :: keep
                                               nViol := bump s.cores.nViol } }
    s1.event .accessViolation [b.id, b.world.toNat, a, AccessKind.code k]

/-- Runs an access when the checks of R450 pass; otherwise it has no effect and is recorded (R454). -/
def State.guarded (s : State) (b : Bus) (a : Nat) (k : AccessKind) (f : State → State) : State :=
  if s.allows b a k then f s else (s.violation b a k).deny .other

end Sys2Proof.Machine
end

