-- ==== Sys2Proof/Machine/Emcy.lean ====
section
/-!
DEFINITION. The EMCY producer (spec/16_object_dictionary.md, R513), which several blocks raise.
-/
namespace Sys2Proof.Machine

/-- Value of a communication object of a CAN channel's copy (R509). -/
def State.odCan (s : State) (n : Fin 2) (idx sub dflt : Nat) : Nat := s.od (n.val * 65536 + idx) sub dflt

/-- Changes one CAN channel. -/
def State.setCan (s : State) (n : Fin 2) (f : Can → Can) : State :=
  { s with dict := { s.dict with can := s.dict.can.set n (f s.dict.can[n]) } }

/-- Emergency code of a condition (R513). -/
def EmcyCond.code : EmcyCond → Nat
  | .selfTest => 0x5000 | .fleetStopped => 0x6100 | .errPassive => 0x8120
  | .hbLost => 0x8130 | .sf1Active => 0xFF01 | .voterSafe => 0xFF02 | .integrityLost => 0xFF03

/-- Error-register bit of a condition (R513). -/
def EmcyCond.regBit : EmcyCond → Nat
  | .selfTest => 1 | .errPassive | .hbLost => 0x10 | _ => 0x80

/-- Error register of a channel, OD 0x1001: the bits of the conditions present (R513). -/
def Can.errReg (c : Can) : Nat := (c.conds.map EmcyCond.regBit).foldl (· ||| ·) 0

/-- The enable record of a CAN channel. -/
def State.canCtl (s : State) (n : Fin 2) : BlockCtl := if n = 0 then s.blk.can0 else s.blk.can1

/-- SDO and EMCY are served in *Pre-operational* and *Operational* of a channel that is ON and not bus-off (R510). -/
def State.canServes (s : State) (n : Fin 2) : Bool :=
  (s.canCtl n).st = .on && !s.dict.can[n].busOff && (s.dict.can[n].nmt = .preOperational || s.dict.can[n].nmt = .operational)

/-- Data of an EMCY frame: code, error register, type of the event record, first three payload octets of that record,
which are the low octets of its stamp's seconds (R513, R558). -/
def State.emcyData (s : State) (code reg : Nat) (ev : Event) : List Byte :=
  leBytes 2 code ++ leBytes 1 reg ++ [Config.eventCode ev, ev.subject] ++ leBytes 3 (s.tb0ns / 1000000000)

/-- The inhibit time of OD 0x1015, in 100 us, is over (R513). -/
def State.emcyFree (s : State) (n : Fin 2) : Bool :=
  match s.dict.can[n].emcyAt with
  | some t => t + s.odCan n 0x1015 0 0 ≤ s.tim.ticks / 40000
  | none => true

/-- Sends an EMCY frame, or keeps it until the inhibit time is over (R513). -/
def State.emcySend (s : State) (n : Fin 2) (data : List Byte) : State :=
  if !s.canServes n then s
  else
    let cob := s.odCan n 0x1014 0 (0x80 + s.dict.can[n].nodeId.toNat)
    if bitAt cob 31 then s
    else if s.emcyFree n && s.dict.can[n].emcyWait.isEmpty then
      (s.setCan n fun c => { c with emcyAt := some (s.tim.ticks / 40000) }).emit (.can n (cob % 2 ^ 29) data)
    else s.setCan n fun c => { c with emcyWait := c.emcyWait ++ [data] }

/-- Sends the oldest frame that waits for the inhibit time, once it is over (R513). -/
def State.emcyDrain (s : State) (n : Fin 2) : State :=
  match s.dict.can[n].emcyWait with
  | [] => s
  | d :: t =>
    let s1 := (s.setCan n fun c => { c with emcyWait := [] }).emcySend n d
    if s.emcyFree n then s1.setCan n fun c => { c with emcyWait := c.emcyWait ++ t } else s

/-- A condition of R513 arises on a channel. -/
def State.emcyOn (s : State) (n : Fin 2) (c : EmcyCond) (ev : Event) : State :=
  if s.dict.can[n].conds.contains c then s
  else
    let s1 := s.setCan n fun x => { x with conds := c :: x.conds }
    s1.emcySend n (s1.emcyData c.code s1.dict.can[n].errReg ev)

/-- A condition of R513 ends on a channel: 0x0000 when no other is present. -/
def State.emcyOff (s : State) (n : Fin 2) (c : EmcyCond) (ev : Event) : State :=
  if s.dict.can[n].conds.contains c then
    let s1 := s.setCan n fun x => { x with conds := x.conds.filter (· ≠ c) }
    if s1.dict.can[n].conds.isEmpty then s1.emcySend n (s1.emcyData 0 0 ev) else s1
  else s

/-- A code without an end: a lost receive frame or a recovery from bus-off (R513). -/
def State.emcyOnce (s : State) (n : Fin 2) (code : Nat) (ev : Event) : State :=
  s.emcySend n (s.emcyData code (s.dict.can[n].errReg ||| 0x10) ev)

/-- A condition of the unit arises, on both channels. -/
def State.emcyAllOn (s : State) (c : EmcyCond) (ev : Event) : State := (s.emcyOn 0 c ev).emcyOn 1 c ev

/-- A condition of the unit ends, on both channels. -/
def State.emcyAllOff (s : State) (c : EmcyCond) (ev : Event) : State := (s.emcyOff 0 c ev).emcyOff 1 c ev

/-- The loss of consumed heartbeats has ended on a channel when no node is lost (R511, R513). -/
def State.hbSettle (s : State) (n : Fin 2) : State :=
  if s.dict.can[n].hb.any fun w => w.lost then s else s.emcyOff n .hbLost .heartbeatLost

/-- A consumed heartbeat's watch changes. -/
def State.setHb (s : State) (n : Fin 2) (i : Fin 4) (w : HbWatch) : State := s.setCan n fun x => { x with hb := x.hb.set i w }

end Sys2Proof.Machine
end

