-- ==== Sys2Proof/Machine/TimeBase.lean ====
section
/-!
DEFINITION. Operations on the time bases that several commands share: steering states, steps, validity
(spec/10_time.md, R324 to R333).
-/
namespace Sys2Proof.Machine

/-- Changes one base. -/
def State.setTb (s : State) (n : Fin 5) (f : Base → Base) : State :=
  { s with tim := { s.tim with base := s.tim.base.set n (f s.tim.base[n]) } }

/-- Index of the domain of bases 1 to 3 (R352). -/
def domainOf (n : Fin 5) : Nat := 0x4200 + 0x10 * (n.val - 1)

/-- Base n is a slave domain that is enabled (R345). -/
def State.slaveDomain (s : State) (n : Fin 5) : Bool :=
  1 ≤ n.val && n.val ≤ 3 && s.od (domainOf n) 1 0 = 1 && s.od (domainOf n) 3 0 = 1

/-- TB4's source is TB0: a single unit or an active one (R327). -/
def State.tb4FromTb0 (s : State) : Bool := !s.standby

/-- Error bound of a base's source (R327). -/
def State.sourceBound (s : State) (n : Fin 5) (accuracy : Nat) : Nat :=
  match n.val with
  | 0 => 20
  | 4 => if s.tb4FromTb0 then (s.te 0).getD 4294967295 else 50
  | _ => 25 + accuracy

/-- Measurements in a row that qualify a base's source (R327). -/
def State.needed (s : State) (n : Fin 5) : Nat :=
  match n.val with
  | 0 => 10
  | 4 => if s.tb4FromTb0 then 1 else 10
  | _ => 8

/-- Jump threshold of a base, ns. -/
def State.jumpThreshold (s : State) (n : Fin 5) : Nat := s.od (0x4010 + n.val) 5 100

/-- Jump action 1 of a base; that of TB4 is always 0 (R331). -/
def State.awaitStep (s : State) (n : Fin 5) : Bool := n.val ≠ 4 && s.od (0x4010 + n.val) 7 0 = 1

/-- A base slews by an offset at its slew limit (R326, R330). -/
def Base.slewBy (b : Base) (d : Int) (limit : Nat) : Base :=
  { b with slew := d * nsUnit, slewFrac := 0, slewRt := BitVec.ofNat 11 (min limit 1000) }

/-- Slew limit of a base, ns/s. -/
def State.slewLimit (s : State) (n : Fin 5) : Nat := s.od (0x4010 + n.val) 6 1000

/-- TB4, steered to TB0, loses its source as TB0 leaves LOCKED (R327, R332). -/
def State.tb4Lost (s : State) (te0 : Nat) : State :=
  let b := s.tb 4
  if !s.tb4FromTb0 then s
  else
    let d := ((s.tb0ns : Int) - s.tb4ns).natAbs
    match b.st with
    | .locked => s.setTb 4 fun b =>
        { b with st := .holdover, slew := 0, slewFrac := 0, te0 := some (te0 + d), te0At := s.tb5ns
                 present := false, qualified := false, good := 0 }
    | .refused | .catchup => s.setTb 4 fun b =>
        { b with st := .holdover, slew := 0, slewFrac := 0, present := false, qualified := false, good := 0 }
    | _ => s.setTb 4 fun b => { b with present := false, qualified := false, good := 0 }

/-- TB4 follows when TB0 has left LOCKED. -/
def State.tb0Left (s : State) (n : Fin 5) (was : BaseState) (te0 : Nat) : State :=
  if n.val = 0 && was = .locked && (s.tb 0).st ≠ .locked then s.tb4Lost te0 else s

/-- The transition into REFUSED: JUMP_REFUSED flagged, a record, and with jump action 0 on to CATCHUP (R330). -/
def State.refuseJump (s : State) (n : Fin 5) (d : Int) : State :=
  let s1 := s.setTb n fun b =>
    { b with st := .refused, jump := true, refusals := bump b.refusals, slew := 0, slewFrac := 0 }
  let s2 := s1.event .jumpRefused [n.val, d.natAbs, bit (d < 0)]
  if s.awaitStep n then s2
  else s2.setTb n fun b => { b.slewBy d (s.slewLimit n) with st := .catchup }

/-- A base becomes LOCKED. -/
def State.lockBase (s : State) (n : Fin 5) (f : Base → Base) : State :=
  let s1 := s.setTb n fun b => { f b with st := .locked, service := true, jump := false }
  if n.val = 0 then { s1 with tim := { s1.tim with everLocked := true } } else s1

/-- A valid measurement of a base's source drives its state machine (R330). -/
def State.measured (s : State) (n : Fin 5) (d : Int) (es : Nat) : State :=
  let was := (s.tb n).st
  let te := (s.te n).getD 0
  let q := s.needed n ≤ (s.tb n).good + 1
  let s1 := s.setTb n fun b =>
    { b with delta := d, es := es, present := true, good := b.good + 1, qualified := q
             te0 := if b.st = .locked || b.st = .catchup then some (es + d.natAbs) else b.te0
             te0At := if b.st = .locked || b.st = .catchup then s.tb5ns else b.te0At }
  let small := d.natAbs ≤ s.jumpThreshold n
  let s2 := match was with
    | .free => if q then s1.lockBase n fun b => { b with step := some d, te0 := some (es + d.natAbs), te0At := s.tb5ns }
               else s1
    | .locked => if small then s1.setTb n fun b => b.slewBy d (s.slewLimit n) else s1.refuseJump n d
    | .holdover => if !q then s1 else if small then s1.lockBase n fun b => b.slewBy d (s.slewLimit n)
                   else s1.refuseJump n d
    | .refused => if s.awaitStep n then s1 else s1.setTb n fun b => { b.slewBy d (s.slewLimit n) with st := .catchup }
    | .catchup => if small then s1.lockBase n fun b => b.slewBy d (s.slewLimit n)
                  else s1.setTb n fun b => b.slewBy d (s.slewLimit n)
  let s3 := if (s2.tb n).st = was then s2 else s2.raise 25
  s3.tb0Left n was te

/-- A second without a valid measurement breaks the run that qualifies a source (R327). -/
def State.notMeasured (s : State) (n : Fin 5) : State :=
  s.setTb n fun b => { b with good := 0, qualified := if b.st = .locked || b.st = .catchup then b.qualified else false }

/-- A measurement of a base's source. A master domain copies TB0 and is not measured; TB4's offset to TB0 is the
unit's own. -/
def State.measure (s : State) (n : Fin 5) (delta : Option Int) (accuracy : Nat) : State :=
  if (s.tb n).track then s
  else match delta with
    | none => s.notMeasured n
    | some d =>
      if n.val = 4 && s.tb4FromTb0 then
        if (s.tb 0).st = .locked then s.measured 4 ((s.tb0ns : Int) - s.tb4ns) (s.sourceBound 4 0) else s
      else s.measured n d (s.sourceBound n accuracy)

/-- A base's source is lost (R327, R330). -/
def State.sourceLost (s : State) (n : Fin 5) : State :=
  let was := (s.tb n).st
  let te := (s.te n).getD 0
  if (s.tb n).track then s
  else if n.val = 4 && s.tb4FromTb0 then (if (s.tb 0).st = .locked then s else s.tb4Lost te)
  else
    let s1 := s.setTb n fun b =>
      { b with present := false, qualified := false, good := 0
               st := if b.st = .free then .free else .holdover
               slew := 0, slewFrac := 0 }
    let s2 := if (s1.tb n).st = was then s1 else s1.raise 25
    s2.tb0Left n was te

/-- TB4 enters service without a source (R329, R330). -/
def State.tb4Service (s : State) : State :=
  if (s.tb 4).service then s
  else s.setTb 4 fun b => { b with service := true, st := if b.st = .free then .holdover else b.st
                                   te0At := s.tb5ns }

/-- PPS outputs of a base whose time was displaced omit their next pulse (R325). -/
def State.ppsOmit (s : State) (p : Pps → Bool) : State :=
  { s with tim := { s.tim with pps := s.tim.pps.map fun o => if p o then { o with omit' := true } else o } }

/-- The next mid-second of a base, ns (R324). -/
def Base.midSecond (b : Base) : Nat :=
  if b.sub < 500000000 then b.sec * 1000000000 + 500000000 else (b.sec + 1) * 1000000000 + 500000000

/-- The step takes effect: time changes at once, STEPSEQ increments, a slew ends (R324, R325, R340); a step of TB0
shows in the next latch table (R79) and in the domains that copy TB0. -/
def State.stepBase (s : State) (n : Fin 5) (d : Int) : State :=
  let f := fun (b : Base) => { b with stepSeq := b.stepSeq + 1, slew := 0, slewFrac := 0, step := none }
  let s1 := s.setTb n fun b => f (b.shift d)
  if n.val = 0 then
    let g := fun (b : Base) => if b.track then f (b.copy s1.tim.base[0]) else b
    let t := { s1.tim with
      base := #v[s1.tim.base[0], g s1.tim.base[1], g s1.tim.base[2], g s1.tim.base[3], s1.tim.base[4]]
      refPhase := s1.tim.refPhase + 1 }
    let tracks := fun (o : Pps) => o.src = 0 ||
      (o.src = 1 && s.tim.base[1].track) || (o.src = 2 && s.tim.base[2].track) || (o.src = 3 && s.tim.base[3].track)
    { s1 with tim := t, gbb := { s1.gbb with stepFlag := true, lastEpoch := none } }.ppsOmit tracks
  else s1.ppsOmit fun o => o.src.toNat = n.val

/-- Output derived from a base is suppressed: time not valid or FREE, with invalid action 1 (R333). -/
def State.suppressed (s : State) (n : Fin 5) (action : Nat) : Bool :=
  action = 1 && ((s.tb n).st = .free || !s.timeValid n)

/-- A base number field as a base; 5 to 7 name none of TB0 to TB4. -/
def baseOf (v : BitVec 3) : Option (Fin 5) := if h : v.toNat < 5 then some ⟨v.toNat, h⟩ else none

/-- Applies what R333 says of the outputs of base n: GATE of its PPS outputs, and of REF10_OUT for TB0. -/
def State.applyGates (s : State) (n : Fin 5) : State :=
  let g := fun (p : Nat) (o : Pps) =>
    if o.src.toNat = n.val then { o with gate := !s.suppressed n (s.od 0x4100 (0x0B + p) 0) } else o
  let s1 := { s with tim := { s.tim with pps := #v[g 0 s.tim.pps[0], g 1 s.tim.pps[1]] } }
  let s2 := s1.setTb n fun b => { b with validNow := s.timeValid n }
  if n.val = 0 then
    { s2 with tim := { s2.tim with refGate := !s.suppressed 0 (s.od 0x4100 0x0E 0) } }
  else s2

end Sys2Proof.Machine
end

