-- ==== Sys2Proof/Machine/Waiting.lean ====
section
/-!
DEFINITION. The answers of writes that are decided later: by a lane period or a profile tick (spec/07_fleet_stop.md, R244;
spec/12_axes.md, R403, R426), and the frames and replies that carry answers (spec/16_object_dictionary.md, R512, R518,
R521).
-/
namespace Sys2Proof.Machine

/-- Changes the dictionary part. -/
def State.setDict (s : State) (f : Dict → Dict) : State := { s with dict := f s.dict }

/-- Changes one session. -/
def State.setSess (s : State) (i : Fin 11) (f : Session → Session) : State :=
  s.setDict fun d => { d with sess := d.sess.set i (f d.sess[i]) }

/-- The first octets of an SDO response: command octet, index, sub-index (R512). -/
def sdoHead (cs idx sub : Nat) : List Byte := leBytes 1 cs ++ leBytes 2 idx ++ leBytes 1 sub

/-- COB-ID of the SDO responses of a channel (R512). -/
def State.sdoCob (s : State) (n : Fin 2) : Nat := 0x580 + s.dict.can[n].nodeId.toNat

/-- An SDO abort: the abort code is the detail code (R502, R512). -/
def abortData (idx sub : Nat) (code : BitVec 32) : List Byte := sdoHead 0x80 idx sub ++ leBytes 4 code.toNat

/-- The status and the detail code of an answer are kept for OD 0x2020:02 and 03 of its session, while it is open (R502). -/
def State.noteStatus (s : State) (i : Fin 11) : State :=
  if s.dict.sess[i].opened then s.setSess i fun x => { x with status := s.ans.status.code, detail := s.ans.detail } else s

/-- A reply kept for a repeat of its request; a reply that follows later does not replace that of a later request (R521). -/
def Session.keepReply (x : Session) (seq : BitVec 32) (r : Reply) : Session :=
  match x.last with
  | some (l, _) => if precedes seq l then x else { x with last := some (seq, r) }
  | none => { x with last := some (seq, r) }

/-- Sends the answer as an NZ-OD or service-port reply and keeps it for a repeat of the request (R518, R520, R521). -/
def State.replySend (s : State) (i : Fin 11) (op : Nat) (seq : BitVec 32) (tagged : Bool) : State :=
  let r : Reply := ⟨s.ans.status.code, s.ans.detail, s.ans.value⟩
  (if s.dict.sess[i].opened then s.setSess i fun x => x.keepReply seq r else s).emit (.reply i.val (0x80 + op) seq r tagged)

/-- The answer of a write is one that lets an SDO transfer complete normally (R502). -/
def Answer.done (a : Answer) : Bool := a.status = .ok || a.status = .enablePending

/-- Counts a received RPDO as discarded, OD 0x1FFn:08 (R514). -/
def State.rpdoDiscard (s : State) (n : Fin 2) : State := s.setCan n fun c => { c with discarded := bump c.discarded }

/-- Response to a completed SDO download: of the initiate, with the object's name, or of its last segment (R512). -/
def sdoDone (cs idx sub : Nat) : List Byte := if cs = 0x60 then sdoHead cs idx sub ++ leBytes 4 0 else leBytes 1 cs ++ leBytes 7 0

/-- Answers a write: an SDO response or abort on CAN with COB-ID `cob`, the reply of WRITE elsewhere. Slots 11 and 12 stand
for an RPDO of CAN0 and CAN1, which nobody answers: one that was not answered OK is counted (R514). -/
def State.writeAnswer (s : State) (w : Waiting) (cob : Nat) : State :=
  if h : w.slot < 11 then
    let i : Fin 11 := ⟨w.slot, h⟩
    let s1 := s.noteStatus i
    if h2 : w.slot < 2 then
      s1.emit (.can ⟨w.slot, h2⟩ cob
        (if s1.ans.done then sdoDone w.seq.toNat w.index w.sub else abortData w.index w.sub s1.ans.detail))
    else s1.replySend i 4 w.seq w.tagged
  else if s.ans.status = .ok then s
  else s.rpdoDiscard (if w.slot = 11 then 0 else 1)

/-- A write that waited has been decided, with the status answered now: its reply follows. In *Stopped* SDO sends none. -/
def State.waitDone (s : State) (k : WaitFor) : State :=
  match s.dict.waiting.find? fun w => w.what = k with
  | some w =>
    let s1 := s.setDict fun d => { d with waiting := d.waiting.filter fun x => x.what ≠ k }
    let n : Fin 2 := if w.slot = 1 then 1 else 0
    if w.slot < 2 && !s1.canServes n then s1 else s1.writeAnswer w (s.sdoCob n)
  | none => s

/-- The status that a code stands for (R14). -/
def statusOf (code : BitVec 8) : Status :=
  ([.busy, .full, .conflict, .envelopeShort, .gateNotReady, .staleEpoch, .roleStale, .denied, .collide, .jumpRefused,
    .enablePending, .withheld].find? fun (st : Status) => st.code = code).getD .ok

end Sys2Proof.Machine
end

