-- ==== Sys2Proof/Machine/Axes.lean ====
section
/-!
DEFINITION. The infrastructure axes, block MOT: inputs, commands, profile tick, homing, gearing, faults and locks
(spec/12_axes.md).
-/
namespace Sys2Proof.Machine

/-! ### Access to an axis -/

/-- Axis n. -/
def State.axis (s : State) (n : Fin 8) : Axis := s.mot.axis[n]

/-- Puts an axis back. -/
def State.setAxis (s : State) (n : Fin 8) (a : Axis) : State :=
  { s with mot := { s.mot with axis := s.mot.axis.set n a } }

/-- A position held as a signed 32-bit value (R394). -/
def wrap32 (x : Int) : Int := (BitVec.ofInt 32 x).toInt

/-- An input reads active: filtered, or declared unstable (R399, R400). -/
def SwitchIn.reads (i : SwitchIn) : Bool := i.active || i.unstable

/-- STEP/DIR output (R424). -/
def Axis.stepDir (a : Axis) : Bool := a.cfg.out = 0

/-- The axis takes its position from an encoder (R394). -/
def Axis.byEncoder (a : Axis) : Bool := !a.stepDir || a.cfg.psrc

/-- Encoder count scaled by ESCL, its fraction discarded towards zero (R394). -/
def Axis.encPos (a : Axis) : Int :=
  if a.stepDir then Int.tdiv (a.mo.enc * a.cfg.escl.toNat) 65536 else a.mo.enc

/-- MOTn_POS from the counters (R394, R411, R422). -/
def Axis.readPos (a : Axis) : Int :=
  if a.byEncoder then wrap32 (a.encPos + a.mo.ofs + (if a.shadow then a.shOffset else 0)) else a.mo.step

/-- MOTn_FERR (R394). -/
def Axis.ferr (a : Axis) : Int :=
  if !a.stepDir then a.mo.cpos - a.mo.pos
  else if a.cfg.psrc then a.mo.step - a.mo.pos
  else 0

/-- At rest (R403). -/
def Axis.atRest (a : Axis) : Bool := a.mo.vel = 0 && a.mo.acc = 0 && a.mo.gear.isNone && a.mo.motion ≠ .toTarget

/-- Highest step rate, steps/s (R395). -/
def maxStepRate (spw : Nat) : Nat := min 5000000 (100000000 / (2 * spw))

/-- Homing in method 4 (R411, R415). -/
def Axis.stallHoming (a : Axis) : Bool :=
  match a.mo.homing with
  | some h => h.method = 4
  | none => false

/-- Limits of the profile in tick units: counts/s are 10^10 units, counts/s^2 are 10^5, counts/s^3 one. -/
def Axis.limits (a : Axis) : Limits :=
  { v := a.mo.vlim, a := max 1 ((if a.mo.byLdec then a.cfg.ldec else a.cfg.amax).toNat * 100000)
    j := max 1 a.cfg.jmax.toNat }

/-- VMAX in tick units. -/
def Axis.vmaxUnits (a : Axis) : Nat := a.cfg.vmax.toNat * 10000000000

/-- HSPD in tick units, whole or an eighth (R411). -/
def Axis.hspdUnits (a : Axis) (slow : Bool) : Nat := a.cfg.hspd.toNat * 10000000000 / (if slow then 8 else 1)

/-- Changes the motion. -/
def Axis.setMo (a : Axis) (f : AxisMotion → AxisMotion) : Axis := { a with mo := f a.mo }

/-! ### Stops (R408, R409, R413, R415) -/

/-- Ends gearing: the profile goes on from the present position and velocity with zero acceleration (R409). -/
def Axis.endGear (a : Axis) : Axis :=
  match a.mo.gear with
  | some _ => a.setMo fun m => { m with gear := none, armed := none, acc := 0, mode := .position }
  | none => a.setMo fun m => { m with armed := none }

/-- A ramp stop, by LDEC or by AMAX (R404, R408). -/
def Axis.ramp (a : Axis) (ldec : Bool) : Axis :=
  a.endGear.setMo fun m => { m with motion := .rampStop, byLdec := ldec }

/-- A hard stop: no further step; a setpoint freezes and the loop holds it (R408). -/
def Axis.hard (a : Axis) : Axis :=
  a.endGear.setMo fun m => { m with motion := .frozen, vel := 0, acc := 0, v := 0, cposF := 0 }

/-- The axis moves in a direction, true for positive. -/
def Axis.moves (a : Axis) (pos : Bool) : Bool := if pos then 0 < a.mo.vel else a.mo.vel < 0

/-- A homing is aborted by a limit (R413). -/
def Axis.homeAbort (a : Axis) (limP : Bool) : Axis :=
  { (a.ramp true).setMo fun m => { m with homing := none, mode := .position } with
    hfail := true, relOnly := some limP, homed := false }

/-- A limit became active, true for LIMP: homing aborts; motion towards it stops in the mode of LMODE (R408, R413). -/
def Axis.limitStop (a : Axis) (limP : Bool) : Axis :=
  if a.mo.homing.isSome then a.homeAbort limP
  else if a.moves limP then (if a.cfg.lmode then a.hard else a.ramp true)
  else a

/-- Limits that read active stop motion towards them (R401, R408). -/
def Axis.limitsApply (a : Axis) : Axis :=
  let a1 := if a.limP.reads && (a.mo.homing.isSome || a.moves true) && a.mo.motion ≠ .rampStop then a.limitStop true else a
  if a1.limN.reads && (a1.mo.homing.isSome || a1.moves false) && a1.mo.motion ≠ .rampStop then a1.limitStop false else a1

/-- The following error is above FELIM, outside method 4 (R415). -/
def Axis.ferrAbove (a : Axis) : Bool :=
  a.cfg.felim ≠ 0 && a.cfg.felim.toNat < a.ferr.natAbs && !a.stallHoming

/-- Causes of R415 present now, by bit. -/
def Axis.causes (a : Axis) : BitVec 7 :=
  let b := fun (i : Nat) (c : Bool) => if c then (1#7 <<< i) else 0#7
  b 0 a.ferrAbove |||
  b 1 (a.encErr && a.byEncoder) ||| b 2 a.drvFlt.reads ||| b 3 a.ovr |||
  b 4 (a.locked && a.cfg.lockTol.toNat < (a.mo.pos - a.lockPos).natAbs) |||
  b 5 (a.limP.reads && a.limN.reads) |||
  b 6 (a.stepDir && a.mo.gear.isSome && 1024 < (a.mo.cpos - a.mo.step).natAbs)

/-- Stop of a cause: ENC, DRV, LOCKD and LIMBOTH are hard, the others ramp (R415). -/
def hardCause (i : Nat) : Bool := i = 1 || i = 2 || i = 4 || i = 5

/-- Raises new fault causes: the bits and FAULT are set, the lock ends, and the stop begins (R415, R416). -/
def Axis.raiseFaults (a : Axis) (new : BitVec 7) : Axis :=
  if new = 0 then a
  else
    let hardStop := (List.range 7).any fun i => new.getLsbD i && hardCause i
    let a1 := if hardStop then a.hard else a.ramp true
    { a1.setMo fun m => { m with homing := none, mode := if m.gear.isSome then m.mode else .position } with
      cause := a.cause ||| new, fault := true, locked := false, homed := a.homed && !new.getLsbD 1 }

/-- Causes that are new at this tick. FERR ends at rest, so a following error that stands at rest raises it only where it
was not there at the tick before (R415; a log entry). -/
def Axis.newCauses (a : Axis) : BitVec 7 :=
  a.causes &&& ~~~a.cause &&& (if a.atRest && a.ferrStood then 0x7E else 0x7F)

/-- Causes still present on an axis at rest: DRV_FLT active, both limits active; the others have ended (R415). -/
def Axis.causesLeft (a : Axis) : BitVec 7 := a.cause &&& a.causes &&& 0x24

/-! ### Commands (R404) -/

/-- A target direction, true for positive, is shut by an active limit or RELONLY. -/
def Axis.shut (a : Axis) (pos : Bool) : Bool :=
  (if pos then a.limP.reads else a.limN.reads) || (match a.relOnly with
    | some limP => limP = pos
    | none => false)

/-- What MOVE and VEL find BUSY. -/
def Axis.motionBusy (a : Axis) : Bool := a.ctl.st ≠ .on || a.fault || a.locked || a.mo.homing.isSome

/-- Status of a command on an axis that carries `holds` holds (R404, R412, R419). While FAULT = 1 every command but STOP
and CLRFLT is BUSY at least (R415). -/
def Axis.check (a : Axis) (c : AxisCmd) (holds : Nat) : Status :=
  let t := c.tgt.toInt
  let rest := a.ctl.st ≠ .on || !a.atRest || a.fault || a.locked
  let pick := fun (denied busy : Bool) => if denied then Status.denied else if busy then .busy else .ok
  match c.code.toNat with
  | 1 =>
    let soft := a.homed && (t < a.cfg.slimLo.toInt || a.cfg.slimHi.toInt < t)
    let dir := (a.mo.cpos < t && a.shut true) || (t < a.mo.cpos && a.shut false)
    pick (soft || dir || (a.relOnly.isSome && t = a.mo.cpos)) a.motionBusy
  | 2 =>
    let dir := (0 < t && a.shut true) || (t < 0 && a.shut false)
    pick (a.cfg.vmax.toNat < t.natAbs || dir || (a.relOnly.isSome && t = 0)) a.motionBusy
  | 3 => .ok
  | 4 => pick (a.cfg.gden = 0 || a.relOnly.isSome) rest
  | 5 => pick (a.cfg.gden = 0) (a.mo.gear.isNone || a.fault)
  | 6 =>
    let m := c.param.toNat % 8
    let r412 := (m = 4 && (a.cfg.svc = 0 || !a.byEncoder)) ||
      (m ≤ 4 && (a.relOnly.isSome || a.limP.reads || a.limN.reads))
    pick (m = 0 || 5 < m || r412) rest
  | 7 => pick (a.cfg.svc ≠ 0 || !a.homed)
      (a.ctl.st ≠ .on || !a.atRest || a.fault || a.limP.reads || a.limN.reads)
  | 8 => pick false (0 < holds || a.fault)
  | 9 => pick false (a.causesLeft ≠ 0 || !a.atRest)
  | _ => .denied

/-- Home capture: the position reads HOMEPOS, the commanded position too (R411). -/
def Axis.capture (a : Axis) : Axis :=
  let h := a.cfg.homePos.toInt
  let d := h - a.mo.pos
  { a.setMo fun m => { m with
      cpos := h, cposF := 0, pos := h, step := if a.stepDir then h else m.step
      ofs := if a.byEncoder then m.ofs + d else m.ofs } with homed := true }

/-- Turns homing towards a velocity. -/
def Axis.homeVel (a : Axis) (negative slow : Bool) : Axis :=
  let v := a.hspdUnits slow
  a.setMo fun m => { m with
    motion := .toVelocity, target := if negative then -(v : Int) else v, vlim := v, byLdec := false }

/-- Starts homing (R411, R414). -/
def Axis.startHome (a : Axis) (param : BitVec 8) : Axis :=
  let m := param.toNat % 8
  let neg := param.getLsbD 3
  let a0 := { a with homed := false, hfail := false, stallTicks := 0 }
  let go := fun (ph : HomePhase) (a : Axis) =>
    a.setMo fun k => { k with mode := .homing, homing := some ⟨m, neg, ph, k.pos⟩ }
  match m with
  | 1 | 2 => if a.home.reads then go .clearSwitch (a0.homeVel (!neg) true) else go .seekSwitch (a0.homeVel neg false)
  | 3 => go .seekIndex (a0.homeVel neg true)
  | 4 => go .seekStall (a0.homeVel neg false)
  | _ => a0.capture

/-- What a command that is OK does; `menc` is the master count (R404). -/
def Axis.perform (a : Axis) (c : AxisCmd) (menc : Int) : Axis :=
  let t := c.tgt.toInt
  match c.code.toNat with
  | 1 => a.endGear.setMo fun m => { m with
      mode := .position, motion := .toTarget, target := t, vlim := a.vmaxUnits, byLdec := false }
  | 2 => a.endGear.setMo fun m => { m with
      mode := .velocity, motion := .toVelocity, target := t * 10000000000, vlim := a.vmaxUnits, byLdec := false }
  | 3 =>
    if a.atRest && a.mo.homing.isNone then a
    else ((a.setMo fun m => { m with homing := none }).ramp false).setMo fun m => { m with
      mode := if m.mode = .velocity then .velocity else .position }
  | 4 => a.setMo fun m => { m with
      mode := .gearing, motion := .gear, gear := some ⟨m.cpos, menc, 0, a.cfg.gnum.toInt, a.cfg.gden.toNat⟩
      armed := none }
  | 5 => a.setMo fun m => { m with armed := some (a.cfg.gnum.toInt, a.cfg.gden.toNat, a.cfg.gcomp.toInt) }
  | 6 => a.startHome c.param
  | 7 => if a.locked then a else { a with locked := true, lockPos := a.mo.pos }
  | 8 => { a with locked := false }
  | 9 => { a with fault := false, cause := 0 }
  | _ => a

/-- Takes the pending command (R403). -/
def Axis.takeCmd (a : Axis) (holds : Nat) (menc : Int) : Axis :=
  match a.cmd with
  | none => a
  | some c =>
    let st := a.check c holds
    let a1 := { a with cmd := none, stat := st.code, statSeq := c.seq }
    if st = .ok then a1.perform c menc else a1

/-! ### Gearing (R409, R410) -/

/-- Commanded position and remainder at a master count (R409). -/
def Gearing.at' (g : Gearing) (menc : Int) : Int × Int :=
  let x := (menc - g.menc0) * g.num + g.rem0
  (g.cpos0 + x / g.den, x % g.den)

/-- A master that goes from one count to another arrives at a third from a different value (R410). -/
def arrives (m0 m1 g : Int) : Bool := (m0 < g && g ≤ m1) || (m1 ≤ g && g < m0)

/-- The armed ratio takes effect when the master arrives at the compare value: the axis re-anchors there, with the
remainder carried (R410). -/
def Axis.gearChange (a : Axis) (m0 m1 : Int) : Axis :=
  match a.mo.gear, a.mo.armed with
  | some g, some r =>
    if arrives m0 m1 r.2.2 then
      let p := g.at' r.2.2
      a.setMo fun m => { m with
        gear := some ⟨p.1, r.2.2, if r.2.1 = 0 then 0 else p.2 * r.2.1 / g.den, r.1, r.2.1⟩, armed := none }
    else a
  | _, _ => a

/-! ### Advancing (R395, R405, R407, R411) -/

/-- The velocity word of a velocity in tick units (R395): round(f x 2^32 / 10^8). -/
def velWord (v : Int) : BitVec 32 := BitVec.ofInt 32 ((v * 2 ^ 32 * 2 + 1000000000000000000) / 2000000000000000000)

/-- Sets a commanded position in 10^-15 count, with velocity and acceleration. -/
def AxisMotion.put (m : AxisMotion) (p : Int) (k : Kin) : AxisMotion :=
  { m with cpos := wrap32 (p / countUnit), cposF := (p % countUnit).toNat, vel := k.v, acc := k.a }

/-- Commanded position in 10^-15 count. -/
def AxisMotion.exact (m : AxisMotion) : Int := m.cpos * countUnit + m.cposF

/-- One step of the profile (R405). -/
def Axis.profile (a : Axis) (menc : Int) : Axis :=
  let m := a.mo
  let k : Kin := ⟨m.vel, m.acc⟩
  match m.motion with
  | .rest | .frozen => a
  | .toTarget =>
    let r := moveTick a.limits m.exact (m.target * countUnit) k
    a.setMo fun m => { m.put r.1 r.2.1 with motion := if r.2.2 then .rest else .toTarget }
  | .toVelocity =>
    let x := veloTick a.limits m.target k
    a.setMo fun m => m.put (m.exact + x.v) x
  | .rampStop =>
    let x := brakeTick a.limits k
    a.setMo fun m => { m.put (m.exact + x.v) x with motion := if x = ⟨0, 0⟩ then .rest else .rampStop }
  | .gear =>
    match m.gear with
    | some g =>
      let c := wrap32 (g.at' menc).1
      a.setMo fun m => { m with cpos := c, cposF := 0, vel := (c - m.cpos) * countUnit, acc := 0 }
    | none => a

/-- Steps emitted in the tick: those of the profile, or in gearing towards the commanded position at the highest rate
(R395, R409). A locked axis emits none (R416). -/
def Axis.emitSteps (a : Axis) : Axis :=
  if !a.stepDir then a.setMo fun m => { m with v := velWord m.vel, dir := if m.vel = 0 then m.dir else 0 < m.vel }
  else
    let d := a.mo.cpos - a.mo.step
    let most : Int := maxStepRate a.cfg.spw.toNat / 100000
    let go : Int := if a.locked || a.mo.motion = .frozen then 0
      else if a.mo.gear.isSome then max (-most) (min most d) else d
    let w := if a.mo.gear.isSome then velWord (go * countUnit) else velWord a.mo.vel
    a.setMo fun m => { m with
      step := wrap32 (m.step + go), v := w, phase := BitVec.ofInt 48 (m.phase.toNat + w.toInt * 1000)
      dir := if w = 0 then m.dir else 0 < w.toInt }

/-- Soft limits in velocity mode and gearing (R407). -/
def Axis.softLimit (a : Axis) : Axis :=
  let lo := a.mo.pos ≤ a.cfg.slimLo.toInt && a.moves false
  let hi := a.cfg.slimHi.toInt ≤ a.mo.pos && a.moves true
  if a.homed && (a.mo.mode = .velocity || a.mo.mode = .gearing) && a.mo.motion ≠ .rampStop && (lo || hi) then
    { a.ramp true with soft := true }
  else a

/-- Homing is over: the axis is in position mode. -/
def Axis.homeEnd (a : Axis) : Axis := a.setMo fun m => { m with homing := none, mode := .position }

/-- Moves homing to a phase. -/
def Axis.homePhase (a : Axis) (h : Homing) (ph : HomePhase) : Axis :=
  a.setMo fun m => { m with homing := some { h with phase := ph } }

/-- Position of the stall back-off (R411). -/
def Axis.stallBack (a : Axis) (h : Homing) : Axis :=
  let b : Int := a.cfg.backoff.toInt
  (a.hard.setMo fun m => { m with
    motion := .toTarget, target := if h.negative then m.cpos + b else m.cpos - b, vlim := a.hspdUnits true }).homePhase h .stallBack

/-- One tick of homing; `z` says that a Z edge fell in the tick (R411). -/
def Axis.homeTick (a : Axis) (z : Bool) : Axis :=
  match a.mo.homing with
  | none => a
  | some h =>
    if a.cfg.htrav.toNat < (a.mo.pos - h.start).natAbs && !a.homed then
      { (a.ramp true).homeEnd with hfail := true, homed := false }
    else match h.phase with
    | .clearSwitch => if a.home.reads then a else (a.homeVel h.negative false).homePhase h .seekSwitch
    | .seekSwitch => if a.home.reads then (a.ramp false).homePhase h .stopSwitch else a
    | .stopSwitch =>
      if a.mo.vel = 0 && a.mo.acc = 0 then (a.homeVel (!h.negative) true).homePhase h .backOff else a
    | .backOff =>
      if a.home.reads then a
      else if h.method = 2 then a.homePhase h .seekIndex
      else (a.capture.ramp false).homePhase h .stopAfter
    | .seekIndex => if z then (a.capture.ramp false).homePhase h .stopAfter else a
    | .seekStall => if a.cfg.stallT.toNat ≤ a.stallTicks && 0 < a.stallTicks then a.stallBack h else a
    | .stallBack => if a.mo.vel = 0 && a.mo.acc = 0 && a.mo.motion = .rest then a.capture.homeEnd else a
    | .stopAfter => if a.mo.vel = 0 && a.mo.acc = 0 then a.homeEnd else a

/-- Counts the ticks during which |FERR| stands at or above STALL_FE (R411). -/
def Axis.stallCount (a : Axis) : Axis :=
  if a.stallHoming && a.cfg.stallFe.toNat ≤ a.ferr.natAbs then { a with stallTicks := a.stallTicks + 1 }
  else { a with stallTicks := 0 }

/-- RELONLY clears when its limit reads inactive and the axis is at rest (R413). -/
def Axis.relClear (a : Axis) : Axis :=
  match a.relOnly with
  | some limP => if !(if limP then a.limP.reads else a.limN.reads) && a.atRest then { a with relOnly := none } else a
  | none => a

/-- The drive and its loop run: the axis is ON, or still braking in QUIESCING. -/
def Axis.runs (a : Axis) : Bool := a.ctl.st = .on || a.ctl.st = .quiescing

/-- One profile tick of an axis that is not OFF (R403). `m0` and `m1` are the master count before and after. -/
def Axis.tick (a : Axis) (z : Bool) (m0 m1 : Int) (holds : Nat) : Axis :=
  let a1 := a.setMo fun m => { m with pos := a.readPos }
  if a1.ctl.st = .off then (if a1.cmd.isSome then a1.takeCmd holds m1 else a1)
  else
    let a2 := a1.limitsApply.raiseFaults a1.newCauses
    let a3 := { a2.takeCmd holds m0 with encErr := false, ovr := false }
    let a4 := if a3.runs then (a3.gearChange m0 m1).profile m1 else a3
    let a5 := if a4.runs then a4.emitSteps else a4
    let a6 := a5.setMo fun m => { m with pos := a5.readPos }
    { (a6.stallCount.softLimit.homeTick z).relClear with ferrStood := a1.ferrAbove }

/-! ### What a tick tells the rest of the unit -/

/-- Gates that an axis no longer holds: a fault, a lost lock, a position outside the window, or PD_MOT unpowered (R184,
R418). -/
def State.gateWatch (s : State) (n : Fin 8) : State :=
  if s.standby || s.blk.cre.st ≠ .on then s
  else
    let a := s.axis n
    let bad := a.fault || !a.locked || !s.pwr.pdStat.getLsbD 9
    let hit := s.cre.resv.filter fun p => p.2.hold = some n && (bad || (match s.cre.gateOf p.2.cell with
      | some g => a.mo.pos < g.low || g.high < a.mo.pos
      | none => false))
    if hit.isEmpty then s
    else (s.invalidateAll (hit.map fun p => (p.2.corr, .gateLost))).event .gateLost [n.val]

/-- Holds that count on an axis (R419). -/
def State.holds (s : State) (n : Fin 8) : Nat := if s.blk.cre.st = .on then s.cre.holds n else 0

/-- Records what a tick changed: faults, homing failures, command status (R415, R464). -/
def State.tickEvents (s : State) (n : Fin 8) (old new : Axis) : State :=
  let s1 := if new.cause &&& ~~~old.cause = 0 then s
    else (s.event .axisFault [n.val, (new.cause &&& ~~~old.cause).toNat, new.cfg.svc.toNat]).raise (32 + n.val)
  let s2 := if new.hfail && !old.hfail then s1.event .homingFailed [n.val, new.cfg.svc.toNat] else s1
  let s3 := if new.mo.motion = .rampStop && old.mo.motion ≠ .rampStop && (new.limP.reads || new.limN.reads) then
    s2.event .axisLimit [n.val, bit new.limP.reads, new.cfg.svc.toNat] else s2
  let stop := match old.cmd with
    | some c => c.code = 3 && new.cmd.isNone
    | none => false
  let s4 := if stop && s3.mot.inj.loop = n then
    { s3 with mot := { s3.mot with inj := { s3.mot.inj with axisStop := true } } } else s3
  if old.cmd.isSome && new.cmd.isNone then s4.raise (32 + n.val) else s4

/-- One profile tick of axis n. A command object's write is answered with the status of the tick that took it (R427). -/
def State.axisTick (s : State) (n : Fin 8) (d : Int) (z : Bool) (m0 m1 : Int) : State :=
  let a := s.axis n
  let d' := if a.cfg.edir then -d else d
  let b := (a.setMo fun m => { m with enc := wrap32 (m.enc + d') }).tick z m0 m1 (s.holds n)
  let s1 := ((s.setAxis n b).tickEvents n a b).gateWatch n
  if a.cmd.isSome && b.cmd.isNone then (s1.answer (statusOf b.stat)).waitDone (.axis n) else s1

/-- PROFILE_TICK (R403): the next multiple of 10 us; all axes take their encoder counts, Z edges and the master's. -/
def execProfileTick (enc : Vector Int 8) (z : BitVec 8) (menc : Int) (s : State) : Result :=
  let s0 := s.reachTicks ((s.tim.ticks / 4000 + 1) * 4000)
  if !s0.pwr.pdStat.getLsbD 9 then .next s0
  else
    let m0 := s0.mot.menc
    let m1 := wrap32 (m0 + if s0.mot.mencEdir then -menc else menc)
    let s1 := { s0 with mot := { s0.mot with menc := m1 } }
    .next ((List.finRange 8).foldl (fun s n => s.axisTick n enc[n] (z.getLsbD n.val) m0 m1) s1)

/-! ### Command writes (R403, R427) -/

/-- A write of MOTn_CMD: one command is pending; another is answered BUSY under its own number (R403). -/
def State.cmdWrite (s : State) (n : Fin 8) (c : AxisCmd) : State :=
  let a := s.axis n
  match a.cmd with
  | some _ => (s.setAxis n { a with stat := Status.busy.code, statSeq := c.seq }).answer .busy
  | none => (s.setAxis n { a with cmd := some c }).answer .ok

/-- A command through OD 0x781n:02: the firmware gives it the next sequence number (R403, R427). -/
def State.odCmd (s : State) (n : Fin 8) (code param : BitVec 8) (tgt : BitVec 32) : State :=
  let s1 := { s with mot := { s.mot with seq := s.mot.seq + 1 } }
  let s2 := s1.setAxis n { s1.axis n with tgt := tgt }
  s2.cmdWrite n ⟨code, param, s.mot.seq, tgt⟩

/-- An axis command needs Operator; in *Debug session* nothing less than Engineer moves an axis (R27, R426). -/
def State.axisRole (s : State) : Role := if s.dev.dstate = .debugSession then .engineer else .operator

/-- An axis command of a role. -/
def State.axisCommand (s : State) (r : Role) (n : Fin 8) (code param : BitVec 8) (tgt : BitVec 32) : State :=
  s.asRole r s.axisRole fun s => s.odCmd n code param tgt

/-- MOVE (R404). -/
def execAxisMove (role : Role) (n : Fin 8) (tgt : BitVec 32) (s : State) : Result :=
  .next (s.axisCommand role n 1 0 tgt)

/-- VEL (R404). -/
def execAxisVel (role : Role) (n : Fin 8) (tgt : BitVec 32) (s : State) : Result :=
  .next (s.axisCommand role n 2 0 tgt)

/-- STOP (R404). -/
def execAxisStop (role : Role) (n : Fin 8) (s : State) : Result := .next (s.axisCommand role n 3 0 (s.axis n).tgt)

/-- GEAR (R409). -/
def execAxisGear (role : Role) (n : Fin 8) (s : State) : Result := .next (s.axisCommand role n 4 0 (s.axis n).tgt)

/-- GEAR_ARM (R410). -/
def execGearArm (role : Role) (n : Fin 8) (s : State) : Result := .next (s.axisCommand role n 5 0 (s.axis n).tgt)

/-- HOME (R411). -/
def execAxisHome (role : Role) (n : Fin 8) (method : BitVec 3) (negative : Bool) (s : State) : Result :=
  .next (s.axisCommand role n 6 (BitVec.ofNat 8 (method.toNat + 8 * bit negative)) (s.axis n).tgt)

/-- LOCK (R416). -/
def execAxisLock (role : Role) (n : Fin 8) (s : State) : Result := .next (s.axisCommand role n 7 0 (s.axis n).tgt)

/-- UNLOCK (R416). -/
def execAxisUnlock (role : Role) (n : Fin 8) (s : State) : Result := .next (s.axisCommand role n 8 0 (s.axis n).tgt)

/-- CLRFLT (R415). -/
def execClrflt (role : Role) (n : Fin 8) (s : State) : Result := .next (s.axisCommand role n 9 0 (s.axis n).tgt)

/-! ### Inputs (R398 to R400) -/

/-- Changes one switch input of an axis: 0 LIMP, 1 LIMN, 2 HOME, 3 DRV_FLT. -/
def Axis.setIn (a : Axis) (i : Fin 4) (f : SwitchIn → SwitchIn) : Axis :=
  match i with
  | 0 => { a with limP := f a.limP }
  | 1 => { a with limN := f a.limN }
  | 2 => { a with home := f a.home }
  | 3 => { a with drvFlt := f a.drvFlt }

/-- One switch input of an axis. -/
def Axis.inp (a : Axis) (i : Fin 4) : SwitchIn :=
  match i with
  | 0 => a.limP | 1 => a.limN | 2 => a.home | 3 => a.drvFlt

/-- An input has changed to active: a limit stops the motion towards it (R408, R413). -/
def Axis.inputActs (a : Axis) (i : Fin 4) : Axis :=
  if a.ctl.st = .off then a
  else if i = 0 then a.limitStop true
  else if i = 1 then a.limitStop false
  else a

/-- SWITCH_INPUT_FILTERED (R399): the level held for the debounce time; `glitches` shorter ones came before it. -/
def execSwitchInputFiltered (n : Fin 8) (i : Fin 4) (active : Bool) (glitches : Nat) (s : State) : Result :=
  let a := s.axis n
  let was := (a.inp i).reads
  let b := { a.setIn i fun x => { x with active := active } with glitch := a.glitch + BitVec.ofNat 32 glitches }
  let c := if active && !was then b.inputActs i else b
  .next ((s.setAxis n c).tickEvents n a c)

/-- INPUT_UNSTABLE (R400). -/
def execInputUnstable (n : Fin 8) (i : Fin 4) (s : State) : Result :=
  let a := s.axis n
  if (a.inp i).unstable then .next s
  else
    let was := (a.inp i).reads
    let b := a.setIn i fun x => { x with unstable := true }
    let c := if was then b else b.inputActs i
    let s1 := s.setAxis n c
    .next (if a.ctl.st = .off then s1 else s1.event .inputUnstable [n.val, i.val, 1, a.cfg.svc.toNat])

/-- INPUT_STABLE (R400): its raw level has been inactive for 1 s. -/
def execInputStable (n : Fin 8) (i : Fin 4) (s : State) : Result :=
  let a := s.axis n
  if !(a.inp i).unstable then .next s
  else
    let s1 := s.setAxis n (a.setIn i fun x => { x with unstable := false, active := false })
    .next (if a.ctl.st = .off then s1 else s1.event .inputUnstable [n.val, i.val, 0, a.cfg.svc.toNat])

/-- ENCODER_ILLEGAL_TRANSITION (R398): of an axis encoder, or of the master encoder. -/
def execEncoderIllegalTransition (n : Option (Fin 8)) (s : State) : Result :=
  match n with
  | none => .next { s with mot := { s.mot with mencErr := bump s.mot.mencErr } }
  | some k => .next (s.setAxis k { s.axis k with encErr := true })

/-- STALL_DETECT (R411): the following error has stood at STALL_FE for STALL_T in method 4. -/
def execStallDetect (n : Fin 8) (s : State) : Result :=
  let a := s.axis n
  match a.mo.homing with
  | some h =>
    if h.phase = .seekStall && a.cfg.stallFe.toNat ≤ a.ferr.natAbs then .next (s.setAxis n (a.stallBack h)) else .next s
  | none => .next s

/-! ### Service mode and registers (R414, R424, R427) -/

/-- A write of the service mode (R414). -/
def State.svcWrite (s : State) (n : Fin 8) (v : Nat) : State :=
  let a := s.axis n
  if 3 < v then s.deny .range
  else if v ≠ 0 && (a.locked || 0 < s.holds n) then s.answer .busy
  else (s.setAxis n { a with cfg := { a.cfg with svc := BitVec.ofNat 2 v } }).answer .ok

/-- SERVICE_MODE_WRITE (R414). -/
def execServiceModeWrite (role : Role) (n : Fin 8) (v : Nat) (s : State) : Result :=
  .next (s.asRole role .engineer fun s => s.svcWrite n v)

/-- Sets MOT_STAT.CFG_ERR (R425). -/
def State.motErr (s : State) : State := { s with mot := { s.mot with cfgErr := true } }

/-- A register field's value lies in its range (R396, R399, R400, R424). -/
def axisRange (a : Axis) (off v : Nat) : Bool :=
  match off with
  | 0x14 => 1 ≤ v && v ≤ 20000000 && (!a.stepDir || v ≤ maxStepRate a.cfg.spw.toNat)
  | 0x18 | 0x1C => 100 ≤ v && v ≤ 1000000000
  | 0x20 => 1000 ≤ v && v ≤ 4000000000
  | 0x4C => v ≤ a.cfg.vmax.toNat
  | 0x58 => 1 ≤ v / 65536
  | 0x60 => v % 1024 ≤ 1000 && 2 ≤ bitsOf v 23 16 && 1 ≤ bitsOf v 31 24
  | 0x70 => 5 ≤ v % 256 && v % 256 ≤ 50 && 10 ≤ bitsOf v 15 8 && 500 ≤ bitsOf v 31 16
  | _ => true

/-- Writes a configuration register of an axis (R424). -/
def AxisCfg.put (c : AxisCfg) (off : Nat) (w : Word) : AxisCfg :=
  match off with
  | 0x14 => { c with vmax := w.setWidth 25 }
  | 0x18 => { c with amax := w }
  | 0x1C => { c with ldec := w }
  | 0x20 => { c with jmax := w }
  | 0x34 => { c with felim := w.setWidth 16 }
  | 0x38 => { c with slimLo := w }
  | 0x3C => { c with slimHi := w }
  | 0x40 => { c with gnum := w }
  | 0x44 => { c with gden := w }
  | 0x48 => { c with gcomp := w }
  | 0x4C => { c with hspd := w.setWidth 25 }
  | 0x50 => { c with homePos := w }
  | 0x54 => { c with htrav := w }
  | 0x58 => { c with stallFe := w.setWidth 16, stallT := w.extractLsb' 16 16 }
  | 0x5C => { c with backoff := w }
  | 0x60 => { c with deb := w.setWidth 10, chn := w.extractLsb' 16 8, chw := w.extractLsb' 24 8 }
  | 0x64 => { c with lockTol := w.setWidth 16 }
  | 0x70 => { c with spw := w.setWidth 8, dirset := w.extractLsb' 8 8, pwmper := w.extractLsb' 16 16 }
  | 0x74 => { c with escl := w }
  | _ => c

/-- A write of the block fields of MOTn_CTRL: OUT and PSRC only while OFF (R424). -/
def State.motCtrl (s : State) (n : Fin 8) (w : Word) : State :=
  let a := s.axis n
  let out : BitVec 2 := w.extractLsb' 1 2
  let c := { a.cfg with lmode := w.getLsbD 4, pol := w.extractLsb' 5 4, edir := w.getLsbD 9 }
  let isOff := a.ctl.st = .off
  let c1 := if isOff then { c with psrc := w.getLsbD 3, out := if out = 3 then c.out else out } else c
  let s1 := s.setAxis n { a with cfg := c1 }
  if isOff && out = 3 then s1.motErr else s1

/-- A write of one of an axis's registers other than ENABLE (R424). -/
def State.motAxisWrite (s : State) (n : Fin 8) (off : Nat) (w : Word) : State :=
  let a := s.axis n
  match off with
  | 0x00 => s.motCtrl n w
  | 0x04 =>
    let r := if w.getLsbD 3 then { a.ctl with refused := false } else a.ctl
    s.setAxis n { a with ctl := r, hfail := a.hfail && !w.getLsbD 23, soft := a.soft && !w.getLsbD 24 }
  | 0x08 => s.cmdWrite n ⟨w.setWidth 8, w.extractLsb' 8 8, w.extractLsb' 16 16, a.tgt⟩
  | 0x10 => s.setAxis n { a with tgt := w }
  | 0x68 => s.svcWrite n (w.toNat % 4)
  | _ =>
    if (off = 0x70 || off = 0x74) && a.ctl.st ≠ .off then s
    else if !axisRange a off w.toNat then s.motErr
    else s.setAxis n { a with cfg := a.cfg.put off w }

/-- MOT register writes (R424, R425). -/
def State.motWrite (s : State) (off : Nat) (w : Word) : State :=
  if h : off < 0x800 then s.motAxisWrite ⟨off / 0x100, by omega⟩ (off % 0x100) w
  else if off = 0x804 then { s with mot := { s.mot with mencEdir := w.getLsbD 0 } }
  else if off = 0x900 && w.getLsbD 0 then { s with mot := { s.mot with cfgErr := false } }
  else s

/-! ### Block transitions of an axis (R41, R414 to R416, R427) -/

/-- Persisted configuration of OD 0x780n as registers, loaded each time the axis passes through OFF (R427). -/
def State.axisFromOd (s : State) (n : Fin 8) (c : AxisCfg) : AxisCfg :=
  let i := 0x7800 + n.val
  let o := fun (sub d : Nat) => s.od i sub d
  let w := fun (sub d : Nat) => BitVec.ofNat 32 (o sub d)
  { ((((((((((((((c.put 0x14 (w 5 0)).put 0x18 (w 6 0)).put 0x1C (w 7 0)).put 0x20 (w 8 0)).put 0x38
      (w 9 0x80000000)).put 0x3C (w 0xA 0x7FFFFFFF)).put 0x34 (w 0xB 0)).put 0x60
      (BitVec.ofNat 32 (o 0xC 100 + o 0xD 8 * 65536 + o 0xE 100 * 16777216))).put 0x4C (w 0xF 0)).put 0x50
      (w 0x10 0)).put 0x54 (w 0x11 0x7FFFFFFF)).put 0x58 (w 0x12 0)).put 0x5C (w 0x13 0)).put 0x64 (w 0x14 20)) with
    out := BitVec.ofNat 2 (o 1 0), psrc := o 2 0 = 1, lmode := o 3 0 = 1, pol := BitVec.ofNat 4 (o 4 0)
    escl := w 0x15 0x10000, spw := BitVec.ofNat 8 (o 0x16 0x1388140A), dirset := BitVec.ofNat 8 (o 0x16 0x1388140A / 256)
    pwmper := BitVec.ofNat 16 (o 0x16 0x1388140A / 65536) }

/-- The axis enters STARTING: DRV_EN rises, and each cause present raises its fault at once (R393, R415). -/
def State.axisStarting (s : State) (n : Fin 8) : State :=
  let a := s.axis n
  let b := { (a.setMo fun m => { m with
      pos := a.readPos, cpos := if a.stepDir then m.step else a.readPos, cposF := 0, vel := 0, acc := 0, v := 0
      motion := .rest, mode := .position, gear := none, armed := none, homing := none }) with
    drvEn := true, encErr := false, ovr := false, ferrStood := false }
  let c := { b.raiseFaults b.newCauses with ferrStood := b.ferrAbove }
  (s.setAxis n c).tickEvents n a c

/-- The axis enters QUIESCING: the lock ends, a ramp stop at the limit-stop deceleration begins (R41, R416). -/
def State.axisQuiesce (s : State) (n : Fin 8) : State :=
  let a := s.axis n
  (s.setAxis n ({ (a.setMo fun m => { m with homing := none, mode := .position }).ramp true with
    locked := false, cmd := none })).gateWatch n

/-- The axis has reached OFF: outputs idle, HOMED and faults cleared, persisted values loaded (R41, R414, R427). -/
def State.axisOff (s : State) (n : Fin 8) : State :=
  let a := s.axis n
  s.setAxis n { (a.setMo fun m => { m with
      vel := 0, acc := 0, v := 0, motion := .rest, mode := .position, gear := none, armed := none, homing := none
      cposF := 0, cpos := if a.stepDir then m.step else m.pos }) with
    cfg := s.axisFromOd n a.cfg, drvEn := false, homed := a.homed && a.shadow, locked := a.locked && a.shadow
    fault := false, cause := 0, cmd := none, relOnly := none, stallTicks := 0 }

end Sys2Proof.Machine
end

