-- ==== Sys2Proof/Machine/Cores.lean ====
section
/-!
DEFINITION. Meanings of the job dispatch, interrupt, access violation and monitor commands
(spec/14_cores_dispatch.md).
-/
namespace Sys2Proof.Machine

/-- Changes one application core. -/
def State.setCore (s : State) (k : Fin 16) (f : Core' → Core') : State :=
  { s with cores := { s.cores with core := s.cores.core.set k (f s.cores.core[k]) } }

/-- A descriptor's fields from its eight words (R456). -/
def jobOfWords (w : Vector (BitVec 32) 8) : Job :=
  { entry := w[0].extractLsb' 0 16, flow := w[0].extractLsb' 16 12, prio := w[0].extractLsb' 28 3
    delay := w[0].getLsbD 31, world := w[1].extractLsb' 0 2, arg := w[2], due := w[3]
    user := #v[w[4], w[5], w[6], w[7]] }

/-- A descriptor's words from its fields (R456). -/
def Job.words (j : Job) : Vector (BitVec 32) 8 :=
  #v[BitVec.ofNat 32 (j.entry.toNat + j.flow.toNat * 65536 + j.prio.toNat * 2 ^ 28 + bit j.delay * 2 ^ 31),
     j.world.setWidth 32, j.arg, j.due, j.user[0], j.user[1], j.user[2], j.user[3]]

/-- A descriptor as the JDX takes it from a master of a world (R457). -/
def Job.taken (j : Job) (w : BitVec 2) : Job :=
  match w.toNat with
  | 0 => if j.world = 3 then { j with world := 0 } else j
  | 1 => { j with world := 1, flow := 0xC00 + (j.flow.extractLsb' 0 9).setWidth 12 }
  | _ => { j with world := 2, flow := 0xF00 + (j.flow.extractLsb' 0 8).setWidth 12 }

/-- World tag of a core's access: its monitor carries world 0 (R450). -/
def State.coreWorld (s : State) (k : Fin 16) (monitor : Bool) : BitVec 2 :=
  if monitor then 0 else s.cores.worldOf k

/-- The job that a core's staged words and the last word make (R456, R457, R463). -/
def State.stagedJob (s : State) (k : Fin 16) (monitor : Bool) (d : Word) : Job :=
  let r := s.cores.core[k].sub
  (jobOfWords #v[r[0], r[1], r[2], r[3], r[4], r[5], r[6], d]).taken (s.coreWorld k monitor)

/-- JDX_SUBMIT (R458): accepted, or the core stalls. -/
def execJdxSubmit (core : Fin 16) (monitor : Bool) (d : Word) (s : State) : Result :=
  let j := s.stagedJob core monitor d
  match s.postJob j with
  | some t => .next t
  | none => .next (s.setCore core fun c => { c with stalled := some j })

/-- JDX_TRYSUB (R458): accepted, or discarded with ACC = 0. -/
def execJdxTrysub (core : Fin 16) (monitor : Bool) (d : Word) (s : State) : Result :=
  match s.postJob (s.stagedJob core monitor d) with
  | some t => .next (t.setCore core fun c => { c with acc := true })
  | none => .next (s.setCore core fun c => { c with acc := false })

/-- SUBMIT_STALL_RELEASE (R458): the stalled write completes once the world is below quota. -/
def execSubmitStallRelease (core : Fin 16) (s : State) : Result :=
  match s.cores.core[core].stalled with
  | none => .next s
  | some j =>
    match s.postJob j with
    | some t => .next (t.setCore core fun c => { c with stalled := none })
    | none => .next s

/-- The core may take the job now: ready, of its world, and not waiting for another core (R459, R460). -/
def Cores.mayTake (c : Cores) (k : Fin 16) (a : Accepted) : Option Nat :=
  match a.place with
  | .ready o aff _ =>
    if a.job.world = c.worldOf k && (!aff || c.remembered a.job = some k) then some o else none
  | _ => none

/-- The job an idle core takes: highest priority first, then the order in which jobs became ready (R459). -/
def Cores.pick (c : Cores) (k : Fin 16) : Option Accepted :=
  c.jobs.foldl (fun best a =>
    match c.mayTake k a with
    | none => best
    | some o =>
      match best with
      | none => some a
      | some b =>
        match c.mayTake k b with
        | some ob =>
          if b.job.prio.toNat < a.job.prio.toNat || (a.job.prio = b.job.prio && o < ob) then some a else best
        | none => some a) none

/-- A core is out of reset: released, and for cluster 1 with PD_CPU1 on (R448, R618). -/
def State.coreUp (s : State) (k : Fin 16) : Bool :=
  s.cores.core[k].running && (k.val < 8 || s.pwr.pdStat.getLsbD 3)

/-- JOB_DELIVERY (R459, R460): to an idle core; a halted one takes its job at resume (R660). -/
def execJobDelivery (core : Fin 16) (s : State) : Result :=
  let k := s.cores.core[core]
  if !k.idle || k.halted || !s.coreUp core then .next s
  else match s.cores.pick core with
    | none => .next s
    | some a =>
      let s1 := { s with cores := { s.cores with
        jobs := s.cores.jobs.map fun (b : Accepted) =>
          if b.seq = a.seq then { b with place := .service core s.tb5u10 } else b
        served := tabPut s.cores.served a.job.flow.toNat core } }
      .next (s1.setCore core fun c => { c with idle := false, got := a.job.words })

/-- The job in service on a core (R462). -/
def Cores.inService (c : Cores) (k : Fin 16) : Option (Accepted × Nat) :=
  c.jobs.findSome? fun a => match a.place with
    | .service k' t => if k' = k then some (a, t) else none
    | _ => none

/-- Ends a job: it leaves the JDX and the next of its flow moves on (R459, R462). -/
def State.endJob (s : State) (a : Accepted) : State :=
  { s with cores := Cores.promote { s.cores with jobs := s.cores.jobs.filter fun (b : Accepted) => b.seq ≠ a.seq } s.tb5u10 s.tb5c }

/-- Ends the job in service on a core, if any (R462, R463). -/
def State.coreDone (s : State) (k : Fin 16) : State :=
  match s.cores.inService k with
  | some a => s.endJob a.1
  | none => s

/-- JDX_GET (R463): ends a job in service first; the core is idle until a job is delivered. -/
def execJdxGet (core : Fin 16) (s : State) : Result :=
  .next ((s.coreDone core).setCore core fun c => { c with idle := true })

/-- JDX_DONE (R462): ignored when none is in service. -/
def execJdxDone (core : Fin 16) (s : State) : Result := .next (s.coreDone core)

/-- The job of a flow that stands at a place of some kind. -/
def Cores.flowJob (c : Cores) (flow : BitVec 12) (p : JobPlace → Bool) : Option Accepted :=
  c.jobs.find? fun a => a.job.flow = flow && p a.place

/-- AFFINITY_WAIT_EXPIRY (R460): the job may go to any idle core. -/
def execAffinityWaitExpiry (flow : BitVec 12) (s : State) : Result :=
  match s.cores.flowJob flow (fun p => match p with | .ready _ true _ => true | _ => false) with
  | none => .next s
  | some a =>
    match a.place with
    | .ready o _ t =>
      let s1 := s.reachTicks ((t + s.cores.aff.toNat) * 4)
      .next { s1 with cores := { s1.cores with
        jobs := s1.cores.jobs.map fun (b : Accepted) => if b.seq = a.seq then { b with place := .ready o false t } else b } }
    | _ => .next s

/-- 10 us units from now to a due time; 0 when it has come (R461). -/
def dueIn (due : BitVec 32) (now : Nat) : Nat :=
  if dueAhead due now then (due - BitVec.ofNat 32 now).toNat else 0

/-- JOB_DUE (R461): at the first 10 us tick of TB5 at or after DUE. -/
def execJobDue (flow : BitVec 12) (s : State) : Result :=
  match s.cores.flowJob flow (fun p => p = .delayed) with
  | none => .next s
  | some a =>
    let n := dueIn a.job.due s.tb5u10
    let s1 := if n = 0 then s else s.reachTicks ((s.tb5u10 + n) * 4000)
    let back := s1.cores.jobs.map fun (b : Accepted) => if b.seq = a.seq then { b with place := .behind } else b
    .next { s1 with cores := Cores.promote { s1.cores with jobs := back } s1.tb5u10 s1.tb5c }

/-- A monitor event of the Fleet world counts; the sixteenth within 60 s of TB5 stops that world (R469). -/
def State.fleetMonitor (s : State) : State :=
  let now := s.tb5ns
  let ev := now :: s.cores.monEvents.filter fun t => now < t + 60000000000
  let s1 := { s with cores := { s.cores with monEvents := ev, nMon := bump s.cores.nMon } }
  if 16 ≤ ev.length && s1.cores.world = .running then
    let s2 := { s1 with cores := { s1.cores with world := .stopped } }
    (s2.event .fleetStopped []).emcyAllOn .fleetStopped .fleetStopped
  else s1

/-- A monitor's handling of an event of its world (R469): the job is discarded, a record written. -/
def State.monitorEvent (s : State) (k : Fin 16) : State :=
  let w := s.cores.worldOf k
  if w = 0 then s
  else
    let s1 := (s.coreDone k).event .monitorEvent [k.val, w.toNat]
    if w = 1 then s1.fleetMonitor else s1

/-- Time limit of a world, 10 us (R462). -/
def Cores.limitOf (c : Cores) (w : BitVec 2) : Nat :=
  if h : w.toNat < 3 then (c.jobMax[w.toNat]'h).toNat else 0

/-- JOB_TIME_LIMIT (R462): the core is reset, the flow released, the job discarded; not while the core is halted
(R660). -/
def execJobTimeLimit (core : Fin 16) (s : State) : Result :=
  match s.cores.inService core with
  | none => .next s
  | some (a, t) =>
    if s.cores.core[core].halted then .next s
    else
      let s1 := s.reachTicks ((t + s.cores.limitOf a.job.world) * 4000)
      let s2 := (s1.endJob a).setCore core fun c => { c with idle := false, stalled := none }
      let s3 := s2.event .jobOverrun [a.job.world.toNat, a.job.entry.toNat, a.job.flow.toNat]
      .next (s3.monitorEvent core)

/-- Clears the pending bits of acknowledged sources (R465, R466). -/
def Cores.ack (c : Cores) (base : Nat) (mask : Word) : Cores :=
  (List.range 32).foldl (fun c b =>
    if mask.getLsbD b then
      { c with srcs := tabSet {} c.srcs (base + b) { c.src (base + b) with pend := false, merge := 0 }
               direct := c.direct.filter fun d => d.2 ≠ base + b }
    else c) c

/-- A write of INT_ACKi with the events that fall on the same edge, which are never lost (R465). -/
def State.intAck (s : State) (i : Fin 4) (mask same : Word) : State :=
  let s1 := { s with cores := s.cores.ack (32 * i.val) mask }
  (List.range 32).foldl (fun s b => if same.getLsbD b then s.raise (32 * i.val + b) else s) s1

/-- INT_ACK (R465). -/
def execIntAck (b : Bus) (i : Fin 4) (mask same : Word) (s : State) : Result :=
  .next (s.guarded b (0x40190400 + 4 * i.val) .write fun s => s.intAck i mask same)

/-- The core that a bus master number names, if it is an application core (R450). -/
def coreOf (id : Nat) : Option (Fin 16) := if h : id < 16 then some ⟨id, h⟩ else none

/-- ACCESS_VIOLATION (R454): no effect but a record; a core of Vendor code is reset and restarts, a core of another
world traps to its monitor (R469). An access that both checks pass is no violation. -/
def execAccessViolation (b : Bus) (addr : Nat) (kind : AccessKind) (s : State) : Result :=
  if s.allows b addr kind then .next s
  else
    let s1 := (s.violation b addr kind).answerValue []
    match coreOf b.id with
    | none => .next s1
    | some k =>
      if b.world = 0 then .next (s1.setCore k fun c => { c with idle := false, stalled := none })
      else .next (s1.monitorEvent k)

/-- MONITOR_TRAP (R469). -/
def execMonitorTrap (core : Fin 16) (s : State) : Result := .next (s.monitorEvent core)

end Sys2Proof.Machine
end

