-- ==== Sys2Proof/Machine/Settings.lean ====
section
/-!
DEFINITION. Settings storage: how a persisting write is committed (spec/16_object_dictionary.md, R504, R526 to R528).
-/
namespace Sys2Proof.Machine

/-- Octets of one bank (R526). -/
def bankOctets : Nat := 524288

/-- Octets of a record: index, sub-index and length, the padded value, and its CRC-32C (R526). -/
def SetRec.octets (r : SetRec) : Nat := 8 + (r.value.length + 3) / 4 * 4

/-- Octets used in a bank, its header included (R526). -/
def SetBank.used (b : SetBank) : Nat := 64 + (b.recs.map SetRec.octets).sum

/-- The last record of every object, in ascending order of key (R528). -/
def SetBank.latest (b : SetBank) : List (Nat × List Byte) :=
  b.recs.foldl (fun t r => tabPut t r.key r.value) []

/-- Appends a record to the active bank, after compaction into the other bank where it has no room (R527, R528). The
flag says that a compaction took place. -/
def SetHalf.append (h : SetHalf) (r : SetRec) : SetHalf × Bool :=
  let b := h.bank[h.active]
  if b.used + r.octets ≤ bankOctets then
    ({ h with bank := h.bank.set h.active { b with valid := true, recs := b.recs ++ [r] } }, false)
  else
    let o : Fin 2 := 1 - h.active
    let c : SetBank :=
      { valid := true, seq := b.seq + 1, recs := (b.latest.map fun p => ⟨p.1, p.2⟩) ++ [r] }
    ({ h with bank := h.bank.set o c, active := o }, true)

/-- Appends a record to the half in use (R527, R528). -/
def State.settingsAppend (s : State) (key : Nat) (v : List Byte) : State :=
  let c := s.dict.half[s.dict.halfUsed].append ⟨key, v⟩
  { s with dict := { s.dict with
      half := s.dict.half.set s.dict.halfUsed c.1
      compactions := if c.2 then bump s.dict.compactions else s.dict.compactions } }

/-- Puts a value in force without storing it. -/
def State.odSet (s : State) (key : Nat) (v dflt : List Byte) : State :=
  { s with dict := { s.dict with od := tabSet dflt s.dict.od key v } }

/-- Value held of an object: in force, or waiting for the next start-up. -/
def State.odHeld (s : State) (key : Nat) (dflt : List Byte) : List Byte :=
  match tabGet s.dict.later key with
  | some v => v
  | none => tabGetD dflt s.dict.od key

/-- Stores a persisting value and puts it in force, in place of one that waits for the next start-up; a value already held
writes no record (R504). -/
def State.odStore (s : State) (key : Nat) (v dflt : List Byte) : State :=
  if s.odHeld key dflt = v then s
  else
    let s1 := (s.settingsAppend key v).odSet key v dflt
    { s1 with dict := { s1.dict with later := tabDel s1.dict.later key } }

/-- Stores a persisting value that takes effect at the next start-up (R504). -/
def State.odStoreLater (s : State) (key : Nat) (v dflt : List Byte) : State :=
  if s.odHeld key dflt = v then s
  else
    let s1 := s.settingsAppend key v
    { s1 with dict := { s1.dict with later := tabPut s1.dict.later key v } }

end Sys2Proof.Machine
end

