-- ==== Sys2Proof/Machine/Gnss.lean ====
section
/-!
DEFINITION. The GNSS front end and baseband: registers, channels, acquisition, latch and bursts
(spec/02_gnss_channels.md).
-/
namespace Sys2Proof.Machine

/-- One row of the signal table (R53). -/
structure SigRow where
  /-- SIG -/
  sig : Nat
  /-- chain code of R64 -/
  chain : Nat
  /-- chip rate, kchip/s -/
  rate : Nat
  /-- chips per base period -/
  base : Nat
  /-- primary code, chips; of L2C the CM component -/
  code : Nat
  /-- primary code of the pilot arm -/
  pcode : Nat
  /-- has a pilot component -/
  pilot : Bool
  /-- lowest PRN -/
  lo : Nat
  /-- highest PRN -/
  hi : Nat

/-- The signals of R53, in table order. -/
def sigTable : List SigRow := [
  ⟨0x01, 0, 1023, 1023, 1023, 1023, false, 1, 32⟩,
  ⟨0x02, 0, 1023, 1023, 10230, 10230, true, 1, 63⟩,
  ⟨0x03, 1, 1023, 1023, 10230, 767250, true, 1, 32⟩,
  ⟨0x04, 2, 10230, 10230, 10230, 10230, true, 1, 32⟩,
  ⟨0x11, 0, 511, 511, 511, 511, false, 1, 24⟩,
  ⟨0x12, 1, 511, 511, 511, 511, false, 1, 24⟩,
  ⟨0x21, 0, 1023, 1023, 4092, 4092, true, 1, 50⟩,
  ⟨0x22, 2, 10230, 10230, 10230, 10230, true, 1, 50⟩] ++ [
  ⟨0x23, 1, 10230, 10230, 10230, 10230, true, 1, 50⟩,
  ⟨0x31, 0, 2046, 2046, 2046, 2046, false, 1, 63⟩,
  ⟨0x32, 0, 1023, 1023, 10230, 10230, true, 1, 63⟩,
  ⟨0x33, 2, 10230, 10230, 10230, 10230, true, 1, 63⟩,
  ⟨0x34, 1, 2046, 2046, 2046, 2046, false, 1, 63⟩,
  ⟨0x41, 0, 1023, 1023, 1023, 1023, false, 193, 202⟩,
  ⟨0x42, 1, 1023, 1023, 10230, 767250, true, 193, 202⟩,
  ⟨0x43, 2, 10230, 10230, 10230, 10230, true, 193, 202⟩]

/-- The row of a signal and PRN, if R53 has the combination. -/
def sigRow (sig prn : Nat) : Option SigRow := sigTable.find? fun r => r.sig = sig && r.lo ≤ prn && prn ≤ r.hi

/-- Primary code length a channel's chip index wraps at: with the pilot arm on, that of the pilot component. -/
def SigRow.wrap (r : SigRow) (pilot : Bool) : Nat := if pilot then r.pcode else r.code

/-- Sets GBB_STATUS.CFG_ERR and raises its source (R87, R464). -/
def State.gbbErr (s : State) : State := ({ s with gbb := { s.gbb with cfgErr := true } }).raise 9

/-- Channel `c`; one that is not listed reads as at reset. -/
def State.chan (s : State) (c : Fin 672) : Channel := tabGetD {} s.gbb.chans c.val

/-- Puts a channel back. -/
def State.setChan (s : State) (c : Fin 672) (x : Channel) : State :=
  { s with gbb := { s.gbb with chans := tabSet {} s.gbb.chans c.val x } }

/-- Every channel that is not at its reset value, in rising order. -/
def State.eachChan (s : State) (f : State → Fin 672 → State) : State :=
  s.gbb.chans.foldl (fun (s : State) p => if h : p.1 < 672 then f s ⟨p.1, h⟩ else s) s

/-- The row of the signal a channel is configured for. -/
def Channel.row (x : Channel) : Option SigRow := sigRow x.sig.toNat x.prn.toNat

/-- Index of the RF chain a channel uses (R54). -/
def chainIndex (c : Fin 672) (chain : BitVec 2) : Nat := (if c.val < 336 then 0 else 3) + chain.toNat

/-- The chain of a channel is ready (R52). -/
def State.chainReady (s : State) (c : Fin 672) (chain : BitVec 2) : Bool :=
  s.blk.grf.st = .on && s.grf.chainRdy.getLsbD (chainIndex c chain)

/-- Forgets the accumulation in progress (R58, R61). -/
def Channel.discard (x : Channel) : Channel :=
  { x with accDone := 0, accum := Vector.replicate 8 0, sat := false }

/-- A channel's NCOs advanced to a count of CLK_TIM edges, 5 of which make one sample (R55, R56, R75). -/
def Channel.advance (x : Channel) (tick : Nat) : Channel :=
  if !x.started || tick ≤ x.atTick then x
  else
    let dt := tick - x.atTick
    let adv : Int := x.carrFw.toInt * dt / 5
    let code := x.chip.toNat * 2 ^ 32 + x.frac.toNat + x.codeFw.toNat * dt / 5
    let wrap := match x.row with
      | some r => r.wrap x.pilotEn
      | none => 1
    { x with
      atTick := tick
      accPhase := BitVec.ofInt 64 (x.accPhase.toInt + adv)
      phase := BitVec.ofInt 32 (x.phase.toNat + adv)
      frac := BitVec.ofNat 32 code
      chip := BitVec.ofNat 24 (code / 2 ^ 32 % wrap)
      period := x.period + BitVec.ofNat 8 (code / 2 ^ 32 / wrap) }

/-! ### Channel registers (R57 to R64) -/

/-- A write of CFG (R53, R57, R58, R61, R62). -/
def State.chanCfg (s : State) (c : Fin 672) (w : Word) : State :=
  let x := s.chan c
  let en := w.getLsbD 0
  let chain : BitVec 2 := w.extractLsb' 1 2
  let sig : BitVec 8 := w.extractLsb' 4 8
  let prn : BitVec 8 := w.extractLsb' 12 8
  let acc : BitVec 5 := w.extractLsb' 20 5
  match sigRow sig.toNat prn.toNat with
  | none => s.gbbErr
  | some r =>
    let ask := w.getLsbD 3
    let pilot := ask && r.pilot
    if chain.toNat ≠ r.chain || acc = 0 || 20 < acc.toNat then s.gbbErr
    else if x.en && (chain ≠ x.chain || sig ≠ x.sig || prn ≠ x.prn || pilot ≠ x.pilotEn) then s.gbbErr
    else
      let y := { x with en := en, chain := chain, pilotEn := pilot, sig := sig, prn := prn, acc := acc }
      let z := if x.en = en then y else { y with started := false }.discard
      let s1 := s.setChan c z
      if ask && !r.pilot then s1.gbbErr else s1

/-- A write of SPACE (R57, R60). -/
def State.chanSpace (s : State) (c : Fin 672) (w : Word) : State :=
  let sp : BitVec 6 := w.extractLsb' 0 6
  let slew : BitVec 16 := w.extractLsb' 16 16
  if sp.toNat < 5 || 50 < sp.toNat || slew = 0x8000 then s.gbbErr
  else s.setChan c { s.chan c with spacing := sp, stSlew := some slew }

/-- A write of CARR_FW (R60). -/
def State.chanCarr (s : State) (c : Fin 672) (w : Word) : State :=
  s.setChan c { s.chan c with stCarr := some w }

/-- A write of CODE_FW (R56, R60). -/
def State.chanCode (s : State) (c : Fin 672) (w : Word) : State :=
  if 0x40000000 < w.toNat then s.gbbErr else s.setChan c { s.chan c with stCode := some w }

/-- Present ms of TB0. -/
def State.tb0ms (s : State) : Nat := s.tb0ns / 1000000

/-- Lock time of a channel at an instant of TB0 (R63). -/
def Channel.lockTime (x : Channel) (ms : Nat) : Nat :=
  if x.lock then min 0xFFFFFFFF (x.lockt.toNat + (ms - x.locktFrom)) else x.lockt.toNat

/-- A write of LOCK: lock, half-cycle flag, slip and cycle adjustment (R63). -/
def State.chanLock (s : State) (c : Fin 672) (w : Word) : State :=
  let x := s.chan c
  let now := s.tb0ms
  let lock := w.getLsbD 0
  let slip := w.getLsbD 2
  let n : BitVec 16 := w.extractLsb' 16 16
  let y := { x with half := w.getLsbD 1, lock := lock, stCyc := x.stCyc + n.toInt }
  let z := if slip || (x.lock && !lock) then { y with lli := true, lockt := 0, locktFrom := now }
    else if lock && !x.lock then { y with locktFrom := now }
    else y
  s.setChan c z

/-- A write of LOCKT presets the lock time at once (R63). -/
def State.chanLockt (s : State) (c : Fin 672) (w : Word) : State :=
  s.setChan c { s.chan c with lockt := w, locktFrom := s.tb0ms }

/-- A write of one of a channel's eight registers (R64). -/
def State.chanWrite (s : State) (c : Fin 672) (reg : Nat) (w : Word) : State :=
  match reg with
  | 0 => s.chanCfg c w
  | 1 => s.chanSpace c w
  | 2 => s.chanCarr c w
  | 3 => s.chanCode c w
  | 4 => s.setChan c { s.chan c with startT := w }
  | 5 => s.setChan c { s.chan c with startChip := w.extractLsb' 0 24, startFrac := w.extractLsb' 24 8 }
  | 6 => s.chanLock c w
  | _ => s.chanLockt c w

/-- Address of a channel register (R64). -/
def chanAddr (c : Fin 672) (reg : Nat) : Nat := 0x40051000 + 0x20 * c.val + 4 * reg

/-- A channel register write by a master: only Vendor-world masters reach the GBB (R45). -/
def State.chanAccess (s : State) (b : Bus) (c : Fin 672) (reg : Nat) (w : Word) : State :=
  s.guarded b (chanAddr c reg) .write fun s => s.chanWrite c reg w

/-- CHANNEL_ENABLE (R61): a write of CFG with EN = 1. -/
def execChannelEnable (b : Bus) (c : Fin 672) (w : Word) (s : State) : Result :=
  .next (s.chanAccess b c 0 (w ||| 1))

/-- CHANNEL_DISABLE (R61): a write of CFG with EN = 0. -/
def execChannelDisable (b : Bus) (c : Fin 672) (w : Word) (s : State) : Result :=
  .next (s.chanAccess b c 0 (w &&& 0xFFFFFFFE))

/-- TB0 ns until a channel's start instant: 0 for one up to 2^31 ns in the past (R61). -/
def State.untilStart (s : State) (t : BitVec 32) : Nat :=
  let d := (t - (s.tb 0).nsField).toNat
  if d < 2 ^ 31 then d else 0

/-- The channel starts with its preset chip index and zero carrier phase; words staged while it was disabled take
effect (R60, R61). -/
def State.chanStart (s : State) (c : Fin 672) : State :=
  let x := s.chan c
  let slew : Int := match x.stSlew with
    | some v => v.toInt * 4194304
    | none => 0
  let code : Int := (x.startChip.toNat * 2 ^ 32 + x.startFrac.toNat * 2 ^ 24 : Nat) + slew
  let wrap : Int := match x.row with
    | some r => r.wrap x.pilotEn
    | none => 1
  let y := { x with
    started := true, atTick := s.tim.ticks, chip := BitVec.ofInt 24 (code / 2 ^ 32 % wrap), frac := BitVec.ofInt 32 code
    period := 0, phase := 0, accPhase := BitVec.ofInt 64 (x.stCyc * 2 ^ 32), adj := x.adj || x.stCyc ≠ 0
    cycDone := x.cycDone + x.stCyc, stCyc := 0, accNow := x.acc
    carrFw := x.stCarr.getD x.carrFw, codeFw := x.stCode.getD x.codeFw
    stCarr := none, stCode := none, stSlew := none }
  s.setChan c y.discard

/-- CHANNEL_START (R61). -/
def execChannelStart (c : Fin 672) (s : State) : Result :=
  let x := s.chan c
  if x.en && !x.started && s.blk.gbb.st = .on then
    .next ((s.reachTb0 (s.tb0ns + s.untilStart x.startT)).chanStart c)
  else .next s

/-- STAGED_WORD_WRITE (R60): a write of SPACE, CARR_FW or CODE_FW. -/
def execStagedWordWrite (b : Bus) (c : Fin 672) (reg : StagedReg) (w : Word) (s : State) : Result :=
  .next (s.chanAccess b c (match reg with | .space => 1 | .carr => 2 | .code => 3) w)

/-- CHANNEL_LOCK_WRITE (R63): LOCK and HALF. -/
def execChannelLockWrite (b : Bus) (c : Fin 672) (lock half : Bool) (s : State) : Result :=
  .next (s.chanAccess b c 6 (BitVec.ofNat 32 (bit lock + 2 * bit half)))

/-- LOCK register word that leaves LOCK and HALF as they are. -/
def Channel.lockWord (x : Channel) : Word := BitVec.ofNat 32 (bit x.lock + 2 * bit x.half)

/-- SLIP (R63): a write of LOCK with SLIP = 1. -/
def execSlip (b : Bus) (c : Fin 672) (s : State) : Result :=
  .next (s.chanAccess b c 6 ((s.chan c).lockWord ||| 4))

/-- CYC_ADJ (R63): a write of LOCK with a cycle adjustment. -/
def execCycAdj (b : Bus) (c : Fin 672) (n : BitVec 16) (s : State) : Result :=
  .next (s.chanAccess b c 6 ((s.chan c).lockWord ||| (n.setWidth 32 <<< 16)))

/-- LOCKT_PRESET (R63). -/
def execLocktPreset (b : Bus) (c : Fin 672) (w : Word) (s : State) : Result :=
  .next (s.chanAccess b c 7 w)

/-! ### Base boundaries and dump records (R58 to R67) -/

/-- Adds to a 24-bit accumulator, which holds its limit (R59). -/
def accAdd (a : BitVec 24) (d : Int) : BitVec 24 × Bool :=
  let v := a.toInt + d
  if 8388607 < v then (0x7FFFFF, true)
  else if v < -8388608 then (0x800000, true)
  else (BitVec.ofInt 24 v, false)

/-- The accumulators after one base period's correlation sums (R57 to R59). -/
def Channel.accumulate (x : Channel) (d : Vector Int 8) : Channel :=
  let e := x.accum.zipWith accAdd d
  { x with accum := e.map Prod.fst, sat := x.sat || e.toList.any Prod.snd, accDone := x.accDone + 1 }

/-- The six words of a dump record (R65). -/
def Channel.dumpWords (x : Channel) (c : Fin 672) (burst : Bool) (tb0 : BitVec 32) : List Dword :=
  let pair := fun (i q : BitVec 24) => BitVec.ofNat 64 (i.toNat + q.toNat * 2 ^ 24)
  let w0 := c.val + bit (336 ≤ c.val) * 2 ^ 10 + x.chain.toNat * 2 ^ 11 + x.accDone * 2 ^ 13 + bit x.pilotEn * 2 ^ 18 +
    bit burst * 2 ^ 19 + bit x.sat * 2 ^ 20 + bit x.lost * 2 ^ 21 + x.seq.toNat * 2 ^ 24 + tb0.toNat * 2 ^ 32
  [BitVec.ofNat 64 w0, pair x.accum[0] x.accum[1], pair x.accum[2] x.accum[3], pair x.accum[4] x.accum[5],
    pair x.accum[6] x.accum[7], BitVec.ofNat 64 (x.phase.toNat + x.chip.toNat * 2 ^ 32)]

/-- A channel's group sends its records to this queue (R66). -/
def State.dumpQueue (s : State) (c : Fin 672) : Fin 32 :=
  queueOf (s.gbb.dqmap[c.val / 42]'(by omega))

/-- The accumulation ends: the record is delivered, or discarded and counted (R65, R67). -/
def State.dump (s : State) (c : Fin 672) : State :=
  let x := s.chan c
  let done := { x with seq := x.seq + 1 }.discard
  match s.enginePush (s.dumpQueue c) (x.dumpWords c s.gbb.burstNow (s.tb 0).nsField) with
  | some s1 => s1.setChan c { done with lost := false }
  | none => ({ s with gbb := { s.gbb with drop := bump s.gbb.drop } }).setChan c { done with lost := true }

/-- CLK_TIM edges from a channel's NCO instant to its next base boundary; none while its code stands still. -/
def Channel.toBoundary (x : Channel) (r : SigRow) : Option Nat :=
  if x.codeFw = 0 then none
  else
    let code := x.chip.toNat * 2 ^ 32 + x.frac.toNat
    let next := (x.chip.toNat / r.base + 1) * r.base * 2 ^ 32
    some (((next - code) * 5 + x.codeFw.toNat - 1) / x.codeFw.toNat)

/-- Staged words take effect at a base boundary (R58, R60, R63). -/
def Channel.stage (x : Channel) (r : SigRow) : Channel :=
  let slew : Int := match x.stSlew with
    | some v => v.toInt * 4194304
    | none => 0
  let code : Int := (x.chip.toNat * 2 ^ 32 + x.frac.toNat : Nat) + slew
  let wrap : Int := r.wrap x.pilotEn
  let y := { x with
    carrFw := x.stCarr.getD x.carrFw, codeFw := x.stCode.getD x.codeFw, stCarr := none, stCode := none, stSlew := none
    chip := BitVec.ofInt 24 (code / 2 ^ 32 % wrap), frac := BitVec.ofInt 32 code
    period := x.period + BitVec.ofInt 8 (code / 2 ^ 32 / wrap)
    accPhase := x.accPhase + BitVec.ofInt 64 (x.stCyc * 2 ^ 32)
    adj := x.adj || x.stCyc ≠ 0, cycDone := x.cycDone + x.stCyc, stCyc := 0 }
  if x.acc = x.accNow then y else { y with accNow := x.acc }.discard

/-- The correlators run: always in full tracking, within the 40 ms of a burst in burst tracking (R81); not during the pause
of a microcode load (R586). -/
def State.correlates (s : State) : Bool := s.upd.paused ≠ some .gbb && (!s.gbb.burstNow || s.gbb.inBurst)

/-- A base boundary of a channel: the base period's sums are added, an accumulation that is complete is dumped, and
staged words take effect. A chain that is not ready delivers zero samples (R52). -/
def State.baseBoundary (s : State) (c : Fin 672) (sums : Vector Int 8) (r : SigRow) : State :=
  let x := s.chan c
  let d := if s.chainReady c x.chain then sums else Vector.replicate 8 0
  let d := if x.pilotEn then d else (d.set 4 0).set 5 0
  let s1 := if s.correlates then s.setChan c (x.accumulate d) else s
  let s2 := if s.correlates && (s1.chan c).accNow.toNat ≤ (s1.chan c).accDone then s1.dump c else s1
  s2.setChan c ((s2.chan c).stage r)

/-- BASE_BOUNDARY (R58). -/
def execBaseBoundary (c : Fin 672) (sums : Vector Int 8) (s : State) : Result :=
  let x := s.chan c
  match x.row with
  | none => .next s
  | some r =>
    match x.toBoundary r with
    | none => .next s
    | some n =>
      if x.started && s.blk.gbb.st = .on then
        let t := x.atTick + n
        .next (((s.reachTicks t).setChan c (x.advance t)).baseBoundary c sums r)
      else .next s

/-! ### Acquisition (R69 to R72) -/

/-- Doppler bins of a request: 2 x ceil(half-width / (500 / COH)) + 1 (R70). -/
def acqBins (half coh : Nat) : Nat := 2 * ((half * coh + 499) / 500) + 1

/-- A request's parameters lie within R70. -/
def AcqReq.ok (q : AcqReq) : Bool :=
  let coh := bitsOf q.cmd0.toNat 23 20
  let non := bitsOf q.cmd0.toNat 28 24
  let dop := (q.cmd1.setWidth 18 : BitVec 18).toInt
  let half := bitsOf q.cmd2.toNat 14 0
  match sigRow (bitsOf q.cmd0.toNat 10 3) (bitsOf q.cmd0.toNat 18 11) with
  | none => false
  | some r =>
    bitsOf q.cmd0.toNat 2 1 = r.chain && 1 ≤ coh && coh ≤ 10 && 1 ≤ non && non ≤ 16 &&
      -60000 ≤ dop && dop ≤ 60000 && half ≤ 20000 && acqBins half coh ≤ 1025

/-- The next pending request enters service when none is in service and the GBB is ON (R71). -/
def State.acqEnter (s : State) : State :=
  match s.gbb.acq.phase, s.gbb.acq.queue with
  | none, _ :: _ =>
    if s.blk.gbb.st = .on then
      { s with gbb := { s.gbb with acq := { s.gbb.acq with
          phase := some .snapshot, snapNs := (s.tb 0).nsField, snapAt := s.tim.ticks } } }
    else s
  | _, _ => s

/-- A write of CMD2 submits a request (R69). -/
def State.acqSubmit (s : State) (w : Word) : State :=
  let a := s.gbb.acq
  let q : AcqReq := ⟨a.cmd0, a.cmd1, w⟩
  let last := fun (st : Status) => { s with gbb := { s.gbb with acq := { a with last := st.code } } }
  if 64 ≤ a.queue.length then (last .full).answer .full
  else if !q.ok then (last .denied).answer .denied
  else ({ s with gbb := { s.gbb with acq := { a with last := Status.ok.code, queue := a.queue ++ [q] } } }.acqEnter).answer
    .ok

/-- ACQ_SUBMIT (R69). -/
def execAcqSubmit (b : Bus) (w : Word) (s : State) : Result :=
  .next (s.guarded b 0x4005010C .write fun s => s.acqSubmit w)

/-- CLK_TIM edges of a request's snapshot: COH x NONCOH ms and one primary code period (R71). -/
def AcqReq.snapTicks (q : AcqReq) : Nat :=
  let ms := bitsOf q.cmd0.toNat 23 20 * bitsOf q.cmd0.toNat 28 24
  let code := match sigRow (bitsOf q.cmd0.toNat 10 3) (bitsOf q.cmd0.toNat 18 11) with
    | some r => (r.code * 400000 + r.rate - 1) / r.rate
    | none => 0
  ms * 400000 + code

/-- ACQ_SNAPSHOT_END (R71); the engine stands still in the pause of a microcode load (R586). -/
def execAcqSnapshotEnd (s : State) : Result :=
  match (if s.upd.paused = some .gbb then none else s.gbb.acq.phase), s.gbb.acq.queue with
  | some .snapshot, q :: _ =>
    let s1 := s.reachTicks (s.gbb.acq.snapAt + q.snapTicks)
    .next { s1 with gbb := { s1.gbb with acq := { s1.gbb.acq with phase := some .processing } } }
  | _, _ => .next s

/-- The three words of a result record (R72). -/
def acqRecord (q : AcqReq) (snap : BitVec 32) (thresh : BitVec 16) (p : AcqPeak) : List Dword :=
  let found := bit (thresh.toNat ≤ p.ratio.toNat)
  [BitVec.ofNat 64 (bitsOf q.cmd2.toNat 30 15 + found * 2 ^ 16 + snap.toNat * 2 ^ 32),
   BitVec.ofNat 64 (p.phase.toNat + p.doppler.toNat * 2 ^ 32),
   BitVec.ofNat 64 (p.ratio.toNat + p.second.toNat * 2 ^ 16)]

/-- Writes the result that waits, once its queue has room, and takes the next request into service (R71). -/
def State.acqWrite (s : State) : State :=
  match s.gbb.acq.phase, s.gbb.acq.queue with
  | some .result, _ :: t =>
    match s.enginePush (queueOf s.gbb.acq.rqueue) s.gbb.acq.result with
    | some s1 =>
      { s1 with gbb := { s1.gbb with acq := { s1.gbb.acq with phase := none, queue := t, result := [] } } }.acqEnter
    | none => s
  | _, _ => s

/-- ACQ_PROCESSING_END (R71): the result is due. -/
def execAcqProcessingEnd (p : AcqPeak) (s : State) : Result :=
  match (if s.upd.paused = some .gbb then none else s.gbb.acq.phase), s.gbb.acq.queue with
  | some .processing, q :: _ =>
    .next { s with gbb := { s.gbb with acq := { s.gbb.acq with
      phase := some .result, result := acqRecord q s.gbb.acq.snapNs s.gbb.acq.thresh p } } }.acqWrite
  | _, _ => .next s

/-- ACQ_RESULT_WRITE (R71). -/
def execAcqResultWrite (s : State) : Result := .next s.acqWrite

/-! ### Measurement latch (R73 to R79) -/

/-- Epoch period of a rate code, ns (R73). -/
def epochPeriod (rate : BitVec 3) : Nat :=
  match rate.toNat with
  | 0 => 1000000000 | 1 => 500000000 | 2 => 200000000 | 3 => 100000000 | 4 => 50000000 | _ => 20000000

/-- The next epoch instant of TB0, ns (R73, R79). -/
def State.nextEpoch (s : State) : Nat :=
  let p := epochPeriod s.gbb.rateNow
  let e := (s.tb0ns + p - 1) / p * p
  if s.gbb.lastEpoch = some e then e + p else e

/-- What the latch takes of a channel (R63, R75, R76). The C/N0 estimate is a free value that obeys the one bound the
rule sets. -/
def Channel.latchRec (x : Channel) (c : Fin 672) (ms : Nat) (v : BitVec 64) : LatchRec :=
  let cn0 : BitVec 8 := v.setWidth 8
  { chan := c.val, chain := x.chain, lli := x.lli, half := x.half, lock := x.lock
    cn0 := if cn0.toNat < 60 then 0 else cn0, sig := x.sig, prn := x.prn, chip := x.chip, frac := x.frac
    accPhase := x.accPhase, carrFw := x.carrFw, lockt := BitVec.ofNat 32 (x.lockTime ms), period := x.period
    adj := x.adj, adjCycles := if x.adj then x.cycDone else 0 }

/-- Latches one channel if its record is valid (R76). -/
def State.latchChan (s : State) (c : Fin 672) : State × List LatchRec :=
  let x := s.chan c
  if x.en && x.started && s.chainReady c x.chain then
    let f := s.takeFree
    (f.2.setChan c { x with lli := false, adj := false, cycDone := 0 },
      [(x.advance s.tim.ticks).latchRec c s.tb0ms f.1])
  else (s, [])

/-- Latches channels in ascending order. -/
def State.latchAll (s : State) : List Nat → State × List LatchRec
  | [] => (s, [])
  | k :: t =>
    if h : k < 672 then
      let a := s.latchChan ⟨k, h⟩
      let r := a.1.latchAll t
      (r.1, a.2 ++ r.2)
    else s.latchAll t

/-- The latch edge of an epoch instant (R75, R77); an epoch inside the pause of a microcode load is skipped (R586). -/
def State.latchEdge (s : State) (e : Nat) : State :=
  let s0 := { s with gbb := { s.gbb with lastEpoch := some e } }
  if s.gbb.burstNow && !s.gbb.inBurst then s0
  else
    let seq := s.gbb.seq + 1
    let table := !s.gbb.last
    let s1 := { s0 with gbb := { s0.gbb with seq := seq } }
    if s.upd.paused = some .gbb || (if table then s.gbb.held1 else s.gbb.held0) then
      { s1 with gbb := { s1.gbb with skip := satInc s1.gbb.skip, skipTotal := bump s1.gbb.skipTotal } }
    else
      let a := s1.latchAll (s1.gbb.chans.map Prod.fst)
      let l : Latched :=
        { table := table, tb0 := s.tb0ns, tb4ms := s.fleetMs, tb5 := s.tb5ns
          cycle := BitVec.ofNat 32 (e / 50000000), seq := seq, step := s.gbb.stepFlag, corr := e % 50000000 = 0
          holdover := (s.tb 0).st ≠ .locked, burst := s.gbb.inBurst && s.gbb.burstNow, rate := s.gbb.rateNow
          recs := a.2 }
      { a.1 with gbb := { a.1.gbb with
          latched := some l, stepFlag := false
          held0 := a.1.gbb.held0 || !table, held1 := a.1.gbb.held1 || table } }

/-- LATCH_EDGE (R75). -/
def execLatchEdge (s : State) : Result :=
  if s.blk.gbb.st = .on then .next ((s.reachTb0 s.nextEpoch).latchEdge s.nextEpoch) else .next s

/-- The 32 octets of a channel record (R76). -/
def LatchRec.bytes (r : LatchRec) : List Byte :=
  leBytes 4 (r.chan + bit (336 ≤ r.chan) * 2 ^ 10 + r.chain.toNat * 2 ^ 11 + 2 ^ 13 + bit r.lli * 2 ^ 14 +
    bit r.half * 2 ^ 15 + r.cn0.toNat * 2 ^ 16 + r.sig.toNat * 2 ^ 24) ++
  leBytes 4 (r.prn.toNat + r.chip.toNat * 2 ^ 8) ++ leBytes 4 r.frac.toNat ++ leBytes 8 r.accPhase.toNat ++
  leBytes 4 r.carrFw.toNat ++ leBytes 4 r.lockt.toNat ++ leBytes 4 (r.period.toNat + bit r.adj * 2 ^ 8)

/-- The 32 octets of the header (R76). -/
def Latched.header (l : Latched) : List Byte :=
  leBytes 6 (l.tb0 / 1000000000) ++ [0, 0] ++ leBytes 4 (l.tb0 % 1000000000) ++ leBytes 4 l.seq.toNat ++
  leBytes 2 l.recs.length ++ [BitVec.ofNat 8 (bit l.step + 2 * bit l.corr + 4 * bit l.holdover + 8 * bit l.burst),
    l.rate.setWidth 8] ++ leBytes 4 l.tb4ms.toNat ++ leBytes 8 0

/-- Octets of a channel's place in the table; without a valid record, zeros apart from octets 0 to 3 (R76). -/
def Latched.place (l : Latched) (chans : List (Nat × Channel)) (c : Nat) : List Byte :=
  match l.recs.find? fun r => r.chan = c with
  | some r => r.bytes
  | none =>
    let x := tabGetD {} chans c
    leBytes 4 (c + bit (336 ≤ c) * 2 ^ 10 + x.chain.toNat * 2 ^ 11) ++ leBytes 28 0

/-- The whole table (R76). -/
def Latched.tableBytes (l : Latched) (chans : List (Nat × Channel)) : List Byte :=
  l.header ++ (List.range 672).flatMap (l.place chans)

/-- The latch table is complete: it stands in the scratchpad, the interrupt is raised, and the epoch goes to the
reference solution (R76, R78, R99). -/
def State.latchComplete (s : State) (l : Latched) : State :=
  let a := s.gbb.latchBase.toNat + (if l.table then 0x5440 else 0)
  ({ s with
      mem := s.mem.write a (l.tableBytes s.gbb.chans)
      gbb := { s.gbb with latched := none, last := l.table }
      corr := { s.corr with epoch := some l } }).raise 8

/-- LATCH_TABLE_COMPLETE (R78). -/
def execLatchTableComplete (s : State) : Result :=
  match s.gbb.latched with
  | some l => .next (s.latchComplete l)
  | none => .next s

/-- A write of GBB_LATCH_REL (R77). -/
def State.latchRelease (s : State) (w : Word) : State :=
  { s with gbb := { s.gbb with held0 := s.gbb.held0 && !w.getLsbD 0, held1 := s.gbb.held1 && !w.getLsbD 1 } }

/-- LATCH_RELEASE (R77). -/
def execLatchRelease (b : Bus) (w : Word) (s : State) : Result :=
  .next (s.guarded b 0x40050028 .write fun s => s.latchRelease w)

/-! ### Burst tracking (R80 to R82) -/

/-- Sets every enabled chain ready or none (R81). -/
def State.chainsReady (s : State) (on : Bool) : State :=
  { s with grf := { s.grf with chainRdy := if on then s.grf.chainEn else 0 } }

/-- BURST_CHAIN_POWER_UP (R81): the LOs relock, and the chains read not ready until CHAIN_READY. -/
def execBurstChainPowerUp (s : State) : Result :=
  if s.gbb.burstNow && !s.gbb.inBurst then .next (s.chainsReady false) else .next s

/-- BURST_START (R81): TB0 second plus OFFSET. -/
def execBurstStart (s : State) : Result :=
  if s.gbb.burstNow && !s.gbb.inBurst && s.blk.gbb.st = .on then
    let o := s.gbb.offset.toNat * 1000000
    let sec := s.tb0ns / 1000000000
    let at' := if s.tb0ns ≤ sec * 1000000000 + o then sec * 1000000000 + o else (sec + 1) * 1000000000 + o
    let s1 := s.reachTb0 at'
    .next { s1 with gbb := { s1.gbb with
      inBurst := true, chans := s1.gbb.chans.map fun p => (p.1, p.2.discard) } }
  else .next s

/-- Dumps the accumulations that a burst's end cuts off, in ascending channel number (R68, R81). -/
def State.dumpCut (s : State) : List Nat → State
  | [] => s
  | k :: t =>
    if h : k < 672 then
      let x := s.chan ⟨k, h⟩
      (if x.started && 0 < x.accDone then s.dump ⟨k, h⟩ else s).dumpCut t
    else s.dumpCut t

/-- BURST_END (R81): 40 ms after burst start. -/
def execBurstEnd (s : State) : Result :=
  if s.gbb.inBurst then
    let sec := s.tb0ns / 1000000000
    let at' := sec * 1000000000 + (s.gbb.offset.toNat + 40) * 1000000
    let s1 := (s.reachTb0 at').dumpCut (s.gbb.chans.map Prod.fst)
    .next (({ s1 with gbb := { s1.gbb with inBurst := false } }).chainsReady false)
  else .next s

/-- Ends burst tracking or begins it as the register says, at a TB0 second boundary (R80). -/
def State.burstBoundary (s : State) : State :=
  { s with gbb := { s.gbb with
      burstNow := s.gbb.burst, inBurst := s.gbb.inBurst && s.gbb.burst, rateNow := s.gbb.rate } }

/-- A write of GBB_CTRL.BURST by firmware (R80). -/
def State.burstWrite (s : State) (v : Bool) : State :=
  if v && (s.dev.dstate = .run || s.dev.dstate = .hotStandby || s.dev.dstate = .debugSession) then s.gbbErr
  else { s with gbb := { s.gbb with burst := v } }

/-! ### Antenna bias and chains (R47 to R52) -/

/-- A selection code that applies a voltage (R47). -/
def Bias.on (b : Bias) : Bool := b.sel = 1 || b.sel = 2

/-- Antenna `mon` bias source. -/
def State.bias (s : State) (mon : Bool) : Bias := if mon then s.grf.mon else s.grf.ref

/-- Changes one bias source. -/
def State.setBias (s : State) (mon : Bool) (f : Bias → Bias) : State :=
  { s with grf := if mon then { s.grf with mon := f s.grf.mon } else { s.grf with ref := f s.grf.ref } }

/-- Bias may be applied: PD_GRF is powered, and the GRF is ON or BIAS_KEEP holds it (R49). -/
def State.biasPowered (s : State) : Bool :=
  s.dev.dstate ≠ .dormant && s.pwr.pdStat.getLsbD 7 &&
    (s.blk.grf.st = .on || s.blk.grf.st = .starting || s.grf.biasKeep)

/-- Applies or removes the bias of both antennas as the selection and the power say. -/
def State.biasApply (s : State) : State :=
  let f := fun (b : Bias) => { b with applied := b.on && s.biasPowered && !b.isShort }
  { s with grf := { s.grf with ref := f s.grf.ref, mon := f s.grf.mon } }

/-- A write of GRF_BIAS: a changed selection starts afresh (R47). -/
def State.biasWrite (s : State) (w : Word) : State :=
  let f := fun (b : Bias) (v : BitVec 2) =>
    if v = b.sel then b else { b with sel := v, isOpen := false, isShort := false }
  ({ s with grf := { s.grf with
      ref := f s.grf.ref (w.extractLsb' 0 2), mon := f s.grf.mon (w.extractLsb' 8 2) } }).biasApply

/-- BIAS_SHORT (R47): the limit is 100 mA; the bias is removed and SHORT reported. -/
def execBiasShort (mon : Bool) (s : State) : Result :=
  if (s.bias mon).applied then
    .next (((s.setBias mon fun b => { b with isShort := true, isOpen := false, applied := false, ma := 100 }).raise
      10).event .biasFault [bit mon, 1])
  else .next s

/-- BIAS_OPEN (R47): below 2 mA for 100 ms. -/
def execBiasOpen (mon : Bool) (ma : BitVec 1) (s : State) : Result :=
  if (s.bias mon).applied then
    .next (((s.setBias mon fun b => { b with isOpen := true, ma := ma.setWidth 8 }).raise 10).event
      .biasFault [bit mon, 0])
  else .next s

/-- BIAS_RETRY (R47): once every 1 s after a SHORT, while the selection stays on. -/
def execBiasRetry (mon : Bool) (s : State) : Result :=
  if (s.bias mon).isShort && (s.bias mon).on && s.biasPowered then
    .next (s.setBias mon fun b => { b with isShort := false, applied := true })
  else .next s

/-- CHAIN_READY (R52). -/
def execChainReady (q : Fin 6) (s : State) : Result :=
  if s.blk.grf.st = .on && s.grf.chainEn.getLsbD q.val then
    .next { s with grf := { s.grf with chainRdy := s.grf.chainRdy ||| (1#6 <<< q.val) } }
  else .next s

/-- A write of the block fields of GRF_CTRL: a chain that is no longer enabled is no longer ready (R52, R86). -/
def State.grfCtrl (s : State) (w : Word) : State :=
  let en : BitVec 6 := w.extractLsb' 2 6
  ({ s with grf := { s.grf with
      biasKeep := w.getLsbD 1, chainEn := en, chainRdy := s.grf.chainRdy &&& en } }).biasApply

/-- A write of GRF_AGCq: MANUAL fixes the gain at MAN_GAIN (R51). -/
def State.agcWrite (s : State) (q : Fin 6) (w : Word) : State :=
  let a := s.grf.agc[q]
  let man := w.getLsbD 7
  let g : BitVec 7 := w.extractLsb' 8 7
  let a' : Agc := { a with manual := man, manGain := g, gain := if man then g else a.gain }
  { s with grf := { s.grf with agc := s.grf.agc.set q a' } }

/-- GRF register writes other than ENABLE (R86). -/
def State.grfWrite (s : State) (off : Nat) (w : Word) : State :=
  if off = 0 then s.grfCtrl w
  else if off = 0x10 then s.biasWrite w
  else if h : 0x20 ≤ off ∧ off < 0x38 then s.agcWrite ⟨(off - 0x20) / 4, by omega⟩ w
  else s

/-- A write of GBB_LATCH_BASE: 64-byte aligned, both tables within the scratchpad (R76). -/
def State.latchBaseWrite (s : State) (w : Word) : State :=
  if w.toNat % 64 = 0 && 0x08000000 ≤ w.toNat && w.toNat + 0x5440 + 21536 ≤ 0x08400000 then
    { s with gbb := { s.gbb with latchBase := w } }
  else s.gbbErr

/-- GBB register writes other than ENABLE (R64, R87). -/
def State.gbbWrite (s : State) (off : Nat) (w : Word) : State :=
  if h : 0x1000 ≤ off ∧ off < 0x1000 + 0x20 * 672 then
    s.chanWrite ⟨(off - 0x1000) / 0x20, by omega⟩ (off % 0x20 / 4) w
  else if h : 0x40 ≤ off ∧ off < 0x50 then
    let i := (off - 0x40) / 4
    let put := fun (v : Vector (BitVec 5) 16) (j : Nat) =>
      if h : 4 * i + j < 16 then v.set (4 * i + j) (w.extractLsb' (8 * j) 5) else v
    { s with gbb := { s.gbb with dqmap := put (put (put (put s.gbb.dqmap 0) 1) 2) 3 } }
  else match off with
    | 0x00 => s.burstWrite (w.getLsbD 1)
    | 0x04 => if w.getLsbD 8 then { s with gbb := { s.gbb with cfgErr := false } } else s
    | 0x10 =>
      let r : BitVec 3 := w.extractLsb' 0 3
      if 5 < r.toNat then s.gbbErr else { s with gbb := { s.gbb with rate := r } }
    | 0x14 =>
      let o : BitVec 10 := w.extractLsb' 0 10
      if 959 < o.toNat then s.gbbErr else { s with gbb := { s.gbb with offset := o } }
    | 0x20 => s.latchBaseWrite w
    | 0x24 => if w.extractLsb' 8 8 = (0 : BitVec 8) then s else { s with gbb := { s.gbb with skip := 0 } }
    | 0x28 => s.latchRelease w
    | 0x100 =>
      let t : BitVec 16 := w.extractLsb' 16 16
      let t := if t.toNat < 0x200 then 0x200 else if 0xFF00 < t.toNat then 0xFF00 else t
      { s with gbb := { s.gbb with acq := { s.gbb.acq with rqueue := w.extractLsb' 0 5, thresh := t } } }
    | 0x104 => { s with gbb := { s.gbb with acq := { s.gbb.acq with cmd0 := w } } }
    | 0x108 => { s with gbb := { s.gbb with acq := { s.gbb.acq with cmd1 := w } } }
    | 0x10C => s.acqSubmit w
    | _ => s

/-- Tracking stops with the GBB (R41): channels no longer run, the latch in progress ends, the search engine is
emptied. -/
def State.gbbStop (s : State) : State :=
  { s with gbb := { s.gbb with
      latched := none, inBurst := false
      chans := s.gbb.chans.map fun p => (p.1, { p.2 with started := false }.discard)
      acq := { s.gbb.acq with queue := [], phase := none, result := [] } } }

/-- The GRF has stopped: chains and ADCs are down; bias as BIAS_KEEP says (R41, R49). -/
def State.grfStop (s : State) : State := ({ s with grf := { s.grf with chainRdy := 0 } }).biasApply

end Sys2Proof.Machine
end

