-- ==== Sys2Proof/Machine/Survey.lean ====
section
/-!
DEFINITION. Station position, surveys and the mismatch check (spec/03_corrections.md, R91 to R97; the baseline survey of
spec/04_teasel_integrity.md, R130).
-/
namespace Sys2Proof.Machine

/-- Octets of a stored signed component. -/
def compKey (idx i : Nat) : Nat := odKey idx (i + 1)

/-- Station coordinates, 0.1 mm (R91). -/
def State.arp (s : State) : Int × Int × Int := (s.odInt 0xA810 1 0, s.odInt 0xA810 2 0, s.odInt 0xA810 3 0)

/-- The square of a vector's length. -/
def normSq (v : Int × Int × Int) : Int := v.1 * v.1 + v.2.1 * v.2.1 + v.2.2 * v.2.2

/-- Source of the station position in force, as OD 0x3000:01 reads it (R91). -/
def State.posSource (s : State) : Nat :=
  let r := normSq s.arp
  if 63400000000 * 63400000000 ≤ r && r ≤ 64000000000 * 64000000000 then s.corr.source.toNat else 0

/-- A station position is in force (R91). -/
def State.posInForce (s : State) : Bool := s.posSource ≠ 0

/-- Changes the corrections part. -/
def State.setCorr (s : State) (f : Corrections → Corrections) : State := { s with corr := f s.corr }

/-- Changes Teasel's part. -/
def State.setTsl (s : State) (f : Teasel → Teasel) : State := { s with tsl := f s.tsl }

/-- Octet length limits of the objects of 0xA810 by sub-index (R126). -/
def stationLength (sub n : Nat) : Bool :=
  match sub with
  | 1 | 2 | 3 => n = 8
  | 4 => n = 2
  | 6 => n = 1
  | _ => n ≤ 31

/-- A write to an object of 0xA810 (R92). -/
def State.stationWrite (s : State) (sub : Nat) (v : List Byte) : State :=
  if sub = 0 || 7 < sub then s.deny .noSub
  else if !s.listening then s.deny .state
  else if !stationLength sub v.length then s.deny .length
  else
    let dflt := match sub with
      | 1 | 2 | 3 => leBytes 8 0
      | 4 => leBytes 2 0
      | 6 => [0]
      | _ => []
    let old := s.odHeld (odKey 0xA810 sub) dflt
    let s1 := (s.odStore (odKey 0xA810 sub) v dflt).answer .ok
    if sub ≤ 3 && old ≠ v then (s1.setCorr fun c => { c with source := 1, mismatch := false }).event .stationPosition [sub]
    else s1

/-- STATION_POSITION_WRITE (R92). -/
def execStationPositionWrite (role : Role) (sub : Fin 8) (v : List Byte) (s : State) : Result :=
  .next (s.asRole role .engineer fun s => s.stationWrite sub.val v)

/-- A write of 1 to OD 0x3000:07 (R97). -/
def State.mismatchAck (s : State) : State := (s.setCorr fun c => { c with mismatch := false }).answer .ok

/-- MISMATCH_ACKNOWLEDGE (R97). -/
def execMismatchAcknowledge (role : Role) (s : State) : Result :=
  .next (s.asRole role .engineer State.mismatchAck)

/-! ### Surveys -/

/-- A survey that has begun afresh. -/
def Survey.begun : Survey := { st := .running }

/-- A survey aborted, its mean discarded (R94, R130). -/
def Survey.aborted (v : Survey) : Survey := if v.st = .running then { st := .aborted } else v

/-- Mean of a component, rounded to the nearest unit. -/
def meanOf (sum : Int) (n : Nat) : Int := if n = 0 then 0 else (2 * sum + n) / (2 * n)

/-- Standard deviation of the mean over the three components, in the survey's unit (R94, R151). -/
def Survey.sdMean (v : Survey) : Nat :=
  let n := v.count
  if n < 2 then 0
  else
    let m := (v.sx * v.sx + v.sy * v.sy + v.sz * v.sz).toNat
    Nat.sqrt ((n * v.sq - m) / (n * n * (n - 1)))

/-- An accepted solution is added; the survey completes at its duration (R93, R130). `unit` scales the deviation. -/
def Survey.add (v : Survey) (p : Int × Int × Int) (duration unit : Nat) : Survey :=
  let w := { v with count := v.count + 1, sx := v.sx + p.1, sy := v.sy + p.2.1, sz := v.sz + p.2.2
                    sq := v.sq + (normSq p).toNat }
  if duration ≤ w.count then
    { w with st := .complete, rx := meanOf w.sx w.count, ry := meanOf w.sy w.count, rz := meanOf w.sz w.count
             sd := w.sdMean / unit }
  else w

/-- Starting a self-survey (R93). -/
def State.selfSurveyStart (s : State) : State :=
  if s.listening && s.blk.gbb.st = .on then (s.setCorr fun c => { c with survey := Survey.begun }).answer .ok
  else s.deny .state

/-- SELF_SURVEY_START (R93). -/
def execSelfSurveyStart (role : Role) (s : State) : Result :=
  .next (s.asRole role .engineer State.selfSurveyStart)

/-- Aborts a self-survey that runs (R94). -/
def State.selfSurveyAbort (s : State) : State := s.setCorr fun c => { c with survey := c.survey.aborted }

/-- SELF_SURVEY_ABORT (R94). -/
def execSelfSurveyAbort (role : Role) (s : State) : Result :=
  .next (s.asRole role .engineer fun s => s.selfSurveyAbort.answer .ok)

/-- Adopting a completed self-survey (R95). -/
def State.selfSurveyAdopt (s : State) : State :=
  let v := s.corr.survey
  if s.listening && v.st = .complete then
    let z := leBytes 8 0
    let s1 := ((s.odStore (odKey 0xA810 1) (leBytesInt 8 v.rx) z).odStore (odKey 0xA810 2) (leBytesInt 8 v.ry) z).odStore
      (odKey 0xA810 3) (leBytesInt 8 v.rz) z
    ((s1.setCorr fun c => { c with source := 2, mismatch := false }).event .stationPosition [0]).answer .ok
  else s.deny .state

/-- SELF_SURVEY_ADOPT (R95). -/
def execSelfSurveyAdopt (role : Role) (s : State) : Result :=
  .next (s.asRole role .engineer State.selfSurveyAdopt)

/-- The second's standalone solution in a running self-survey (R93). -/
def State.surveySample (s : State) (p : Standalone) : State :=
  if s.corr.survey.st = .running && 6 ≤ p.nsat && p.pdop ≤ 40 then
    let v := s.corr.survey.add (p.x, p.y, p.z) (s.od 0x3010 1 14400) 10
    let s1 := s.setCorr fun c => { c with survey := v }
    if v.st = .complete then s1.event .surveyDone [0] else s1
  else s

/-! ### Position mismatch (R97) -/

/-- Inserts into an ascending list. -/
def insertInt (v : Int) : List Int → List Int
  | [] => [v]
  | a :: t => if v ≤ a then v :: a :: t else a :: insertInt v t

/-- Median of a list; of an even number the mean of the middle two, rounded. -/
def medianInt (l : List Int) : Int :=
  let o := l.foldr insertInt []
  let n := o.length
  if n = 0 then 0
  else if n % 2 = 1 then o.getD (n / 2) 0
  else meanOf (o.getD (n / 2 - 1) 0 + o.getD (n / 2) 0) 2

/-- The check passes (R97). -/
def State.mismatchPasses (s : State) : Bool :=
  let l := s.corr.solutions
  let m := (medianInt (l.map fun p => p.1), medianInt (l.map fun p => p.2.1), medianInt (l.map fun p => p.2.2))
  let a := s.arp
  let t : Int := s.od 0x3000 3 10 * 10000
  30 ≤ l.length && normSq (a.1 - m.1, a.2.1 - m.2.1, a.2.2 - m.2.2) ≤ t * t

/-- The check of one TB0 second, while tracking with a station position in force (R97). -/
def State.mismatchCheck (s : State) : State :=
  if s.blk.gbb.st ≠ .on || !s.posInForce then s
  else if s.mismatchPasses then
    s.setCorr fun c => { c with mismatch := c.mismatch && c.firstPassed, firstPassed := true }
  else if s.corr.mismatch then s
  else (s.setCorr fun c => { c with mismatch := true }).event .stationMismatch []

/-- A standalone solution joins the last 30, and the first one after GBB ON gives the time to first fix (R88, R97). -/
def State.noteSolution (s : State) (p : Standalone) : State :=
  let s1 := s.setCorr fun c => { c with solutions := ((p.x, p.y, p.z) :: c.solutions).take 30 }
  match s1.corr.gbbOnMs with
  | some t => s1.setCorr fun c => { c with gbbOnMs := none, ttff := BitVec.ofNat 32 (s.tb5ms - t) }
  | none => s1

end Sys2Proof.Machine
end

