-- ==== Sys2Proof/Machine/Teasel.lean ====
section
/-!
DEFINITION. Teasel: the integrity-lost condition, ambiguities, tests and the verdict (spec/04_teasel_integrity.md).
-/
namespace Sys2Proof.Machine

/-- Teasel runs in verified mode (R149). -/
def State.verified (s : State) : Bool := s.od 0x3800 1 0 = 0

/-- The baseline is present: one of its components has been written (R129). -/
def State.baseline (s : State) : Int × Int × Int := (s.odInt 0x3810 1 0, s.odInt 0x3810 2 0, s.odInt 0x3810 3 0)

/-- Teasel verifies epochs (R27, R133). -/
def State.verifies (s : State) : Bool :=
  match s.dev.dstate with
  | .run | .hotStandby | .debugSession => true
  | .listening => s.blk.gbb.st = .on && s.posInForce
  | _ => false

/-- The integrity-lost condition is entered; a condition that holds already is no new entry (R142, R145). The number
recorded is the cause. -/
def State.integrityEnter (s : State) (cause : Nat) (more : List Nat) : State :=
  let s1 := s.setTsl fun t => { t with run := 0 }
  if s.tsl.lost then s1
  else
    ((s1.setTsl fun t => { t with lost := true, entries := bump t.entries }).event .integrityLost
      (cause :: more)).emcyAllOn .integrityLost .integrityLost

/-- The condition is left (R143, R145). -/
def State.integrityLeave (s : State) (seq : Nat) : State :=
  ((s.setTsl fun t => { t with lost := false }).event .integrityRecovered [seq]).emcyAllOff .integrityLost
    .integrityRecovered

/-- Teasel starts: no ambiguity is held, and the condition is entered (R134, R142). -/
def State.teaselStart (s : State) : State :=
  (s.setTsl fun t => { t with amb := [], fixDone := false, running := true, staleFrom := some s.tb0ns }).integrityEnter 5 []

/-- A STALE interval begins when verification resumes and ends when it stops (R142). -/
def State.teaselResume (s : State) : State :=
  if !s.verifies then s.setTsl fun t => { t with staleFrom := none }
  else match s.tsl.staleFrom with
    | some _ => s
    | none => s.setTsl fun t => { t with staleFrom := some s.tb0ns }

/-- The condition bit a permit carries (R144). -/
def State.integrityBit (s : State) : Bool := s.tsl.lost || !s.verified

/-- Teasel writes the condition word of a cycle (R146). -/
def State.writeWord (s : State) (cycle : BitVec 32) : State :=
  { s with saf := { s.saf with tword0 := cycle, tword1 := s.integrityBit, tword := some (cycle, s.integrityBit) } }

/-- Rate of correction-grid epochs, Hz (R74). -/
def gridRate (rate : BitVec 3) : Nat :=
  match rate.toNat with
  | 0 => 1 | 1 => 2 | 2 => 5 | 3 => 10 | 4 => 20 | _ => 10

/-- A STALE verdict at an instant (R142). -/
def State.staleAt (s : State) (ns : Nat) : State :=
  ((s.setTsl fun t => { t with verdict := some .stale, staleFrom := some ns, stales := bump t.stales }).integrityEnter 4
    []).event .staleVerdict [ns / 1000000]

/-- STALE_VERDICT (R142). -/
def execStaleVerdict (s : State) : Result :=
  match s.tsl.staleFrom with
  | some f =>
    if s.verified && s.verifies then
      let e := f + 2000000000 / gridRate s.gbb.rateNow
      .next ((s.reachTb0 e).staleAt e)
    else .next s
  | none => .next s.teaselResume

/-! ### Cells and ambiguities (R100, R134 to R136) -/

/-- Satellite of a latch record. -/
def LatchRec.sat (r : LatchRec) : SatId := ⟨r.sig.extractLsb' 4 4, r.prn⟩

/-- The record gives a cell (R100), but for Teasel's exclusions. -/
def State.cellOk (s : State) (e : EpochInput) (r : LatchRec) : Bool :=
  r.lock && s.od 0x3000 6 30 * 4 ≤ r.cn0.toNat &&
    e.sats.any fun v => v.id = r.sat && v.healthy && (s.od 0x3000 5 10 : Int) ≤ v.elev

/-- Reference cells of an epoch (R133). -/
def State.refCells (s : State) (e : EpochInput) (l : Latched) : List LatchRec :=
  l.recs.filter fun r => r.chan < 336 && s.cellOk e r

/-- Monitor cells of an epoch (R133). -/
def State.monCells (s : State) (e : EpochInput) (l : Latched) : List LatchRec :=
  l.recs.filter fun r => 336 ≤ r.chan && s.cellOk e r

/-- Distinct satellites of cells. -/
def satsOf (l : List LatchRec) : List SatId := (l.map LatchRec.sat).eraseDups

/-- The cell of the same satellite and signal. -/
def matching (l : List LatchRec) (r : LatchRec) : Option LatchRec := l.find? fun x => x.sat = r.sat && x.sig = r.sig

/-- An ambiguity not held yet takes the epoch's seed and counts consecutive epochs within 0.15 cycle (R134). -/
def Ambiguity.observe (a : Ambiguity) (o : AmbIn) : Ambiguity :=
  if a.held then a
  else
    let good := if o.frac ≤ 150 then a.good + 1 else 0
    { a with value := o.seed, good := good, held := 3 ≤ good }

/-- Ambiguity of one double-differenced cell after an epoch (R134, R135). -/
def ambCell (old : List Ambiguity) (obs : List AmbIn) (tb0 : Nat) (r m : LatchRec) : List Ambiguity :=
  match obs.find? fun o => o.sat = r.sat && o.sig = r.sig with
  | none => []
  | some o =>
    let fresh : Ambiguity := ⟨r.sat, r.sig, o.seed, 0, false, tb0⟩
    let a := if r.lli || m.lli then fresh
      else (old.find? fun a => a.sat = r.sat && a.sig = r.sig).getD fresh
    let a := { a with value := a.value + r.adjCycles + m.adjCycles, seenNs := tb0 }
    [a.observe o]

/-- Ambiguities after an epoch: those of its cells, and absent ones for up to 1 s (R135). Without a baseline there is
nothing to seed from (R129). -/
def State.ambEpoch (s : State) (e : EpochInput) (ref mon : List LatchRec) (tb0 : Nat) : List Ambiguity :=
  if !s.tsl.baseSet then []
  else
    let now := ref.flatMap fun r => match matching mon r with
      | some m => ambCell s.tsl.amb e.ambs tb0 r m
      | none => []
    let kept := s.tsl.amb.filter fun a =>
      tb0 ≤ a.seenNs + 1000000000 && !now.any fun b => b.sat = a.sat && b.sig = a.sig
    now ++ kept

/-- A cell's ambiguity is held. -/
def ambHeld (l : List Ambiguity) (sat : SatId) (sig : BitVec 8) : Bool :=
  l.any fun a => a.sat = sat && a.sig = sig && a.held

/-- Satellites with a held ambiguity among the cells, on any signal or on those of chain U only. -/
def heldSats (l : List Ambiguity) (cells : List LatchRec) (uOnly : Bool) : List SatId :=
  satsOf (cells.filter fun r => ambHeld l r.sat r.sig && (!uOnly || r.chain = 0))

/-! ### Tests (R137 to R140) -/

/-- A ratio of residual to threshold. -/
abbrev Ratio := Nat × Nat

/-- The larger of two ratios. -/
def Ratio.max (a b : Ratio) : Ratio := if a.1 * b.2 < b.1 * a.2 then b else a

/-- The largest ratio over a cell's tests (R137). -/
def State.cellRatio (s : State) (amb : List Ambiguity) (v : SolveIn) (r m : LatchRec) : Ratio :=
  let x := (v.res.find? fun q => q.sat = r.sat && q.sig = r.sig).getD ⟨r.sat, r.sig, 0, 0⟩
  let ph : Ratio := if ambHeld amb r.sat r.sig then (x.phase, s.od 0x3820 3 20 * 10) else (0, 1)
  let co : Ratio := (x.code, s.od 0x3820 4 30 * 100)
  let cn : Ratio := (((r.cn0.toNat : Int) - m.cn0.toNat).natAbs, s.od 0x3820 5 8 * 4)
  Ratio.max ph (Ratio.max co cn)

/-- The largest ratio of a satellite's cells. -/
def State.satRatio (s : State) (amb : List Ambiguity) (v : SolveIn) (ref mon : List LatchRec) (i : SatId) : Ratio :=
  ref.foldl (fun acc r => if r.sat = i then
    match matching mon r with
    | some m => Ratio.max acc (s.cellRatio amb v r m)
    | none => acc
    else acc) (0, 1)

/-- A ratio above 1: the test fails. -/
def Ratio.fails (r : Ratio) : Bool := r.2 < r.1

/-- The worst satellite that fails, the first of equals in ascending order of its place (R137). -/
def State.worst (s : State) (amb : List Ambiguity) (v : SolveIn) (ref mon : List LatchRec) : Option SatId :=
  let c := (satsOf ref).map fun i => (i, s.satRatio amb v ref mon i)
  let w := c.foldl (fun (acc : Option (SatId × Ratio)) p =>
    if !Ratio.fails p.2 then acc
    else match acc with
      | some a => if a.2.1 * p.2.2 < p.2.1 * a.2.2 then some p else acc
      | none => some p) none
  w.map Prod.fst

/-- Outcome of the exclusion loop: the satellites excluded, whether every test passed, and the last solve. -/
structure LoopOut where
  /-- excluded, in order -/
  excl : List SatId
  /-- every remaining satellite passes -/
  pass : Bool
  /-- the solve the loop ended with -/
  last : SolveIn

/-- The residual loop (R138): `n` bounds its iterations. -/
def State.exclLoop (s : State) (amb : List Ambiguity) (solves : List SolveIn) (ref mon : List LatchRec)
    (excl : List SatId) : Nat → LoopOut
  | 0 => ⟨excl, false, {}⟩
  | n + 1 =>
    let v := solves.headD {}
    match s.worst amb v ref mon with
    | none => ⟨excl, true, v⟩
    | some w =>
      let ref' := ref.filter fun r => r.sat ≠ w
      if s.od 0x3820 6 4 ≤ excl.length then ⟨excl, false, v⟩
      else if (heldSats amb ref' false).length < s.od 0x3820 7 6 then ⟨excl, false, v⟩
      else s.exclLoop amb solves.tail ref' (mon.filter fun r => r.sat ≠ w) (excl ++ [w]) n

/-- What verification of an epoch found. -/
structure Checked where
  /-- ambiguities after the epoch -/
  amb : List Ambiguity
  /-- the initial fix is complete -/
  fix : Bool
  /-- every test passed -/
  pass : Bool
  /-- satellites excluded by the tests -/
  excl : List SatId
  /-- satellites absent from the release: excluded, in quarantine, or on no monitor channel -/
  out : List SatId
  /-- horizontal difference, 0.1 mm, and its up component, where the baseline test ran -/
  diff : Option (Nat × Int)
  /-- satellites with held ambiguities -/
  held : Nat

/-- Verification of one epoch in verified mode (R133 to R140). The exclusion of satellites that are on no monitor channel
withholds an epoch that it leaves with too few held ambiguities, so a missing monitor antenna withholds every epoch (R138,
R150). -/
def State.check (s : State) (e : EpochInput) (l : Latched) : Checked :=
  let quar := (s.tsl.quarantine.filter fun q => l.tb0 < q.2).map Prod.fst
  let ref := (s.refCells e l).filter fun r => !quar.contains r.sat
  let mon := (s.monCells e l).filter fun r => !quar.contains r.sat
  let amb := s.ambEpoch e ref mon l.tb0
  let lone := (satsOf ref).filter fun i => !(satsOf mon).contains i
  let fix := s.tsl.fixDone || s.od 0x3820 7 6 ≤ (heldSats amb ref true).length
  let both := ref.filter fun r => !lone.contains r.sat
  let held := (heldSats amb both false).length
  if !fix then ⟨amb, false, false, [], quar ++ lone, none, held⟩
  else if !lone.isEmpty && held < s.od 0x3820 7 6 then
    ⟨amb, true, false, [], quar ++ lone, none, held⟩
  else
    let o := s.exclLoop amb e.solves both mon [] 10
    let amb' := amb.filter fun a => !o.excl.contains a.sat
    let held' := (heldSats amb' both false).length
    if !o.pass then ⟨amb', true, false, o.excl, quar ++ lone ++ o.excl, none, held'⟩
    else
      let b := s.baseline
      let dx := o.last.e - b.1
      let dy := o.last.n - b.2.1
      let du := o.last.u - b.2.2
      let h := (dx * dx + dy * dy).toNat
      let th := s.od 0x3820 1 15 * 10
      let ok := h ≤ th * th && du.natAbs ≤ s.od 0x3820 2 30 * 10
      ⟨amb', true, ok, o.excl, quar ++ lone ++ o.excl, some (Nat.sqrt h, du), held'⟩

/-! ### Writes of mode and baseline; the baseline survey (R129 to R131, R148 to R150) -/

/-- SF4 is enabled (OD 0x7030:01). -/
def State.sf4On (s : State) : Bool := s.od 0x7020 5 0 = 1

/-- A write of the mode (R148, R150). -/
def State.teaselMode (s : State) (v : Nat) : State :=
  if 1 < v then s.deny .range
  else if !s.listening then s.deny .state
  else if v = 1 && s.sf4On then s.deny .other
  else
    let old := s.od 0x3800 1 0
    let s1 := s.odStore (odKey 0x3800 1) (leBytes 1 v) [0]
    (if old = v then s1 else s1.teaselStart).answer .ok

/-- TEASEL_MODE_WRITE (R150). -/
def execTeaselModeWrite (role : Role) (v : Nat) (s : State) : Result :=
  .next (s.asRole role .engineer fun s => s.teaselMode v)

/-- A baseline's length lies within 2.0 m to 100.0 m (R129). -/
def baselineOk (v : Int × Int × Int) : Bool := 20000 * 20000 ≤ normSq v && normSq v ≤ 1000000 * 1000000

/-- A new baseline is in force: ambiguities dropped, condition set, fresh initial fix (R131). -/
def State.baselineTaken (s : State) : State :=
  ((s.setTsl fun t => { t with baseSet := true }).teaselStart).event .baselineChanged []

/-- A direct write of one component, 0 to 2 (R129, R131). -/
def State.baselineWrite (s : State) (i : Fin 3) (v : Int) : State :=
  let b := s.baseline
  let n := match i with
    | 0 => (v, b.2.1, b.2.2)
    | 1 => (b.1, v, b.2.2)
    | 2 => (b.1, b.2.1, v)
  if v < -2147483648 || 2147483647 < v then s.deny .range
  else if !s.listening then s.deny .state
  else if !baselineOk n then s.deny .range
  else ((s.odStore (compKey 0x3810 i.val) (leBytesInt 4 v) (leBytes 4 0)).baselineTaken).answer .ok

/-- BASELINE_WRITE (R131). -/
def execBaselineWrite (role : Role) (sub : Fin 3) (v : Int) (s : State) : Result :=
  .next (s.asRole role .engineer fun s => s.baselineWrite sub v)

/-- Starting a baseline survey (R130). -/
def State.baseSurveyStart (s : State) : State :=
  if s.listening && s.blk.gbb.st = .on && s.verified then
    (s.setTsl fun t => { t with survey := Survey.begun }).answer .ok
  else s.deny .state

/-- BASELINE_SURVEY_START (R130). -/
def execBaselineSurveyStart (role : Role) (s : State) : Result :=
  .next (s.asRole role .engineer State.baseSurveyStart)

/-- Aborts a baseline survey that runs (R130). -/
def State.baseSurveyAbort (s : State) : State := s.setTsl fun t => { t with survey := t.survey.aborted }

/-- BASELINE_SURVEY_ABORT (R130). -/
def execBaselineSurveyAbort (role : Role) (s : State) : Result :=
  .next (s.asRole role .engineer fun s => s.baseSurveyAbort.answer .ok)

/-- Adopting a baseline survey (R131). -/
def State.baseSurveyAdopt (s : State) : State :=
  let v := s.tsl.survey
  if s.listening && v.st = .complete && baselineOk (v.rx, v.ry, v.rz) then
    let z := leBytes 4 0
    let s1 := ((s.odStore (odKey 0x3810 1) (leBytesInt 4 v.rx) z).odStore (odKey 0x3810 2) (leBytesInt 4 v.ry) z).odStore
      (odKey 0x3810 3) (leBytesInt 4 v.rz) z
    s1.baselineTaken.answer .ok
  else s.deny .state

/-- BASELINE_SURVEY_ADOPT (R131). -/
def execBaselineSurveyAdopt (role : Role) (s : State) : Result :=
  .next (s.asRole role .engineer State.baseSurveyAdopt)

/-- The second's RTK solution in a running baseline survey (R130). -/
def State.baseSurveySample (s : State) (p : RtkSolution) : State :=
  if s.tsl.survey.st = .running && 8 ≤ p.nfix && 30 ≤ p.ratio then
    let v := s.tsl.survey.add (p.e, p.n, p.u) (s.od 0x3830 1 600) 1
    let s1 := s.setTsl fun t => { t with survey := v }
    if v.st = .complete then s1.event .surveyDone [1] else s1
  else s

/-- Leaving *Listening*, or the GBB leaving ON, aborts both surveys (R94, R130). -/
def State.surveysEnd (s : State) : State := s.selfSurveyAbort.baseSurveyAbort

end Sys2Proof.Machine
end

