-- ==== Sys2Proof/Machine/Time.lean ====
section
/-!
DEFINITION. Meanings of the time commands, and the TIM and Ethernet time-stamp registers (spec/10_time.md).
-/
namespace Sys2Proof.Machine

/-- SOURCE_MEASUREMENT (R330). -/
def execSourceMeasurement (n : Fin 5) (delta : Option Int) (accuracy : Nat) (s : State) : Result :=
  .next (s.measure n delta accuracy)

/-- SOURCE_LOST (R327, R330). -/
def execSourceLost (n : Fin 5) (s : State) : Result := .next (s.sourceLost n)

/-- A step command (R331). -/
def State.stepCommand (s : State) (n : Fin 5) (v : Nat) : State :=
  if v ≠ 1 then s.deny .range
  else if (n.val = 0 || s.slaveDomain n) && ((s.tb n).st = .refused || (s.tb n).st = .catchup) then
    ((s.lockBase n fun b => { b with step := some b.delta }).raise 25).answer .ok
  else s.deny .other

/-- STEP_COMMAND (R331). -/
def execStepCommand (role : Role) (n : Fin 5) (v : Nat) (s : State) : Result :=
  .next (s.asRole role .engineer fun s => s.stepCommand n v)

/-- Base number of a register as one of TB0 to TB4; TB5 has no adjustments. -/
def baseLt5 (n : Fin 6) : Option (Fin 5) := if h : n.val < 5 then some ⟨n.val, h⟩ else none

/-- Sets CFG_ERR of a base (R322 to R324). -/
def State.tbErr (s : State) (n : Fin 6) : State :=
  match baseLt5 n with
  | some k => s.setTb k fun b => { b with cfgErr := true }
  | none => { s with tim := { s.tim with tb5Err := true } }

/-- A write of STEPH arms a step of the signed 64-bit value (R324); TB4 is never stepped once in service (R329). -/
def State.stepArm (s : State) (n : Fin 6) (hi : Word) : State :=
  match baseLt5 n with
  | none => s.tbErr n
  | some k =>
    if k.val = 4 && (s.tb 4).service then s.tbErr n
    else s.setTb k fun b => { b with step := some (hi ++ b.stepL).toInt }

/-- A TIM register write: only Vendor-world masters' take effect (R350). -/
def State.timVendor (s : State) (b : Bus) (f : State → State) : State := if b.world = 0 then f s else s

/-- STEP_ARM (R324). -/
def execStepArm (b : Bus) (n : Fin 6) (hi : Word) (s : State) : Result :=
  .next (s.timVendor b fun s => s.stepArm n hi)

/-- STEP_APPLY (R324): at the next mid-second of the base. -/
def execStepApply (n : Fin 5) (s : State) : Result :=
  match (s.tb n).step with
  | none => .next s
  | some d => .next ((s.reachBase n (s.tb n).midSecond).stepBase n d)

/-- A write of SLEW replaces any slew in progress (R323). -/
def State.slewWrite (s : State) (n : Fin 6) (v : Word) : State :=
  match baseLt5 n with
  | none => s.tbErr n
  | some k => s.setTb k fun b => { b with slew := v.toInt * nsUnit, slewFrac := 0 }

/-- SLEW_WRITE (R323). -/
def execSlewWrite (b : Bus) (n : Fin 6) (v : Word) (s : State) : Result :=
  .next (s.timVendor b fun s => s.slewWrite n v)

/-- Reading NS latches SUB, SEC and STEPSEQ of the same edge (R320). -/
def State.nsRead (s : State) (n : Fin 6) : State :=
  match baseLt5 n with
  | some k =>
    let s1 := s.setTb k fun b =>
      { b with shSub := BitVec.ofNat 30 b.sub, shSecL := BitVec.ofNat 32 b.sec
               shSecH := BitVec.ofNat 16 (b.sec / 2 ^ 32), shSeq := b.stepSeq }
    s1.answerValue (leBytes 4 (s.tb k).ns)
  | none =>
    let t := s.tb5ns
    let sec := t / 1000000000
    { s with tim := { s.tim with tb5Sh :=
        (BitVec.ofNat 30 (t % 1000000000), BitVec.ofNat 32 sec, BitVec.ofNat 16 (sec / 2 ^ 32)) } }.answerValue
      (leBytes 4 t)

/-- TB_NS_READ (R320): readable by every world (R350). -/
def execTbNsRead (b : Bus) (n : Fin 6) (s : State) : Result :=
  .next (s.guarded b (0x40070100 + 0x40 * n.val) .read fun s => s.nsRead n)

/-- TIME_VALIDITY_CHANGE (R332, R333): the outputs change at the next second boundary of the base. -/
def execTimeValidityChange (n : Fin 5) (s : State) : Result :=
  if (s.tb n).validNow = s.timeValid n then .next s
  else .next ((s.reachBase n (((s.tb n).sec + 1) * 1000000000)).applyGates n)

/-- Dictionary settings of a PPS output as its registers (R352). -/
def State.ppsFromOd (s : State) (p : Fin 2) : State :=
  let o := s.tim.pps[p]
  let k := p.val
  let src := BitVec.ofNat 3 (s.od 0x4100 (3 + k) (4 * k))
  let dly := BitVec.ofNat 19 (s.od 0x4100 (9 + k) 0)
  let pol := s.od 0x4100 (7 + k) 0
  let o' := { o with en := s.od 0x4100 (1 + k) 0 = 1, src := src, width := BitVec.ofNat 16 (s.od 0x4100 (5 + k) 100)
                     pol := bitAt pol 0, wcode := bitAt pol 1, delay := dly, odPend := false
                     omit' := o.omit' || (o.en && (o.src ≠ src || o.delay ≠ dly)) }
  { s with tim := { s.tim with pps := s.tim.pps.set p o' } }

/-- Pulse width, ms: by WCODE from the state of the source base (R333, R339). -/
def State.ppsWidth (s : State) (n : Fin 5) (o : Pps) : Nat :=
  if !o.wcode then o.width.toNat
  else if (s.tb n).st = .free || !s.timeValid n then 300
  else match (s.tb n).st with
    | .holdover | .refused => 200
    | _ => 100

/-- A second boundary of a PPS output's base: the pulse is emitted, omitted once after a displacement, or
suppressed (R325, R333, R339). -/
def State.ppsBoundary (s : State) (p : Fin 2) (n : Fin 5) : State :=
  let s0 := if s.tim.pps[p].odPend then (s.ppsFromOd p).applyGates n else s
  let o := s0.tim.pps[p]
  let put := fun (s : State) (o : Pps) => { s with tim := { s.tim with pps := s.tim.pps.set p o } }
  if !o.en then s0
  else if o.omit' then put s0 { o with omit' := false, skip := true }
  else if !o.gate then put s0 { o with suppr := true }
  else
    let w := s0.ppsWidth n o
    (put s0 { o with count := o.count + 1, suppr := false, lastWidth := w }).emit (.pps p w)

/-- PPS_PULSE (R339): at the next second boundary of the source. -/
def execPpsPulse (p : Fin 2) (s : State) : Result :=
  match baseOf s.tim.pps[p].src with
  | none => .next s
  | some n => .next ((s.reachBase n (((s.tb n).sec + 1) * 1000000000)).ppsBoundary p n)

/-- NS field of a base number 0 to 5 (R341). -/
def State.nsOf (s : State) (src : BitVec 3) : BitVec 32 :=
  match baseOf src with
  | some n => (s.tb n).nsField
  | none => BitVec.ofNat 32 s.tb5ns

/-- A capture record (R341). -/
def evtRecord (ns : BitVec 32) (i : Fin 4) (rising : Bool) (src : BitVec 3) (lost : Bool) (seq : BitVec 8) :
    BitVec 64 :=
  BitVec.ofNat 64 (ns.toNat + i.val * 2 ^ 32 + bit rising * 2 ^ 34 + src.toNat * 2 ^ 35 + bit lost * 2 ^ 38 +
    seq.toNat * 2 ^ 40)

/-- Changes one event input. -/
def State.setEvt (s : State) (i : Fin 4) (f : Evt → Evt) : State :=
  { s with tim := { s.tim with evt := s.tim.evt.set i (f s.tim.evt[i]) } }

/-- EVT_CAPTURE (R341). -/
def execEvtCapture (i : Fin 4) (rising : Bool) (s : State) : Result :=
  let e := s.tim.evt[i]
  let wanted := e.en && (if rising then e.edge.getLsbD 0 else e.edge.getLsbD 1)
  let close : Bool := match e.prev with
    | some t => s.tb5ns < t + 100
    | none => false
  if !wanted then .next s
  else if close then .next (s.setEvt i fun e => { e with seq := e.seq + 1, lost := true })
  else
    let ns := s.nsOf e.src
    let r := evtRecord ns i rising e.src e.lost e.seq
    let s1 := s.setEvt i fun e => { e with last := ns, prev := some s.tb5ns, seq := e.seq + 1 }
    match s1.enginePush (queueOf e.queue) [r] with
    | some t => .next ((t.setEvt i fun e => { e with lost := false }).raise (26 + i.val))
    | none =>
      let s2 := s1.setEvt i fun e => { e with lost := true }
      .next { s2 with tim := { s2.tim with evtDropped := bump s2.tim.evtDropped } }

/-- LEAP_SECOND_APPLY (R335): at the announced instant. -/
def execLeapSecondApply (s : State) : Result :=
  if s.tim.leapPend = 0 then .next s
  else
    let s1 := s.reachTb0 (s.tim.leapAt * 1000000000)
    .next { s1 with tim := { s1.tim with leap := if s.tim.leapPend = 1 then s.tim.leap + 1 else s.tim.leap - 1
                                         leapPend := 0 } }

/-- A write of FBC_LOAD acts at the next crystal edge (R336, R337). -/
def State.fbcLoad (s : State) : State :=
  let s1 := { s with tim := { s.tim with fbc := { s.tim.fbc with loadReq := true } } }
  s1.run ((fbcTick - s.tim.fbc.phase + 31) / 32)

/-- FBC_LOAD (R337). -/
def execFbcLoad (b : Bus) (s : State) : Result := .next (s.timVendor b fun s => s.fbcLoad)

/-! ### PTP -/

/-- The base of domain d (R318). -/
def domainBase (d : Fin 3) : Fin 5 := ⟨d.val + 1, by omega⟩

/-- Value of a domain's object (R352). -/
def State.odDom (s : State) (d : Fin 3) (sub dflt : Nat) : Nat := s.od (0x4200 + 0x10 * d.val) sub dflt

/-- Changes one domain. -/
def State.setPtp (s : State) (d : Fin 3) (f : Ptp → Ptp) : State :=
  { s with tim := { s.tim with ptp := s.tim.ptp.set d (f s.tim.ptp[d]) } }

/-- The domain is enabled, on a MAC that is ON, in the role asked for. -/
def State.domainOn (s : State) (d : Fin 3) (slave : Bool) : Bool :=
  s.odDom d 1 0 = 1 && (s.odDom d 3 0 = 1) = slave &&
    (if s.odDom d 4 0 = 0 then s.blk.eth0.st else s.blk.eth1.st) = .on

/-- A master domain sends no Sync and no Announce while suppressed (R333). -/
def State.domainQuiet (s : State) (d : Fin 3) : Bool := s.suppressed 0 (s.odDom d 0x0D 0)

/-- PTP_SYNC_INTERVAL (R345): Sync (0x0) and Follow_Up (0x8). -/
def execPtpSyncInterval (d : Fin 3) (s : State) : Result :=
  if s.domainOn d false && !s.domainQuiet d then
    let q := s.tim.ptp[d].syncSeq
    .next (((s.emit (.ptp d 0x0 q)).emit (.ptp d 0x8 q)).setPtp d fun p => { p with syncSeq := p.syncSeq + 1 })
  else .next s

/-- clockClass of a master domain (R346). -/
def State.clockClass (s : State) : BitVec 8 :=
  match (s.tb 0).st with
  | .free => 248
  | .locked => 6
  | _ => if s.timeValid 0 then 7 else 52

/-- The smallest clockAccuracy enumeration of IEEE 1588-2019 at or above an estimate in ns (R346). -/
def clockAccuracy : Option Nat → BitVec 8
  | none => 0xFE
  | some t =>
    if t ≤ 1 then 0x1D else if t ≤ 2 then 0x1E else if t ≤ 10 then 0x1F else if t ≤ 25 then 0x20
    else if t ≤ 100 then 0x21 else if t ≤ 250 then 0x22 else if t ≤ 1000 then 0x23 else if t ≤ 2500 then 0x24
    else if t ≤ 10000 then 0x25 else if t ≤ 25000 then 0x26 else if t ≤ 100000 then 0x27
    else if t ≤ 250000 then 0x28 else if t ≤ 1000000 then 0x29 else if t ≤ 2500000 then 0x2A
    else if t ≤ 10000000 then 0x2B else if t ≤ 25000000 then 0x2C else if t ≤ 100000000 then 0x2D
    else if t ≤ 250000000 then 0x2E else if t ≤ 1000000000 then 0x2F else if t ≤ 10000000000 then 0x30 else 0x31

/-- PTP_ANNOUNCE_INTERVAL (R346). -/
def execPtpAnnounceInterval (d : Fin 3) (s : State) : Result :=
  if s.domainOn d false && !s.domainQuiet d then
    let o := Out.announce d s.tim.ptp[d].annSeq s.clockClass (clockAccuracy (s.te 0))
      (if s.tim.everLocked then 0x20 else 0xA0) (s.odInt (0x4200 + 0x10 * d.val) 0x0C 0 = 0) s.tim.leap
      (s.odDom d 0x0A 128) (s.odDom d 0x0B 128)
    .next ((s.emit o).setPtp d fun p => { p with annSeq := p.annSeq + 1 })
  else .next s

/-- The foreign master a slave follows: the best of those it knows (R345). -/
def Ptp.best (p : Ptp) : Option (BitVec 64 × Nat × Nat) :=
  p.foreign.foldl (fun b m => match b with
    | none => some m
    | some x => if m.2.1 < x.2.1 then some m else b) none

/-- A foreign Announce: kept among at most four masters; a fifth is ignored (R345). -/
def Ptp.hear (p : Ptp) (identity : BitVec 64) (rank acc : Nat) : Ptp :=
  if p.foreign.any fun m => m.1 = identity then
    { p with foreign := p.foreign.map fun m => if m.1 = identity then (identity, rank, acc) else m }
  else if p.foreign.length < 4 then { p with foreign := p.foreign ++ [(identity, rank, acc)] }
  else p

/-- A request is answered while fewer than 1,000 were answered in the present second of TB5 (R345). -/
def State.answerDelay (s : State) (d : Fin 3) (seq : BitVec 16) : State :=
  let p := s.tim.ptp[d]
  let n := if p.answeredSec = s.tb5s then p.answered else 0
  if n < 1000 then
    (s.emit (.ptp d (if s.odDom d 6 0 = 1 then 0x3 else 0x9) seq)).setPtp d fun p =>
      { p with answered := n + 1, answeredSec := s.tb5s }
  else s.setPtp d fun p => { p with dropped := bump p.dropped }

/-- PTP_MESSAGE_RECEIVED (R345). -/
def execPtpMessageReceived (d : Fin 3) (m : PtpMsg) (s : State) : Result :=
  match m with
  | .announce i r a => .next (if s.domainOn d true then s.setPtp d fun p => p.hear i r a else s)
  | .sync master rx =>
    if s.domainOn d true then
      match s.tim.ptp[d].best with
      | none => .next s
      | some b =>
        let o := rx - master - s.tim.ptp[d].mpd
        .next ((s.setPtp d fun p => { p with sync := some (master, rx), offset := o }).measure (domainBase d)
          (some (-o)) b.2.2)
    else .next s
  | .delayResp n => .next (if s.domainOn d true || s.odDom d 6 0 = 1 then s.setPtp d fun p => { p with mpd := n } else s)
  | .delayReq q => .next (if s.domainOn d false || s.odDom d 6 0 = 1 then s.answerDelay d q else s)
  | .unsupported => .next s

/-- PTP_DELAY_REQ_INTERVAL (R345): Delay_Req (0x1) of a slave, Pdelay_Req (0x2) with the peer mechanism. -/
def execPtpDelayReqInterval (d : Fin 3) (s : State) : Result :=
  let peer := s.odDom d 6 0 = 1
  if s.domainOn d true || (peer && s.domainOn d false) then
    .next ((s.emit (.ptp d (if peer then 0x2 else 0x1) s.tim.ptp[d].reqSeq)).setPtp d fun p =>
      { p with reqSeq := p.reqSeq + 1 })
  else .next s

/-- SLEW_COMPLETE (R323): when the base has given the whole slew; with SLEWRT 0 it is held and never completes. -/
def execSlewComplete (n : Fin 5) (s : State) : Result :=
  let b := s.tb n
  if b.slew = 0 || b.slewRt = 0 then .next s
  else .next (s.run (least (fun k => (b.after k).slew = 0) 0 64))

end Sys2Proof.Machine
end

