-- ==== Sys2Proof/Machine/Corrections.lean ====
section
/-!
DEFINITION. Correction output: RTCM messages, paths, release and withholding, NTRIP and raw TCP
(spec/03_corrections.md), and the events of a TB0 second.
-/
namespace Sys2Proof.Machine

/-! ### RTCM messages (R103 to R108): numbers and octets, framing included -/

/-- The systems in the order of R108: high SIG nibble, MSM4 number; MSM7 is 3 above. -/
def rtcmSystems : List (Nat × Nat) := [(0, 1074), (1, 1084), (2, 1094), (3, 1124), (4, 1114)]

/-- Octets of a framed RTCM message of so many bits. -/
def rtcmOctets (bits : Nat) : Nat := (bits + 7) / 8 + 6

/-- Octets of an MSM (RTCM 10403.3): header, masks, satellite and cell data. -/
def msmOctets (seven : Bool) (sats sigs cells : Nat) : Nat :=
  rtcmOctets (169 + sats * sigs + (if seven then sats * 36 + cells * 80 else sats * 18 + cells * 48))

/-- Splits satellites, in ascending PRN, so that each group holds at most 64 cells (R105). -/
def splitSats (n : SatId → Nat) : List SatId → List SatId → Nat → List (List SatId)
  | [], acc, _ => if acc.isEmpty then [] else [acc]
  | i :: t, acc, c =>
    if c + n i ≤ 64 then splitSats n t (acc ++ [i]) (c + n i)
    else (if acc.isEmpty then [] else [acc]) ++ splitSats n t [i] (n i)

/-- Inserts a satellite in ascending PRN. -/
def insertSat (v : SatId) : List SatId → List SatId
  | [] => [v]
  | a :: t => if v.prn.toNat ≤ a.prn.toNat then v :: a :: t else a :: insertSat v t

/-- MSMs of one system (R101, R103, R105). -/
def msmsOf (cells : List LatchRec) (sys num mode : Nat) : List (Nat × Nat) :=
  if mode ≠ 4 && mode ≠ 7 then []
  else
    let mine := cells.filter fun r => r.sat.sys.toNat = sys
    let groups := splitSats (fun i => (mine.filter fun r => r.sat = i).length)
      ((satsOf mine).foldr insertSat []) [] 0
    groups.map fun g =>
      let c := mine.filter fun r => g.contains r.sat
      (if mode = 7 then num + 3 else num, msmOctets (mode = 7) g.length ((c.map LatchRec.sig).eraseDups.length) c.length)

/-- Decimal digits of a number below 1000. -/
def digits (n : Nat) : Nat := if n < 10 then 1 else if n < 100 then 2 else 3

/-- Characters of the firmware version "major.minor.build" of the running image (R525). -/
def State.versionChars (s : State) : Nat :=
  let v := match s.upd.slot[s.upd.run] with
    | some i => i.info.version.toNat
    | none => 0
  digits (bitsOf v 31 24) + digits (bitsOf v 23 16) + 2 + (if bitsOf v 15 0 < 1000 then digits (bitsOf v 15 0)
    else if bitsOf v 15 0 < 10000 then 4 else 5)

/-- Octets of message 1033 (R103, R112). -/
def State.octets1033 (s : State) (test : Bool) : Nat :=
  let ad := ((s.odOctets 0xA810 5).getD []).length
  let sn := ((s.odOctets 0xA810 7).getD []).length
  rtcmOctets (8 * (9 + ad + sn + (if test then 20 else 15) + s.versionChars + 16))

/-- The numeric settings of a path in force: rate, MSM modes, station message, periods, ephemerides (R111, R126). -/
def cfgAt (cfg : List Nat) (sub : Nat) : Nat := cfg.getD (sub - 1) 0

/-- A periodic station message is due: a multiple of its period lies after its last transmission (R108). -/
def periodDue (period last now : Nat) : Bool := period ≠ 0 && last / period < now / period

/-- Station messages due on a path, in the order of R108: slot of the last-sent list, number, octets. -/
def State.stationDue (s : State) (cfg sent : List Nat) (sec : Nat) (test every1033 : Bool) : List (Nat × Nat × Nat) :=
  let st := cfgAt cfg 7
  let glo := cfgAt cfg 3 ≠ 0
  (if st ≠ 0 && periodDue (cfgAt cfg 8) (sent.getD 0 0) sec then
    [(0, if st = 5 then 1005 else 1006, if st = 5 then 25 else 27)] else []) ++
  (if glo && periodDue (cfgAt cfg 10) (sent.getD 2 0) sec then [(2, 1230, 14)] else []) ++
  (if every1033 || periodDue (cfgAt cfg 9) (sent.getD 1 0) sec then [(1, 1033, s.octets1033 test)] else [])

/-- Last-sent seconds after messages of the given slots have gone. -/
def sentAfter (sent : List Nat) (slots : List Nat) (sec : Nat) : List Nat :=
  slots.foldl (fun l i => l.set i sec) sent

/-- Number and octets of a system's ephemeris message; QZSS has none (R103). -/
def ephMessage (sys : BitVec 4) : Option (Nat × Nat) :=
  match sys.toNat with
  | 0 => some (1019, 67) | 1 => some (1020, 51) | 3 => some (1042, 70) | 2 => some (1046, 69) | _ => none

/-- The instant, TB0 s, from which a satellite's ephemeris is due: 0 for a new issue of data (R107). -/
def ephDue (sent : List (SatId × Nat × Nat)) (period : Nat) (v : SatIn) : Option (Nat × SatId × Nat) :=
  match v.iod with
  | none => none
  | some d =>
    match sent.find? fun p => p.1 = v.id with
    | some p => if p.2.1 = d then some (p.2.2 + period, v.id, d) else some (0, v.id, d)
    | none => some (0, v.id, d)

/-- Inserts in ascending due time. -/
def insertDue (v : Nat × SatId × Nat) : List (Nat × SatId × Nat) → List (Nat × SatId × Nat)
  | [] => [v]
  | a :: t => if v.1 < a.1 then v :: a :: t else a :: insertDue v t

/-- Satellites whose ephemeris goes out now: those due, in the order of their due time, at most `max` (R107). -/
def ephNow (sent : List (SatId × Nat × Nat)) (cfg : List Nat) (sats : List SatIn) (sec max : Nat) :
    List (SatId × Nat) :=
  if cfgAt cfg 11 = 0 then []
  else
    let d := sats.filterMap (ephDue sent (cfgAt cfg 12))
    let d := d.filter fun p => p.1 ≤ sec && (ephMessage p.2.1.sys).isSome
    ((d.foldl (fun l v => insertDue v l) []).take max).map fun p => p.2

/-- Record of transmissions after ephemerides have gone. -/
def ephAfter (sent : List (SatId × Nat × Nat)) (now : List (SatId × Nat)) (sec : Nat) : List (SatId × Nat × Nat) :=
  (now.map fun p => (p.1, p.2, sec)) ++ sent.filter fun q => !now.any fun p => p.1 = q.1

/-! ### Paths (R109 to R120) -/

/-- Rate in Hz of a rate code; 0 is off (R109). -/
def rateHz (code : Nat) : Nat :=
  match code with
  | 1 => 1 | 2 => 2 | 3 => 5 | 4 => 10 | 5 => 20 | _ => 0

/-- The Ethernet MAC that carries the services is ON (R113). -/
def State.ethUp (s : State) : Bool := if s.od 0x3030 1 0 = 0 then s.blk.eth0.st = .on else s.blk.eth1.st = .on

/-- Gives an epoch to each raw TCP client; one whose buffer cannot take it is disconnected (R116). -/
def tcpSend (l : List TcpClient) (n : Nat) : List TcpClient × Nat :=
  let ok := l.filter fun c => c.queued + n ≤ 32768
  (ok.map fun c => { c with queued := c.queued + n }, l.length - ok.length)

/-- Release on Ethernet: the epoch's messages go to the NTRIP session and the raw TCP clients (R108, R110, R114,
R116, R125). -/
def State.releaseEth (s : State) (e : EpochInput) (l : Latched) (cells : List LatchRec) : State :=
  let cfg := s.corr.ethCfg
  let hz := rateHz (cfgAt cfg 1)
  if hz = 0 || !s.ethUp || l.tb0 % 1000000000 / 50000000 * 50000000 % (1000000000 / hz) ≠ 0 then s
  else
    let sec := l.tb0 / 1000000000
    let test := s.dev.dstate = .debugSession
    let msm := rtcmSystems.zipIdx.flatMap fun p => msmsOf cells p.1.1 p.1.2 (cfgAt cfg (p.2 + 2))
    let st := s.stationDue cfg s.corr.ethSent sec test test
    let eph := ephNow s.corr.ethEph cfg e.sats sec 4
    let msgs := msm ++ st.map Prod.snd ++ eph.filterMap fun p => ephMessage p.1.sys
    let n := (msgs.map Prod.snd).sum
    let t := tcpSend s.corr.tcp n
    let sent := s.corr.ntrip = .streaming || !t.1.isEmpty
    let us := BitVec.ofNat 16 (min e.releaseUs 65535)
    let s1 := s.setCorr fun c => { c with
      ethSent := sentAfter c.ethSent (st.map Prod.fst) sec, ethEph := ephAfter c.ethEph eph sec
      tcp := t.1, tcpSlow := c.tcpSlow + BitVec.ofNat 32 t.2
      latency := if sent then us else c.latency
      latencyMax := if sent && c.latencyMax.toNat < us.toNat then us else c.latencyMax }
    if sent then s1.emit (.rtcm (msgs.map Prod.fst) test) else s1

/-- Correction cycles of a radio rate (R19). -/
def corrEvery (hz : Nat) : Nat :=
  match hz with
  | 5 => 4 | 2 => 10 | 1 => 20 | _ => 0

/-- A cycle is a correction cycle (R19). -/
def State.corrCycle (s : State) (n : BitVec 32) : Bool :=
  let m := corrEvery (rateHz (cfgAt s.corr.radCfg 1))
  m ≠ 0 && n.toNat % m = 0

/-- Takes messages in order into the budget; those that do not fit whole are left out (R120). -/
def fillBudget (budget : Nat) : List (Nat × Nat) → List (Nat × Nat) × List (Nat × Nat)
  | [] => ([], [])
  | m :: t =>
    if m.2 ≤ budget then
      let r := fillBudget (budget - m.2) t
      (m :: r.1, r.2)
    else
      let r := fillBudget budget t
      (r.1, m :: r.2)

/-- A station message may be deferred (R120). -/
def isStation (n : Nat) : Bool := n = 1005 || n = 1006 || n = 1033 || n = 1230

/-- The 16 header octets of a fragment (R119). -/
def State.fragHeader (s : State) (l : Latched) (i nfrag n total excl : Nat) (omitted lrst : Bool) : List Byte :=
  leBytes 4 l.seq.toNat ++ leBytes 4 l.tb4ms.toNat ++ [BitVec.ofNat 8 (i + 16 * nfrag),
    BitVec.ofNat 8 (bit s.verified + 2 * bit (s.dev.dstate = .debugSession) + 4 * bit l.holdover + 8 * bit lrst +
      16 * bit omitted),
    BitVec.ofNat 8 excl, BitVec.ofNat 8 n] ++ leBytes 2 total ++ leBytes 2 (s.od 0x3000 2 0)

/-- Fragments of a stream: 224 octets each but the last (R118). -/
def State.fragments (s : State) (l : Latched) (total excl : Nat) (omitted lrst : Bool) : List CorrFrag :=
  let nfrag := (total + 223) / 224
  (List.range nfrag).map fun i =>
    let n := min 224 (total - 224 * i)
    ⟨s.fragHeader l i nfrag n total excl omitted lrst, 224 * i, n⟩

/-- Release on the radio path, in correction cycles (R110, R118 to R120, R380). -/
def State.releaseRadio (s : State) (e : EpochInput) (l : Latched) (cells : List LatchRec) (excl : Nat) : State :=
  if !s.corrCycle l.cycle then s
  else
    let cfg := s.corr.radCfg
    let sec := l.tb0 / 1000000000
    let test := s.dev.dstate = .debugSession
    let msm := rtcmSystems.zipIdx.flatMap fun p => msmsOf cells p.1.1 p.1.2 (cfgAt cfg (p.2 + 2))
    let st := s.stationDue cfg s.corr.radSent sec test false
    let eph := ephNow s.corr.radEph cfg e.sats sec 1
    let first := s.corr.deferred.map fun n => (n, if n = 1033 then s.octets1033 test else if n = 1230 then 14
      else if n = 1005 then 25 else 27)
    let rest := (msm ++ st.map Prod.snd ++ eph.filterMap fun p => ephMessage p.1.sys).filter fun m =>
      !first.any fun f => f.1 = m.1
    let b := fillBudget 1344 (first ++ rest)
    let total := (b.1.map Prod.snd).sum
    let later := (b.2.filter fun m => isStation m.1 && !s.corr.deferred.contains m.1).map Prod.fst
    let lrst := match s.corr.lrst with
      | some t => s.tb0ns < t
      | none => false
    s.setCorr fun c => { c with
      radSent := sentAfter c.radSent (st.map Prod.fst) sec, radEph := ephAfter c.radEph eph sec
      deferred := later, omitted := c.omitted + BitVec.ofNat 32 b.2.length, stream := b.1
      frags := s.fragments l total excl (!b.2.isEmpty) lrst, fragCycle := some l.cycle }

/-! ### Verdicts (R122, R124, R141, R143) -/

/-- What every verdict leaves: its code and times, and the condition word of the next cycle (R142, R146). -/
def State.verdictDone (s : State) (l : Latched) (v : Verdict) : State :=
  let us := (s.tb5ns - l.tb5) / 1000
  ((s.setTsl fun t => { t with verdict := some v, verdictSeq := l.seq, staleFrom := some l.tb0, timeUs := BitVec.ofNat 16 (min us 65535) }).setCorr
    fun c => { c with epoch := none }).writeWord (l.cycle + 1)

/-- The epoch is WITHHELD with one recorded cause, of the precedence of R122. -/
def State.withhold (s : State) (l : Latched) (cause : WithholdCause) (more : List Nat) : State :=
  let c := if !s.posInForce then WithholdCause.noPos else if s.corr.mismatch then .pos else cause
  let s1 := s.setCorr fun k => { k with
    withheld := bump k.withheld
    nNoPos := if c = .noPos then bump k.nNoPos else k.nNoPos, nPos := if c = .pos then bump k.nPos else k.nPos
    nLate := if c = .late then bump k.nLate else k.nLate
    nTeasel := if c = .teasel then bump k.nTeasel else k.nTeasel }
  let n := match c with
    | .noPos => 0 | .pos => 1 | .late => 2 | .teasel => 3
  (s1.integrityEnter n (l.seq.toNat :: more)).verdictDone l (if c = .teasel then .withheldTeasel else .withheldOther)

/-- A passed epoch extends the run, which may end the condition (R143). -/
def State.passed (s : State) (l : Latched) : State :=
  let s1 := s.setTsl fun t => { t with run := t.run + 1 }
  if s1.tsl.lost && s.od 0x3820 9 20 ≤ s1.tsl.run then s1.integrityLeave l.seq.toNat else s1

/-- Releases a passed epoch on both paths where the unit transmits (R110, R112), and streams its phases to the partner
(R378). -/
def State.release (s : State) (e : EpochInput) (l : Latched) (out : List SatId) (excl : Nat) : State :=
  if !s.transmits then s
  else
    let cells := (s.refCells e l).filter fun r => !out.contains r.sat
    let s1 := s.setCorr fun c => { c with released := bump c.released }
    let s2 := (s1.releaseEth e l cells).releaseRadio e l cells (min excl 255)
    if s.dev.paired && s.dev.dstate = .run then s2.emit (.phase l.seq) else s2

/-- Quarantine after an epoch: ended entries leave, excluded satellites enter (R139). -/
def State.quarantineNow (s : State) (l : Latched) (excl : List SatId) : List (SatId × Nat) :=
  (s.tsl.quarantine.filter fun q => l.tb0 < q.2) ++ excl.map fun i => (i, l.tb0 + s.od 0x3820 8 30 * 1000000000)

/-- Records what verification of an epoch found (R134, R139, R151). -/
def State.noteCheck (s : State) (l : Latched) (k : Checked) : State :=
  s.setTsl fun t => { t with
    amb := k.amb, fixDone := k.fix, quarantine := s.quarantineNow l k.excl, exclLast := k.out.length, heldLast := k.held
    hDiff := match k.diff with
      | some d => d.1
      | none => t.hDiff
    uDiff := match k.diff with
      | some d => d.2
      | none => t.uDiff }

/-- The verdict in verified mode (R133 to R141). -/
def State.verdictVerified (s : State) (e : EpochInput) (l : Latched) : State :=
  if !s.posInForce then s.withhold l .noPos []
  else
    let k := s.check e l
    let s1 := s.noteCheck l k
    if s.corr.mismatch || 12000 < e.us then s1.withhold l .late []
    else if !k.pass then
      s1.withhold l .teasel (k.excl.map fun i => i.sys.toNat * 256 + i.prn.toNat)
    else
      let some' := !k.out.isEmpty
      let s2 := (s1.passed l).verdictDone l (if some' then .passExcl else .pass)
      let s3 := s2.release e l k.out k.out.length
      if some' && s3.transmits then s3.setTsl fun t => { t with relExcl := bump t.relExcl } else s3

/-- The verdict in unverified mode (R149). -/
def State.verdictUnverified (s : State) (e : EpochInput) (l : Latched) : State :=
  if !s.posInForce || s.corr.mismatch || 12000 < e.us then s.withhold l .late []
  else (s.verdictDone l .unverified).release e l [] 0

/-- TEASEL_VERDICT (R133): only epochs of the correction grid are verified and may be released. -/
def execTeaselVerdict (e : EpochInput) (s : State) : Result :=
  match s.corr.epoch with
  | none => .next s
  | some l =>
    if l.corr && s.verifies then
      let s1 := s.reachNs (l.tb5 + e.us * 1000)
      let s2 := s1.setCorr fun c => { c with tcp := c.tcp.map fun k =>
        match (e.drained.find? fun d => d.1 = k.id) with
        | some d => { k with queued := k.queued - d.2 }
        | none => k }
      .next (if s2.verified then s2.verdictVerified e l else s2.verdictUnverified e l)
    else .next (s.setCorr fun c => { c with epoch := none })

/-- VERDICT_DEADLINE (R124): 12.0 ms of TB5 after the latch edge. -/
def execVerdictDeadline (s : State) : Result :=
  match s.corr.epoch with
  | some l =>
    if l.corr && s.verifies then .next ((s.reachNs (l.tb5 + 12000000)).withhold l .late [])
    else .next s
  | none => .next s

/-! ### NTRIP and raw TCP (R114 to R116) -/

/-- Opens the session where its settings and the unit's state ask for it (R112, R114). -/
def State.ntripOpen (s : State) : State :=
  if s.od 0x3030 2 0 = 1 && s.dev.dstate = .run && s.ethUp then
    (s.setCorr fun c => { c with ntrip := .connecting, ntripWait := 1 }).emit .ntripConnect
  else s.setCorr fun c => { c with ntrip := .off, ntripWait := 1 }

/-- The session goes into back-off (R115). -/
def State.ntripFail (s : State) : State :=
  s.setCorr fun c => { c with
    ntrip := .backoff, ntripAt := s.tb5ms + c.ntripWait * 1000, ntripWait := min 64 (2 * c.ntripWait) }

/-- NTRIP_RESPONSE (R115): the HTTP status, none when the connection failed. -/
def execNtripResponse (code : Option Nat) (s : State) : Result :=
  if s.corr.ntrip ≠ .connecting then .next s
  else match code with
    | some 200 => .next (s.setCorr fun c => { c with ntrip := .streaming, ntripWait := 1 })
    | some 401 => .next ((s.setCorr fun c => { c with ntrip := .refused }).event .ntripRefused [401])
    | some 403 => .next ((s.setCorr fun c => { c with ntrip := .refused }).event .ntripRefused [403])
    | _ => .next s.ntripFail

/-- NTRIP_CONNECTION_LOST (R115). -/
def execNtripConnectionLost (s : State) : Result :=
  if s.corr.ntrip = .connecting || s.corr.ntrip = .streaming then .next s.ntripFail else .next s

/-- NTRIP_BACKOFF_EXPIRY (R115). -/
def execNtripBackoffExpiry (s : State) : Result :=
  if s.corr.ntrip = .backoff then
    .next (((s.reachMs s.corr.ntripAt).setCorr fun c => { c with ntrip := .connecting }).emit .ntripConnect)
  else .next s

/-- TCP_CLIENT_CONNECT (R116): served up to four; a fifth is reset, and a unit that does not transmit refuses (R112). -/
def execTcpClientConnect (id : Nat) (s : State) : Result :=
  if s.od 0x3030 9 1 ≠ 1 || !s.ethUp || !s.transmits then .next (s.deny .state)
  else if 4 ≤ s.corr.tcp.length then .next (s.answer .full)
  else .next ((s.setCorr fun c => { c with tcp := c.tcp ++ [⟨id, 0⟩] }).answer .ok)

/-- Sessions of a MAC that is shut down, or of a unit that no longer transmits, are closed (R41, R112). -/
def State.sessionsClose (s : State) : State := s.setCorr fun c => { c with ntrip := .off, tcp := [], ntripWait := 1 }

/-! ### The TB0 second -/

/-- Numeric settings of a path as stored (R126). -/
def State.pathCfg (s : State) (idx : Nat) (d : List Nat) : List Nat := d.zipIdx.map fun p => s.od idx (p.2 + 1) p.1

/-- User calibration parts that take effect at a second boundary: group delays, phase-centre offsets and cable delays
(R605). -/
def State.userCalNow (s : State) : List (Nat × Int) :=
  (s.dict.od.filter fun p =>
    let i := p.1 / 256
    (0xA910 ≤ i && i ≤ 0xA915) || i = 0xA820 || i = 0xA821 || i = 0xA830).map fun p => (p.1, leInt p.2)

/-- REF10_OUT and EVT settings of the dictionary as registers (R352, R353). -/
def State.evtFromOd (s : State) : State :=
  let f := fun (i : Nat) (v : Evt) =>
    let o := s.od 0x4110 (i + 1) 0
    { v with en := bitAt o 0, edge := BitVec.ofNat 2 (o / 2), src := BitVec.ofNat 3 (o / 16)
             queue := BitVec.ofNat 5 (s.od 0x4110 5 0) }
  { s with tim := { s.tim with
      refEn := s.od 0x4100 0x0D 0 = 1, odPend := false
      evt := #v[f 0 s.tim.evt[0], f 1 s.tim.evt[1], f 2 s.tim.evt[2], f 3 s.tim.evt[3]] } }

/-- A domain's base under its settings: a master copies TB0 plus its offset, a slave runs on its own, and a domain that is
disabled leaves service (R318, R327, R329). -/
def Base.domain (b tb0 : Base) (on slave : Bool) (ofs : Int) : Base :=
  if on && !slave then { b with track := true, aofs := BitVec.ofInt 64 ofs }.copy tb0
  else
    let free := if b.track || !on then
        { b with track := false, st := .free, te0 := none, present := false, qualified := false, good := 0 } else b
    if on then free else { free with service := false }

/-- The three domains as OD 0x4200 to 0x4220 set them (R345, R353). -/
def State.domainsFromOd (s : State) : State :=
  let f := fun (d : Nat) (b : Base) =>
    let x := 0x4200 + 0x10 * d
    b.domain (s.tb 0) (s.od x 1 0 = 1) (s.od x 3 0 = 1) (s.odInt x 0xC 0)
  { s with tim := { s.tim with
      base := #v[s.tb 0, f 0 (s.tb 1), f 1 (s.tb 2), f 2 (s.tb 3), s.tb 4] } }

/-- The FBC's maintenance of each second (R337). -/
def State.fbcMaintain (s : State) : State :=
  { s with tim := { s.tim with fbc := { s.tim.fbc with
      loadReq := true, t4ofs := BitVec.ofInt 64 ((s.tb4ns : Int) - s.tb0ns)
      te := s.te 0, yf := s.od 0x4000 6 50 } } }

/-- Decoded leap-second data replaces the count (R335). -/
def State.navLeap (s : State) (v : NavLeap) : State :=
  { s with tim := { s.tim with leap := v.count, leapPend := v.pend, leapAt := v.at' } }

/-- What takes effect at a TB0 second boundary: epoch rate and burst mode (R73, R80), path configuration (R111), user
calibration (R605), time settings (R353), FBC maintenance (R337), surveys and the mismatch check (R93, R97, R130). -/
def State.secondBoundary (s : State) (sol : Option Standalone) (rtk : Option RtkSolution) (nav : Option NavLeap) :
    State :=
  let s1 := (s.burstBoundary.setCorr fun c => { c with
    ethCfg := s.pathCfg 0x3020 [1, 7, 7, 7, 7, 7, 6, 10, 30, 10, 1, 60]
    radCfg := s.pathCfg 0x3021 [3, 4, 4, 4, 4, 4, 5, 10, 30, 10, 0, 60] })
  let s2 := { s1 with start := { s1.start with userCal := s1.userCalNow } }
  let s3 := (if s2.tim.odPend then s2.evtFromOd.domainsFromOd else s2).fbcMaintain
  let s4 := match nav with
    | some v => s3.navLeap v
    | none => s3
  let s5 := match sol with
    | some p => (s4.noteSolution p).surveySample p
    | none => s4
  let s6 := match rtk with
    | some p => s5.baseSurveySample p
    | none => s5
  s6.mismatchCheck.raise 24

/-- TB0_SECOND_BOUNDARY (R73). -/
def execTb0SecondBoundary (sol : Option Standalone) (rtk : Option RtkSolution) (nav : Option NavLeap) (s : State) :
    Result :=
  .next ((s.reachTb0 (((s.tb 0).sec + 1) * 1000000000)).secondBoundary sol rtk nav)

end Sys2Proof.Machine
end

