-- ==== Sys2Proof/Machine/Air.lean ====
section
/-!
DEFINITION. The air: channels, bands, sub-bands, hop lists, air time and duty accounting
(spec/08_radio_access.md, R261 to R269).
-/
namespace Sys2Proof.Machine

/-! ### Air time (R261, R262) -/

/-- Time per octet of a mode, us (R261). -/
def octetUs (mode : BitVec 2) : Nat :=
  match mode.toNat with
  | 0 => 160 | 1 => 80 | 2 => 40 | _ => 20

/-- Air time of a frame, us (R261). -/
def airUs (mode : BitVec 2) (psdu : Nat) : Nat := (8 + psdu) * octetUs mode

/-- Half of the occupied bandwidth of a mode, in units of 10 kHz (R261). -/
def halfBand (mode : BitVec 2) : Nat :=
  match mode.toNat with
  | 0 => 5 | 3 => 20 | _ => 10

/-! ### Channels (R263 to R266, R269) -/

/-- Centre of a channel, in units of 10 kHz (R263). -/
def centre (na : Bool) (n : Nat) : Nat := (if na then 90200 else 86300) + 10 * n

/-- A channel number lies in the profile (R263). -/
def channelOk (na : Bool) (n half : Nat) : Bool :=
  if na then 2 ≤ n && n ≤ 258 && 90200 ≤ centre na n - half && centre na n + half ≤ 92800
  else 1 ≤ n && n ≤ 69 && 86300 ≤ centre na n - half && centre na n + half ≤ 87000

/-- Sub-bands of the EU profile in units of 10 kHz (R265). -/
def subBands : List (Nat × Nat) :=
  [(86300, 86500), (86500, 86800), (86800, 86860), (86870, 86920), (86940, 86965), (86970, 87000)]

/-- The sub-band that holds a channel's occupied band (R265, R266). -/
def subBandOf (n half : Nat) : Option (Fin 6) :=
  (List.finRange 6).find? fun i =>
    match subBands[i.val]? with
    | some b => b.1 ≤ centre false n - half && centre false n + half ≤ b.2
    | none => false

/-- Sequence of the hop permutation (R269). -/
def hopNext (x : Nat) : Nat := (x * 1103515245 + 12345) % 2147483648

/-- Two places of a list exchanged. -/
def swapAt (l : List Nat) (i j : Nat) : List Nat := (l.set i (l.getD j 0)).set j (l.getD i 0)

/-- A list permuted from place `i` down (R269). -/
def permute (l : List Nat) (x : Nat) : Nat → List Nat
  | 0 => l
  | i + 1 =>
    let y := hopNext x
    permute (swapAt l (i + 1) (y % (i + 2))) y i

/-- A hop list of a length: places on the unpermuted list (R269). -/
def hopList (seed : BitVec 32) (len : Nat) : List Nat := permute (List.range len) seed.toNat (len - 1)

/-- FRA channel of a cycle in NA, as channel number (R269). -/
def hopFra (seed cycle : BitVec 32) : BitVec 12 :=
  BitVec.ofNat 12 (2 + 2 * (hopList seed 64).getD (cycle.toNat % 64) 0)

/-- Place of DATA of a cycle in NA (R269). -/
def hopData (seed cycle : BitVec 32) : Nat := (hopList seed 30).getD (cycle.toNat % 30) 0

/-- DATA, or REP 15 places further on, as channel number (R269). -/
def hopFrb (seed cycle : BitVec 32) (rep : Bool) : BitVec 12 :=
  BitVec.ofNat 12 (140 + 4 * ((hopData seed cycle + if rep then 15 else 0) % 30))

/-- NA profile in force. -/
def State.na (s : State) : Bool := s.fra.regs.na

/-- FRA channel of a permit window or a stop frame's try (R266, R269, R277). -/
def State.fraChannel (s : State) (w : Nat) : BitVec 12 :=
  if s.na then hopFra s.fra.regs.seed s.dev.cycle else s.fra.regs.ch.toList.getD (min w 2) 0

/-- DATA (R266, R269). -/
def State.dataChannel (s : State) : BitVec 12 :=
  if s.na then hopFrb s.frb.regs.seed s.dev.cycle false else s.frb.regs.ch[0]

/-- REP (R266, R269). -/
def State.repChannel (s : State) : BitVec 12 :=
  if s.na then hopFrb s.frb.regs.seed s.dev.cycle true else s.frb.regs.ch[1]

/-- Sub-band in which a channel of FRA or FRB is used. -/
def State.subBand (s : State) (ch : BitVec 12) (half : Nat) : Option (Fin 6) :=
  if s.na then none else subBandOf ch.toNat half

/-! ### Duty accounting (R268) -/

/-- Transmit time in a sub-band over the last 3,600 s, us (R268). -/
def State.dutyUs (s : State) (sb : Fin 6) : Nat :=
  ((s.fra.bins.filter fun b => b.2.1 = sb.val && s.tb5s < b.1 + 3600).map fun b => b.2.2).sum

/-- Adds a transmission to the bin of the present second, and drops bins out of the hour. -/
def addBin (bins : List (Nat × Nat × Nat)) (sec sb us : Nat) : List (Nat × Nat × Nat) :=
  let keep := bins.filter fun b => sec < b.1 + 3600
  if keep.any fun b => b.1 = sec && b.2.1 = sb then
    keep.map fun (b : Nat × Nat × Nat) => if b.1 = sec && b.2.1 = sb then (sec, sb, b.2.2 + us) else b
  else (sec, sb, us) :: keep

/-- A transmission stays within the limit of its sub-band (R265, R268). -/
def State.dutyAllows (s : State) (sb : Option (Fin 6)) (us : Nat) : Bool :=
  match sb with
  | none => true
  | some i => (s.fra.sbLbt[i] && s.fra.sbLimit[i] = 0) || s.dutyUs i + us ≤ s.fra.sbLimit[i].toNat * 100000

/-- Accounts a transmission (R268). -/
def State.dutyAdd (s : State) (sb : Option (Fin 6)) (us : Nat) : State :=
  match sb with
  | none => s
  | some i => { s with fra := { s.fra with bins := addBin s.fra.bins s.tb5s i.val us } }

/-! ### Small changes -/

/-- Changes FRA. -/
def State.setFra (s : State) (f : Fra → Fra) : State := { s with fra := f s.fra }

/-- Changes FRB. -/
def State.setFrb (s : State) (f : Frb → Frb) : State := { s with frb := f s.frb }

/-- Changes one radio's registers, FRB's when `b`. -/
def State.setRadio (s : State) (b : Bool) (f : RadioRegs → RadioRegs) : State :=
  if b then { s with frb := { s.frb with regs := f s.frb.regs } } else { s with fra := { s.fra with regs := f s.fra.regs } }

/-- Counts a frame not sent for a busy channel or a limit (R282, R283). -/
def State.countBlock (s : State) (b limit : Bool) : State :=
  let s1 := s.setRadio b fun r => { r with cntBlock := bump r.cntBlock }
  if limit then s1.setFra fun f => { f with nLimit := bump f.nLimit } else s1

/-- A listen has ended: its mean, and whether it was busy (R267, R282). -/
def State.countListen (s : State) (b : Bool) (mean : Int) (busy : Bool) : State :=
  s.setRadio b fun r => { r with rssi := BitVec.ofInt 8 mean, cntBusy := if busy then bump r.cntBusy else r.cntBusy }

/-- A level above the LBT threshold is busy (R267). -/
def RadioRegs.busy (r : RadioRegs) (level : Int) : Bool := r.lbtThr.toInt < level

/-- Length of a listen, us, with a random part in 10 us steps that the profile's maximum bounds (R267). -/
def RadioRegs.listenUs (r : RadioRegs) (rnd : Nat) : Nat := 160 + 10 * min rnd r.rnd.toNat

/-! ### Instants of the cycle (R271) -/

/-- Start of the present cycle, ns of full TB4. -/
def State.cycleNs (s : State) : Nat := s.dev.lastBoundary * 1000000

/-- Offset within the cycle, us. -/
def State.cycleUs (s : State) : Nat := (s.tb4ns - s.cycleNs) / 1000

/-- The present management tick, SYS_MTICK: ticks are counted in TB4, 20 in a cycle (R23, R35). -/
def State.mtick (s : State) : Nat := s.tb4ns / 2500000 % 20

/-- Moves to an offset of the present cycle, in us. -/
def State.reachOffset (s : State) (us : Nat) : State := s.reachTb4 (s.cycleNs + us * 1000)

/-! ### Frame counters (R289) -/

/-- The next value of a counter, and the counter after it; none when it is exhausted (R289). -/
def Counter.take (c : Counter) : Option (BitVec 32) × Counter :=
  if c.exhausted || c.next = 0xFFFFFFFF then (none, { c with exhausted := true })
  else
    let com := if c.next.toNat + 1 < c.committed.toNat then c.committed
      else BitVec.ofNat 32 (min (c.next.toNat + 65536) 0xFFFFFFFF)
    (some c.next, { c with next := c.next + 1, committed := com, exhausted := c.next + 1 = 0xFFFFFFFF })

/-- A counter has reached the value of which a record is written (R289). -/
def counterWarn (v : BitVec 32) : Bool := v = 0xFFF00000

/-- Takes a group-key counter value; none when no group key is in its slot or the counter is exhausted (R289, R292,
R537). -/
def State.takeGroup (s : State) : Option (BitVec 32) × State :=
  if !s.sec.slots[3].valid then (none, s)
  else
    let r := s.frames.group.take
    let s1 := { s with frames := { s.frames with group := r.2 } }
    match r.1 with
    | some v => (some v, if counterWarn v then s1.event .keyExhausted [2, 0] else s1)
    | none => (none, s1)

/-- The link of a member. -/
def State.link (s : State) (m : Nat) : MemberLink := tabGetD {} s.frames.links m

/-- Puts a member's link back. -/
def State.setLink (s : State) (m : Nat) (l : MemberLink) : State :=
  { s with frames := { s.frames with links := tabSet {} s.frames.links m l } }

/-- Takes a counter value of a member's pairwise key (R289). -/
def State.takePair (s : State) (m : Nat) : Option (BitVec 32) × State :=
  let l := s.link m
  if !l.paired || l.tx = 0xFFFFFFFF then (none, s)
  else
    let s1 := s.setLink m { l with tx := l.tx + 1 }
    (some l.tx, if counterWarn l.tx then s1.event .keyExhausted [3, m] else s1)

/-- A field node's record. -/
def State.node (s : State) (n : Nat) : Node := tabGetD {} s.frames.nodes n

/-- Puts a node's record back. -/
def State.setNode (s : State) (n : Nat) (x : Node) : State :=
  { s with frames := { s.frames with nodes := tabSet {} s.frames.nodes n x } }

/-- Takes a counter value of a node key (R289). -/
def State.takeNode (s : State) (n : Nat) : Option (BitVec 32) × State :=
  let x := s.node n
  let r := x.tx.take
  let s1 := s.setNode n { x with tx := r.2 }
  match r.1 with
  | some v => (some v, if counterWarn v then s1.event .keyExhausted [5, n] else s1)
  | none => (none, s1)

/-! ### Receive checks (R285, R287, R290) -/

/-- Counts a replay. -/
def State.countReplay (s : State) : State :=
  { s with frames := { s.frames with nReplay := bump s.frames.nReplay } }

/-- Counts a discard for MIC, level, length, unit, minislot or absent key. -/
def State.countMic (s : State) : State := { s with frames := { s.frames with nMic := bump s.frames.nMic } }

/-- A counter is above the last one accepted (R290). -/
def fresher (last : Option (BitVec 32)) (fcnt : BitVec 32) : Bool :=
  match last with
  | some v => v.toNat < fcnt.toNat
  | none => true

end Sys2Proof.Machine
end

