-- ==== Sys2Proof/Machine/Fra.lean ====
section
/-!
DEFINITION. FRA: permits, stop bursts and Cowslip segments on air (spec/08_radio_access.md, R272, R276 to R278;
spec/07_fleet_stop.md, R236, R237; spec/09_radio_frames.md, R292, R294, R312).
-/
namespace Sys2Proof.Machine

/-- Changes SAF. -/
def State.setSaf (s : State) (f : Saf → Saf) : State := { s with saf := f s.saf }

/-- FRA has nothing on air, no listen and no burst. -/
def State.fraIdle (s : State) : Bool := s.fra.onAir.isNone && s.fra.listen.isNone && s.fra.burst.isNone

/-- Begins a listen on a channel now (R267). -/
def State.fraListen (s : State) (l : FraListen) (ch : BitVec 12) : State :=
  s.setFra fun f => { f with listen := some l, listenFrom := s.tb4ns, regs := { f.regs with chNow := ch } }

/-- Puts a frame of FRA on air, for a time in us, its first SHR bit at `at'` in ns of TB4 (R259). -/
def State.fraAirAt (s : State) (at' : Nat) (fr : FraFrame) (ch : BitVec 12) (half us : Nat) : State :=
  (((s.dutyAdd (s.subBand ch half) us).setFra fun f => { f with
    onAir := some fr, airFrom := at', listen := none, regs := { f.regs with chNow := ch } })).emit (.fra fr)

/-- Puts a frame of FRA on air now. -/
def State.fraAir (s : State) (fr : FraFrame) (ch : BitVec 12) (half us : Nat) : State := s.fraAirAt s.tb4ns fr ch half us

/-! ### Cowslip (R276, R312) -/

/-- A call has failed: its node is UNREACHABLE (R276, R314). -/
def State.callFailed (s : State) (n : Nat) : State :=
  let s1 := s.setNode n { s.node n with st := .unreachable, recoverUntil := none }
  if (s.node n).st = .unreachable then s1 else s1.event .nodeUnreachable [n]

/-- A call whose segment is not sent or aborted restarts; after three restarts it has failed (R276). -/
def State.callRestart (s : State) : State :=
  let s1 := s.setFra fun f => { f with segDue := false }
  match s.fra.calls with
  | c :: t =>
    if c.restarts < 3 then
      s1.setFra fun f => { f with calls := { c with seg := 0, restarts := c.restarts + 1 } :: t, nRestart := bump f.nRestart }
    else (s1.setFra fun f => { f with calls := t }).callFailed c.node
  | [] => s1

/-- The WAKE channel. -/
def State.wakeChannel (s : State) : BitVec 12 := s.fra.regs.ch[3]

/-- Cowslip listens on WAKE before a segment: in EU in an LBT-mode sub-band (R276). -/
def State.wakeListens (s : State) : Bool :=
  match s.subBand s.wakeChannel 5 with
  | some i => s.fra.sbLbt[i]
  | none => false

/-- The segment that is next, if any (R276, R279, R312). -/
def State.nextSegment (s : State) : Option FraFrame :=
  match s.fra.calls, s.fra.queue with
  | c :: _, _ => some (.cowslip (s.node c.node).wake c.seg c.restarts)
  | [], q :: _ => if q.ripe then some (.segment q) else none
  | [], [] => none

/-- Puts the next segment on air, 30 ms; a limit forbids it as an access rule does (R268, R276). -/
def State.segmentSend (s : State) : State :=
  match s.nextSegment with
  | none => s
  | some fr =>
    let ch := s.wakeChannel
    if !s.pairGate then s.callRestart
    else if s.dutyAllows (s.subBand ch 5) 30000 then (s.fraAir fr ch 5 30000).setFra fun f => { f with segDue := false }
    else (s.countBlock false true).callRestart

/-- Begins a segment in the Cowslip window: a listen, or the segment itself in duty mode and NA (R276). -/
def State.segmentBegin (s : State) : State :=
  if s.nextSegment.isNone || s.blk.fra.st ≠ .on then s.setFra fun f => { f with segDue := false }
  else if !s.fraIdle then s.setFra fun f => { f with segDue := true }
  else if s.wakeListens then (s.fraListen .cowslip s.wakeChannel).setFra fun f => { f with segDue := false }
  else s.segmentSend

/-! ### Stop bursts (R236, R277, R278) -/

/-- Counts a stop frame that is not sent, with its record (R236, R250, R277); FRA's own counters leave out what the pair
gate held back (R282, R361). -/
def State.stopNotSent (s : State) (limit : Bool) : State :=
  ((if s.pairGate then s.countBlock false limit else s).setSaf fun k => { k with blocked := k.blocked + 1, nNotSent := bump k.nNotSent }).event
    .stopBurst [s.dev.cycle.toNat, bit limit]

/-- Puts a stop frame on air on the channel tuned (R236, R294). -/
def State.stopAir (s : State) (b : Burst) (ch : BitVec 12) : State × Bool :=
  if !s.pairGate || !s.dutyAllows (s.subBand ch 10) 2400 then (s, false)
  else
    let r := s.takeGroup
    match r.1 with
    | none => (r.2, false)
    | some fcnt =>
      (r.2.fraAir (.stop fcnt (s.dev.cycle.setWidth 16) b.stop b.zstop b.rstop b.rcls) ch 10 2400, true)

/-- The next frame of a burst: in EU its first listen, in NA the frame. In NA a frame that a limit forbids is not sent,
and the next one follows (R277). In the pause of a microcode load the burst waits (R586). `n` bounds the frames left. -/
def State.stopNext (s : State) : Nat → State
  | 0 => s
  | n + 1 =>
    match s.fra.burst with
    | none => s
    | some b =>
      if b.left = 0 || s.upd.paused = some .radio then s
      else if !s.na then s.fraListen (.stop 0) (s.fraChannel 0)
      else
        let r := s.stopAir b (s.fraChannel 0)
        if r.2 then r.1
        else
          let s1 := r.1.stopNotSent true
          (s1.setFra fun f => { f with burst := some { b with left := b.left - 1 } }).stopNext n

/-- A frame other than a stop frame is aborted, or a listen for one dropped (R236, R278). -/
def State.fraAbort (s : State) : State :=
  match s.fra.onAir, s.fra.listen with
  | some (.permit _ _), _ => (s.setFra fun f => { f with onAir := none }).setSaf fun k => { k with loopback := .aborted }
  | some (.cowslip _ _ _), _ => (s.setFra fun f => { f with onAir := none }).callRestart
  | some (.segment _), _ => s.setFra fun f => { f with onAir := none, queue := f.queue.tail }
  | _, some .cowslip => (s.setFra fun f => { f with listen := none }).callRestart
  | _, some _ => s.setFra fun f => { f with listen := none }
  | _, none => s

/-- A burst with no frame left is over. -/
def State.burstDrop (s : State) : State :=
  match s.fra.burst with
  | some b => if b.left = 0 then s.setFra fun f => { f with burst := none } else s
  | none => s

/-- A stop-burst request of the voter (R236, R237, R278): what is on air is aborted, a burst in progress ends after its
frame on air, and three frames with this content follow. -/
def State.burstRequest (s : State) (w : PermitWord) : State :=
  let s0 := s.setFra fun f => { f with holdBack := some (s.dev.cycle, w), voteWait := none }
  if s.blk.fra.st ≠ .on && s.blk.fra.st ≠ .quiescing then s0
  else
    let s1 := (s0.setSaf fun k => { k with nBursts := bump k.nBursts }).fraAbort
    let airing := s1.fra.onAir.isSome
    let b : Burst := ⟨if airing then 4 else 3, w.stop, w.zstop, w.rstop, w.rcls⟩
    let s2 := s1.setFra fun f => { f with burst := some b }
    if airing then s2 else (s2.stopNext 3).burstDrop

/-! ### The pair gate (R359, R361) -/

/-- The pair gate has closed: a frame of FRA on air is aborted, and what is left of a burst is not sent (R361). -/
def State.gateShut (s : State) : State :=
  if s.pairGate then s
  else
    let s1 := if s.fra.onAir.isSome then s.fraAbort else s
    let s2 := s1.setFra fun f => { f with onAir := none, burst := none }
    let s3 := match s1.fra.burst with
      | some b => iterate (fun (t : State) => t.stopNotSent false) b.left (s2.setFra fun f => { f with listen := none })
      | none => s2
    if s3.fra.segDue then s3.callRestart else s3

/-- The hold is released: the run line drops and the gate shuts (R359, R361). A claim under way ends. -/
def State.holdRelease (s : State) : State :=
  ({ s with pair := { s.pair with holding := false, sampling := false, claimDone := false, conflict := false } } : State).gateShut

end Sys2Proof.Machine
end

