-- ==== Sys2Proof/Machine/Voter.lean ====
section
/-!
DEFINITION. What the Yarrow voter does of itself: the safe state, the output keep-alive and the permit gate
(spec/07_fleet_stop.md, R222 to R226).
-/
namespace Sys2Proof.Machine

/-- Entry to the safe state through voter hardware (R224): the keep-alive stops, the gate closes, a burst with STOP = 1 is
requested and LOCKOUT is set; a
pair's hold is released first (R359). `why` goes into the record. -/
def State.safeEnter (s : State) (why : Nat) : State :=
  if s.saf.safe then s
  else
    let w := { s.saf.word with stop := true, zstop := s.saf.sf2, rstop := s.saf.rstop, auth := 0 }
    let s0 := if s.pair.paired then s.holdRelease else s
    let s1 := s0.setSaf fun k => { k with safe := true, keepAlive := false, gate := false }
    (((s1.burstRequest w).setCause 5).event .safeState [why]).emcyAllOn .voterSafe .safeState

end Sys2Proof.Machine
end

