-- ==== Sys2Proof/Machine/Permit.lean ====
section
/-!
DEFINITION. Permits on air, the steps of a stop burst, and the ends of FRA's frames (spec/08_radio_access.md, R272, R276
to R278; spec/09_radio_frames.md, R292).
-/
namespace Sys2Proof.Machine

/-- One word carries STOP and every ZSTOP and RSTOP bit of another (R237). -/
def PermitWord.covers (w v : PermitWord) : Bool :=
  (w.stop || !v.stop) && (v.zstop &&& ~~~w.zstop) = 0 && (v.rstop &&& ~~~w.rstop) = 0

/-- The permit of this cycle is held back by a burst requested in it (R237). -/
def State.permitHeld (s : State) : Bool :=
  match s.fra.holdBack with
  | some (k, w) => k = s.dev.cycle && !PermitWord.covers s.saf.word w
  | none => false

/-- The permit of this cycle may begin (R228, R237, R272). -/
def State.permitReady (s : State) : Bool :=
  s.blk.fra.st = .on && s.fra.permitDue && s.saf.gate && s.pairGate && !s.permitHeld && s.saf.word.cycle = s.dev.cycle

/-- The permit of this cycle is due and its word has not been voted yet (R227). -/
def State.permitPending (s : State) : Bool := s.blk.fra.st = .on && s.fra.permitDue && s.saf.word.cycle ≠ s.dev.cycle

/-- The permit of this cycle is not sent (R272, R274). -/
def State.permitUnsent (s : State) : State :=
  (s.setFra fun f => { f with permitDue := false, voteWait := none, nPermitUnsent := bump f.nPermitUnsent }).setSaf fun k =>
    { k with loopback := .notSent }

/-! ### Permits (R272, R292) -/

/-- Fields of the previous permit: TB4 ms at its SFD, fraction and age in cycles (R292). -/
def State.psfd (s : State) : BitVec 32 × BitVec 16 × BitVec 8 :=
  match s.fra.lastPermit with
  | some (c, ns) =>
    let age := (s.dev.cycle - c).toNat
    if 1 ≤ age && age ≤ 255 then
      (BitVec.ofNat 32 (ns / 1000000), BitVec.ofNat 16 (ns % 1000000 * 65536 / 1000000), BitVec.ofNat 8 age)
    else (0, 0, 0)
  | none => (0, 0, 0)

/-- The fields Vendor-world firmware gives a permit (R227, R292). -/
def State.permitExtra (s : State) (fcnt : BitVec 32) : PermitExtra :=
  let p := s.psfd
  { unit := BitVec.ofNat 8 (s.od 0x5100 1 1), fcnt := fcnt, repoch := s.fleet.roleEpoch
    mapId := match s.cre.map with
      | some m => m.id
      | none => 0
    iseq := s.tsl.verdictSeq, psfdMs := p.1, psfdFr := p.2.1, page := p.2.2 }

/-- The first permit after a takeover ends its time, and its cycle begins the reconciliation window (R383, R391). -/
def State.takeoverTime (s : State) : State :=
  let s1 := if s.pair.window && s.pair.windowT.isNone then
      { s with pair := { s.pair with windowT := some s.dev.cycle } }
    else s
  match s1.pair.tkFrom with
  | some t => { s1 with pair := { s1.pair with tkTime := BitVec.ofNat 32 ((s1.tb5ns - t) / 1000), tkFrom := none } }
  | none => s1

/-- Sends the permit on a channel, its first SHR bit at `at'` in ns of TB4: false when a limit forbids it (R268, R272). -/
def State.permitSend (s : State) (at' : Nat) (ch : BitVec 12) : State × Bool :=
  if !s.pairGate then (s, false)
  else if !s.dutyAllows (s.subBand ch 10) 7040 then (s.countBlock false true, false)
  else
    let r := s.takeGroup
    match r.1 with
    | none => (r.2, false)
    | some fcnt =>
      let s1 := (r.2.fraAirAt at' (.permit s.saf.word (s.permitExtra fcnt)) ch 10 7040).takeoverTime
      let s2 := s1.setFra fun f => { f with permitDue := false, permitBegun := true }
      let s3 := s2.setSaf fun k => { k with loopback := .awaited }
      (if s.blk.frb.st = .on then s3.setFrb fun f => { f with mrxCh := ch } else s3, true)

/-- FRA moves to the next window, or the permit is not sent (R272). -/
def State.permitNext (s : State) (w : Nat) : State :=
  let s1 := s.setFra fun f => { f with listen := none }
  if w < 2 && !s.na then s1 else s1.permitUnsent

/-- The read-back of R229 found a difference: the permit is not sent, and the safe state follows. -/
def State.permitBad (s : State) : State := ((s.setFra fun f => { f with listen := none }).permitUnsent).safeEnter 2

/-- The permit of window `w`, its first SHR bit at `at'`: read back, and sent unless a limit forbids it (R229, R272). -/
def State.permitGo (s : State) (w at' : Nat) (ch : BitVec 12) (bufferOk : Bool) : State :=
  if bufferOk then
    let r := s.permitSend at' ch
    if r.2 then r.1 else r.1.permitNext w
  else s.permitBad

/-- The permit of window `w` begins at `at'`, now or earlier. Its word is formed from the snapshot of the boundary and voted
250 us later (R221, R227); a permit that begins before the vote is completed by it. -/
def State.permitAt (s : State) (w at' : Nat) (bufferOk : Bool) : State :=
  if s.permitPending then s.setFra fun f => { f with listen := none, voteWait := some (w, at', bufferOk) }
  else if s.permitReady then s.permitGo w at' s.fra.regs.chNow bufferOk
  else s.permitNext w

/-- Begins the permit in a window: in EU a listen, in NA the transmission 10 us later (R229, R272). `bufferOk` says that the
transmit buffer reads back as the voted word. -/
def State.permitBegin (s : State) (w : Nat) (bufferOk : Bool) : State :=
  if !((s.permitReady || s.permitPending) && s.fraIdle) then s
  else if s.na then
    let s1 := (s.reachTb4 (s.tb4ns + 10000)).setRadio false fun r => { r with chNow := s.fraChannel 0 }
    s1.permitAt 2 s1.tb4ns bufferOk
  else (s.fraListen (.permit w) (s.fraChannel w)).setRadio false fun r => { r with win := BitVec.ofNat 2 w }

/-- A clear listen in window `w`: the permit begins 10 us later if the window has not ended by then (R267, R272). -/
def State.permitClear (s : State) (w : Nat) (bufferOk : Bool) : State :=
  let s1 := s.reachTb4 (s.tb4ns + 10000)
  if s.cycleNs + 1200000 * (w + 1) ≤ s1.tb4ns then s.permitNext w else s1.permitAt w s1.tb4ns bufferOk

/-- The word of the cycle has been voted: a permit that began before it is completed (R227, R272). -/
def State.permitVoted (s : State) : State :=
  match s.fra.voteWait with
  | none => s
  | some (w, at', ok) =>
    let s1 := s.setFra fun f => { f with voteWait := none }
    if s1.permitReady && s1.fraIdle then s1.permitGo w at' s1.fra.regs.chNow ok else s1

/-! ### Steps of a burst (R236, R277, R278) -/

/-- The permit window open now. -/
def State.windowNow (s : State) : Option Nat :=
  let w := s.cycleUs / 1200
  if w < 3 then some (if s.na then 0 else w) else none

/-- When a burst ends, the permit starts in the window open then; a segment that may still begin does; one that no longer
may restarts its call (R276, R278). -/
def State.burstOver (s : State) (bufferOk : Bool) : State :=
  let s0 := s.setFra fun f => { f with burst := none }
  let s1 := match s0.windowNow with
    | some w => s0.permitBegin w bufferOk
    | none => s0
  if !s1.fra.segDue then s1
  else if s1.cycleUs < 13000 then s1.segmentBegin
  else s1.callRestart

/-- Ends one frame of the burst; the next one follows, or the burst is over (R236, R278). -/
def State.stopStep (s : State) (bufferOk : Bool) : State :=
  match s.fra.burst with
  | none => s
  | some b =>
    let s2 := (s.setFra fun f => { f with burst := some { b with left := b.left - 1 } }).stopNext 3
    match s2.fra.burst with
    | some b2 => if b2.left = 0 then s2.burstOver bufferOk else s2
    | none => s2

/-- A listen of a stop frame has ended (R236, R277): clear sends it, busy tries the next of three channels. -/
def State.stopListenEnd (s : State) (tries : Nat) (busy bufferOk : Bool) : State :=
  let none' := fun (s : State) => s.setFra fun f => { f with listen := none }
  match s.fra.burst with
  | none => none' s
  | some b =>
    if busy then
      if tries < 2 then s.fraListen (.stop (tries + 1)) (s.fraChannel (tries + 1))
      else ((none' s).stopNotSent false).stopStep bufferOk
    else
      let s1 := s.reachTb4 (s.tb4ns + 10000)
      let r := s1.stopAir b s1.fra.regs.chNow
      if r.2 then r.1 else ((none' r.1).stopNotSent true).stopStep bufferOk

/-! ### Ends of frames (R259, R282, R292) -/

/-- Air time of a frame of FRA, us. -/
def FraFrame.us : FraFrame → Nat
  | .permit _ _ => 7040
  | .stop _ _ _ _ _ _ => 2400
  | .cowslip _ _ _ => 30000
  | .segment _ => 30000

/-- FRA counts a frame sent and is free. -/
def State.fraSent (s : State) : State :=
  (s.setFra fun f => { f with onAir := none }).setRadio false fun r => { r with cntTx := bump r.cntTx }

/-- Times that the first permits give: the first of the start-up in TB5 (R597), and the end of an activation pause, whose
other end PD_AON's counter kept (R585). `ago` is the time since the SFD, ns. -/
def State.permitTimes (s : State) (ago : Nat) : State :=
  let first := if s.start.firstPermit = 0 then BitVec.ofNat 32 ((s.tb5ns - ago) / 1000000) else s.start.firstPermit
  let s1 := { s with start := { s.start with firstPermit := first } }
  match s.upd.lastPermit with
  | some t => { s1 with upd := { s1.upd with
      lastPermit := none, pauseMs := BitVec.ofNat 16 (min 65535 ((s.tim.fbc.t / nsUnit - ago - t) / 1000000)) } }
  | none => s1

/-- The permit ended with its FCS: it is the previous permit of those after it, and MRX goes to REP (R274, R292). -/
def State.permitEnd (s : State) (w : PermitWord) : State :=
  let sfd := s.fra.airFrom + 320000
  let s1 := (s.fraSent.setFra fun f => { f with lastPermit := some (w.cycle, sfd) }).permitTimes (s.tb4ns - sfd)
  if s.blk.frb.st = .on then s1.setFrb fun f => { f with mrxCh := s.repChannel } else s1

/-- A segment ended: after the fourth the call is complete and the node's recovery begins (R276, R314). -/
def State.segmentEnd (s : State) : State :=
  match s.fra.calls with
  | c :: t =>
    if c.seg < 3 then s.fraSent.setFra fun f => { f with calls := { c with seg := c.seg + 1 } :: t }
    else
      let s1 := s.fraSent.setFra fun f => { f with calls := t }
      let x := s1.node c.node
      s1.setNode c.node { x with
        st := if x.st = .unreachable then .unreachable else .recovery, recoverUntil := some (s.dev.cycle + 200) }
  | [] => s.fraSent

/-- FRA leaves ON with nothing to send: its queue is discarded (R41). -/
def State.fraDrop (s : State) : State := s.setFra fun f => { f with
  queue := [], calls := [], segDue := false, permitDue := false, voteWait := none }

/-- FRA reads OFF: nothing on air, no listen (R41). -/
def State.fraOff (s : State) : State :=
  s.fraDrop.setFra fun f => { f with onAir := none, listen := none, burst := none }

end Sys2Proof.Machine
end

