-- ==== Sys2Proof/Machine/Items.lean ====
section
/-!
DEFINITION. Items due to members and the CMD frames that carry them, events to the allotment policy, and FRB's queue
(spec/09_radio_frames.md, R296, R297; spec/06_robots_tasks.md, R212; spec/08_radio_access.md, R275, R279 to R281;
spec/11_pair.md, R367).
-/
namespace Sys2Proof.Machine

/-! ### Items (R296, R297) -/

/-- Sequence of the delta that will describe a change made now (R366, R367). -/
def State.deltaNow (s : State) : BitVec 32 := s.pair.txSeq + 1

/-- An item falls due to a member (R297). -/
def State.addDue (s : State) (m : Nat) (i : CmdItem) : State :=
  { s with frames := { s.frames with due := s.frames.due ++ [⟨m, i, none, s.deltaNow⟩] } }

/-- Drops items that a test picks. -/
def State.dropDue (s : State) (f : DueItem → Bool) : State :=
  { s with frames := { s.frames with due := s.frames.due.filter fun d => !f d } }

/-- Item code, which is also the order in which items are packed (R296, R297). -/
def CmdItem.code : CmdItem → Nat
  | .result _ _ _ _ _ _ => 1 | .role _ => 2 | .task _ _ => 3 | .taskEnd _ _ => 4 | .stepGo _ _ _ => 5
  | .stepSkip _ _ _ => 6 | .taskAnswer _ _ _ => 7 | .status _ _ => 8 | .groupKey _ _ => 9

/-- Octets of an item with its TYPE and LEN (R296). -/
def CmdItem.octets : CmdItem → Nat
  | .result _ _ _ _ _ _ => 11 | .role _ => 3 | .task _ _ => 130 | .taskEnd _ _ => 8 | .stepGo _ _ _ => 9
  | .stepSkip _ _ _ => 9 | .taskAnswer _ _ _ => 9 | .status _ _ => 7 | .groupKey _ _ => 23

/-- An item that is sent once (R297). -/
def CmdItem.once : CmdItem → Bool
  | .result _ _ _ _ _ _ => true
  | .taskAnswer _ _ _ => true
  | .status _ _ => true
  | _ => false

/-- Items that fill one payload of at most 230 octets, in order, and those left over (R296). -/
def fillFrame (room : Nat) : List DueItem → List DueItem × List DueItem
  | [] => ([], [])
  | d :: t =>
    if d.item.octets ≤ room then
      let r := fillFrame (room - d.item.octets) t
      (d :: r.1, r.2)
    else ([], d :: t)

/-- Payloads for a list of items; `n` bounds their number. -/
def splitFrames : Nat → List DueItem → List (List DueItem)
  | 0, _ => []
  | _, [] => []
  | n + 1, l =>
    let r := fillFrame 230 l
    r.1 :: splitFrames n r.2

/-- A frame of FRB made by firmware. -/
def frbFrame (kind : BitVec 3) (mode : BitVec 2) (psdu : Nat) (c : FrbContent) : FrbFrame :=
  { kind := kind, mode := mode, psdu := psdu, launch := none, lateDrop := false, ripe := true, tag := none
    corrCycle := none, waitDelta := none, fcnt := 0, content := c }

/-- The delta a frame rests on, for frames that wait for it (R367). -/
def latestDelta (l : List DueItem) : Option (BitVec 32) :=
  l.foldl (fun a d => match a with
    | none => some d.delta
    | some x => if precedes x d.delta then some d.delta else some x) none

/-- CMD frame of a payload (R285, R296). -/
def cmdFrame (m : Nat) (l : List DueItem) : FrbFrame :=
  { frbFrame 0 3 (20 + (l.map fun d => d.item.octets).sum) (.cmd m (l.map DueItem.item)) with waitDelta := latestDelta l }

/-- Puts frames at the end of FRB's queue. -/
def State.frbQueue (s : State) (l : List FrbFrame) : State := s.setFrb fun f => { f with queue := f.queue ++ l }

/-- A CMD frame to the member waits already. -/
def State.cmdWaits (s : State) (m : Nat) : Bool :=
  s.frb.queue.any fun f => match f.content with
    | .cmd n _ => n = m
    | _ => false

/-- The items due now to a member, in the order of R296. -/
def State.dueNow (s : State) (m : Nat) : List DueItem :=
  (List.range 10).flatMap fun c => s.frames.due.filter fun d => d.member = m && d.item.code = c && d.after.isNone

/-- The record of an item after it was packed: one sent once is gone, ROLE is due again in the next cycle, the others 8
cycles later (R206, R297). -/
def DueItem.packed (d : DueItem) (cycle : BitVec 32) : Option DueItem :=
  if d.item.once then none
  else some { d with after := some (cycle + if d.item.code = 2 then 1 else 8) }

/-- Packs the items due to one member into CMD frames (R297). -/
def State.packMember (s : State) (m : Nat) : State :=
  let l := s.dueNow m
  if l.isEmpty || s.cmdWaits m || !(s.link m).paired then s
  else
    let s1 := s.frbQueue ((splitFrames l.length l).map (cmdFrame m))
    let due := s1.frames.due.filterMap fun d =>
      if d.member = m && d.after.isNone then d.packed s.dev.cycle else some d
    { s1 with frames := { s1.frames with due := due } }

/-- Packs the items due to every member. -/
def State.packAll (s : State) : State :=
  ((s.frames.due.map DueItem.member).eraseDups).foldl State.packMember s

/-- A cycle number is at or after another, within half the range. -/
def cycleReached (now c : BitVec 32) : Bool := (now - c).toNat < 2 ^ 31

/-- Items whose repetition has come fall due again (R297). -/
def State.dueAgain (s : State) : State :=
  { s with frames := { s.frames with due := s.frames.due.map fun (d : DueItem) => match d.after with
      | some c => if cycleReached s.dev.cycle c then { d with after := none } else d
      | none => d } }

/-- The RESULT item of a Vetch result (R173, R296). -/
def resultItem (w0 w1 : Dword) : CmdItem :=
  .result (w0.extractLsb' 32 16) (w0.extractLsb' 0 8) (w0.extractLsb' 8 8) ((w0.extractLsb' 16 6).setWidth 8)
    (w0.extractLsb' 48 16) ((w1.extractLsb' 41 9).setWidth 16)

/-! ### Waiting for the partner (R367) -/

/-- A frame is held back until an eligible partner has acknowledged the delta it rests on (R367). -/
def State.heldBack (s : State) (f : FrbFrame) : Bool :=
  s.dev.paired && s.pair.partner.eligible && (match f.waitDelta with
    | some d => precedes s.pair.ackSeq d
    | none => false)

/-! ### Completion words and descriptors (R279, R281) -/

/-- Writes a completion word to the done queue of a radio (R281). -/
def State.complete (s : State) (b : Bool) (tag : BitVec 16) (st : Status) (reason : Nat) (sfd : BitVec 32) : State :=
  let q := queueOf (if b then s.frb.regs.doneq else s.fra.regs.doneq)
  let w := BitVec.ofNat 64 (st.code.toNat + reason * 2 ^ 8 + tag.toNat * 2 ^ 16 + sfd.toNat * 2 ^ 32)
  (s.enginePush q [w]).getD s

/-- The completion word of a frame that came by a descriptor; one of firmware's own frames has none. -/
def State.completeFrame (s : State) (b : Bool) (f : FrbFrame) (st : Status) (reason : Nat) (sfd : BitVec 32) : State :=
  match f.tag with
  | some t => s.complete b t st reason sfd
  | none => s

/-! ### Policy events (R212) -/

/-- Queue of a field of OD 0x6600:04. -/
def State.fleetQueue (s : State) (lo : Nat) : Fin 32 := queueOf (BitVec.ofNat 5 (s.od 0x6600 4 0 / 2 ^ lo))

/-- An event record to Fleet-world code, dropped with all after it when the queue has no room (R212). Sutrisar's default
policy runs inside the firmware and needs no queue. -/
def State.policyEvent (s : State) (ev task member : Nat) (arg : BitVec 32) : State :=
  if s.od 0x6600 1 0 ≠ 1 || s.fleet.evOverflow then s
  else
    let w0 := BitVec.ofNat 64 (ev + task % 65536 * 2 ^ 16 + member % 512 * 2 ^ 32)
    match s.enginePush (s.fleetQueue 16) [w0, arg.setWidth 64] with
    | some s1 => s1
    | none => { s with fleet := { s.fleet with evOverflow := true } }

end Sys2Proof.Machine
end

