-- ==== Sys2Proof/Machine/Tasks.lean ====
section
/-!
DEFINITION. Tasks and timed field-node commands: their records, checks and changes of state
(spec/06_robots_tasks.md, R208 to R215).
-/
namespace Sys2Proof.Machine

/-! ### Records -/

/-- A task entry; one not listed is Free (R208). -/
def State.task (s : State) (id : Nat) : Task := tabGetD {} s.fleet.tasks id

/-- Puts a task back. -/
def State.setTask (s : State) (id : Nat) (t : Task) : State :=
  { s with fleet := { s.fleet with tasks := tabSet {} s.fleet.tasks id t } }

/-- A TFC record; one not listed is Free (R213). -/
def State.tfc (s : State) (i : Nat) : Tfc := tabGetD {} s.fleet.tfcs i

/-- Puts a TFC record back. -/
def State.setTfc (s : State) (i : Nat) (t : Tfc) : State :=
  { s with fleet := { s.fleet with tfcs := tabSet {} s.fleet.tfcs i t } }

/-- A member's record. -/
def State.member (s : State) (m : Nat) : Member := tabGetD {} s.fleet.members m

/-- Puts a member's record back. -/
def State.setMember (s : State) (m : Nat) (x : Member) : State :=
  { s with fleet := { s.fleet with members := tabSet {} s.fleet.members m x } }

/-- Code of a task state (R209). -/
def TaskState.code : TaskState → Nat
  | .free => 0 | .opened => 1 | .allotted => 2 | .active => 3 | .done => 4 | .failed => 5 | .cancelled => 6

/-- The lowest number from `i` on that a table does not list. -/
def lowestFree {α : Type} (t : List (Nat × α)) (i : Nat) : Nat → Nat
  | 0 => i
  | n + 1 => if (tabGet t i).isSome then lowestFree t (i + 1) n else i

/-- Tasks a member holds Allotted or Active (R209). -/
def State.tasksOf (s : State) (m : Nat) : List (Nat × Task) :=
  s.fleet.tasks.filter fun p => p.2.member = m && (p.2.st = .allotted || p.2.st = .active)

/-- A TFC state is terminal (R214). -/
def TfcState.terminal : TfcState → Bool
  | .ended => true | .failed => true | .cancelled => true | _ => false

/-- Full TB4 ms of a fleet time near now (R165). -/
def State.fullMs (s : State) (t : BitVec 32) : Nat := ((s.tb4ms : Int) + (t - s.fleetMs).toInt).toNat

/-! ### Entries as octets (R208) -/

/-- A step record's octets (R208). -/
def TaskStep.bytes (t : TaskStep) : List Byte :=
  [t.action, BitVec.ofNat 8 (bit t.tfc + 2 * bit t.confirm)] ++ leBytes 2 t.tfcIdx ++ leBytes 4 t.cell ++
    leBytes 4 t.arg.toNat ++ leBytes 4 0

/-- A task entry's 128 octets (R208). -/
def Task.bytes (t : Task) (id : Nat) : List Byte :=
  leBytes 2 id ++ [BitVec.ofNat 8 t.st.code, t.prio.setWidth 8] ++ leBytes 4 t.epoch.toNat ++ leBytes 2 t.member ++
    [BitVec.ofNat 8 t.nstep, BitVec.ofNat 8 t.cstep] ++ leBytes 4 t.roles.toNat ++ leBytes 2 t.classes.toNat ++
    [t.result, 0] ++ leBytes 4 t.start.toNat ++ leBytes 4 t.deadline.toNat ++ leBytes 4 t.target ++
    (match t.succ with
      | some n => leBytes 4 (n + 65536)
      | none => leBytes 4 0) ++
    leBytes 4 t.created.toNat ++ leBytes 8 t.policy.toNat ++ leBytes 16 0 ++
    (List.range 4).flatMap fun i => (t.steps.getD i {}).bytes

/-- A step record from its octets. -/
def stepOf (l : List Byte) : TaskStep :=
  { action := l.getD 0 0, tfc := bitAt (leAt l 1 1) 0, confirm := bitAt (leAt l 1 1) 1, tfcIdx := leAt l 2 2 % 4096
    cell := leAt l 4 4 % 2 ^ 20, arg := BitVec.ofNat 32 (leAt l 8 4) }

/-- A new task from the octets of its entry: Open at epoch 0 (R208, R209). -/
def taskOf (l : List Byte) (now : BitVec 32) : Task :=
  { st := .opened, prio := BitVec.ofNat 3 (leAt l 3 1), epoch := 0, member := 0, nstep := leAt l 10 1, cstep := 0
    roles := BitVec.ofNat 32 (leAt l 12 4), classes := BitVec.ofNat 16 (leAt l 16 2), result := 0
    start := BitVec.ofNat 32 (leAt l 20 4), deadline := BitVec.ofNat 32 (leAt l 24 4), target := leAt l 28 4 % 2 ^ 20
    succ := if bitAt (leAt l 32 4) 16 then some (leAt l 32 2) else none
    created := now, policy := BitVec.ofNat 64 (leAt l 40 8)
    steps := (List.range 4).map fun i => stepOf ((l.drop (64 + 16 * i)).take 16) }

/-- Every octet of a range is 0. -/
def zeroAt (l : List Byte) (a n : Nat) : Bool := ((l.drop a).take n).all fun b => b = 0

/-- Reserved fields of an entry are 0 (R208). -/
def taskRsvdOk (l : List Byte) : Bool :=
  leAt l 3 1 < 8 && leAt l 8 2 < 512 && zeroAt l 19 1 && leAt l 28 4 < 2 ^ 20 && leAt l 32 4 < 2 ^ 17 && zeroAt l 48 16 &&
    (List.range 4).all fun i =>
      let a := 64 + 16 * i
      leAt l (a + 1) 1 < 4 && leAt l (a + 4) 4 < 2 ^ 20 && zeroAt l (a + 12) 4

/-- Cells of the map in force. -/
def State.cellCount (s : State) : Nat :=
  match s.cre.map with
  | some m => m.cells.length
  | none => 0

/-- The steps that count, each with its index (R208). -/
def Task.used (t : Task) : List (TaskStep × Nat) := (t.steps.take t.nstep).zipIdx

/-- A CREATE is DENIED (R208). -/
def State.createDenied (s : State) (l : List Byte) : Bool :=
  let t := taskOf l s.fleetMs
  t.nstep = 0 || 4 < t.nstep || s.cellCount ≤ t.target || (t.used.any fun p => s.cellCount ≤ p.1.cell) ||
    !taskRsvdOk l || !inRange s.fleetMs t.start || !inRange s.fleetMs t.deadline || !precedes t.start t.deadline ||
    t.used.any fun p => p.1.tfc && (leAt l (64 + 16 * p.2 + 2) 2 ≠ p.1.tfcIdx || (s.tfc p.1.tfcIdx).st ≠ .pending ||
      (s.tfc p.1.tfcIdx).owner.isSome)

/-! ### Changes of a task's state (R209, R215) -/

/-- Tells the policy of a task's new state (R212). -/
def State.taskTold (s : State) (id : Nat) : State :=
  let t := s.task id
  s.policyEvent (if t.st = .opened then 1 else 2) id t.member t.epoch

/-- STEP_GO or STEP_SKIP of a CONFIRM step whose TFC is Acked or Failed, sent once per step (R215). -/
def State.stepRelease (s : State) (id i : Nat) : State :=
  let t := s.task id
  match t.steps[i]? with
  | some p =>
    let st := (s.tfc p.tfcIdx).st
    let mine := p.tfc && p.confirm && i < t.nstep && (t.st = .allotted || t.st = .active) && !t.goSent.contains i
    if mine && (st = .acked || st = .ended) then
      (s.setTask id { t with goSent := i :: t.goSent }).addDue t.member (.stepGo id t.epoch i)
    else if mine && st = .failed then
      (s.setTask id { t with goSent := i :: t.goSent }).addDue t.member (.stepSkip id t.epoch i)
    else s
  | none => s

/-- Every CONFIRM step of a task. -/
def State.stepsRelease (s : State) (id : Nat) : State := (List.range 4).foldl (fun s i => s.stepRelease id i) s

/-- A task leaves Allotted or Active by any row but a report: its member is sent TASK_END (R209). -/
def State.taskLeaves (s : State) (id : Nat) (old new : Task) : State :=
  let s1 := s.setTask id new
  let s2 := if old.member ≠ 0 && (old.st = .allotted || old.st = .active) then
      (s1.dropDue fun d => d.member = old.member && (match d.item with
        | .task i _ => i = id
        | .stepGo i _ _ => i = id
        | .stepSkip i _ _ => i = id
        | _ => false)).addDue old.member (.taskEnd id new.epoch)
    else s1
  s2.taskTold id

/-- Back to Open, with the next epoch (R209). -/
def State.taskWithdraw (s : State) (id : Nat) : State :=
  let t := s.task id
  if t.st = .allotted || t.st = .active then
    s.taskLeaves id t { t with st := .opened, epoch := t.epoch + 1, member := 0, cstep := 0, goSent := [], deadlineTold := false }
  else s

/-- Withdraws every task of a member (R199, R209, R212). -/
def State.withdrawAll (s : State) (m : Nat) : State :=
  ((s.tasksOf m).map Prod.fst).foldl State.taskWithdraw s

/-- A TFC reaches a terminal state (R214). -/
def State.tfcEnds (s : State) (i : Nat) (st : TfcState) : State := s.setTfc i { s.tfc i with st := st, endedAt := s.tb4ms }

/-- CANCEL of the owning task cancels a TFC (R214). -/
def State.tfcCancel (s : State) (i : Nat) : State :=
  match (s.tfc i).st with
  | .pending => s.tfcEnds i .cancelled
  | .acked => s.setTfc i { s.tfc i with st := .cancelling }
  | _ => s

/-- The TFCs a task owns (R213). -/
def State.tfcsOf (s : State) (id : Nat) : List Nat :=
  (s.fleet.tfcs.filter fun p => match p.2.owner with
    | some o => o.1 = id
    | none => false).map Prod.fst

/-- CANCEL (R209, R214). -/
def State.taskCancel (s : State) (id : Nat) : State :=
  let t := s.task id
  (s.tfcsOf id).foldl State.tfcCancel
    (s.taskLeaves id t { t with st := .cancelled, epoch := t.epoch + 1, result := 4 })

/-- DELETE: the entry is Free, and the terminal TFCs it owns are freed (R209, R214). -/
def State.taskDelete (s : State) (id : Nat) : State :=
  (s.tfcsOf id).foldl (fun s i =>
    if (s.tfc i).st.terminal then s.setTfc i {} else s.setTfc i { s.tfc i with owner := none }) (s.setTask id {})

/-- A task whose successor this is, and which is not Done, shuts it (R209). -/
def State.shutByPred (s : State) (id : Nat) : Bool :=
  s.fleet.tasks.any fun p => p.2.succ = some id && p.2.st ≠ .done

/-- ALLOT accepted (R209). -/
def State.taskAllot (s : State) (id m : Nat) : State :=
  let t := s.task id
  let s1 := s.setTask id { t with st := .allotted, epoch := t.epoch + 1, member := m, cstep := 0, goSent := [] }
  ((s1.addDue m (.task id (t.epoch + 1))).taskTold id).stepsRelease id

/-! ### Epochs (R211) -/

/-- What the epoch rule says of a named epoch. -/
def epochCheck (current named : BitVec 32) : Status :=
  let d := (current - named).toNat
  if d = 0 then .ok else if d ≤ 2147483647 then .staleEpoch else .denied

/-- A stale epoch is recorded and counted (R211). -/
def State.staleTold (s : State) (id m : Nat) (current named : BitVec 32) : State :=
  ({ s with fleet := { s.fleet with staleAnswers := bump s.fleet.staleAnswers } }).event .staleEpoch
    [id, m, current.toNat, named.toNat]

/-! ### TFCs (R213, R214) -/

/-- A TFC from the octets of its record (R213). -/
def State.tfcOf (s : State) (l : List Byte) : Tfc :=
  { st := .pending, node := leAt l 0 2 % 2048, code := BitVec.ofNat 8 (leAt l 2 1), revCode := BitVec.ofNat 8 (leAt l 3 1)
    exec := s.fullMs (BitVec.ofNat 32 (leAt l 4 4)), revert := s.fullMs (BitVec.ofNat 32 (leAt l 8 4))
    payload := (l.drop 12).take 12, revPayload := (l.drop 24).take 12, owner := none, confirm := bitAt (leAt l 39 1) 0 }

/-- A TFC's 48 octets (R213). -/
def Tfc.bytes (t : Tfc) : List Byte :=
  let pad := fun (l : List Byte) => (l ++ List.replicate 12 0).take 12
  let o := t.owner.getD (0, 0)
  let st := match t.st with
    | .free => 0 | .pending => 1 | .acked => 2 | .ended => 3 | .failed => 4 | .cancelling => 5 | .cancelled => 6
  leBytes 2 t.node ++ [t.code, t.revCode] ++ leBytes 4 t.exec ++ leBytes 4 t.revert ++ pad t.payload ++ pad t.revPayload ++
    leBytes 2 o.1 ++ leBytes 1 o.2 ++ leBytes 1 (bit t.confirm + 2 * bit t.owner.isSome) ++ leBytes 1 st ++ leBytes 7 0

/-- End of the time a TFC occupies (R213). -/
def Tfc.until' (t : Tfc) : Nat := if t.revCode = 0 then t.exec + 1 else t.revert

/-- What a submission is answered (R213). -/
def State.tfcCheck (s : State) (l : List Byte) : Status :=
  let t := s.tfcOf l
  let ahead := (BitVec.ofNat 32 (leAt l 4 4) - s.fleetMs).toNat
  let span := (BitVec.ofNat 32 (leAt l 8 4) - BitVec.ofNat 32 (leAt l 4 4)).toNat
  if l.length ≠ 48 || 2048 ≤ leAt l 0 2 || !(s.node t.node).enrolled || t.code = 0 || 4 ≤ leAt l 39 1 || !zeroAt l 41 7 ||
      ahead < s.od 0x6500 1 1000 || 2 ^ 30 < ahead || (t.revCode ≠ 0 && (span < 1 || 86400000 < span)) then .denied
  else if s.fleet.tfcs.any fun p => p.2.node = t.node && !p.2.st.terminal && t.exec < p.2.until' && p.2.exec < t.until' then
    .busy
  else if 4096 ≤ s.fleet.tfcs.length then .full
  else .ok

/-- A TFC is Failed (R214, R215). -/
def State.tfcFail (s : State) (i : Nat) : State :=
  let t := s.tfc i
  let s1 := (s.tfcEnds i .failed).policyEvent 6 (t.owner.getD (0, 0)).1 0 (BitVec.ofNat 32 i)
  let s2 := { s1 with fleet := { s1.fleet with tfcFailed := bump s1.fleet.tfcFailed } }
  match t.owner with
  | some o => s2.stepRelease o.1 o.2
  | none => s2

/-- A TFC is Acked (R214, R215). -/
def State.tfcAcked (s : State) (i : Nat) : State :=
  let t := s.tfc i
  if t.st ≠ .pending then s
  else
    let s1 := s.setTfc i { t with st := .acked }
    match t.owner with
    | some o => s1.stepRelease o.1 o.2
    | none => s1

end Sys2Proof.Machine
end

