-- ==== Sys2Proof/Machine/Members.lean ====
section
/-!
DEFINITION. Members: joining, reports, the Silent rule, member commands and role changes
(spec/06_robots_tasks.md, R196 to R206; spec/09_radio_frames.md, R285, R290, R298, R299; spec/11_pair.md, R384, R385).
-/
namespace Sys2Proof.Machine

/-- Code of a member state (R200). -/
def MemberState.code : MemberState → Nat
  | .unknown => 0 | .joining => 1 | .idle => 2 | .working => 3 | .charging => 4 | .silent => 5 | .stopped => 6 | .retired => 7

/-- State of a report's state code; another than 2, 3, 4 or 6 is handled as 6 (R201). -/
def reportState (code : BitVec 3) : MemberState :=
  match code.toNat with
  | 2 => .idle | 3 => .working | 4 => .charging | _ => .stopped

/-- A member takes a state, of which the policy is told (R201, R212). -/
def State.memberTo (s : State) (m : Nat) (st : MemberState) : State :=
  let x := s.member m
  if x.st = st then s
  else (s.setMember m { x with st := st, silentSince := none, joinDeadline := none }).policyEvent 3 0 m
    (BitVec.ofNat 32 st.code)

/-- A member ID lies in range and is enrolled (R196). -/
def State.memberOk (s : State) (m : Nat) : Bool := 1 ≤ m && m ≤ 256 && (s.member m).enrolled

/-- FREEZE, unless the member is already frozen (R199, R201). -/
def State.freeze (s : State) (m : Nat) : State :=
  if (s.cre.member m).frozen then s else s.vetchSubmit 4 0 m false 0

/-- THAW, unless R199 or R384 keeps the member frozen (R201). -/
def State.thaw (s : State) (m : Nat) : State :=
  if (s.member m).held || (s.member m).kept then s else s.vetchSubmit 5 0 m false 0

/-- ACTIVE = 0 of a member without live corridors (R201). -/
def State.memberInactive (s : State) (m : Nat) : State :=
  s.creMemberWrite m ((s.cre.member m).cls.setWidth 32)

/-! ### Frames of a member (R290, R666) -/

/-- The receive checks of a frame under the member's pairwise key (R285, R290, R666). -/
def State.acceptPair (s : State) (f : RxFrame) : State × Bool :=
  let l := s.link f.member
  if !f.form || !l.paired then (s.countMic, false)
  else if !fresher l.rx f.fcnt then (s.countReplay, false)
  else if !f.mic then (s.countMic, false)
  else (s.setLink f.member { l with rx := some f.fcnt }, true)

/-- An authenticated frame of a member was received (R203). -/
def State.heardFrom (s : State) (m : Nat) : State :=
  s.setMember m { s.member m with heard := true, lastHeard := s.fleetMs }

/-- An authenticated frame other than a report brings a *Silent* member to *Stopped* (R201). -/
def State.heardOther (s : State) (m : Nat) : State :=
  let s1 := s.heardFrom m
  if s.inRun && (s.member m).st = .silent then (s1.thaw m).memberTo m .stopped else s1

/-! ### JOIN (R197, R199, R298) -/

/-- A JOIN without an answer (R197). -/
def State.joinIgnored (s : State) : State :=
  { s with fleet := { s.fleet with joinIgnored := bump s.fleet.joinIgnored } }

/-- A rejoining member that holds live corridors is frozen, loses its tasks and is held (R199). -/
def State.rejoin (s : State) (m : Nat) : State :=
  let s1 := (s.freeze m).withdrawAll m
  (s1.memberTo m .stopped).setMember m { (s1.memberTo m .stopped).member m with held := true, stopCause := 0xFF }

/-- A JOIN is accepted: the class, the new pairwise key, and the answer (R197, R199, R201, R290, R291). -/
def State.joinAccept (s : State) (m : Nat) (nonce : BitVec 64) : State :=
  let s1 := if 0 < s.cre.ncorr m then s.rejoin m
    else
      let s2 := s.memberTo m .joining
      s2.setMember m { s2.member m with joinDeadline := some (s.tb4ms + 2000) }
  let x := s1.member m
  let s3 := (s1.creMemberWrite m (x.cls.setWidth 32 + 16)).setLink m
    { s1.link m with paired := true, tx := 0, rx := none, keyGen := s1.sec.groupGen.setWidth 8 }
  let mapId := match s3.cre.map with
    | some k => k.id
    | none => 0
  let fr := frbFrame 0 3 89 (.joinAccept m nonce mapId x.cls x.role s3.fleet.roleEpoch (s3.sec.groupGen.setWidth 8))
  (s3.frbQueue [{ fr with waitDelta := some s3.deltaNow }]).heardFrom m

/-- JOIN (R197, R285, R290, R303). The map ID the robot holds is R293's affair and changes nothing here. -/
def execJoin (f : RxFrame) (nonce : BitVec 64) (_mapId : Word) (s : State) : Result :=
  let l := s.link f.member
  if s.blk.frb.st ≠ .on then .next s
  else if !f.form then .next s.countMic.joinIgnored
  else if !s.memberOk f.member then .next s.joinIgnored
  else if !fresher l.rxEnrol f.fcnt then .next s.countReplay.joinIgnored
  else if !f.mic then .next s.countMic.joinIgnored
  else
    let s1 := s.setLink f.member { l with rxEnrol := some f.fcnt }
    if !s.inRun || (s.member f.member).st = .retired then .next s1.joinIgnored
    else .next (s1.joinAccept f.member nonce)

/-- A member whose 2 s of *Joining* ended falls to *Unknown* (R201). -/
def State.joiningEnds (s : State) (m : Nat) : State :=
  let x := s.member m
  match x.joinDeadline with
  | some d => if x.st = .joining && d ≤ s.tb4ms then (s.memberTo m .unknown).memberInactive m else s
  | none => s

/-- JOINING_TIMEOUT (R201), watched only in *Run*. -/
def execJoiningTimeout (m : Nat) (s : State) : Result :=
  match (s.member m).joinDeadline with
  | some d => if s.inRun && (s.member m).st = .joining then .next ((s.reachTb4 (d * 1000000)).joiningEnds m) else .next s
  | none => .next s

/-- On entry to *Run* every miss count is 0, and members whose 2 s ended meanwhile leave *Joining* (R201, R203). -/
def State.membersRun (s : State) : State :=
  (s.fleet.members.map Prod.fst).foldl (fun s m =>
    (s.setMember m { s.member m with miss := 0, heard := false }).joiningEnds m) s

/-! ### Reports (R205, R299) -/

/-- Cells of a live corridor released already: the lowest index still reserved (R182, R205). -/
def Cre.released (c : Cre) (k : Corridor) : Nat :=
  ((c.resv.filter fun p => p.2.corr = k.id).map fun p => p.2.idx).foldl min k.ncells

/-- A report within 8 cycles of the reconciliation window's start names an unknown corridor (R384). -/
def State.unknownCorridor (s : State) (m : Nat) (id : BitVec 16) : State :=
  let s1 := { s with fleet := { s.fleet with itemsIgnored := bump s.fleet.itemsIgnored } }
  match s.pair.windowT with
  | some t =>
    if (s.dev.cycle - t).toNat < 8 then
      let s2 := (s1.freeze m).setMember m { (s1.freeze m).member m with kept := true }
      ({ s2 with pair := { s2.pair with nUnknown := bump s2.pair.nUnknown } }).event .unknownCorridor [m, id.toNat]
    else s1
  | none => s1

/-- One entry of corridor progress (R205). -/
def State.progress (m : Nat) (s : State) (p : BitVec 16 × Nat) : State :=
  match s.cre.corr p.1 with
  | some k =>
    if k.holder ≠ m then s.unknownCorridor m p.1
    else if s.cre.released k < p.2 then s.vetchSubmit 2 p.2 m false p.1
    else s
  | none => s.unknownCorridor m p.1

/-- Items that the report reflects are due no more (R297). -/
def reflects (r : ReportIn) (i : CmdItem) : Bool :=
  let names := r.stepStatus ≠ 0
  match i with
  | .task id e => names && r.task.toNat = id && r.epoch = e
  | .taskEnd id e => !(names && r.task.toNat = id && epochCheck e r.epoch = .staleEpoch)
  | .stepGo id e k => names && r.task.toNat = id && r.epoch = e && (k ≤ r.step.toNat || r.result ≠ 0)
  | .stepSkip id e k => names && r.task.toNat = id && r.epoch = e && (k ≤ r.step.toNat || r.result ≠ 0)
  | _ => false

/-- A report with a step running makes an *Allotted* task *Active* (R209). -/
def State.taskRuns (s : State) (id : Nat) (r : ReportIn) : State :=
  let t := s.task id
  if t.st = .allotted && r.stepStatus = 1 then (s.setTask id { t with st := .active }).taskTold id else s

/-- A report's step of an *Active* task, of which the policy is told when it is new or has ended (R208, R212). -/
def State.taskStep (s : State) (id : Nat) (r : ReportIn) : State :=
  let t := s.task id
  if t.st ≠ .active then s
  else
    let s1 := s.setTask id { t with cstep := r.step.toNat }
    if t.cstep ≠ r.step.toNat || 2 ≤ r.stepStatus.toNat then s1.policyEvent 4 id t.member t.epoch else s1

/-- A report's task result ends an *Active* task (R209). -/
def State.taskResult (s : State) (id : Nat) (r : ReportIn) : State :=
  let t := s.task id
  if t.st ≠ .active || (r.result ≠ 1 && r.result ≠ 2) then s
  else
    (s.setTask id { t with
      st := if r.result = 1 then .done else .failed, result := r.result.setWidth 8 }).taskTold id

/-- The task item of a report (R205, R209, R211). -/
def State.taskItem (s : State) (m : Nat) (r : ReportIn) : State :=
  let id := r.task.toNat
  let t := s.task id
  let s1 := s.dropDue fun d => d.member = m && reflects r d.item
  if r.stepStatus = 0 then s1
  else
    match epochCheck t.epoch r.epoch with
    | .staleEpoch =>
      (s1.staleTold id m t.epoch r.epoch).addDue m (.taskAnswer id r.epoch Status.staleEpoch.code)
    | .ok =>
      if t.member ≠ m || t.st = .free then s1.addDue m (.taskAnswer id r.epoch Status.denied.code)
      else ((s1.taskRuns id r).taskStep id r).taskResult id r
    | _ => s1.addDue m (.taskAnswer id r.epoch Status.denied.code)

/-- A report that follows a group key's activation cycle ends the member's part in the renewal (R543). -/
def State.renewalHeard (s : State) (m : Nat) : State :=
  match s.sec.renewal with
  | some k =>
    if cycleReached s.dev.cycle k.cycle then
      let w := k.waiting.filter (· ≠ m)
      let s1 := s.dropDue fun d => d.member = m && d.item.code = 9
      { s1 with sec := { s1.sec with renewal := if w.isEmpty then none else some { k with waiting := w } } }
    else s
  | none => s

/-- What a report records in every state (R203, R216). -/
def State.reportNotes (s : State) (m : Nat) (r : ReportIn) : State :=
  s.setMember m { s.member m with lastHeard := s.fleetMs, cell := r.cell.toNat, battery := r.battery }

/-- A report from a member in service: state, corridor progress, task item (R201, R205). The stop cause of a member held
after a JOIN stays REJOIN (R199; a log entry). -/
def State.reportActs (s : State) (m : Nat) (r : ReportIn) : State :=
  let x := s.member m
  let s0 := s.setMember m { x with stopCause := if x.held then x.stopCause else r.stopCause }
  let s1 := if (s.member m).st = .silent then s0.thaw m else s0
  let s2 := s1.memberTo m (if (s1.member m).held then .stopped else reportState r.state)
  ((r.progress.foldl (State.progress m) s2).taskItem m r).renewalHeard m

/-- A report names a role epoch that precedes the takeover epoch (R385). -/
def State.reportStale (s : State) (r : ReportIn) : Bool :=
  match s.pair.takeover with
  | some e =>
    let d := (e.setWidth 16 - r.roleEpoch).toNat
    1 ≤ d && d ≤ 32767
  | none => false

/-- A report in *Run* (R201, R205, R385). -/
def State.reportRun (s : State) (m : Nat) (fcnt : BitVec 32) (r : ReportIn) : State :=
  let s1 := s.setMember m { s.member m with heard := true }
  if s.reportStale r then
    ({ s1 with pair := { s1.pair with nStale := bump s1.pair.nStale } }).addDue m (.status fcnt Status.roleStale.code)
  else
    let s2 := s1.reportNotes m r
    match (s.member m).st with
    | .unknown => s2
    | .retired => s2
    | .joining => (s2.setMember m { s2.member m with stopCause := r.stopCause }).memberTo m (reportState r.state)
    | _ => s2.reportActs m r

/-- REPORT, received in minislot `slot` (R198, R201, R205, R299). -/
def execReport (f : RxFrame) (slot : Nat) (r : ReportIn) (s : State) : Result :=
  let m := f.member
  if s.blk.frb.st ≠ .on then .next s
  else if !s.memberOk m || s.dev.cycle.toNat % 8 ≠ (m - 1) % 8 || slot ≠ (m - 1) / 8 then .next s.countMic
  else
    let a := s.acceptPair f
    if !a.2 then .next a.1
    else if s.inRun then .next (a.1.reportRun m f.fcnt r)
    else if s.standby then .next a.1
    else .next (a.1.reportNotes m r)

/-! ### The Silent rule (R203) -/

/-- States in which the Silent rule counts (R201). -/
def MemberState.watched : MemberState → Bool
  | .idle => true | .working => true | .charging => true | .stopped => true | _ => false

/-- A member misses its third report slot in a row (R201, R203). -/
def State.memberSilent (s : State) (m : Nat) : State :=
  let s1 := (s.memberTo m .silent).freeze m
  (s1.setMember m { s1.member m with silentSince := some s.tb4ms }).event .memberSilent [m]

/-- The end of a member's report minislot (R203). -/
def State.minislotEnd (s : State) (m : Nat) : State :=
  let x := s.member m
  if x.heard then s.setMember m { x with miss := 0, heard := false }
  else if !x.st.watched then s
  else
    let n := min 3 (x.miss + 1)
    let s1 := s.setMember m { x with miss := n }
    if n = 3 then s1.memberSilent m else s1

/-- MINISLOT_END (R198, R203, R274): acts in the member's report cycle, in *Run*, while FRB is ON; a radio microcode
pause counts as not ON (R586). -/
def execMinislotEnd (m : Nat) (s : State) : Result :=
  if !s.memberOk m || !s.inRun || s.blk.frb.st ≠ .on || s.upd.paused = some .radio || s.dev.cycle.toNat % 8 ≠ (m - 1) % 8 then .next s
  else .next ((s.reachOffset (11000 + 1200 * ((m - 1) / 8 + 1))).minislotEnd m)

/-! ### Member commands (R202) -/

/-- A member command: Operator role, not in standby (R387), an enrolled member, and a state that allows it (R202). -/
def State.memberCmd (s : State) (role : Role) (m : Nat) (may : MemberState → Bool) (f : State → State) : State :=
  s.asRole role .operator fun s =>
    if s.standby then s.deny .state
    else if !s.memberOk m then s.deny .range
    else if !may (s.member m).st then s.answer .busy
    else (f s).answer .ok

/-- RETIRE (R201, R202). -/
def execRetire (role : Role) (m : Nat) (s : State) : Result :=
  .next (s.memberCmd role m (fun st => st = .unknown || st = .silent || st = .stopped) fun s =>
    let s1 := (((s.memberTo m .retired).vetchSubmit 6 0 m false 0).memberInactive m).withdrawAll m
    s1.setMember m { s1.member m with held := false, kept := false })

/-- REINSTATE (R202). -/
def execReinstate (role : Role) (m : Nat) (s : State) : Result :=
  .next (s.memberCmd role m (fun st => st = .retired) fun s => s.memberTo m .unknown)

/-- RELEASE_FROZEN (R199, R202). -/
def execReleaseFrozen (role : Role) (m : Nat) (s : State) : Result :=
  .next (s.memberCmd role m (fun st => st = .silent || st = .stopped) fun s =>
    let s1 := s.vetchSubmit 6 0 m false 0
    s1.setMember m { s1.member m with held := false, kept := false })

/-! ### Role changes (R206) -/

/-- What a role change request is answered (R206). -/
def State.roleCheck (s : State) (m v : Nat) : Status :=
  let x := s.member m
  if !s.memberOk m || x.st = .unknown || x.st = .joining || x.st = .retired || 31 < v then .denied
  else if x.change.isSome || (s.tasksOf m).any (fun p => !p.2.roles.getLsbD v) then .busy
  else .ok

/-- A role change accepted: the ROLE command falls due (R206). -/
def State.roleAsk (s : State) (m v : Nat) : State :=
  (s.setMember m { s.member m with change := some ⟨BitVec.ofNat 5 v, s.tb4ms + 2000, false⟩ }).addDue m
    (.role (BitVec.ofNat 5 v))

/-- ROLE_CHANGE_REQUEST: the member object's role is written (R206, R216, R217). -/
def execRoleChangeRequest (role : Role) (m v : Nat) (s : State) : Result :=
  .next (s.asRole role .operator fun s =>
    if s.standby then s.deny .state
    else match s.roleCheck m v with
      | .ok => (s.roleAsk m v).answer .ok
      | st => s.answer st)

/-- ROLE_CHANGE_TIMEOUT: no acknowledgement within 2 s (R206). -/
def execRoleChangeTimeout (m : Nat) (s : State) : Result :=
  match (s.member m).change with
  | some c =>
    if c.acked || s.standby then .next s
    else
      let s1 := s.reachTb4 (c.deadline * 1000000)
      .next (((s1.setMember m { s1.member m with change := none }).dropDue fun d => d.member = m && d.item.code = 2).policyEvent
        7 0 m (c.role.setWidth 32))
  | none => .next s

/-- Acknowledged role changes take effect at a cycle boundary, with one increase of the role epoch (R206, R667). -/
def State.rolesEffect (s : State) : State :=
  let l := s.fleet.members.filter fun p => match p.2.change with
    | some c => c.acked
    | none => false
  if l.isEmpty then s
  else
    let s1 := l.foldl (fun s p => match p.2.change with
      | some c => s.setMember p.1 { s.member p.1 with role := c.role, change := none }
      | none => s) s
    { s1 with fleet := { s1.fleet with roleEpoch := s.fleet.roleEpoch + 1, epochStored := s.fleet.roleEpoch + 1 } }

end Sys2Proof.Machine
end

