-- ==== Sys2Proof/Machine/Frb.lean ====
section
/-!
DEFINITION. FRB: its slots, listens, frames on air and descriptors (spec/08_radio_access.md, R261, R262, R267, R268, R275,
R279 to R281; spec/11_pair.md, R367).
-/
namespace Sys2Proof

/-- KIND of the frames a slot carries (R275, R279). -/
def FrbSlot.kind : FrbSlot → Nat
  | .node => 2 | .grantA => 0 | .grantB => 0 | .correction => 1

/-- Start and end of a slot, us after the boundary (R271). -/
def FrbSlot.span : FrbSlot → Nat × Nat
  | .node => (6000, 11000) | .grantA => (11000, 15000) | .grantB => (15000, 49600) | .correction => (15000, 49000)

end Sys2Proof

namespace Sys2Proof.Machine

/-- Air time of a frame of FRB, us (R261). -/
def FrbFrame.us (f : FrbFrame) : Nat := (8 + f.psdu) * octetUs f.mode

/-- A slot exists in the present cycle (R271). -/
def State.slotExists (s : State) (k : FrbSlot) : Bool :=
  match k with
  | .grantB => !s.corrCycle s.dev.cycle
  | .correction => s.corrCycle s.dev.cycle
  | _ => true

/-- FRB transmits: it is ON, in *Run* or *Debug session* (R27). -/
def State.frbMay (s : State) : Bool := s.blk.frb.st = .on && s.transmits

/-- A frame of the open slot's kind, in this cycle. -/
def State.ofSlot (s : State) (k : FrbSlot) (f : FrbFrame) : Bool :=
  f.kind.toNat = k.kind && (match f.corrCycle with
    | some c => c = s.dev.cycle
    | none => true)

/-- The frame of the open slot's kind that is next: the first one not held back, unless its launch time is to come
(R275, R280, R367). -/
def State.frbNext (s : State) (k : FrbSlot) : Option FrbFrame :=
  match s.frb.queue.filter fun f => s.ofSlot k f && !s.heldBack f with
  | f :: _ => if f.ripe then some f else none
  | [] => none

/-- Removes the first frame equal to one given. -/
def takeFrame (x : FrbFrame) : List FrbFrame → List FrbFrame
  | [] => []
  | f :: t => if f = x then t else f :: takeFrame x t

/-- Takes a frame out of the queue. -/
def State.frbTake (s : State) (f : FrbFrame) : State := s.setFrb fun b => { b with queue := takeFrame f b.queue }

/-- A frame's air time ends before the end of the slot when it starts so many us from now (R275). -/
def State.frbFits (s : State) (k : FrbSlot) (wait : Nat) (f : FrbFrame) : Bool :=
  s.cycleUs + wait + f.us ≤ k.span.2

/-- The frame counter of a frame under its key; a frame of a descriptor carries its own (R285, R289, R306). -/
def State.frbCounter (s : State) (f : FrbFrame) : Option (BitVec 32) × State :=
  match f.content with
  | .cmd m _ => s.takePair m
  | .joinAccept m _ _ _ _ _ _ => s.takePair m
  | .nodeDl n _ _ => s.takeNode n
  | .corr _ _ _ => s.takeGroup
  | .psdu _ => (some 0, s)

/-- us from the node slot's nominal instant to now (R275, R306). -/
def State.dlofs (s : State) : Nat := s.cycleUs - (6000 + if s.na then 10 else 170)

/-- A NODE_DL went on air with a counter: it is the one to be acknowledged (R287, R307, R310). -/
def State.nodeSent (s : State) (n : Nat) (dl : NodeDl) (fcnt : BitVec 32) : State :=
  let x := s.node n
  let more := match dl with
    | .sync m _ _ _ _ => m
    | .tfc m _ _ => m
    | .cancel m _ => m
  let ofs := match dl with
    | .sync true _ _ _ l => x.syncOfs + l.length
    | .sync false _ _ _ _ => 0
    | _ => x.syncOfs
  s.setNode n { x with
    await := some (s.dev.cycle, fcnt, (s.tb4ns + 160000) / 1000000), awaitDl := some dl, more := more, syncOfs := ofs }

/-- What a frame's start changes besides the radio: the 2 s of *Joining* run from JOIN_ACCEPT, and a node's answer is
awaited (R201, R310). -/
def State.frbBegun (s : State) (f : FrbFrame) : State :=
  match f.content with
  | .joinAccept m _ _ _ _ _ _ =>
    if (s.member m).st = .joining then s.setMember m { s.member m with joinDeadline := some (s.tb4ms + 2000) } else s
  | .nodeDl n dl _ => s.nodeSent n dl f.fcnt
  | _ => s

/-- The content as it leaves: a NODE_DL states its offset (R306). -/
def State.frbContent (s : State) (c : FrbContent) : FrbContent :=
  match c with
  | .nodeDl n dl _ => .nodeDl n dl s.dlofs
  | c => c

/-- A frame forbidden by a limit is not sent, with its completion word (R268, R281). -/
def State.frbForbid (s : State) (f : FrbFrame) : State :=
  let s1 := ((s.frbTake f).countBlock true true).completeFrame true f .full 2 0
  if f.kind = 1 then s1.setFrb fun b => { b with nFragLost := bump b.nFragLost } else s1

/-- Puts frames on air that may start now: the first that fits and that no limit and no exhausted key forbids (R268, R275,
R289). `n` bounds the frames tried. -/
def State.frbSend (s : State) (k : FrbSlot) : Nat → State
  | 0 => s
  | n + 1 =>
    match s.frbNext k with
    | none => s
    | some f =>
      if !s.frbFits k 0 f then s
      else if !s.dutyAllows (s.subBand s.dataChannel 20) f.us then (s.frbForbid f).frbSend k n
      else
        let r := s.frbCounter f
        match r.1 with
        | none => (r.2.frbTake f).frbSend k n
        | some fcnt =>
          let g := { f with fcnt := fcnt, content := s.frbContent f.content }
          let s1 := ((r.2.frbTake f).dutyAdd (s.subBand s.dataChannel 20) f.us).setFrb fun b => { b with
            onAir := some g, airFrom := s.tb4ns, regs := { b.regs with chNow := s.dataChannel } }
          (s1.emit (.frb g)).frbBegun g

/-- Begins the listen of the slot's transmissions, if a frame can still fit after it (R267, R275). -/
def State.frbListen (s : State) (k : FrbSlot) : State :=
  match s.frbNext k with
  | some f =>
    if s.frbFits k 170 f then s.setFrb fun b => { b with
      listening := true, listenFrom := s.tb4ns, clear := false, busyAt := none, regs := { b.regs with chNow := s.dataChannel } }
    else s
  | none => s

/-- Serves the open slot (R267, R275): sends after a clear listen and in NA, listens otherwise. A clear listen holds as long as
frames follow one another. -/
def State.frbServe (s : State) : State :=
  match s.frb.slot with
  | none => s
  | some k =>
    if !s.frbMay || s.frb.onAir.isSome || s.frb.listening || (s.frb.busyAt).isSome then s
    else if s.na || s.frb.clear then
      let s1 := s.frbSend k (s.frb.queue.length + 1)
      if s1.frb.onAir.isNone then s1.setFrb fun b => { b with clear := false } else s1
    else s.frbListen k

/-- The open slot ends: fragments of its cycle that did not start are discarded with those behind them, and a NODE_DL that
the firmware built for it is dropped (R275, R281, R306). -/
def State.slotClose (s : State) : State :=
  match s.frb.slot with
  | none => s
  | some k =>
    let reason := if (s.frb.busyAt).isSome || s.frb.listening then 1 else 5
    let gone := s.frb.queue.filter fun f =>
      (k = .correction && f.kind = 1 && f.corrCycle = some s.dev.cycle) || (k = .node && f.kind = 2 && f.tag.isNone)
    let s1 := gone.foldl (fun s f =>
      let s2 := (s.frbTake f).completeFrame true f .busy reason 0
      if f.kind = 1 then s2.setFrb fun b => { b with
        nFragLost := bump b.nFragLost, regs := { b.regs with cntLate := bump b.regs.cntLate } }
      else s2) s
    s1.setFrb fun b => { b with slot := none, listening := false, busyAt := none, clear := false }

/-- The fragments of the present correction cycle, framed in time, are queued (R19, R275, R295). -/
def State.fragsQueue (s : State) : State :=
  if s.corr.fragCycle = some s.dev.cycle && s.corrCycle s.dev.cycle then
    let l := s.corr.frags.map fun (g : CorrFrag) =>
      { frbFrame 1 3 (g.n + 34) (.corr g.header g.off g.n) with corrCycle := some s.dev.cycle }
    { s.frbQueue l with corr := { s.corr with frags := [], fragCycle := none } }
  else s

/-- A frame on air has ended: it is counted and completed, and the next follows after 0.1 ms (R259, R267, R281, R282). -/
def State.frbEnd (s : State) (f : FrbFrame) : State :=
  let sfd := BitVec.ofNat 32 (s.frb.airFrom + 4000 * octetUs f.mode)
  let s1 := (s.setFrb fun b => { b with
    onAir := none, regs := { b.regs with cntTx := bump b.regs.cntTx } }).completeFrame true f .ok 0 sfd
  if f.kind = 2 then s1.setFrb fun b => { b with slot := none, clear := false }
  else if s1.frb.slot.isSome then (s1.reachTb4 (s1.tb4ns + 100000)).frbServe
  else s1

/-- A frame on FRB ends (R259). -/
def State.frbFrameEnd (s : State) : State :=
  match s.frb.onAir with
  | some f => (s.reachTb4 (s.frb.airFrom + f.us * 1000)).frbEnd f
  | none => s

/-- A listen of FRB ends (R267, R275). -/
def State.frbListenEnd (s : State) (rnd : Nat) (level mean : Int) : State :=
  if !s.frb.listening then s
  else
    let s1 := s.reachTb4 (s.frb.listenFrom + s.frb.regs.listenUs rnd * 1000)
    let busy := s1.frb.regs.busy level
    let s2 := s1.countListen true mean busy
    if busy then s2.setFrb fun b => { b with listening := false, busyAt := some s2.tb4ns }
    else ((s2.setFrb fun b => { b with listening := false, clear := true }).reachTb4 (s2.tb4ns + 10000)).frbServe

/-- Grants that a CMD frame carries: its RESULT items with OK and a corridor (R42, R296). -/
def FrbFrame.grants (f : FrbFrame) : List (Nat × BitVec 16) :=
  match f.content with
  | .cmd m l => l.filterMap fun i => match i with
    | .result _ st _ _ c _ => if st = 0 && c ≠ 0 then some (m, c) else none
    | _ => none
  | _ => []

/-- FRB leaves ON: listens end, and its transmit queue is discarded, the grants in it released as unsent (R41, R42). A
frame of a descriptor is completed with BUSY. -/
def State.frbDrop (s : State) : State :=
  let gone := s.frb.queue
  let s1 := s.setFrb fun b => { b with queue := [], listening := false, busyAt := none, clear := false, mrxOn := false }
  let s2 := gone.foldl (fun s f => s.completeFrame true f .busy 0 0) s1
  (gone.flatMap FrbFrame.grants).foldl (fun s g => s.vetchSubmit 3 0 g.1 true g.2) s2

/-- FRB reads OFF. -/
def State.frbOff (s : State) : State :=
  s.frbDrop.setFrb fun b => { b with onAir := none, slot := none }

/-! ### Descriptors (R279 to R281) -/

/-- Takes a descriptor's words from the front of a transmit queue, where they stand there. -/
def State.descTake (s : State) (b : Bool) (ws : List Dword) : State :=
  let n := queueOf (if b then s.frb.regs.txq else s.fra.regs.txq)
  let q := (s.queue n).settle s.tb5c
  if q.avail.take ws.length = ws then s.setQueue n (iterate Queue.take ws.length q) else s

/-- A descriptor breaks R262 or the table of R279; a Cowslip segment goes by FRA and every other kind by FRB. -/
def descBad (b : Bool) (w0 w1 : Dword) : Bool :=
  let kind := (w0.extractLsb' 0 3).toNat
  let mode := (w0.extractLsb' 3 2).toNat
  let len := (w0.extractLsb' 16 11).toNat + 4
  w0.extractLsb' 7 9 ≠ 0 || w0.extractLsb' 27 5 ≠ 0 || w1.extractLsb' 48 16 ≠ 0 ||
    (match kind with
     | 0 => !b || mode ≠ 3 || 250 < len
     | 1 => !b || mode ≠ 3 || 258 < len
     | 2 => !b || mode ≠ 2 || 57 < len
     | 3 => b
     | _ => true)

/-- The next correction cycle whose slot a fragment of a descriptor can still meet, within 64 cycles (R19, R275). -/
def State.nextCorrCycle (s : State) : BitVec 32 :=
  let now := if s.cycleUs < 49000 then 0 else 1
  (((List.range 64).map fun i => s.dev.cycle + BitVec.ofNat 32 (i + now)).find? fun c => s.corrCycle c).getD s.dev.cycle

/-- A descriptor's frame (R279, R280). -/
def State.descFrame (s : State) (w0 w1 : Dword) : FrbFrame :=
  let kind := w0.extractLsb' 0 3
  let launch := w0.extractLsb' 32 32
  let en := w0.getLsbD 5
  let future := precedes s.tim.base[4].nsField launch
  { frbFrame kind (w0.extractLsb' 3 2) ((w0.extractLsb' 16 11).toNat + 4) (.psdu (w1.extractLsb' 0 32)) with
    launch := if en then some launch else none, lateDrop := w0.getLsbD 6, ripe := !(en && future)
    tag := some (w1.extractLsb' 32 16), corrCycle := if kind = 1 then some s.nextCorrCycle else none }

/-- A frame is discarded as late (R280, R281, R282). -/
def State.frameLate (s : State) (b : Bool) (f : FrbFrame) : State :=
  (s.setRadio b fun r => { r with cntLate := bump r.cntLate }).completeFrame b f .busy 3 0

/-- Takes a descriptor from a radio's transmit queue (R279, R280). -/
def State.descriptor (s : State) (b : Bool) (w0 w1 : Dword) : State :=
  if (if b then s.blk.frb.st else s.blk.fra.st) ≠ .on then s
  else
    let s1 := s.descTake b [w0, w1]
    if descBad b w0 w1 then s1.complete b (w1.extractLsb' 32 16) .denied 0 0
    else
      let f := s1.descFrame w0 w1
      if f.launch.isSome && f.ripe && f.lateDrop then s1.frameLate b f
      else if b then (s1.frbQueue [f]).frbServe
      else s1.setFra fun k => { k with queue := k.queue ++ [f] }

/-- Marks a frame ripe. -/
def ripen (x : FrbFrame) (l : List FrbFrame) : List FrbFrame :=
  l.map fun (f : FrbFrame) => if f = x then { f with ripe := true } else f

/-- The launch time of FRB's first waiting frame (R280): in the open slot of its kind a listen of its own begins, or the
frame leaves in NA; outside it the frame is late. -/
def State.frbLaunch (s : State) : State :=
  match s.frb.queue.find? fun f => !f.ripe with
  | none => s
  | some f =>
    let at' := s.tb4ns + ((f.launch.getD 0) - s.tim.base[4].nsField).toNat
    let s1 := s.reachTb4 at'
    let isOpen := match s1.frb.slot with
      | some k => s1.ofSlot k f
      | none => false
    if !isOpen && f.lateDrop then (s1.frbTake f).frameLate true f
    else (s1.setFrb fun b => { b with queue := ripen f b.queue, clear := false }).frbServe

end Sys2Proof.Machine
end

