-- ==== Sys2Proof/Machine/Wave.lean ====
section
/-!
DEFINITION. Fixed-point arithmetic of the test signal: rounding, sine, logarithm and exponential in units of 2^-96
(spec/13_control_loops.md, R441).
-/
namespace Sys2Proof.Machine

/-- Quotient rounded to nearest, a half upwards. -/
def roundDiv (x : Int) (d : Nat) : Int := (2 * x + d) / (2 * d)

/-- Limits a value to plus or minus `m`. -/
def clampTo (m x : Int) : Int := max (-m) (min m x)

/-- One, in units of 2^-96. -/
def one96 : Nat := 2 ^ 96

/-- Pi in units of 2^-96. -/
def pi96 : Nat := 248902613312231085230521944622

/-- Natural logarithm of 2 in units of 2^-96. -/
def ln2x96 : Nat := 54916777467707473351141471128

/-- Sum of the Taylor terms that follow `t`, each the one before times `x2 / ((n + 1)(n + 2))`. -/
def sinTerms (x2 : Int) (n : Nat) (t : Int) : Nat → Int
  | 0 => t
  | k + 1 => t + sinTerms x2 (n + 2) (-(t * x2 / one96 / ((n + 1) * (n + 2)))) k

/-- Sine of an angle of at most a quarter turn, in units of 2^-96. -/
def sinQuarter (x : Int) : Int := sinTerms (x * x / one96) 1 x 14

/-- Sine of a phase given in turns, units of 2^-96; the result in units of 2^-96. -/
def sinTurn (phase : Int) : Int :=
  let p := (phase % one96).toNat
  let q := p / (one96 / 4)
  let r := p % (one96 / 4)
  let ang := fun (r : Nat) => ((r * 2 * pi96 / one96 : Nat) : Int)
  match q with
  | 0 => sinQuarter (ang r)
  | 1 => sinQuarter (ang (one96 / 4 - r))
  | 2 => -sinQuarter (ang r)
  | _ => -sinQuarter (ang (one96 / 4 - r))

/-- Sum of z^(n)/n + z^(n+2)/(n+2) + ..., with `p` the power z^n. -/
def atanhTerms (z2 : Int) (n : Nat) (p : Int) : Nat → Int
  | 0 => 0
  | k + 1 => p / n + atanhTerms z2 (n + 2) (p * z2 / one96) k

/-- Natural logarithm of a/b, both positive, in units of 2^-96. -/
def lnRatio (a b : Nat) : Int :=
  let m : Int := (Nat.log2 a : Int) - Nat.log2 b
  let a' := if 0 ≤ m then a else a * 2 ^ m.natAbs
  let b' := if 0 ≤ m then b * 2 ^ m.natAbs else b
  let z := ((a' : Int) - b') * one96 / ((a' : Int) + b')
  m * ln2x96 + 2 * atanhTerms (z * z / one96) 1 z 34

/-- Sum of x^n/n! from the term `t` on. -/
def expTerms (x : Int) (n : Nat) (t : Int) : Nat → Int
  | 0 => t
  | k + 1 => t + expTerms x (n + 1) (t * x / one96 / (n + 1)) k

/-- Exponential, in units of 2^-96. -/
def exp96 (x : Int) : Int :=
  let m := x / ln2x96
  let e := expTerms (x % ln2x96) 0 one96 30
  if 0 ≤ m then e * 2 ^ m.natAbs else e / 2 ^ m.natAbs

end Sys2Proof.Machine
end

