-- ==== Sys2Proof/Machine/Loops.lean ====
section
/-!
DEFINITION. The control loop engine, block CLE: sampling, control law, notches, hand-over, overrun, test signal and
capture (spec/13_control_loops.md).
-/
namespace Sys2Proof.Machine

/-! ### Loops and their sets -/

/-- Changes one loop. -/
def State.setLoop (s : State) (n : Fin 8) (f : Loop → Loop) : State :=
  { s with mot := { s.mot with loop := s.mot.loop.set n (f s.mot.loop[n]) } }

/-- Sets CLE_STATUS.CFG_ERR (R444). -/
def State.cleErr (s : State) : State := { s with mot := { s.mot with cleErr := true } }

/-- The axis has the output and the loop the enable that R428 asks for. -/
def State.loopAsked (s : State) (n : Fin 8) : Bool :=
  s.mot.loop[n].en && ((s.axis n).cfg.out = 1 || (s.axis n).cfg.out = 2)

/-- Loop n closes axis n (R428). -/
def State.closes (s : State) (n : Fin 8) : Bool :=
  s.blk.cle.st = .on && s.loopAsked n && (s.axis n).ctl.st ≠ .off

/-- A 2.30 notch set has its poles in the stability region (R435). -/
def notchStable (k : Vector (BitVec 32) 5) : Bool :=
  k[4].toInt.natAbs < 2 ^ 30 && k[3].toInt.natAbs < 2 ^ 30 + k[4].toInt

/-- Cycles a loop needs with a coefficient set (R438). -/
def Coeffs.cycles (c : Coeffs) : Nat := 260 + 70 * (bit c.n1en + bit c.n2en)

/-- Set that will be in force at the next sample edge. -/
def Loop.coming (l : Loop) : Coeffs := l.commit.getD l.c

/-- CLE_BUDGET: cycles per sample (R438). -/
def State.budget (s : State) : Nat :=
  150 + ((List.finRange 8).map fun n => if s.loopAsked n then s.mot.loop[n].coming.cycles else 0).sum +
    40 * bit s.mot.inj.run + 24 * bit s.mot.cap.armed

/-- The budget leaves the margin of a period (R438). -/
def State.budgetFits (s : State) (per : Nat) : Bool := s.budget + 200 ≤ per

/-- Clears integrator and notch states (R433). -/
def Loop.cleared (l : Loop) : Loop :=
  { l with i := 0, s11 := 0, s12 := 0, s21 := 0, s22 := 0, uPre := 0, outNext := 0, out := 0, closed := false }

/-- COMMIT: the staged set waits for the next sample edge, unless R435 or R438 reject it (R436). The flag says it was
taken. -/
def State.commitLoop (s : State) (n : Fin 8) : State × Bool :=
  let l := s.mot.loop[n]
  if !(notchStable l.staged.n1 && notchStable l.staged.n2) then
    (s.setLoop n fun l => { l with notchRej := true }, false)
  else
    let s1 := s.setLoop n fun l => { l with commit := some l.staged }
    if s1.budgetFits s.mot.per.toNat then (s1, true) else (s.cleErr, false)

/-- A commit asked for through the dictionary is DENIED when the set is not taken (R446). -/
def State.commitAsked (s : State) (n : Fin 8) : State :=
  let r := s.commitLoop n
  if r.2 then r.1.answer .ok else r.1.deny .other

/-- COEFFICIENT_COMMIT (R436). -/
def execCoefficientCommit (role : Role) (n : Fin 8) (s : State) : Result :=
  .next (s.asRole role .engineer fun s => s.commitAsked n)

/-! ### Control law (R431 to R435, R437) -/

/-- A notch state kept in signed 16.16; outside the format it is a free value. -/
def fit16 (fr : Nat) (x : Int) : Int :=
  if -2147483648 ≤ x ∧ x ≤ 2147483647 then x else ((Config.freeValue fr).setWidth 32).toInt

/-- One biquad stage (R435): `x` in units of 2^-f. The output is in units of 2^-(f + 30). -/
def biquad (k : Vector (BitVec 32) 5) (f fr : Nat) (x s1 s2 : Int) : Int × Int × Int :=
  let y := k[0].toInt * x + s1 * 2 ^ (f + 14)
  let d := 2 ^ (f + 44)
  (y, fit16 fr (roundDiv (k[1].toInt * x * 2 ^ 30 - k[3].toInt * y + s2 * 2 ^ (f + 44)) d),
    fit16 (fr + 1) (roundDiv (k[2].toInt * x * 2 ^ 30 - k[4].toInt * y) d))

/-- States with which a stage just enabled puts out its input (R436). -/
def biquadStart (k : Vector (BitVec 32) 5) (f : Nat) (x : Int) : Int × Int :=
  (roundDiv ((2 ^ 30 - k[0].toInt) * x) (2 ^ (f + 14)), roundDiv ((k[2].toInt - k[4].toInt) * x) (2 ^ (f + 14)))

/-- A stage that is enabled: its output in units of 2^-(f + 30) and its new states; one just enabled puts out its
input. -/
def stage (c : Vector (BitVec 32) 5) (f fr : Nat) (fresh : Bool) (x s1 s2 : Int) : Int × Int × Int :=
  if fresh then
    let st := biquadStart c f x
    let r := biquad c f fr x st.1 st.2
    (x * 2 ^ 30, r.2)
  else biquad c f fr x s1 s2

/-- What the law needs at a sample. -/
structure LoopIn where
  /-- position feedback, counts -/
  pos : Int
  /-- setpoint position, 10^-20 count -/
  pSp : Int
  /-- setpoint velocity, 10^-10 counts/s -/
  vSp : Int
  /-- setpoint acceleration, 10^-5 counts/s^2 -/
  aSp : Int
  /-- the law of velocity mode -/
  velocity : Bool
  /-- test signal at point 0, 2^-16 count -/
  inj0 : Int
  /-- test signal at point 1, 2^-16 counts/s -/
  inj1 : Int
  /-- test signal at point 2, 2^-16 output unit -/
  inj2 : Int
  /-- a hand-over sample -/
  handOver : Bool
  /-- stage 1 has just been enabled -/
  fresh1 : Bool
  /-- stage 2 has just been enabled -/
  fresh2 : Bool

/-- Position error, 10^-20 count (R431). -/
def LoopIn.eP (x : LoopIn) : Int := x.pSp + x.inj0 * 1525878906250000 - x.pos * 100000000000000000000

/-- Units of velocity inside the law per count/s: PER x 2^16 x 10^20. -/
def velUnit (per : Nat) : Nat := per * 6553600000000000000000000

/-- Velocity command (R431). -/
def LoopIn.vCmd (x : LoopIn) (c : Coeffs) (per : Nat) : Int :=
  if x.velocity then x.vSp * per * 655360000000000 + x.inj1 * per * 100000000000000000000
  else c.kp.toNat * x.eP * per + c.kvff.toNat * x.vSp * per * 40000000000 + x.inj1 * per * 100000000000000000000

/-- Feedback velocity (R431). -/
def LoopIn.vFb (x : LoopIn) (prev : Int) : Int := wrap32 (x.pos - prev) * 655360000000000000000000000000000

/-- Notch filters over u_pre in 16.16: u_n, the number of its fraction bits, and the new states (R435). -/
def Loop.filter (l : Loop) (x : LoopIn) (fr : Nat) (u : Int) : Int × Nat × Loop :=
  let a := if l.c.n1en then stage l.c.n1 16 fr x.fresh1 u l.s11 l.s12 else (u, l.s11, l.s12)
  let f := if l.c.n1en then 46 else 16
  let b := if l.c.n2en then stage l.c.n2 f (fr + 2) x.fresh2 a.1 l.s21 l.s22 else (a.1, l.s21, l.s22)
  (b.1, if l.c.n2en then f + 30 else f, { l with s11 := a.2.1, s12 := a.2.2, s21 := b.2.1, s22 := b.2.2 })

/-- u_pre without the integrator, 16.16 (R431). -/
def LoopIn.uBase (x : LoopIn) (c : Coeffs) (per : Nat) (eV : Int) : Int :=
  roundDiv (c.kv.toNat * eV + c.kaff.toNat * x.aSp * per * 256000000000000000)
    (per * 1677721600000000000000000000) + x.inj2

/-- One sample of the law (R431, R433, R437): the loop with its new integrator, states and output. `fr` numbers the
free values of states outside their format. -/
def Loop.sample (l : Loop) (x : LoopIn) (per fr : Nat) : Loop :=
  let im : Int := l.c.imax.toNat * 65536
  let eV := x.vCmd l.c per - x.vFb l.posPrev
  let base := x.uBase l.c per eV
  let want := if x.handOver then l.uPre - base
    else l.i + roundDiv (l.c.ki.toNat * eV) 167772160000000000000000000000000000
  let iNew := clampTo im want
  let r := l.filter x fr (base + iNew)
  let um : Int := l.c.umax.toNat * 2 ^ r.2.1
  let frozen := um < r.1 || r.1 < -um
  let iUse := if frozen then clampTo im l.i else iNew
  let u := base + iUse
  let q := if frozen then l.filter x fr u else r
  let um' : Int := l.c.umax.toNat * 2 ^ q.2.1
  { q.2.2 with
    i := iUse, uPre := u, frozen := frozen, sat := um' < q.1 || q.1 < -um'
    hoclamp := l.hoclamp || (x.handOver && want ≠ iNew)
    outNext := clampTo l.c.umax.toNat (roundDiv q.1 (2 ^ q.2.1)) }

/-! ### Test signal (R441, R442) -/

/-- Phase of the chirp after `k` samples, turns in units of 2^-96 (R441). -/
def Inject.chirpPhase (j : Inject) (per k : Nat) : Int :=
  let span : Int := j.f1.toNat * j.dur.toNat * per
  let l := lnRatio j.f2.toNat j.f1.toNat
  if l = 0 then (j.f1.toNat * k * per * one96 / 10000000000 : Nat)
  else span * ((exp96 (l * k / j.dur.toNat) - one96) * one96 / l) / 10000000000

/-- Value of the test signal after `t` samples, units of 2^-16 (R441). A chirp from or to frequency 0 has no value the
spec states. -/
def Inject.value (j : Inject) (per fr : Nat) : Int :=
  let a : Int := j.amp.toInt
  match j.kind.toNat with
  | 0 => roundDiv (a * sinTurn (j.f1.toNat * j.t * per * one96 / 10000000000 : Nat)) (2 ^ 80)
  | 1 =>
    if j.f1 = 0 || j.f2 = 0 then (Config.freeValue fr).toInt
    else roundDiv (a * sinTurn (j.chirpPhase per j.t)) (2 ^ 80)
  | _ => if j.lfsr.getLsbD 10 then a * 65536 else -(a * 65536)

/-- The LFSR x^11 + x^9 + 1 one bit on (R441). -/
def lfsrNext (r : BitVec 11) : BitVec 11 := (r <<< 1) ||| (if r.getLsbD 10 != r.getLsbD 8 then 1 else 0)

/-- The generator after a sample in which it ran. -/
def Inject.advance (j : Inject) : Inject :=
  { j with t := j.t + 1, lfsr := if j.kind = 2 && (j.t + 1) % j.hold.toNat = 0 then lfsrNext j.lfsr else j.lfsr }

/-- Ends the injection with a cause (R442, R444). -/
def Inject.finish (j : Inject) (cause : BitVec 3) : Inject :=
  { j with run := false, due := false, axisStop := false, ended := cause }

/-- The generator at a sample edge, before its value is taken (R442). `stopped` says that a fault or limit stop holds
the axis, `mode` that its mode has changed, `on` that it is ON. -/
def Inject.edge (j : Inject) (stopped mode on : Bool) : Inject :=
  let j1 := if j.due then { j with due := false, run := true, t := 0, lfsr := 0x7FF, ended := 0 } else j
  if !j1.run then { j1 with axisStop := false }
  else if j1.dur.toNat ≤ j1.t then j1.finish 1
  else if j1.axisStop then j1.finish 3
  else if stopped then j1.finish 4
  else if mode then j1.finish 5
  else if !on then j1.finish 6
  else j1

/-- Status START is answered with (R442). -/
def State.injStatus (s : State) : Status :=
  let j := s.mot.inj
  let a := s.axis j.loop
  if a.cfg.svc = 0 || !s.closes j.loop || (j.point = 0 && a.mo.mode = .velocity) then .denied
  else if j.run || j.due || a.fault then .busy
  else .ok

/-- START (R442). -/
def State.injStart (s : State) : State :=
  let st := s.injStatus
  let j := { s.mot.inj with status := st.code }
  let j1 := if st = .ok then { j with due := true, axisStop := false } else j
  ({ s with mot := { s.mot with inj := j1 } }).answer st

/-- STOP (R442). -/
def State.injStop (s : State) : State :=
  let j := s.mot.inj
  ({ s with mot := { s.mot with inj := if j.run || j.due then j.finish 2 else j } }).answer .ok

/-- INJ_START (R442). -/
def execInjStart (role : Role) (s : State) : Result := .next (s.asRole role .engineer State.injStart)

/-- INJ_STOP (R442). -/
def execInjStop (role : Role) (s : State) : Result := .next (s.asRole role .engineer State.injStop)

/-! ### Capture (R443) -/

/-- The signals of one loop at a sample, in the order of SIG (R443). -/
def Loop.signals (l : Loop) (x : LoopIn) (prev : Int) (per : Nat) (closed : Bool) (test : Int) : List Int :=
  let vu := velUnit per
  let law := fun (v : Int) => if closed then v else 0
  [roundDiv x.pSp 100000000000000000000, x.pos, roundDiv x.eP 100000000000000000000, law (roundDiv (x.vCmd l.c per) vu),
   law (roundDiv (x.vFb prev) vu), law (roundDiv (x.vCmd l.c per - x.vFb prev) vu), l.i, roundDiv l.uPre 65536,
   law l.outNext, roundDiv test 65536, roundDiv x.vSp 10000000000, roundDiv x.aSp 100000]

/-- Channel 0 crosses the level between two samples, in either direction (R443). -/
def crosses (prev : Option Int) (now level : Int) : Bool :=
  match prev with
  | some p => (p < level && level ≤ now) || (level < p && now ≤ level) || (p ≤ level && level < now) ||
      (level ≤ p && now < level)
  | none => false

/-- The trigger fires: the records before it that PRE asks for are kept (R443). -/
def Capture.fire (c : Capture) : Capture := { c with trigd := true, count := min c.count c.pre.toNat }

/-- Oldest record of a capture. -/
def Capture.oldest (c : Capture) : BitVec 13 := BitVec.ofNat 13 (c.next + 8192 - min c.count 8192)

/-- A record has been written. -/
def Capture.wrote (c : Capture) : Capture :=
  let c1 := { c with next := (c.next + 1) % 8192, count := min (c.count + 1) 8192 }
  if c1.trigd && c1.count = 8192 then { c1 with armed := false, done := true, start := c1.oldest } else c1

/-- One sample of a capture, the channels' values given; `begins` says that an injection begins at this sample. -/
def State.captureSample (s : State) (vals : List Int) (begins : Bool) : State :=
  let c := s.mot.cap
  if !c.armed then s
  else
    let v0 := vals.headD 0
    let hit := !c.trigd && ((c.trig = 1 && begins) || (c.trig = 2 && crosses c.prev0 v0 c.level.toInt))
    let c1 : Capture := { (if hit then c.fire else c) with prev0 := some v0 }
    if c1.skip + 1 < c1.dec.toNat then { s with mot := { s.mot with cap := { c1 with skip := c1.skip + 1 } } }
    else
      let base := bankBase c1.bank + 32 * c1.next
      let m := if s.mem.bank[c1.bank].st = .on then s.mem.write base (vals.flatMap fun v => leBytesInt 4 v) else s.mem
      let c2 := { c1 with skip := 0 }.wrote
      let s1 := { s with mem := m, mot := { s.mot with cap := c2 } }
      if c2.done then s1.raise 41 else s1
where
  /-- Address of the capture bank (R472). -/
  bankBase (b : Fin 16) : Nat := 0x08000000 + 0x40000 * b.val

/-- ARM (R443). -/
def State.captureArm (s : State) : State :=
  let c := s.mot.cap
  if c.armed || s.mem.bank[c.bank].st ≠ .on then s.cleErr.deny .state
  else ({ s with mot := { s.mot with cap := { c with
      armed := true, trigd := c.trig = 0, done := false, start := 0, next := 0, count := 0, skip := c.dec.toNat - 1
      prev0 := none } } }).answer .ok

/-- ABORT (R443). -/
def State.captureAbort (s : State) : State :=
  let c := s.mot.cap
  ({ s with mot := { s.mot with cap := if c.armed then { c with armed := false, start := c.oldest } else c } }).answer .ok

/-- CAPTURE_ARM (R443). -/
def execCaptureArm (role : Role) (s : State) : Result := .next (s.asRole role .engineer State.captureArm)

/-- CAPTURE_ABORT (R443). -/
def execCaptureAbort (role : Role) (s : State) : Result := .next (s.asRole role .engineer State.captureAbort)

/-! ### Sample edge (R429, R430, R434, R439) -/

/-- What loop n latches at an edge (R430). `inj` is the test signal of this loop, 0 for the others. -/
def State.loopIn (s : State) (n : Fin 8) (inj : Int) (handOver fresh1 fresh2 : Bool) : LoopIn :=
  let a := s.axis n
  let still := a.locked || a.mo.motion = .frozen
  let p : Int := match a.mo.gear with
    | some g => wrap32 (g.at' s.mot.menc).1 * 100000000000000000000
    | none => a.mo.cpos * 100000000000000000000 + a.mo.cposF * 100000 +
        (if still then 0 else a.mo.vel * (s.tim.ticks % 4000 * 25 : Nat))
  let zero := still || a.mo.gear.isSome
  let pt := s.mot.inj.point
  { pos := a.mo.pos, pSp := p, vSp := if zero then 0 else a.mo.vel, aSp := if zero then 0 else a.mo.acc
    velocity := a.mo.mode = .velocity && a.mo.motion ≠ .frozen
    inj0 := if pt = 0 then inj else 0, inj1 := if pt = 1 then inj else 0, inj2 := if pt = 2 then inj else 0
    handOver := handOver, fresh1 := fresh1, fresh2 := fresh2 }

/-- Output k is applied at edge k + 1; one that is late holds the output before it and is counted (R434, R439). -/
def Loop.apply (l : Loop) (late : Bool) : Loop :=
  if late then
    { l with ovrTotal := l.ovrTotal + 1, ovrUp := bump l.ovrUp, ovrConsec := satInc l.ovrConsec }
  else { l with out := l.outNext, ovrConsec := 0 }

/-- The committed set takes effect (R436). -/
def Loop.adopt (l : Loop) : Loop := { l with c := l.coming, commit := none }

/-- One loop at a sample edge (R428, R431, R434, R437, R439). -/
def State.loopEdge (s : State) (n : Fin 8) (late : Bool) (inj : Int) : State :=
  let l := s.mot.loop[n]
  let a := s.axis n
  if !s.closes n then s.setLoop n fun l => { l.adopt.cleared with posPrev := a.mo.pos }
  else
    let missed := late && l.closed
    let l1 := if l.closed then l.apply late else l
    let hard := a.mo.motion = .frozen
    let ho := l.closed && (l.commit.isSome || l.modePrev ≠ a.mo.mode || (hard && !l.hardPrev))
    let l2 := l1.adopt
    let x := s.loopIn n inj ho (l2.c.n1en && !l1.c.n1en) (l2.c.n2en && !l1.c.n2en)
    let l3 := l2.sample x s.mot.per.toNat s.free
    let third := missed && l.ovrConsec = 2
    let s1 := s.setLoop n fun _ => { l3 with
      posPrev := a.mo.pos, closed := true, modePrev := a.mo.mode, hardPrev := hard }
    let s2 := { s1 with free := s.free + 4 }
    let s3 := s2.setAxis n { a with
      ctl := { a.ctl with st := if a.ctl.st = .starting then .on else a.ctl.st }, ovr := a.ovr || third }
    if missed then s3.raise 40 else s3

/-- Values of the capture's channels (R443), from the loops before the edge and after it. -/
def State.captureVals (before after : State) (test : Int) : List Int :=
  after.mot.cap.sel.toList.map fun c =>
    let l := after.mot.loop[c.1]
    let inj := if after.mot.inj.loop = c.1 then test else 0
    let x := after.loopIn c.1 inj false false false
    ((l.signals x before.mot.loop[c.1].posPrev after.mot.per.toNat l.closed inj)[c.2.val]?).getD 0

/-- Encoder counts since the last tick or edge are taken before the positions are latched (R430). -/
def State.encoderEdge (s : State) (n : Fin 8) (d : Int) : State :=
  let a := s.axis n
  let b := a.setMo fun m => { m with enc := wrap32 (m.enc + if a.cfg.edir then -d else d) }
  s.setAxis n (b.setMo fun m => { m with pos := b.readPos })

/-- The test-signal generator at a sample edge: its value, and whether the injection begins (R441, R442). -/
def State.injectEdge (s : State) : State × Int × Bool :=
  let j := s.mot.inj
  let a := s.axis j.loop
  let limited := (a.limP.reads || a.limN.reads) && (a.mo.motion = .rampStop || a.mo.motion = .frozen)
  let changed := j.run && s.mot.loop[j.loop].modePrev ≠ a.mo.mode
  let j1 := j.edge (a.fault || limited) changed (a.ctl.st = .on)
  let v := if j1.run then j1.value s.mot.per.toNat s.free else 0
  ({ s with free := s.free + 1, mot := { s.mot with inj := if j1.run then j1.advance else j1 } }, v, j.due && j1.run)

/-- SAMPLE_EDGE (R429 to R439): the next multiple of PER cycles of CLK_MOT. The operands are the encoder counts since
the last tick or edge, the master's, and the loops whose last output was not ready. -/
def execSampleEdge (enc : Vector Int 8) (menc : Int) (late : BitVec 8) (s : State) : Result :=
  let p := 4 * s.mot.per.toNat
  let s0 := s.reachTicks ((s.tim.ticks / p + 1) * p)
  if s0.blk.cle.st ≠ .on then .next s0
  else
    let s1 := { s0 with mot := { s0.mot with
      menc := wrap32 (s0.mot.menc + if s0.mot.mencEdir then -menc else menc) } }
    let s2 := (List.finRange 8).foldl (fun s n => s.encoderEdge n enc[n]) s1
    let r := s2.injectEdge
    let s3 := (List.finRange 8).foldl (fun s n =>
      s.loopEdge n (late.getLsbD n.val) (if s.mot.inj.loop = n then r.2.1 else 0)) r.1
    .next (s3.captureSample (s3.captureVals s2 r.2.1) r.2.2)

/-! ### Registers and objects (R444 to R446) -/

/-- Writes one of a loop's staged coefficients; UMAX and IMAX outside their range are not taken. -/
def Coeffs.put (c : Coeffs) (off : Nat) (w : Word) : Option Coeffs :=
  if off = 0x04 then some { c with kp := w }
  else if off = 0x08 then some { c with kv := w }
  else if off = 0x0C then some { c with ki := w }
  else if off = 0x10 then some { c with kvff := w.setWidth 16 }
  else if off = 0x14 then some { c with kaff := w }
  else if off = 0x18 then
    let um := w.toNat % 65536
    if 1 ≤ um && um ≤ 32767 && w.toNat / 65536 ≤ 32767 then
      some { c with umax := w.setWidth 16, imax := w.extractLsb' 16 16 } else none
  else if h : 0x28 ≤ off ∧ off ≤ 0x38 then some { c with n1 := c.n1.set ((off - 0x28) / 4) w (by omega) }
  else if h : 0x3C ≤ off ∧ off ≤ 0x4C then some { c with n2 := c.n2.set ((off - 0x3C) / 4) w (by omega) }
  else some c

/-- A write of the loop enable (R428, R438): false when it is not taken. -/
def State.loopEnable (s : State) (n : Fin 8) (v : Bool) : State × Bool :=
  if s.mot.loop[n].en = v then (s, true)
  else if (s.axis n).ctl.st ≠ .off then (s.cleErr, false)
  else
    let s1 := s.setLoop n fun l => { l with en := v }
    if s1.budgetFits s.mot.per.toNat then (s1, true) else (s.cleErr, false)

/-- A write of CLEn_CFG (R428, R436). -/
def State.loopCfgWrite (s : State) (n : Fin 8) (w : Word) : State :=
  let s1 := (s.loopEnable n (w.getLsbD 0)).1
  let s2 := s1.setLoop n fun l => { l with staged := { l.staged with n1en := w.getLsbD 1, n2en := w.getLsbD 2 } }
  if w.getLsbD 3 then (s2.commitLoop n).1 else s2

/-- A write of a loop's register (R444). -/
def State.loopWrite (s : State) (n : Fin 8) (off : Nat) (w : Word) : State :=
  if off = 0 then s.loopCfgWrite n w
  else if off = 0x50 then
    s.setLoop n fun l => { l with hoclamp := l.hoclamp && !w.getLsbD 2, notchRej := l.notchRej && !w.getLsbD 3 }
  else
    match s.mot.loop[n].staged.put off w with
    | some c => s.setLoop n fun l => { l with staged := c }
    | none => s.cleErr

/-- A write of CLE_PERIOD (R429, R438): false when it is not taken. -/
def State.periodWrite (s : State) (v : Nat) : State × Bool :=
  if s.blk.cle.st ≠ .off || v < 3125 || 100000 < v || !s.budgetFits v then (s.cleErr, false)
  else ({ s with mot := { s.mot with per := BitVec.ofNat 17 v } }, true)

/-- Largest amplitude of the test signal at its point (R441). -/
def State.ampMax (s : State) : Nat :=
  let j := s.mot.inj
  match j.point.toNat with
  | 0 => 1000000
  | 1 => (s.axis j.loop).cfg.vmax.toNat
  | _ => s.mot.loop[j.loop].c.umax.toNat

/-- A write of an injection register (R441, R444): false when it is outside its range. -/
def State.injWrite (s : State) (off : Nat) (w : Word) : State × Bool :=
  let j := s.mot.inj
  let put := fun (k : Inject) => { s with mot := { s.mot with inj := k } }
  let v := w.toNat
  let per := s.mot.per.toNat
  let f := 10 ≤ v && v * per ≤ 2500000000
  let bad := (s.cleErr, false)
  match off with
  | 0x20 =>
    let h := bitsOf v 14 8
    let pt := bitsOf v 4 3
    let ok := 1 ≤ h && h ≤ 64 && pt ≤ 2
    let k := { j with
      loop := ⟨v % 8, Nat.mod_lt _ (by decide)⟩
      point := if pt ≤ 2 then BitVec.ofNat 2 pt else j.point
      kind := if bitsOf v 6 5 ≤ 2 then BitVec.ofNat 2 (v / 32) else j.kind
      hold := if 1 ≤ h && h ≤ 64 then BitVec.ofNat 7 h else j.hold }
    if ok then (put k, true) else ((put k).cleErr, false)
  | 0x24 => if 1 ≤ v && v ≤ s.ampMax then (put { j with amp := w }, true) else bad
  | 0x28 => if f then (put { j with f1 := w }, true) else bad
  | 0x2C => if f then (put { j with f2 := w }, true) else bad
  | _ => if 1 ≤ v then (put { j with dur := w }, true) else bad

/-- A write of a capture register (R443, R444): fields outside their ranges keep their values. -/
def State.capWrite (s : State) (off : Nat) (w : Word) : State :=
  let c := s.mot.cap
  let put := fun (k : Capture) => { s with mot := { s.mot with cap := k } }
  let v := w.toNat
  if off = 0x40 then put { c with bank := ⟨v % 16, Nat.mod_lt _ (by decide)⟩ }
  else if h : 0x44 ≤ off ∧ off ≤ 0x60 then
    let one : Fin 8 × Fin 16 := (⟨v % 8, Nat.mod_lt _ (by decide)⟩, ⟨v / 16 % 16, Nat.mod_lt _ (by decide)⟩)
    if bitsOf v 7 4 ≤ 11 then put { c with sel := c.sel.set ((off - 0x44) / 4) one (by omega) } else s
  else if off = 0x64 then
    let d := v % 512
    put { c with
      dec := if 1 ≤ d && d ≤ 256 then BitVec.ofNat 9 d else c.dec
      trig := if bitsOf v 10 9 ≤ 2 then BitVec.ofNat 2 (v / 512) else c.trig, pre := w.extractLsb' 16 13 }
  else if off = 0x68 then put { c with level := w }
  else s

/-- CLE register writes other than ENABLE (R444). -/
def State.cleWrite (s : State) (off : Nat) (w : Word) : State :=
  if h : 0x100 ≤ off ∧ off < 0x500 then s.loopWrite ⟨(off - 0x100) / 0x80, by omega⟩ ((off - 0x100) % 0x80) w
  else match off with
  | 0x04 => if w.getLsbD 8 then { s with mot := { s.mot with cleErr := false } } else s
  | 0x10 => (s.periodWrite (w.toNat % 131072)).1
  | 0x20 | 0x24 | 0x28 | 0x2C | 0x30 => (s.injWrite off w).1
  | 0x34 =>
    let s1 := if w.getLsbD 0 then s.injStart else s
    if w.getLsbD 1 then s1.injStop else s1
  | 0x6C =>
    let s1 := if w.getLsbD 0 then s.captureArm else s
    if w.getLsbD 1 then s1.captureAbort else s1
  | _ => s.capWrite off w

/-- CLEn_STAT (R444). -/
def Loop.stat (l : Loop) : Nat := bit l.sat + 2 * bit l.frozen + 4 * bit l.hoclamp + 8 * bit l.notchRej

/-- Persisted coefficients of OD 0x789n (R445). -/
def State.coeffsFromOd (s : State) (n : Fin 8) : Coeffs :=
  let w := fun (sub d : Nat) => BitVec.ofNat 32 (s.od (0x7890 + n.val) sub d)
  let u := s.od (0x7890 + n.val) 7 0x7FFF
  let e := s.od (0x7890 + n.val) 0x12 0
  { kp := w 2 0, kv := w 3 0, ki := w 4 0, kvff := BitVec.ofNat 16 (s.od (0x7890 + n.val) 5 0), kaff := w 6 0
    umax := BitVec.ofNat 16 u, imax := BitVec.ofNat 16 (u / 65536)
    n1 := #v[w 8 0x40000000, w 9 0, w 0xA 0, w 0xB 0, w 0xC 0]
    n2 := #v[w 0xD 0x40000000, w 0xE 0, w 0xF 0, w 0x10 0, w 0x11 0], n1en := bitAt e 0, n2en := bitAt e 1 }

/-- The CLE has reached OFF: outputs and integrators cleared, persisted values loaded and committed (R41, R433, R446). -/
def State.cleOff (s : State) : State :=
  let per := s.od 0x7880 1 6250
  let s1 := { s with mot := { s.mot with
    per := BitVec.ofNat 17 per
    inj := if s.mot.inj.run || s.mot.inj.due then s.mot.inj.finish 6 else s.mot.inj } }
  (List.finRange 8).foldl (fun s n =>
    let c := s.coeffsFromOd n
    let s2 := s.setLoop n fun l => { l.cleared with en := s.od (0x7890 + n.val) 1 0 = 1, staged := c }
    (s2.commitLoop n).1) s1

/-- A loop is cleared when its axis enters STARTING (R433). -/
def State.loopStarting (s : State) (n : Fin 8) : State := s.setLoop n Loop.cleared

/-- CLE leaves ON: outputs at zero command, integrators cleared (R41, R433). -/
def State.cleQuiesce (s : State) : State := (List.finRange 8).foldl (fun s n => s.setLoop n Loop.cleared) s

end Sys2Proof.Machine
end

