-- ==== Sys2Proof/Machine/Memory.lean ====
section
/-!
DEFINITION. Meanings of the scratchpad, queue and CRC commands (spec/15_memory_queues_crc.md).
-/
namespace Sys2Proof.Machine

/-! ### Scratchpad -/

/-- Changes one bank. -/
def State.setBank (s : State) (b : Fin 16) (f : Bank → Bank) : State :=
  { s with mem := { s.mem with bank := s.mem.bank.set b (f s.mem.bank[b]) } }

/-- Address of a word of a bank (R472). -/
def bankAddr (b : Fin 16) (word : Nat) : Nat := 0x08000000 + 0x40000 * b.val + 8 * word

/-- Bank in which an address lies, if any (R472). -/
def bankOf (a : Nat) : Option (Fin 16) :=
  if h : 0x08000000 ≤ a ∧ (a - 0x08000000) / 0x40000 < 16 then some ⟨(a - 0x08000000) / 0x40000, h.2⟩ else none

/-- One word error met on a read (R473): a single-bit error is corrected and counted; a double-bit error latches its
address and writes a record. -/
def State.wordError (s : State) (e : WordError) (portB : Bool) : State :=
  if s.mem.bank[e.bank].st ≠ .on then s
  else if !e.double then
    let s1 := s.setBank e.bank fun b => { b with corr := b.corr + 1 }
    { s1 with mem := { s1.mem with nCorr := bump s1.mem.nCorr } }
  else
    let a := bankAddr e.bank e.word
    let s1 := { s with mem := { s.mem with errAddr := BitVec.ofNat 32 a, errValid := true, errPort := portB
                                           errCount := satInc s.mem.errCount
                                           nUncorr := bump s.mem.nUncorr } }
    s1.event .eccDouble [a]

/-- SCRUB_INTERVAL (R473): with interval 0 the scrub is off. -/
def execScrubInterval (errs : List WordError) (s : State) : Result :=
  if s.mem.scrub = 0 then .next s
  else
    let s1 := s.reachMs (s.mem.scrubAt + s.mem.scrub.toNat)
    let s2 := { s1 with mem := { s1.mem with scrubAt := s1.tb5ms } }
    .next (errs.foldl (fun s e => s.wordError e false) s2)

/-- PORT_B_RETRY (R474, R475): the repeat is counted; it is performed unless port A writes the word again, which is
withheld for one edge after 64 consecutive collisions. -/
def execPortBRetry (bank : Fin 16) (addr : Nat) (word : Dword) (again : Bool) (s : State) : Result :=
  let k := s.mem.bank[bank]
  let w := k.portB.getD (addr, word, 1)
  let s1 := s.setBank bank fun b => { b with retry := b.retry + 1 }
  let s2 := { s1 with mem := { s1.mem with nRetry := bump s1.mem.nRetry } }
  if again && w.2.2 < 64 then .next (s2.setBank bank fun b => { b with portB := some (w.1, w.2.1, w.2.2 + 1) })
  else
    let s3 := { s2 with mem := s2.mem.write w.1 (leBytes 8 w.2.1.toNat) }
    .next (s3.setBank bank fun b =>
      { b with portB := none, starve := if again then satInc b.starve else b.starve })

/-- A bank is named by an engine that is not OFF, granted to a running world, or held OFF after a failed memory test
(R476, R601). -/
def State.bankHeld (s : State) (b : Fin 16) : Bool :=
  (s.blk.gbb.st ≠ .off && bankOf s.gbb.latchBase.toNat = some b) ||
  (s.mot.cap.armed && s.mot.cap.bank = b) ||
  (12 ≤ b.val && (List.finRange 16).any fun k =>
    s.cores.core[k].running && s.cores.worldOf k = (if b.val = 15 then 2 else 1)) ||
  (s.start.fail.getLsbD 0 && s.start.units.getLsbD b.val)

/-- Sets CFG_ERR of MEM. -/
def State.memErr (s : State) : State := { s with mem := { s.mem with cfgErr := true } }

/-- A change of a bank's power state (R476): contents are lost in OFF; ON is reached from OFF through the fill. -/
def State.bankPower (s : State) (b : Fin 16) (pwr : BitVec 2) : State :=
  if pwr = 3 then s.memErr
  else
    let k := s.mem.bank[b]
    if pwr = k.pwr then s
    else if s.bankHeld b then s.memErr
    else
      let st : BankPower := match pwr.toNat with
        | 0 => .off
        | 1 => if k.st = .off || k.st = .filling then .off else .retention
        | _ => if k.st = .off || k.st = .filling then .filling else .on
      let s1 := s.setBank b fun x => { x with pwr := pwr, st := st, portB := none }
      if pwr = 0 then { s1 with mem := s1.mem.clear (bankAddr b 0) 0x40000 } else s1

/-- BANK_POWER_WRITE (R476). -/
def execBankPowerWrite (b : Bus) (bank : Fin 16) (pwr : BitVec 2) (s : State) : Result :=
  .next (s.guarded b (0x40150000 + 4 * bank.val) .write fun s => s.bankPower bank pwr)

/-- BANK_FILL_COMPLETE (R476): the bank reads ON, every word 0. -/
def execBankFillComplete (bank : Fin 16) (s : State) : Result :=
  if s.mem.bank[bank].st = .filling then
    let s1 := s.setBank bank fun b => { b with st := .on }
    .next { s1 with mem := s1.mem.clear (bankAddr bank 0) 0x40000 }
  else .next s

/-- Begins a wipe of the secure scratchpad: every word is 0 and stays so (R478). -/
def State.secureWipe (s : State) : State :=
  { s with mem := { s.mem.clear 0x0C000000 0x40000 with wiping := true } }

/-- The wipe ends (R478). -/
def State.secureWipeEnd (s : State) : State :=
  if s.mem.wiping then
    { s with mem := { s.mem.clear 0x0C000000 0x40000 with wiping := false, wiped := true, wipes := s.mem.wipes + 1 } }
  else s

/-- SECURE_WIPE_COMPLETE (R478). -/
def execSecureWipeComplete (s : State) : Result := .next s.secureWipeEnd

/-! ### Queues -/

/-- One master's copy of a queue's data port (R482). -/
def Queue.port (q : Queue) (m : Nat) : PortCopy := (q.ports.find? fun p => p.master = m).getD { master := m }

/-- Puts a master's copy back. -/
def Queue.setPort (q : Queue) (p : PortCopy) : Queue :=
  { q with ports := p :: q.ports.filter fun x => x.master ≠ p.master }

/-- The word a write of the high half makes with the staged low half (R482). -/
def joinWord (hi lo : BitVec 32) : BitVec 64 := hi ++ lo

/-- Readers, or writers, that already wait (R483). -/
def Queue.waiting (q : Queue) (writers : Bool) : Nat :=
  (q.stalled.filter fun a => a.word.isSome = writers).length

/-- Address of queue n's data port (R482). -/
def queuePort (n : Fin 32) (off : Nat) : Nat := 0x40121000 + 0x20 * n.val + off

/-- Puts a queue back without a threshold event: no word became available. -/
def State.putQueue (s : State) (n : Fin 32) (q : Queue) : State :=
  { s with ques := { s.ques with q := s.ques.q.set n q } }

/-- Counts a write that met a full queue (R491, R499). -/
def State.metFull (s : State) (n : Fin 32) (trial : Bool) : State :=
  let q := s.queue n
  let s1 := s.putQueue n { q with bPress := q.bPress + 1, twDrop := if trial then q.twDrop + 1 else q.twDrop }
  { s1 with ques := { s1.ques with nFull := bump s1.ques.nFull } }

/-- A write of a word that is performed, stalls or is discarded (R482 to R484, R487). -/
def State.portWrite (s : State) (n : Fin 32) (m : Nat) (hi : Word) (trial : Bool) : State :=
  let q := (s.queue n).settle s.tb5c
  let p := q.port m
  let w := joinWord hi p.wlo
  if q.ctl.st ≠ .on then s.putQueue n (q.setPort { p with full := true })
  else if 0 < q.room && q.waiting true = 0 then
    (s.putQueue n (q.setPort { p with full := false })).queueAdd n [w]
  else if trial then (s.putQueue n (q.setPort { p with full := true })).metFull n true
  else (s.putQueue n { q with stalled := q.stalled ++ [⟨m, some w⟩] }).metFull n false

/-- Takes a word for a master: low half returned, high half latched (R482). -/
def Queue.takeFor (q : Queue) (m : Nat) (w : BitVec 64) : Queue :=
  q.take.setPort { q.port m with rhi := (w >>> 32).setWidth 32, empty := false }

/-- A read of a word that is performed, stalls or finds nothing (R482 to R484, R487). -/
def State.portRead (s : State) (n : Fin 32) (m : Nat) (trial : Bool) : State :=
  let q := (s.queue n).settle s.tb5c
  let none' := fun (s : State) =>
    (s.putQueue n (q.setPort { q.port m with empty := true })).answerValue (leBytes 4 0)
  if q.ctl.st ≠ .on then none' s
  else match q.avail with
    | w :: _ =>
      if q.waiting false = 0 then
        (s.putQueue n ((q.takeFor m w).settle s.tb5c)).answerValue (leBytes 4 (w.toNat % 2 ^ 32))
      else if trial then none' s
      else s.putQueue n { q with stalled := q.stalled ++ [⟨m, none⟩] }
    | [] => if trial then none' s else s.putQueue n { q with stalled := q.stalled ++ [⟨m, none⟩] }

/-- QUEUE_WRITE (R482, R483). -/
def execQueueWrite (b : Bus) (q : Fin 32) (hi : Word) (s : State) : Result :=
  .next (s.guarded b (queuePort q 4) .write fun s => s.portWrite q b.id hi false)

/-- QUEUE_READ (R482, R483). -/
def execQueueRead (b : Bus) (q : Fin 32) (s : State) : Result :=
  .next (s.guarded b (queuePort q 8) .read fun s => s.portRead q b.id false)

/-- TRY_READ (R484). -/
def execTryRead (b : Bus) (q : Fin 32) (s : State) : Result :=
  .next (s.guarded b (queuePort q 0x10) .read fun s => s.portRead q b.id true)

/-- TRY_WRITE (R484). -/
def execTryWrite (b : Bus) (q : Fin 32) (hi : Word) (s : State) : Result :=
  .next (s.guarded b (queuePort q 0x14) .write fun s => s.portWrite q b.id hi true)

/-- QUEUE_HANDOVER (R480): at the flush time of the filling bank when that is what it waits for. -/
def execQueueHandover (q : Fin 32) (s : State) : Result :=
  let k := s.queue q
  if k.ctl.st = .on && k.pingPong && k.avail.isEmpty && !k.filling.isEmpty then
    let s1 := match k.fillFrom with
      | some t => if k.filling.length = k.words / 2 then s else s.reachTicks ((t + k.flush.toNat) * 4)
      | none => s
    .next (s1.setQueue q k.handOver)
  else .next s

/-- The first stalled access that can complete: a read with a word available, or a write with room (R483). -/
def Queue.nextStalled (q : Queue) : Option StalledAccess :=
  q.stalled.find? fun a => if a.word.isSome then 0 < q.room else !q.avail.isEmpty

/-- STALLED_ACCESS_COMPLETE (R483): in the order in which they began. -/
def execStalledAccessComplete (q : Fin 32) (s : State) : Result :=
  let k := (s.queue q).settle s.tb5c
  match k.nextStalled with
  | none => .next s
  | some a =>
    let k1 := { k with stalled := k.stalled.erase a }
    match a.word with
    | some w => .next ((s.putQueue q (k1.setPort { k1.port a.master with full := false })).queueAdd q [w])
    | none =>
      match k1.avail with
      | w :: _ =>
        .next ((s.putQueue q ((k1.takeFor a.master w).settle s.tb5c)).answerValue (leBytes 4 (w.toNat % 2 ^ 32)))
      | [] => .next s

/-- ENGINE_RECORD_WRITE (R485): whole or not at all. -/
def execEngineRecordWrite (q : Fin 32) (ws : List Dword) (s : State) : Result :=
  match s.enginePush q ws with
  | some t => .next (t.answer .ok)
  | none => .next ((if (s.queue q).ctl.st = .on then s.metFull q false else s).answer .full)

/-! ### CRC channels -/

/-- Changes one CRC channel. -/
def State.setCrc (s : State) (c : Fin 4) (f : CrcChan → CrcChan) : State :=
  { s with ques := { s.ques with crc := s.ques.crc.set c (f s.ques.crc[c]) } }

/-- Sets CFG_ERR of CRC. -/
def State.crcCfgErr (s : State) : State := { s with ques := { s.ques with crcErr := true } }

/-- Address of a register of channel c (R497). -/
def crcReg (c : Fin 4) (off : Nat) : Nat := 0x40110000 + 0x40 * c.val + off

/-- A write of POLY: codes 5 to 7 are ignored; it loads the initial value; CFG is written only while the channel is
OFF (R489, R492). -/
def State.crcPolyWrite (s : State) (c : Fin 4) (poly : BitVec 3) : State :=
  if 5 ≤ poly.toNat then s.crcCfgErr
  else if s.ques.crc[c].ctl.st ≠ .off then s.crcCfgErr
  else s.setCrc c fun k => { k with poly := poly, init := crcInit poly }

/-- CRC_POLY_WRITE (R492). -/
def execCrcPolyWrite (b : Bus) (c : Fin 4) (poly : BitVec 3) (s : State) : Result :=
  .next (s.guarded b (crcReg c 8) .write fun s => s.crcPolyWrite c poly)

/-- CMD.RESET (R493). -/
def State.crcReset (s : State) (c : Fin 4) : State :=
  if s.ques.crc[c].busy then s.crcCfgErr
  else s.setCrc c fun k => { k with value := k.init }

/-- CRC_RESET (R493). -/
def execCrcReset (b : Bus) (c : Fin 4) (s : State) : Result :=
  .next (s.guarded b (crcReg c 0x2C) .write fun s => s.crcReset c)

/-- Octets of a data write, lowest first (R493). -/
def DataWidth.octets : DataWidth → Nat
  | .w8 => 1 | .w16 => 2 | .w32 => 4

/-- A data write (R493): ignored while a scan runs. -/
def State.crcData (s : State) (c : Fin 4) (n : Nat) (d : Word) : State :=
  if s.ques.crc[c].busy then s.crcCfgErr
  else s.setCrc c fun k => { k with value := crcRun k.poly k.value (leBytes n d.toNat) }

/-- Register offset of a data write (R497). -/
def DataWidth.offset : DataWidth → Nat
  | .w8 => 0x18 | .w16 => 0x1C | .w32 => 0x20

/-- CRC_DATA (R493). -/
def execCrcData (b : Bus) (c : Fin 4) (width : DataWidth) (d : Word) (s : State) : Result :=
  .next (s.guarded b (crcReg c (DataWidth.offset width)) .write fun s => s.crcData c (DataWidth.octets width) d)

/-- START is performed: length in range, one region, readable by the channel's world (R495). -/
def CrcChan.mayScan (k : CrcChan) : Bool :=
  let n := k.slen.toNat
  let a := k.saddr.toNat
  1 ≤ n && n ≤ 16777216 &&
    match regionOf a with
    | some r => a + n ≤ r.hi + 1 && !r.sec && worldIn r.r k.world
    | none => false

/-- CMD.START (R494, R495). -/
def State.crcStart (s : State) (c : Fin 4) : State :=
  let k := s.ques.crc[c]
  if k.busy || k.ctl.st ≠ .on then s
  else if k.mayScan then s.setCrc c fun k => { k with busy := true, spos := 0 }
  else s.setCrc c fun k => { k with berr := true }

/-- CRC_START (R494). -/
def execCrcStart (b : Bus) (c : Fin 4) (s : State) : Result :=
  .next (s.guarded b (crcReg c 0x2C) .write fun s => s.crcStart c)

/-- Takes the scan forward to `pos` bytes from its start and stops it there (R494 to R496). -/
def State.crcScanTo (s : State) (c : Fin 4) (pos : Nat) : State :=
  s.setCrc c fun k =>
    let p := min pos k.slen.toNat
    { k with
      value := crcRun k.poly k.value (s.mem.read k.saddr.toNat p)
      spos := BitVec.ofNat 25 p
      busy := false }

/-- Bytes processed at the next 8-byte boundary of the source at or after `pos` bytes (R496). -/
def CrcChan.boundary (k : CrcChan) (pos : Nat) : Nat :=
  min k.slen.toNat ((k.saddr.toNat + pos + 7) / 8 * 8 - k.saddr.toNat)

/-- CMD.ABORT with `pos` bytes processed at the write (R496). -/
def State.crcAbort (s : State) (c : Fin 4) (pos : Nat) : State :=
  let k := s.ques.crc[c]
  if k.busy then (s.crcScanTo c (k.boundary pos)).setCrc c fun k => { k with aborted := true } else s

/-- CRC_ABORT (R496). -/
def execCrcAbort (b : Bus) (c : Fin 4) (pos : Nat) (s : State) : Result :=
  .next (s.guarded b (crcReg c 0x2C) .write fun s => s.crcAbort c pos)

/-- CRC_SCAN_DONE (R494, R495): the last byte, or a bus error after `busError` bytes. -/
def execCrcScanDone (c : Fin 4) (busError : Option Nat) (s : State) : Result :=
  if !s.ques.crc[c].busy then .next s
  else match busError with
    | none =>
      .next (((s.crcScanTo c s.ques.crc[c].slen.toNat).setCrc c fun k => { k with done := true }).raise 52)
    | some p => .next ((s.crcScanTo c p).setCrc c fun k => { k with berr := true })

end Sys2Proof.Machine
end

