-- ==== Sys2Proof/Machine/ObjTable.lean ====
section
/-!
DEFINITION. The rows of the dictionary: every object of the object tables of spec/01 to spec/23, with its type, access,
role, persistence, default and range (R500, R501, and the object table of each chapter).
-/
namespace Sys2Proof.Machine

/-- Data types of R501: unsigned and signed of a number of octets, strings of a greatest or exact length. -/
inductive OdType where
  | bool
  | u (octets : Nat)
  | i (octets : Nat)
  | str (most : Nat)
  | oct (exact : Nat)
  | domain
  deriving DecidableEq, Repr

/-- Access of an object. -/
inductive OdAccess where
  | ro | rw | wo
  deriving DecidableEq, Repr

/-- A row of an object table: `nIdx` indices from `idx`, `nSub` sub-indices from `sub`. -/
structure Obj where
  /-- first index -/
  idx : Nat
  /-- indices -/
  nIdx : Nat
  /-- first sub-index -/
  sub : Nat
  /-- sub-indices -/
  nSub : Nat
  /-- type -/
  ty : OdType
  /-- access -/
  acc : OdAccess
  /-- role that may write, and read where it is not wo -/
  role : Role
  /-- Persist "yes" -/
  keep : Bool
  /-- default -/
  dflt : Int
  /-- range; the whole type where the first bound is above the second -/
  lo : Int
  /-- upper end of the range -/
  hi : Int
  deriving DecidableEq, Repr

/-- A ro row. -/
def Obj.read (idx sub n : Nat) (ty : OdType) : Obj := ⟨idx, 1, sub, n, ty, .ro, .observer, false, 0, 1, 0⟩
/-- A wo row, which does not persist. -/
def Obj.cmd (idx sub : Nat) (ty : OdType) (role : Role) : Obj := ⟨idx, 1, sub, 1, ty, .wo, role, false, 0, 1, 0⟩
/-- A rw row of Engineer that persists, with its range. -/
def Obj.set (idx sub n : Nat) (ty : OdType) (dflt lo hi : Int) : Obj := ⟨idx, 1, sub, n, ty, .rw, .engineer, true, dflt, lo, hi⟩
/-- The same with every value of the type. -/
def Obj.any (idx sub n : Nat) (ty : OdType) (dflt : Int) : Obj := Obj.set idx sub n ty dflt 1 0
/-- A rw row that does not persist. -/
def Obj.live (idx sub n : Nat) (ty : OdType) (role : Role) (dflt lo hi : Int) : Obj :=
  ⟨idx, 1, sub, n, ty, .rw, role, false, dflt, lo, hi⟩
/-- The same row for a number of consecutive indices. -/
def Obj.over (o : Obj) (n : Nat) : Obj := { o with nIdx := n }

/-- Communication objects (R514, R525). Sub-indices of the PDO objects are those of CiA 301 (a log entry). -/
def commObjs : List Obj :=
  [.read 0x1000 0 1 (.u 4), .read 0x1001 0 1 (.u 1), .read 0x1008 0 1 (.str 31), .cmd 0x1010 1 (.u 4) .engineer,
   .cmd 0x1011 1 (.u 4) .engineer, .any 0x1014 0 1 (.u 4) 0, .any 0x1015 0 1 (.u 2) 0, .any 0x1016 1 4 (.u 4) 0,
   .any 0x1017 0 1 (.u 2) 0, .read 0x1018 1 4 (.u 4), .read 0x1200 1 2 (.u 4),
   (Obj.any 0x1400 1 1 (.u 4) 0).over 4, (Obj.set 0x1400 2 1 (.u 1) 255 254 255).over 4,
   (Obj.set 0x1600 0 1 (.u 1) 0 0 8).over 4, (Obj.any 0x1600 1 8 (.u 4) 0).over 4,
   (Obj.any 0x1800 1 1 (.u 4) 0).over 4, (Obj.set 0x1800 2 1 (.u 1) 255 254 255).over 4,
   (Obj.any 0x1800 3 1 (.u 2) 0).over 4, (Obj.any 0x1800 5 1 (.u 2) 0).over 4,
   (Obj.set 0x1A00 0 1 (.u 1) 0 0 8).over 4, (Obj.any 0x1A00 1 8 (.u 4) 0).over 4,
   .live 0x1FF0 1 1 (.u 1) .observer 0 0 1, (Obj.set 0x1FF1 1 1 .bool 1 0 1).over 2,
   (Obj.set 0x1FF1 2 1 (.u 1) 32 1 127).over 2, (Obj.set 0x1FF1 3 1 (.u 1) 2 0 3).over 2,
   (Obj.set 0x1FF1 4 1 (.u 1) 2 0 4).over 2, (Obj.set 0x1FF1 5 1 (.u 1) 0 0 1).over 2,
   (Obj.set 0x1FF1 6 1 .bool 0 0 1).over 2, (Obj.read 0x1FF1 7 1 (.u 1)).over 2, (Obj.read 0x1FF1 8 1 (.u 4)).over 2]

/-- Identity, device state, start-up, power and access (R25, R525, R604, R635). -/
def unitObjs : List Obj :=
  [.read 0x2000 1 1 (.u 4), .read 0x2000 2 1 (.str 31), .read 0x2000 3 1 (.u 1), .read 0x2000 4 1 (.str 16),
   .read 0x2000 5 1 (.u 4), .read 0x2000 6 1 (.u 1), .read 0x2000 7 4 (.u 4), .read 0x2000 0xB 2 (.u 4),
   .read 0x2010 1 2 (.u 1), .cmd 0x2010 3 (.u 1) .engineer, .set 0x2010 4 1 .bool 1 0 1, .read 0x2010 5 1 (.u 4),
   .set 0x2010 6 1 (.u 4) 0 0 2592000, .read 0x2012 1 2 (.u 1), .read 0x2012 3 3 (.u 4), .read 0x2014 1 3 (.u 2),
   .set 0x2014 4 1 (.u 2) 45 45 400, .read 0x2014 5 1 (.u 1), .read 0x2014 6 1 (.u 4), .read 0x2014 7 1 (.u 2),
   .read 0x2014 8 1 (.i 2), .set 0x2015 1 1 (.u 1) 0 0 1, .read 0x2015 2 2 (.u 1), .read 0x2015 4 1 (.i 4),
   .read 0x2015 5 1 (.u 4), .read 0x2020 1 2 (.u 1), .read 0x2020 3 1 (.u 4), .set 0x2020 4 1 (.u 2) 600 60 3600,
   .read 0x2020 5 1 (.u 1), .read 0x2020 6 2 (.u 4), .any 0x2020 8 2 (.u 4) 0, .set 0x2020 0xA 2 (.u 1) 24 0 32,
   .any 0x2020 0xC 2 (.oct 16) 0, .any 0x2020 0xE 2 (.u 4) 0]

/-- Cores, memory, recorder, update, settings and life cycle (R471, R495, R577, R593, R528, R557). -/
def systemObjs : List Obj :=
  [.set 0x2030 1 1 (.u 1) 7 0 7, .read 0x2030 2 1 (.u 1), .any 0x2030 3 1 (.u 2) 200, .set 0x2030 4 1 (.u 4) 1000 10 1000000,
   .set 0x2030 5 1 (.u 4) 5000 10 1000000, .set 0x2030 6 1 (.u 4) 100000 10 1000000, .read 0x2030 7 3 (.u 4),
   .read 0x2030 0xA 1 (.u 2), .read 0x2040 1 3 (.u 4), .read 0x2040 4 1 (.u 2), .read 0x2040 5 2 (.u 4),
   .read 0x2050 1 2 (.u 4), .live 0x2050 3 1 (.u 4) .observer 0 1 0, .read 0x2050 4 1 .domain, .read 0x2050 5 2 (.u 1),
   .read 0x2050 7 1 (.u 4), .cmd 0x2050 8 (.u 1) .operator, .cmd 0x2050 9 (.u 1) .engineer, .read 0x2050 0xA 1 .domain,
   .read 0x2050 0xB 1 (.u 4), .cmd 0x2060 1 .domain .engineer, .live 0x2060 2 1 (.u 1) .engineer 0 1 0,
   .read 0x2060 3 1 (.u 1), .read 0x2060 4 1 (.u 4), .cmd 0x2060 5 (.u 1) .engineer, .cmd 0x2060 6 (.u 1) .engineer,
   .set 0x2060 7 1 (.u 1) 10 1 60, .set 0x2060 8 1 (.u 1) 1 0 1, .read 0x2060 9 1 (.u 1), .read 0x2060 0xA 1 (.u 4),
   .read 0x2060 0xB 1 (.u 1), .any 0x2060 0xC 1 (.oct 65) 0, .read 0x2060 0xD 1 (.u 2), .read 0x2060 0xE 1 (.u 4),
   .read 0x2070 1 1 (.u 4), .read 0x2070 2 1 (.u 1), .read 0x2070 3 1 (.u 4), .read 0x2070 4 1 (.u 1),
   .read 0x2070 5 1 (.u 4), .read 0x2080 1 1 (.u 1), .cmd 0x2080 2 (.u 1) .engineer, .read 0x2080 3 2 (.u 1)]

/-- Reference, corrections and GNSS (R90, R118 and the tables of chapters 02 and 03). -/
def gnssObjs : List Obj :=
  [.set 0x3000 2 1 (.u 2) 0 0 4095, .read 0x3000 1 1 (.u 1), .set 0x3000 3 1 (.u 1) 10 2 100, .read 0x3000 4 1 (.u 1),
   .set 0x3000 5 1 (.u 1) 10 0 30, .set 0x3000 6 1 (.u 1) 30 20 45, .cmd 0x3000 7 (.u 1) .engineer,
   .set 0x3000 8 1 (.u 1) 0 0 1, .set 0x3010 1 1 (.u 4) 14400 600 172800, .cmd 0x3010 2 (.u 1) .engineer,
   .read 0x3010 3 1 (.u 1), .read 0x3010 4 1 (.u 4), .read 0x3010 5 3 (.i 8), .read 0x3010 8 1 (.u 4),
   .set 0x3020 1 1 (.u 1) 1 0 5, .set 0x3020 2 5 (.u 1) 7 0 7, .set 0x3020 7 1 (.u 1) 6 0 6, .set 0x3020 8 1 (.u 1) 10 1 60,
   .set 0x3020 9 1 (.u 2) 30 0 300, .set 0x3020 0xA 1 (.u 1) 10 0 60, .set 0x3020 0xB 1 .bool 1 0 1,
   .set 0x3020 0xC 1 (.u 2) 60 10 300, .set 0x3021 1 1 (.u 1) 3 0 3, .set 0x3021 2 5 (.u 1) 4 0 7,
   .set 0x3021 7 1 (.u 1) 5 0 6, .set 0x3021 8 1 (.u 1) 10 1 60, .set 0x3021 9 1 (.u 2) 30 0 300,
   .set 0x3021 0xA 1 (.u 1) 10 0 60, .set 0x3021 0xB 1 .bool 0 0 1, .set 0x3021 0xC 1 (.u 2) 60 10 300,
   .set 0x3030 1 1 (.u 1) 0 0 1, .set 0x3030 2 1 .bool 0 0 1, .any 0x3030 3 1 (.str 45) 0, .any 0x3030 4 1 (.u 2) 2101,
   .any 0x3030 5 1 (.str 31) 0, { Obj.any 0x3030 6 2 (.str 31) 0 with acc := .wo }, .read 0x3030 8 1 (.u 1),
   .set 0x3030 9 1 .bool 1 0 1, .set 0x3030 0xA 1 (.u 2) 47262 1 65535, .read 0x3030 0xB 1 (.u 1), .read 0x3040 1 3 (.u 4),
   .read 0x3040 4 2 (.u 2), .read 0x3040 6 5 (.u 4), .set 0x3100 1 2 (.u 1) 0 0 2, .set 0x3100 3 1 .bool 0 0 1,
   .set 0x3100 4 1 (.u 1) 4 0 5, .set 0x3100 5 1 (.u 2) 0 0 959, .read 0x3100 6 1 (.u 4), .read 0x3100 7 2 (.u 2),
   .read 0x3100 9 3 (.u 4), .any 0x3100 0xC 1 (.u 2) 0xC00, .any 0x3100 0xD 1 (.u 2) 0xFFFF]

/-- Teasel (R152). -/
def teaselObjs : List Obj :=
  [.set 0x3800 1 1 (.u 1) 0 0 1, .read 0x3800 2 3 (.u 1), .read 0x3800 5 1 (.u 4), .read 0x3800 6 1 (.i 4),
   .read 0x3800 7 1 (.u 1), .read 0x3800 8 1 (.u 2), .read 0x3800 9 3 (.u 4), .any 0x3810 1 3 (.i 4) 0,
   .set 0x3820 1 1 (.u 1) 15 5 100, .set 0x3820 2 1 (.u 1) 30 10 200, .set 0x3820 3 1 (.u 1) 20 5 50,
   .set 0x3820 4 1 (.u 1) 30 5 100, .set 0x3820 5 1 (.u 1) 8 3 20, .set 0x3820 6 1 (.u 1) 4 0 8, .set 0x3820 7 1 (.u 1) 6 5 10,
   .set 0x3820 8 1 (.u 2) 30 0 600, .set 0x3820 9 1 (.u 2) 20 1 1200, .set 0x3830 1 1 (.u 2) 600 60 3600,
   .cmd 0x3830 2 (.u 1) .engineer, .read 0x3830 3 1 (.u 1), .read 0x3830 4 1 (.u 2), .read 0x3830 5 3 (.i 4),
   .read 0x3830 8 1 (.u 2)]

/-- The row that the three PTP domains share, at the index of a domain. -/
def domainObjs (x : Nat) : List Obj :=
  [.set x 1 1 .bool 0 0 1, .set x 2 1 (.u 1) 0 0 127, .set x 3 2 (.u 1) 0 0 1, .set x 5 1 (.u 1) 0 0 2,
   .set x 6 1 (.u 1) 0 0 1, .set x 7 1 (.i 1) 0 (-4) 4, .set x 8 1 (.i 1) 1 0 4, .set x 9 1 (.i 1) 0 0 5,
   .any x 0xA 2 (.u 1) 128, .any x 0xC 1 (.i 8) 0, .set x 0xD 1 (.u 1) 0 0 1, .read x 0xE 1 (.u 1), .read x 0xF 1 (.i 4),
   .read x 0x10 1 (.u 4), .read x 0x11 1 (.u 8), .read x 0x12 1 (.u 4)]

/-- Time (R352). -/
def timeObjs : List Obj :=
  [.any 0x4000 1 1 (.i 2) 37, .read 0x4000 2 1 (.u 1), .read 0x4000 3 1 (.u 8), .set 0x4000 4 1 (.u 4) 2000 1 100000,
   .set 0x4000 5 1 (.u 2) 50 0 10000, .set 0x4000 6 1 (.u 2) 50 1 500, .read 0x4000 7 1 (.u 1),
   (Obj.read 0x4010 1 2 (.u 1)).over 5, (Obj.read 0x4010 3 1 (.u 4)).over 5, (Obj.read 0x4010 4 1 (.i 4)).over 5,
   (Obj.set 0x4010 5 1 (.u 4) 100 10 1000000).over 5, (Obj.set 0x4010 6 1 (.u 2) 1000 10 1000).over 5,
   (Obj.set 0x4010 7 1 (.u 1) 0 0 1).over 5, (Obj.set 0x4010 8 1 (.u 4) 1000 100 1000000000).over 5,
   (Obj.cmd 0x4010 9 (.u 1) .engineer).over 5, (Obj.read 0x4010 0xA 1 (.u 4)).over 5, .read 0x4020 1 1 (.i 4),
   .read 0x4020 2 1 .bool, .set 0x4100 1 2 .bool 0 0 1, .set 0x4100 3 1 (.u 1) 0 0 4, .set 0x4100 4 1 (.u 1) 4 0 4,
   .set 0x4100 5 2 (.u 2) 100 1 500, .set 0x4100 7 2 (.u 1) 0 0 3, .set 0x4100 9 2 (.u 4) 0 0 500000,
   .set 0x4100 0xB 2 (.u 1) 0 0 1, .set 0x4100 0xD 1 .bool 0 0 1, .set 0x4100 0xE 1 (.u 1) 0 0 1,
   .any 0x4110 1 4 (.u 1) 0, .set 0x4110 5 1 (.u 1) 0 0 31, .read 0x4110 6 1 (.u 4)] ++
  domainObjs 0x4200 ++ domainObjs 0x4210 ++ domainObjs 0x4220

/-- Fleet radio and field nodes (R284, R317). -/
def radioObjs : List Obj :=
  [.set 0x5000 1 1 (.u 1) 0 0 1, .set 0x5000 2 1 (.i 1) (-80) (-95) (-60), .set 0x5000 3 1 (.u 1) 0 0 100,
   .any 0x5000 4 1 (.u 4) 1, .any 0x5010 1 1 (.u 2) 22, .any 0x5010 2 1 (.u 2) 26, .any 0x5010 3 1 (.u 2) 30,
   .any 0x5010 4 1 (.u 2) 40, .any 0x5010 5 1 (.u 2) 53, .any 0x5010 6 1 (.u 2) 65, .set 0x5020 1 2 (.i 1) 28 (-20) 32,
   .set 0x5020 3 1 (.i 1) (-2) (-20) (-2), .set 0x5030 1 2 (.u 1) 1 0 1, .set 0x5030 3 4 (.u 1) 0 0 1,
   .set 0x5031 1 2 (.u 2) 0 0 36000, .set 0x5031 3 1 (.u 2) 360 0 36000, .set 0x5031 4 1 (.u 2) 36 0 36000,
   .set 0x5031 5 1 (.u 2) 3600 0 36000, .set 0x5031 6 1 (.u 2) 360 0 36000, .read 0x5032 1 6 (.u 2),
   .read 0x5040 1 9 (.u 4), .set 0x5100 1 1 (.u 1) 1 1 255, .read 0x5100 2 1 (.u 8), .set 0x5100 3 1 (.u 2) 1 1 0xFFFE,
   .read 0x5100 4 1 (.u 4), .read 0x5110 1 5 (.u 4), (Obj.set 0x5400 1 1 (.u 1) 12 5 16).over 1024,
   (Obj.read 0x5400 2 1 (.u 2)).over 1024, (Obj.set 0x5400 3 1 (.u 1) 2 0 2).over 1024,
   (Obj.set 0x5400 4 1 (.u 2) 0 1 0xFFFE).over 1024, (Obj.read 0x5400 5 2 (.u 1)).over 1024,
   (Obj.read 0x5400 7 1 (.i 1)).over 1024, (Obj.read 0x5400 8 1 (.i 2)).over 1024, (Obj.read 0x5400 9 1 (.u 4)).over 1024]

/-- Map, corridors, members, tasks and TFCs (R195, R216, R217). -/
def trafficObjs : List Obj :=
  [.cmd 0x6000 1 .domain .engineer, .read 0x6000 2 2 (.u 4), .read 0x6000 4 2 (.u 1), .set 0x6001 1 16 (.u 2) 1000 0 10000,
   .set 0x6002 1 16 .bool 0 0 1, (Obj.any 0x6010 1 16 (.u 4) 0).over 16, .read 0x6020 1 7 (.u 4), .read 0x6020 8 5 (.u 2),
   .read 0x6020 0xD 2 (.u 4), .read 0x6100 1 1 (.u 2), .read 0x6100 2 1 (.u 4), .read 0x6100 3 1 (.u 2),
   .read 0x6100 4 1 (.u 4), .cmd 0x6100 5 (.u 4) .operator, .read 0x6100 6 1 (.u 4),
   (Obj.read 0x6200 1 1 (.u 1)).over 256, (Obj.set 0x6200 2 1 (.u 1) 0 0 15).over 256,
   { Obj.set 0x6200 3 1 (.u 1) 0 0 31 with nIdx := 256, role := .operator }, (Obj.read 0x6200 4 2 (.u 4)).over 256,
   (Obj.read 0x6200 6 4 (.u 1)).over 256, .live 0x6400 1 1 (.u 2) .observer 0 1 0, .read 0x6400 2 1 (.oct 128),
   .cmd 0x6400 3 (.oct 16) .operator, .read 0x6400 4 1 (.u 4), .read 0x6400 5 1 (.u 2), .read 0x6400 6 1 (.u 4),
   .set 0x6500 1 1 (.u 2) 1000 200 60000, .cmd 0x6500 2 (.oct 48) .operator, .live 0x6500 3 1 (.u 2) .observer 0 0 4095,
   .read 0x6500 4 1 (.oct 48), .read 0x6500 5 1 (.u 2), .read 0x6500 6 1 (.u 4), .set 0x6600 1 1 (.u 1) 0 0 1,
   .set 0x6600 2 1 (.u 2) 30 0 3600, .set 0x6600 3 1 (.u 1) 10 1 200, .any 0x6600 4 1 (.u 4) 0]

/-- Safety (R254). -/
def safetyObjs : List Obj :=
  [.read 0x7000 1 1 (.u 2), .read 0x7000 2 1 (.u 4), .read 0x7000 3 1 (.u 1), .read 0x7000 4 1 (.u 4), .read 0x7000 5 1 (.u 2),
   .cmd 0x7010 1 (.u 2) .operator, .set 0x7020 1 1 (.u 1) 4 1 20, .set 0x7020 2 1 (.u 2) 100 10 500,
   .set 0x7020 3 1 (.u 1) 0 0 1, .any 0x7020 4 1 (.u 2) 0, .set 0x7020 5 1 .bool 0 0 1, .any 0x7020 6 1 (.u 2) 0,
   .any 0x7020 7 1 (.u 2) 0xFFFF, .set 0x7020 8 1 (.u 1) 0 0 1, .set 0x7020 9 1 (.u 2) 72 1 720,
   .set 0x7020 0xA 1 (.u 1) 0 0 1, .read 0x7030 1 4 (.u 4), .read 0x7030 5 1 (.u 2), .read 0x7030 6 2 (.u 4)]

/-- Axes (R426). -/
def axisObjs : List Obj :=
  [(Obj.any 0x7800 1 4 (.u 1) 0).over 8, (Obj.any 0x7800 5 4 (.u 4) 0).over 8, (Obj.any 0x7800 9 1 (.i 4) (-2147483648)).over 8,
   (Obj.any 0x7800 0xA 1 (.i 4) 2147483647).over 8, (Obj.any 0x7800 0xB 1 (.u 2) 0).over 8,
   (Obj.any 0x7800 0xC 1 (.u 2) 100).over 8, (Obj.any 0x7800 0xD 1 (.u 1) 8).over 8, (Obj.any 0x7800 0xE 1 (.u 1) 100).over 8,
   (Obj.any 0x7800 0xF 1 (.u 4) 0).over 8, (Obj.any 0x7800 0x10 1 (.i 4) 0).over 8,
   (Obj.any 0x7800 0x11 1 (.u 4) 0x7FFFFFFF).over 8, (Obj.any 0x7800 0x12 2 (.u 4) 0).over 8,
   (Obj.any 0x7800 0x14 1 (.u 2) 20).over 8, (Obj.any 0x7800 0x15 1 (.u 4) 0x10000).over 8,
   (Obj.any 0x7800 0x16 1 (.u 4) 0x1388140A).over 8, (Obj.live 0x7800 0x17 1 (.u 1) .engineer 0 0 3).over 8,
   (Obj.live 0x7810 1 1 .bool .operator 0 0 1).over 8, (Obj.cmd 0x7810 2 (.u 8) .operator).over 8,
   (Obj.live 0x7810 3 1 (.i 4) .operator 1 1 0).over 8, (Obj.live 0x7810 4 1 (.u 4) .operator 1 1 0).over 8,
   (Obj.live 0x7810 5 1 (.i 4) .operator 0 1 0).over 8, (Obj.read 0x7810 6 1 (.u 4)).over 8,
   (Obj.read 0x7810 7 2 (.i 4)).over 8, (Obj.read 0x7810 9 1 (.u 1)).over 8, (Obj.read 0x7810 0xA 1 (.u 2)).over 8,
   .read 0x7820 1 1 (.i 4), .set 0x7820 2 1 .bool 0 0 1, .read 0x7820 3 1 (.u 4)]

/-- Control loops (R445, R446). -/
def loopObjs : List Obj :=
  [.set 0x7880 1 1 (.u 4) 6250 3125 100000, .live 0x7880 2 1 .bool .operator 0 0 1, .read 0x7880 3 1 (.u 2),
   (Obj.set 0x7890 1 1 .bool 0 0 1).over 8, (Obj.any 0x7890 2 5 (.u 4) 0).over 8, (Obj.any 0x7890 7 1 (.u 4) 0x7FFF).over 8,
   (Obj.any 0x7890 8 1 (.i 4) 1073741824).over 8, (Obj.any 0x7890 9 4 (.i 4) 0).over 8,
   (Obj.any 0x7890 0xD 1 (.i 4) 1073741824).over 8, (Obj.any 0x7890 0xE 4 (.i 4) 0).over 8,
   (Obj.set 0x7890 0x12 1 (.u 1) 0 0 3).over 8, (Obj.cmd 0x7890 0x13 (.u 1) .engineer).over 8,
   (Obj.read 0x7890 0x14 1 (.i 2)).over 8, (Obj.read 0x7890 0x15 1 (.u 4)).over 8, (Obj.read 0x7890 0x16 1 (.u 1)).over 8,
   .live 0x78A0 1 5 (.u 4) .engineer 0 1 0, .cmd 0x78A0 6 (.u 1) .engineer, .read 0x78A0 7 1 (.u 2),
   .live 0x78B0 1 1 (.u 1) .engineer 0 0 15, .live 0x78B0 2 8 (.u 1) .engineer 0 1 0,
   .live 0x78B0 0xA 1 (.u 4) .engineer 1 1 0, .live 0x78B0 0xB 1 (.i 4) .engineer 0 1 0, .cmd 0x78B0 0xC (.u 1) .engineer,
   .read 0x78B0 0xD 1 (.u 4)]

/-- Pair, security and debug (R392, R557, R664). -/
def secureObjs : List Obj :=
  [.set 0x8000 1 1 .bool 0 0 1, .set 0x8000 2 1 (.u 1) 0 0 1, .read 0x8000 3 4 (.u 1), .read 0x8000 7 8 (.u 4),
   .read 0x8000 0xF 1 (.u 2), .read 0x8000 0x10 1 (.u 4), .read 0x9000 1 1 (.oct 16), .cmd 0x9000 2 (.oct 17) .observer,
   .cmd 0x9000 3 (.u 1) .observer, .read 0x9010 1 1 (.u 8), .cmd 0x9010 2 (.oct 111) .engineer,
   .cmd 0x9010 3 (.u 1) .engineer, .live 0x9010 4 1 (.oct 80) .engineer 0 1 0, .set 0x9010 5 1 (.u 2) 200 40 2000,
   .read 0x9010 6 2 (.u 4), .cmd 0x9020 1 (.oct 12) .engineer, .cmd 0x9020 2 (.oct 13) .engineer,
   .cmd 0x9020 3 (.u 4) .engineer, .live 0x9030 1 1 (.oct 176) .engineer 0 1 0, .live 0x9030 2 1 (.oct 65) .engineer 0 1 0,
   .live 0x9030 3 4 (.oct 176) .engineer 0 1 0, .read 0x9030 7 1 (.oct 65), .any 0x9030 8 1 (.u 4) 0,
   .set 0x9040 1 2 (.u 1) 2 0 2, .set 0x9040 3 2 (.u 1) 0 0 2, .set 0x9040 5 2 (.u 1) 1 0 2, .set 0x9040 7 1 (.u 1) 0 0 3,
   .read 0x9040 8 1 (.u 4), .cmd 0x9040 9 (.u 1) .engineer, .read 0x9040 0xA 1 (.u 4), .cmd 0x9050 1 (.u 1) .engineer,
   .read 0x9050 2 1 (.u 1), .read 0x9050 3 1 (.u 2)]

/-- Calibration (R605 to R608, R126, R352). -/
def calObjs : List Obj :=
  [.read 0xA000 1 2 (.u 4), (Obj.read 0xA010 1 16 (.i 4)).over 6, (Obj.read 0xA010 0x12 14 (.i 4)).over 6,
   .read 0xA020 1 12 (.i 2), (Obj.read 0xA030 1 24 (.u 1)).over 2, .read 0xA040 1 1 (.i 4), .read 0xA040 2 3 (.i 2),
   .read 0xA050 1 1 (.i 2), .read 0xA050 2 1 (.u 2), (Obj.read 0xA060 1 53 (.i 2)).over 2, .cmd 0xA800 1 (.u 4) .engineer,
   .any 0xA810 1 3 (.i 8) 0, .any 0xA810 4 1 (.u 2) 0, .any 0xA810 5 1 (.str 31) 0, .any 0xA810 6 1 (.u 1) 0,
   .any 0xA810 7 1 (.str 31) 0, (Obj.set 0xA820 1 9 (.i 4) 0 (-5000) 5000).over 2, .set 0xA830 1 2 (.u 4) 0 0 2000000,
   .set 0xA840 1 4 (.u 2) 0 0 10000, .set 0xA860 1 2 (.i 1) 0 (-12) 12,
   (Obj.set 0xA910 1 16 (.i 4) 0 (-20000) 20000).over 6, (Obj.set 0xA910 0x12 14 (.i 4) 0 (-20000) 20000).over 6]

/-- All rows. -/
def objects : List Obj :=
  commObjs ++ unitObjs ++ systemObjs ++ gnssObjs ++ teaselObjs ++ timeObjs ++ radioObjs ++ trafficObjs ++ safetyObjs ++
    axisObjs ++ loopObjs ++ secureObjs ++ calObjs

/-- The row names an index. -/
def Obj.hasIdx (o : Obj) (idx : Nat) : Bool := o.idx ≤ idx && idx < o.idx + o.nIdx

/-- The row names an object. -/
def Obj.has (o : Obj) (idx sub : Nat) : Bool := o.hasIdx idx && o.sub ≤ sub && sub < o.sub + o.nSub

/-- Row of an object. -/
def objAt (idx sub : Nat) : Option Obj := objects.find? fun o => o.has idx sub

/-- Rows of an index. -/
def objsOf (idx : Nat) : List Obj := objects.filter fun o => o.hasIdx idx

/-- Highest sub-index of an index (R500). -/
def highestSub (idx : Nat) : Nat := (objsOf idx).foldl (fun m o => max m (o.sub + o.nSub - 1)) 0

/-- Octets of a number of a type, little-endian (R501). -/
def OdType.octets : OdType → Option Nat
  | .bool => some 1 | .u n => some n | .i n => some n | .oct n => some n | .str _ => none | .domain => none

/-- A value of a type. -/
def OdType.put (t : OdType) (v : Int) : List Byte :=
  match t with
  | .str _ => []
  | .domain => []
  | _ => leBytesInt (t.octets.getD 0) v

/-- A value of a type as a number. -/
def OdType.get (t : OdType) (l : List Byte) : Int :=
  match t with
  | .i _ => leInt l
  | _ => leNat l

/-- Default octets of a row. -/
def Obj.default (o : Obj) : List Byte := o.ty.put o.dflt

/-- The length of a value fits its type (R501, R502). -/
def OdType.lengthOk (t : OdType) (l : List Byte) : Bool :=
  match t with
  | .str m => decide (l.length ≤ m)
  | .domain => true
  | _ => t.octets = some l.length

/-- A value lies in the range of its row and type (R501, R502). -/
def Obj.inRange (o : Obj) (l : List Byte) : Bool :=
  match o.ty with
  | .bool => leNat l ≤ 1
  | .str _ => l.all fun b => 0x20 ≤ b.toNat && b.toNat ≤ 0x7E
  | .oct _ => true
  | .domain => true
  | t => o.hi < o.lo || (o.lo ≤ t.get l && t.get l ≤ o.hi)

/-- Every object of a row, by key. -/
def Obj.each (o : Obj) : List (Nat × Obj) :=
  (List.range o.nIdx).flatMap fun i => (List.range o.nSub).map fun j => (odKey (o.idx + i) (o.sub + j), o)

end Sys2Proof.Machine
end

