-- ==== Sys2Proof/Machine/Objects.lean ====
section
/-!
DEFINITION. What the stored objects put into registers: the firmware writes the registers of a block from its objects at
start-up, and again when an object is written (the object tables of spec/02 to spec/21; R264, R353, R427, R446, R471, R557,
R596, R635).
-/
namespace Sys2Proof.Machine

/-- Default number of the WAKE channel in the profile (R266, R270). -/
def wakeDefault (na : Bool) : Nat := if na then 134 else 65

/-- The radios' registers from OD 0x5000 to 0x5031 (R264, R282). Register PWR is the object plus 20: -10 + 0.5 x PWR dBm. -/
def State.radioFromOd (s : State) : State :=
  let na := s.od 0x5000 1 0 = 1
  let ch := fun (sub d : Nat) => BitVec.ofNat 12 (s.od 0x5010 sub d)
  let put := fun (r : RadioRegs) (v : Vector (BitVec 12) 4) (p : Int) => { r with
    na := na, lbtThr := BitVec.ofInt 8 (s.odInt 0x5000 2 (-80)), rnd := BitVec.ofNat 7 (s.od 0x5000 3 0)
    seed := BitVec.ofNat 32 (s.od 0x5000 4 1), ch := v, pwr := BitVec.ofInt 6 (p + 20) }
  let sb := fun (i : Fin 6) (d : Nat) => s.od 0x5030 (i.val + 1) d
  let lim := fun (i : Fin 6) (d : Nat) => BitVec.ofNat 16 (s.od 0x5031 (i.val + 1) d)
  { s with
    fra := { s.fra with
      regs := { put s.fra.regs #v[ch 1 22, ch 2 26, ch 3 30, ch 6 (wakeDefault na)] (s.odInt 0x5020 1 28) with
        wakePwr := BitVec.ofInt 6 (s.odInt 0x5020 3 (-2) + 20) }
      sbLbt := #v[sb 0 1 = 1, sb 1 1 = 1, sb 2 0 = 1, sb 3 0 = 1, sb 4 0 = 1, sb 5 0 = 1]
      sbLimit := #v[lim 0 0, lim 1 0, lim 2 360, lim 3 36, lim 4 3600, lim 5 360] }
    frb := { s.frb with regs := put s.frb.regs #v[ch 4 40, ch 5 53, 0, 0] (s.odInt 0x5020 2 28) } }

/-- Centres at least 1.0 MHz apart, that is ten channel numbers (R263, R266). -/
def apart (a b : Nat) : Bool := a + 10 ≤ b || b + 10 ≤ a

/-- The radio settings held keep the rules of their profile (R263, R265, R266). -/
def State.radioOk (s : State) : Bool :=
  let na := s.od 0x5000 1 0 = 1
  let prim := s.od 0x5010 1 22
  let alt1 := s.od 0x5010 2 26
  let alt2 := s.od 0x5010 3 30
  let data := s.od 0x5010 4 40
  let rep := s.od 0x5010 5 53
  let wake := s.od 0x5010 6 (wakeDefault na)
  let fra := [prim, alt1, alt2]
  let lbt := fun (i : Fin 6) => s.od 0x5030 (i.val + 1) (bit (i.val < 2)) = 1
  let lim := fun (i : Fin 6) => s.od 0x5031 (i.val + 1) ([0, 0, 360, 36, 3600, 360].getD i.val 0)
  let inLbt := fun (n half : Nat) => match subBandOf n half with
    | some i => lbt i
    | none => false
  let capOk := fun (n : Nat) => match subBandOf n 10 with
    | some i => lim i = 0 || 5070 ≤ lim i
    | none => false
  let band := fra.all (fun n => channelOk na n 10) && channelOk na data 20 && channelOk na rep 20 && channelOk na wake 5
  let eu := fra.all (fun n => inLbt n 10 && capOk n && apart rep n && apart data n) && inLbt data 20 && apart rep data &&
    (subBandOf rep 20).isSome && (subBandOf wake 5).isSome && (List.finRange 6).all fun i => lbt i || lim i ≠ 0
  band && (na || eu)

/-- GRF and GBB registers from OD 0x3100 (R45, R47, R73, R80, R88). -/
def State.gnssFromOd (s : State) : State :=
  let g := { s.grf with biasKeep := s.od 0x3100 3 0 = 1 }
  let s1 := ({ s with grf := g }).grfWrite 0x10 (BitVec.ofNat 32 (s.od 0x3100 1 0 + 256 * s.od 0x3100 2 0))
  let th := BitVec.ofNat 16 (s.od 0x3100 0xC 0xC00)
  { s1 with gbb := { s1.gbb with
      rate := BitVec.ofNat 3 (s.od 0x3100 4 4), offset := BitVec.ofNat 10 (s.od 0x3100 5 0)
      acq := { s1.gbb.acq with thresh := if th.toNat < 0x200 then 0x200 else if 0xFF00 < th.toNat then 0xFF00 else th } } }

/-- A class of robots as its objects give it (R162, R194, R195). -/
def State.classFromOd (s : State) (c : Fin 16) : RobotClass :=
  let p := fun (k : Nat) => BitVec.ofNat 32 (s.od (0x6010 + c.val) (k + 1) 0)
  { guardMs := BitVec.ofNat 14 (s.od 0x6001 (c.val + 1) 1000), en := s.od 0x6002 (c.val + 1) 0 = 1
    speed := Vector.ofFn fun k => (p k.val).extractLsb' 0 16
    dist := Vector.ofFn fun k => (p k.val).extractLsb' 16 16 }

/-- The class registers from the objects (R194, R195). -/
def State.classesFromOd (s : State) : State :=
  { s with cre := { s.cre with classes := Vector.ofFn fun c => s.classFromOd c } }

/-- The safety configuration that OD 0x7020 holds (R254). -/
def State.safCfgOd (s : State) : SafCfg :=
  { filter := s.od 0x7020 1 4, discrepancy := s.od 0x7020 2 100, mode := s.od 0x7020 3 0
    outMask := BitVec.ofNat 16 (s.od 0x7020 4 0), sf4 := s.od 0x7020 5 0 = 1, rtkClass := BitVec.ofNat 16 (s.od 0x7020 6 0)
    rtkZone := BitVec.ofNat 16 (s.od 0x7020 7 0xFFFF), autoRelease := s.od 0x7020 8 0 = 1, degradedH := s.od 0x7020 9 72
    sf1Clear := s.od 0x7020 0xA 0 = 1 }

/-- The 16 octets of SAF_CFGBUF for a configuration: the sub-indices in order at their types' widths (R254). -/
def SafCfg.octets (c : SafCfg) : List Byte :=
  leBytes 1 c.filter ++ leBytes 2 c.discrepancy ++ leBytes 1 c.mode ++ leBytes 2 c.outMask.toNat ++ leBytes 1 (bit c.sf4) ++
    leBytes 2 c.rtkClass.toNat ++ leBytes 2 c.rtkZone.toNat ++ leBytes 1 (bit c.autoRelease) ++ leBytes 2 c.degradedH ++
    leBytes 1 (bit c.sf1Clear) ++ [0]

/-- A configuration keeps the rules of R245 and R254, and R148 with Teasel's mode. -/
def State.safCfgOk (s : State) (c : SafCfg) : Bool :=
  (c.mode = 0 || 5 ≤ c.filter) && (!c.sf4 || (c.rtkClass ≠ 0 && c.rtkZone ≠ 0 && s.od 0x3800 1 0 = 0))

/-- A configuration placed in SAF_CFGBUF. -/
def State.safCfgPlace (s : State) (c : SafCfg) : State :=
  let l := c.octets
  { s with saf := { s.saf with cfgBuf := Vector.ofFn fun i => l.getD i.val 0 } }

/-- The lanes adopt the configuration (R254, R255). -/
def State.safCfgAdopt (s : State) (c : SafCfg) : State :=
  { s with saf := { s.saf with cfg := c, cfgOk := true, cfgCrc := crc32c c.octets } }

/-- JDX registers from OD 0x2030 (R461, R462, R471). -/
def State.jdxFromOd (s : State) : State :=
  { s with cores := { s.cores with
      aff := BitVec.ofNat 16 (s.od 0x2030 3 200)
      jobMax := #v[BitVec.ofNat 20 (s.od 0x2030 4 1000), BitVec.ofNat 20 (s.od 0x2030 5 5000),
        BitVec.ofNat 20 (s.od 0x2030 6 100000)] } }

/-- TMP_RESP and TMP_LOOP from OD 0x9040 (R549, R557). -/
def State.tmpFromOd (s : State) : State :=
  let r := fun (i d : Nat) => s.od 0x9040 i d * 4 ^ (i - 1)
  { s with sec := { s.sec with tmp := { s.sec.tmp with
      resp := BitVec.ofNat 12 (r 1 2 + r 2 2 + r 3 0 + r 4 0 + r 5 1 + r 6 1), loop := BitVec.ofNat 2 (s.od 0x9040 7 0) } } }

/-- Settings of PPS outputs, REF10_OUT, EVT inputs and PTP that wait for the next second boundary (R353). -/
def State.timePend (s : State) : State :=
  { s with tim := { s.tim with odPend := true, pps := s.tim.pps.map fun o => { o with odPend := true } } }

/-- Slew limits, jump thresholds and PHY latencies act at once in the registers that hold them (R322, R323, R344, R352). -/
def State.timFromOd (s : State) : State :=
  let slew := fun (n : Nat) => BitVec.ofNat 11 (s.od (0x4010 + n) 6 1000)
  let lat := fun (i : Nat) => BitVec.ofNat 16 (s.od 0xA840 i 0)
  let base := s.tim.base.mapFinIdx fun n (b : Base) _ => { b with slewRt := slew n }
  let eth := s.tim.eth.mapFinIdx fun n (e : EthTs) _ => { e with phyTx := lat (2 * n + 1), phyRx := lat (2 * n + 2) }
  let dom := fun (e : EthTs) => { e with
    dom := Vector.ofFn fun d => BitVec.ofNat 8 (s.od (0x4200 + 0x10 * d.val) 2 0) }
  { s with tim := { s.tim with base := base, eth := eth.map dom } }

/-- MENC_CFG from OD 0x7820:02 (R424). -/
def State.mencFromOd (s : State) : State := { s with mot := { s.mot with mencEdir := s.od 0x7820 2 0 = 1 } }

/-- Pair operation (R371, R392). -/
def State.pairFromOd (s : State) : State :=
  let v : Bool := s.od 0x8000 1 0 = 1
  { s with dev := { s.dev with paired := v }, pair := { s.pair with paired := v } }

/-- PMU_PFTHR from OD 0x2014:04 (R635). -/
def State.pmuFromOd (s : State) : State :=
  { s with pwr := { s.pwr with pfThr := BitVec.ofNat 9 (s.od 0x2014 4 45) } }

/-- All that the objects put into registers at the initialisation stage of a start-up (R596). Axes and loops read OFF and
take their persisted values as on every pass through OFF (R427, R446). -/
def State.fromOd (s : State) : State :=
  let s1 := (((((((((s.radioFromOd).gnssFromOd).classesFromOd).jdxFromOd).tmpFromOd).timFromOd).timePend).mencFromOd).pairFromOd).pmuFromOd
  let s2 := (List.finRange 8).foldl (fun (s : State) n =>
    s.setAxis n { s.axis n with cfg := s.axisFromOd n (s.axis n).cfg }) s1
  let s3 := { s2.cleOff with cores := { s2.cores with
    fleet := BitVec.ofNat 3 (s2.od 0x2030 1 7), lock := true } }
  let ref : Bool := s3.od 0x2015 1 0 = 1
  { s3 with pwr := { s3.pwr with refSel := ref, refNow := ref } }

end Sys2Proof.Machine
end

