-- ==== Sys2Proof/Machine/Blocks.lean ====
section
/-!
DEFINITION. The quiescence rule: what a write of ENABLE does to each block, and what a block does when it starts, shuts down
and reads OFF or ON (spec/01_architecture.md, R38 to R42; each block's own chapter).
-/
namespace Sys2Proof.Machine

/-! ### The enable records -/

/-- The enable record of a block. -/
def State.ctl (s : State) : BlockId → BlockCtl
  | .gbb => s.blk.gbb | .grf => s.blk.grf | .fra => s.blk.fra | .frb => s.blk.frb
  | .eth0 => s.blk.eth0 | .eth1 => s.blk.eth1 | .can0 => s.blk.can0 | .can1 => s.blk.can1
  | .cre => s.blk.cre | .cle => s.blk.cle | .pair => s.blk.pair
  | .mot n => (s.axis n).ctl
  | .que q => (s.queue q).ctl
  | .crc c => s.ques.crc[c].ctl

/-- Changes the enable record of a block. -/
def State.setCtl (s : State) (k : BlockId) (f : BlockCtl → BlockCtl) : State :=
  match k with
  | .gbb => { s with blk := { s.blk with gbb := f s.blk.gbb } }
  | .grf => { s with blk := { s.blk with grf := f s.blk.grf } }
  | .fra => { s with blk := { s.blk with fra := f s.blk.fra } }
  | .frb => { s with blk := { s.blk with frb := f s.blk.frb } }
  | .eth0 => { s with blk := { s.blk with eth0 := f s.blk.eth0 } }
  | .eth1 => { s with blk := { s.blk with eth1 := f s.blk.eth1 } }
  | .can0 => { s with blk := { s.blk with can0 := f s.blk.can0 } }
  | .can1 => { s with blk := { s.blk with can1 := f s.blk.can1 } }
  | .cre => { s with blk := { s.blk with cre := f s.blk.cre } }
  | .cle => { s with blk := { s.blk with cle := f s.blk.cle } }
  | .pair => { s with blk := { s.blk with pair := f s.blk.pair } }
  | .mot n => let a := s.axis n; s.setAxis n { a with ctl := f a.ctl }
  | .que q => let x := s.queue q; s.setQueue q { x with ctl := f x.ctl }
  | .crc c => s.setCrc c fun x => { x with ctl := f x.ctl }

/-- Address of a block's CTRL register (R38, R452, R489, R494). -/
def BlockId.addr : BlockId → Nat
  | .gbb => 0x40050000 | .grf => 0x40060000 | .fra => 0x400A0000 | .frb => 0x400B0000
  | .eth0 => 0x40080000 | .eth1 => 0x40090000 | .can0 => 0x400C0000 | .can1 => 0x400C8000
  | .cre => 0x40040000 | .cle => 0x400E0000 | .pair => 0x40100000
  | .mot n => 0x400D0000 + 0x100 * n.val
  | .que q => 0x40120000 + 0x40 * q.val
  | .crc c => 0x40110000 + 0x40 * c.val

/-! ### Refusals (R42, R601) -/

/-- Status with which a write of ENABLE = 0 is refused (R42). -/
def State.offRefused (s : State) : BlockId → Option Status
  | .mot n => if s.blk.cre.st = .on && 0 < s.cre.holds n then some .busy else none
  | .cle => if (List.finRange 8).any fun n => s.closes n then some .busy else none
  | .pair => if s.pair.paired && s.dev.dstate = .run then some .denied else none
  | _ => none

/-- A self-test failure holds the block OFF (R601). -/
def State.heldOff (s : State) : BlockId → Bool
  | .gbb => s.start.fail.getLsbD 3
  | .grf => s.start.fail.getLsbD 3
  | .fra => s.start.fail.getLsbD 4
  | .frb => s.start.fail.getLsbD 4
  | _ => false

/-- Ranges of queue SRAM words that a circular queue uses. -/
def Queue.span (q : Queue) : Nat × Nat := (q.base.toNat, q.base.toNat + q.words)

/-- A circular queue's base is aligned and inside the SRAM, and no other circular queue that is not OFF overlaps it (R484). -/
def State.queuePlaced (s : State) (n : Fin 32) : Bool :=
  let q := s.queue n
  q.pingPong ||
    (q.base.toNat % q.words = 0 && q.span.2 ≤ 262144 &&
      (List.finRange 32).all fun m =>
        let r := s.queue m
        m = n || r.pingPong || r.ctl.st = .off || r.span.2 ≤ q.span.1 || q.span.2 ≤ r.span.1)

/-! ### Starting (R39) -/

/-- What a block does on entering STARTING. -/
def State.blockStarting (s : State) : BlockId → State
  | .mot n => (s.loopStarting n).axisStarting n
  | .can0 => s.setCan 0 fun c => { c with nmt := .initialisation }
  | .can1 => s.setCan 1 fun c => { c with nmt := .initialisation }
  | _ => s

/-- A CAN channel reads ON: node ID and bit rates in force, the boot-up message, and its NMT state (R509, R510). -/
def State.canOn (s : State) (n : Fin 2) : State :=
  let id := BitVec.ofNat 8 (s.od (0x1FF1 + n.val) 2 32)
  let data := s.od (0x1FF1 + n.val) 4 2
  let s1 := s.setCan n fun c => { c with
    nodeId := id, fden := data ≠ 0, brsen := data ≠ 0
    nmt := if s.od (0x1FF1 + n.val) 6 0 = 1 then .operational else .preOperational
    hbSentMs := s.tb5ms, hb := Vector.replicate 4 {}, conds := c.conds.filter (· ≠ .hbLost) }
  let s2 := { s1 with dict := { s1.dict with
    sess := s1.dict.sess.set n.val { opened := true, lastMs := s.tb5ms } (by omega) } }
  s2.emit (.can n (0x700 + id.toNat) [0])

/-- Addresses of a MAC come into force when it has passed through OFF (R525). -/
def State.ethOn (s : State) (n : Nat) : State :=
  let subs := [0x8 + n, 0xA + n, 0xC + n, 0xE + n]
  let mine := subs.filterMap fun i => (s.odOctets 0x2020 i).map fun v => (odKey 0x2020 i, v)
  let rest := s.dict.ethAddr.filter fun p => !subs.any fun i => p.1 = odKey 0x2020 i
  { s with dict := { s.dict with ethAddr := mine.foldl (fun t p => tabPut t p.1 p.2) rest } }

/-- What a block does on reading ON. -/
def State.blockOn (s : State) : BlockId → State
  | .gbb => (s.setCorr fun c => { c with gbbOnMs := some s.tb5ms }).teaselResume
  | .fra => { s with start := { s.start with paFra := s.odInt 0xA860 1 0 } }
  | .frb =>
    let s1 := { s with start := { s.start with paFrb := s.odInt 0xA860 2 0 } }
    s1.setFrb fun b => { b with mrxOn := true, mrxCh := s.repChannel }
  | .eth0 => s.ethOn 0
  | .eth1 => s.ethOn 1
  | .can0 => s.canOn 0
  | .can1 => s.canOn 1
  | .cre => s.creEnterOn
  | _ => s

/-- A block starts: STARTING. -/
def State.blockStart (s : State) (k : BlockId) : State :=
  (s.setCtl k fun c => { c with enable := true, st := .starting, enPend := false }).blockStarting k

/-! ### Shutting down (R41) -/

/-- GBB shuts down: tracking and latch stop, and the epoch under verification is withheld (R41). -/
def State.gbbQuiesce (s : State) : State :=
  let s1 := match s.corr.epoch with
    | some l => s.withhold l .late []
    | none => s
  (s1.gbbStop.surveysEnd).teaselResume

/-- FRA shuts down: in *Run* a stop burst first, then nothing more to send (R41). -/
def State.fraQuiesce (s : State) : State :=
  let s1 := s.fraDrop
  if s.dev.dstate = .run then s1.burstRequest { s.saf.word with stop := true } else s1

/-- PAIR shuts down: heartbeats stop, the hold is released, deltas are discarded (R41, R359). -/
def State.pairQuiesce (s : State) : State :=
  let s1 := s.holdRelease
  { s1 with pair := { s1.pair with buffered := [], snapAwait := false, hbOk := false, link := false } }

/-- A CAN channel shuts down: what waits to be sent is discarded (R41, R510). -/
def State.canQuiesce (s : State) (n : Fin 2) : State :=
  let s1 := s.setCan n fun c => { c with emcyWait := [], sdo := none, nmt := .initialisation }
  { s1 with dict := { s1.dict with
      sess := s1.dict.sess.set n.val {} (by omega)
      transfers := s1.dict.transfers.filter fun t => t.slot ≠ n.val
      waiting := s1.dict.waiting.filter fun w => w.slot ≠ n.val } }

/-- What a block does on entering QUIESCING (R41). -/
def State.blockQuiesce (s : State) : BlockId → State
  | .gbb => s.gbbQuiesce
  | .grf => s
  | .fra => s.fraQuiesce
  | .frb => s.frbDrop
  | .eth0 => if s.blk.eth1.st = .on then s else s.sessionsClose
  | .eth1 => if s.blk.eth0.st = .on then s else s.sessionsClose
  | .can0 => s.canQuiesce 0
  | .can1 => s.canQuiesce 1
  | .cre => s
  | .cle => s.cleQuiesce
  | .pair => s.pairQuiesce
  | .mot n => s.axisQuiesce n
  | .que q => s.setQueue q (s.queue q).reset
  | .crc c => s.crcAbort c s.ques.crc[c].spos.toNat

/-- What a block does on reading OFF (R41). -/
def State.blockOff (s : State) : BlockId → State
  | .grf => s.grfStop
  | .fra => s.fraOff
  | .frb => s.frbOff
  | .cle => s.cleOff
  | .mot n => s.axisOff n
  | _ => s

/-- The shut-down may end now: nothing of the block is on air, and an axis is at rest (R41). -/
def State.mayEnd (s : State) : BlockId → Bool
  | .fra => s.fra.onAir.isNone && s.fra.burst.isNone
  | .frb => s.frb.onAir.isNone
  | .mot n => (s.axis n).mo.motion = .rest || (s.axis n).mo.motion = .frozen
  | _ => true

/-- Radio settings that wait for both radios to be OFF come into force, and each radio that was enabled starts again
(R264). -/
def State.radiosAgain (s : State) : State :=
  match s.dev.radioCfg with
  | none => s
  | some (a, b) =>
    if s.blk.fra.st = .off && s.blk.frb.st = .off then
      let s1 := { s.radioFromOd with dev := { s.dev with radioCfg := none } }
      let s2 := if a then s1.blockStart .fra else s1
      if b then s2.blockStart .frb else s2
    else s

/-- A shut-down ends: OFF, and STARTING again when an enable waits (R39, R40). -/
def State.quiesceEnd (s : State) (k : BlockId) : State :=
  let pend := (s.ctl k).enPend
  let s1 := (s.setCtl k fun c => { c with st := .off, enPend := false }).blockOff k
  if pend then s1.blockStart k else s1.radiosAgain

/-! ### The write of ENABLE (R39 to R42) -/

/-- A write of ENABLE = 1 (R39). A circular queue that is misplaced does not start (R484); the CLE not during the pause of
an activation (R591). -/
def State.enableOn (s : State) (k : BlockId) : State × Status :=
  match (s.ctl k).st with
  | .off =>
    if s.heldOff k then (s, .denied)
    else if k = .cle && s.upd.paused = some .cle then (s, .busy)
    else match k with
      | .fra =>
        match s.dev.radioCfg with
        | some (_, b) => ({ s with dev := { s.dev with radioCfg := some (true, b) } }, .enablePending)
        | none => (s.blockStart k, .ok)
      | .frb =>
        match s.dev.radioCfg with
        | some (a, _) => ({ s with dev := { s.dev with radioCfg := some (a, true) } }, .enablePending)
        | none => (s.blockStart k, .ok)
      | .que q =>
        if s.queuePlaced q then (s.blockStart k, .ok)
        else ({ s with ques := { s.ques with cfgErr := true } }, .denied)
      | _ => (s.blockStart k, .ok)
  | .starting => (s.setCtl k fun c => { c with enable := true }, .ok)
  | .on => (s.setCtl k fun c => { c with enable := true }, .ok)
  | .quiescing => (s.setCtl k fun c => { c with enable := true, enPend := true }, .enablePending)

/-- A write of ENABLE = 0 (R39, R42). -/
def State.enableOff (s : State) (k : BlockId) : State × Status :=
  match (s.ctl k).st with
  | .off => (s.setCtl k fun c => { c with enable := false }, .ok)
  | .starting => ((s.setCtl k fun c => { c with enable := false, st := .quiescing }).blockQuiesce k, .ok)
  | .quiescing => (s.setCtl k fun c => { c with enable := false, enPend := false }, .ok)
  | .on =>
    match s.offRefused k with
    | some st => (s.setCtl k fun c => { c with refused := true }, st)
    | none => ((s.setCtl k fun c => { c with enable := false, st := .quiescing }).blockQuiesce k, .ok)

/-- The radio settings have been written: each radio that is not OFF passes through OFF, and the new values come into
force while both are (R264). -/
def State.radioRenew (s : State) : State :=
  let a := s.blk.fra.st = .starting || s.blk.fra.st = .on || s.blk.fra.enPend
  let b := s.blk.frb.st = .starting || s.blk.frb.st = .on || s.blk.frb.enPend
  let s1 := (s.enableOff .fra).1
  let s2 := (s1.enableOff .frb).1
  let old := s.dev.radioCfg.getD (false, false)
  ({ s2 with dev := { s2.dev with radioCfg := some (a || old.1, b || old.2) } } : State).radiosAgain

/-- A write of ENABLE (R39). -/
def State.enableWrite (s : State) (k : BlockId) (v : Bool) : State × Status :=
  if v then s.enableOn k else s.enableOff k

/-- A dictionary write of an enable, with the role and the state its object asks for (R426, R444, R525). -/
def State.enableOd (s : State) (role : Role) (k : BlockId) (v : Bool) : State :=
  let go := fun (s : State) => let r := s.enableWrite k v; r.1.answer r.2
  let debug := s.dev.dstate = .debugSession
  let motion := fun (s : State) =>
    if s.dev.dstate = .run then s.asRole role .operator go
    else if debug then s.asRole role .engineer go
    else s.deny .state
  match k with
  | .mot _ => motion s
  | .cle => motion s
  | .can0 => s.asRole role .engineer fun s =>
      go (s.odStore (odKey 0x1FF1 1) (leBytes 1 (bit v)) [1])
  | .can1 => s.asRole role .engineer fun s =>
      go (s.odStore (odKey 0x1FF2 1) (leBytes 1 (bit v)) [1])
  | _ => s.deny .noIndex

end Sys2Proof.Machine
end

