-- ==== Sys2Proof/Machine/Images.lean ====
section
/-!
DEFINITION. Firmware images: header, module table and checks, the slot the boot ROM starts, and the settings half an image
uses (spec/19_update.md, R579 to R582, R587 to R590; spec/16_object_dictionary.md, R526 to R529).
-/
namespace Sys2Proof.Machine

/-! ### Image format (R580, R581) -/

/-- Little-endian number of `n` octets of an image at a place. -/
def imgAt (l : List Byte) (a n : Nat) : Nat := leNat ((l.drop a).take n)

/-- Octets of an image from a place are 0. -/
def imgZero (l : List Byte) (a n : Nat) : Bool := ((l.drop a).take n).all fun b => b = 0

/-- Module entry `i` of an image: type, reserved octets 0, offset, length and digest (R581). -/
def imgModule (l : List Byte) (i : Nat) : Nat × Bool × Nat × Nat × List Byte :=
  let a := 32 + 32 * i
  (imgAt l a 1, imgZero l (a + 1) 3, imgAt l (a + 4) 4, imgAt l (a + 8) 4, (l.drop (a + 12)).take 20)

/-- Modules of an image. -/
def imgModules (l : List Byte) : List (Nat × Bool × Nat × Nat × List Byte) :=
  (List.range (min 8 (imgAt l 28 2))).map (imgModule l)

/-- Octets of a module, taken from the payload. -/
def imgOctets (l : List Byte) (m : Nat × Bool × Nat × Nat × List Byte) : List Byte :=
  (l.drop (512 + m.2.2.1)).take m.2.2.2.1

/-- The module types an image carries fit its KIND (R581). -/
def imgTypesOk (kind : Nat) (types : List Nat) : Bool :=
  if kind = 1 then
    [1, 2, 4, 5, 6, 7].all (fun t => types.count t = 1) && types.count 3 ≤ 1 && types.all fun t => 1 ≤ t && t ≤ 7
  else types = [kind + 3]

/-- Header and module table are consistent (R580, R581, check 1 of R582). -/
def imgFormOk (l : List Byte) : Bool :=
  let kind := imgAt l 5 1
  let n := imgAt l 28 2
  let ms := imgModules l
  512 ≤ l.length && imgAt l 0 4 = 0x474D5A4E && imgAt l 4 1 = 1 && 1 ≤ kind && kind ≤ 4 && imgZero l 6 2 && imgZero l 30 2 &&
    imgAt l 12 4 ≤ 64 && imgAt l 24 4 = l.length - 512 && 1 ≤ n && n ≤ 8 && imgZero l (32 + 32 * n) (256 - 32 * n) &&
    imgZero l 288 96 && imgTypesOk kind (ms.map fun m => m.1) &&
    ms.all fun m => m.2.1 && m.2.2.1 + m.2.2.2.1 ≤ l.length - 512

/-- Greatest payload of a KIND (check 2 of R582). -/
def imgRoom (kind : Nat) : Nat :=
  match kind with
  | 1 => 25165824 - 512 | 2 => 524288 | _ => 262144

/-- Header fields of an image. -/
def imgInfo (l : List Byte) : ImageInfo :=
  { kind := imgAt l 5 1, version := BitVec.ofNat 32 (imgAt l 8 4), secVer := imgAt l 12 4
    word16 := BitVec.ofNat 32 (imgAt l 16 4), word20 := BitVec.ofNat 32 (imgAt l 20 4)
    fleet := (imgModules l).any fun m => m.1 = 3 }

/-- The running main image's header fields. -/
def State.mainInfo (s : State) : ImageInfo :=
  match s.upd.slot[s.upd.run] with
  | some x => x.info
  | none => {}

/-- A microcode image is compatible with the running main image (check 7 of R582). -/
def State.ucodeFits (s : State) (i : ImageInfo) : Bool :=
  i.word16 ≤ s.mainInfo.version && s.mainInfo.version ≤ i.word20

/-- Integrator image key, when one is installed (R581). -/
def State.integratorKey (s : State) : Option (List Byte) :=
  match s.odOctets 0x2060 0xC with
  | some k => if k.all fun b => b = 0 then none else some k
  | none => none

/-- The first check of R582 that a downloaded image fails; 0 when all pass. `norOk` says that the write and read-back of the
stored image succeed. -/
def State.imageCheck (s : State) (l : List Byte) (norOk : Bool) : Nat :=
  let i := imgInfo l
  let co : Bool := match s.integratorKey with
    | some k => Config.ecdsaVerify k (l.take 448) ((l.drop 448).take 64)
    | none => true
  if !imgFormOk l then 1
  else if imgRoom i.kind < l.length - 512 then 2
  else if !(imgModules l).all fun m => (Config.sha256 (imgOctets l m)).take 20 = m.2.2.2.2 then 3
  else if !Config.ecdsaVerify Config.imageKey (l.take 384) ((l.drop 384).take 64) then 4
  else if !co then 5
  else if i.secVer < s.upd.svFuse then 6
  else if i.kind ≠ 1 && !s.ucodeFits i then 7
  else if !norOk then 8
  else 0

/-! ### Slots (R587, R589) -/

/-- Changes the update part. -/
def State.setUpd (s : State) (f : Upd → Upd) : State := { s with upd := f s.upd }

/-- A slot holds an image that verifies. -/
def Upd.slotOk (u : Upd) (i : Fin 2) : Bool :=
  match u.slot[i] with
  | some x => x.verifies
  | none => false

/-- Rollback: the preference names the other slot, and the trial is over (R587). -/
def Upd.rollBack (u : Upd) : Upd :=
  { u with pref := 1 - u.pref, trial := false, tcount := 0, winEnd := none, rolledBack := true }

/-- The boot ROM counts a start-up in trial, rolls back at the third, and starts the preferred slot, or the other when only
that verifies (R587, R589). -/
def Upd.boot (u : Upd) : Upd :=
  let u1 := if u.trial then { u with tcount := u.tcount + 1 } else u
  let u2 := if u1.trial && 3 ≤ u1.tcount then u1.rollBack else u1
  if u2.slotOk u2.pref then { u2 with run := u2.pref }
  else if u2.slotOk (1 - u2.pref) then { u2 with run := 1 - u2.pref, fallback := true }
  else u2

/-- Version of the microcode that each engine loads at a start-up: the store's confirmed and compatible image, or else the
module of the running main image, which goes by that image's version (R588). -/
def State.bootMicrocode (s : State) : State :=
  let load := fun (a : StoreArea) =>
    let own : Option ImageInfo := match a.image with
      | some x => if a.confirmed && x.verifies && s.ucodeFits x.info then some x.info else none
      | none => none
    match own with
    | some i => { a with running := i.version }
    | none => { a with running := s.mainInfo.version }
  s.setUpd fun u => { u with area := u.area.map load }

/-! ### Settings halves (R526 to R529, R590) -/

/-- Key of an object of the retained set (R529). -/
def retainedKey (key : Nat) : Bool :=
  let i := key / 256 % 65536
  (0xA800 ≤ i && i ≤ 0xAFFF) || (0x9020 ≤ i && i ≤ 0x903F) || (i = 0x2060 && key % 256 = 0xC)

/-- A half newly formatted with records. -/
def SetHalf.format (fmt : BitVec 32) (recs : List (Nat × List Byte)) : SetHalf :=
  { fmt := fmt, bank := #v[{ valid := true, seq := 1, recs := recs.map fun p => ⟨p.1, p.2⟩ }, {}], active := 0 }

/-- Latest records of a half. -/
def SetHalf.latest (h : SetHalf) : List (Nat × List Byte) := h.bank[h.active].latest

/-- The running image's half: the one that holds its format, or else the other half, formatted under the migration mode
(R590). Mode 1 keeps the records, whose conversion the spec leaves to the image (a log entry). -/
def State.settingsHalf (s : State) : State :=
  let fmt := s.mainInfo.word16
  let u := s.dict.halfUsed
  let old := s.dict.half[u]
  if old.fmt = fmt then s
  else if s.dict.half[1 - u].fmt = fmt then { s with dict := { s.dict with halfUsed := 1 - u } }
  else if old.fmt = 0 then { s with dict := { s.dict with half := s.dict.half.set u (SetHalf.format fmt []) } }
  else
    let keep : Bool := s.upd.migrate = some true
    let recs := if keep then old.latest else old.latest.filter fun p => retainedKey p.1
    let h1 := s.dict.half.set (1 - u) (SetHalf.format fmt recs)
    let h2 := if keep then h1 else h1.set u {}
    { s with dict := { s.dict with half := h2, halfUsed := 1 - u }, upd := { s.upd with migrate := none } }

/-- Row of a stored key. -/
def objOfKey (key : Nat) : Option Obj := objAt (key / 256 % 65536) (key % 256)

/-- The default depends on another setting: COB-IDs on the node ID, the WAKE channel on the profile (R266, R270, R513,
R514). Such an object is absent from the store while at its default. -/
def movingDefault (idx sub : Nat) : Bool :=
  idx = 0x1014 || (idx = 0x5010 && sub = 6) || (sub = 1 && ((0x1400 ≤ idx && idx ≤ 0x1403) || (0x1800 ≤ idx && idx ≤ 0x1803)))

/-- Default octets of a stored key. -/
def defaultOf (key : Nat) : List Byte :=
  if movingDefault (key / 256 % 65536) (key % 256) then []
  else match objOfKey key with
    | some o => o.default
    | none => []

/-- Values in force of the stored objects: the latest records whose objects the format has (R527, R528). -/
def State.settingsLoad (s : State) : State :=
  let recs := s.dict.half[s.dict.halfUsed].latest.filter fun p => (objOfKey p.1).isSome
  { s with dict := { s.dict with
      later := [], od := recs.foldl (fun t (p : Nat × List Byte) => tabSet (defaultOf p.1) t p.1 p.2) [] } }

/-- The defaults of every persisting object, but the retained set, go into the active bank (R529). They take effect at the
next start-up. -/
def State.defaultsRestore (s : State) : State :=
  (s.dict.half[s.dict.halfUsed].latest.filter fun p => !retainedKey p.1).foldl
    (fun s (p : Nat × List Byte) =>
      let s1 := s.settingsAppend p.1 (defaultOf p.1)
      { s1 with dict := { s1.dict with later := tabPut s1.dict.later p.1 (defaultOf p.1) } }) s

end Sys2Proof.Machine
end

