-- ==== Sys2Proof/Machine/Nodes.lean ====
section
/-!
DEFINITION. Field nodes: schedule, NODE_DL, NODE_ACK, misses, calls and recovery (spec/09_radio_frames.md, R305 to R315).
-/
namespace Sys2Proof.Machine

/-- Interval of an exponent, cycles (R305). -/
def nodeInterval (e : Nat) : Nat := 2 ^ e

/-- Phases that a schedule occupies (R305). -/
def occupied (e p mode : Nat) : List Nat := if mode = 0 then [p, (p + 1) % nodeInterval e] else [p]

/-- Two schedules collide (R305). -/
def collide (a b : Nat × Nat × Nat) : Bool :=
  let m := min (nodeInterval a.1) (nodeInterval b.1)
  (occupied a.1 a.2.1 a.2.2).any fun x => (occupied b.1 b.2.1 b.2.2).any fun y => x % m = y % m

/-- Schedules of a node: the one in force and a new one not yet acknowledged (R305, R317). -/
def Node.schedules (x : Node) : List (Nat × Nat × Nat) := (x.e, x.phase, x.ackMode) :: x.newSched.toList

/-- Schedules of every other enrolled node. -/
def State.othersSched (s : State) (n : Nat) : List (Nat × Nat × Nat) :=
  (s.frames.nodes.filter fun p => p.1 ≠ n && p.2.enrolled).flatMap fun p => p.2.schedules

/-- The lowest phase from `p` on that collides with none, of `k` to be tried (R305). -/
def freePhase (others : List (Nat × Nat × Nat)) (e mode p : Nat) : Nat → Option Nat
  | 0 => none
  | k + 1 => if others.any fun o => collide (e, p, mode) o then freePhase others e mode (p + 1) k else some p

/-- The phase the Oanik assigns (R305). -/
def State.assignPhase (s : State) (n e mode : Nat) : Option Nat :=
  freePhase (s.othersSched n) e mode 0 (nodeInterval e)

/-- A cycle is a rendezvous of a node (R305). -/
def Node.meets (x : Node) (c : BitVec 32) : Bool := x.enrolled && c.toNat % nodeInterval x.e = x.phase

/-- The node slot of a cycle belongs to some node, for its rendezvous or its acknowledgement in mode 0 (R305, R306). -/
def State.nodeSlotTaken (s : State) (c : BitVec 32) : Bool :=
  s.frames.nodes.any fun p => p.2.meets c || (p.2.ackMode = 0 && p.2.meets (c - 1))

/-- The first rendezvous after a cycle under a schedule (R305). -/
def nextMeeting (c : BitVec 32) (e p : Nat) : BitVec 32 :=
  let i := nodeInterval e
  let d := (p + i - c.toNat % i) % i
  c + BitVec.ofNat 32 (if d = 0 then i else d)

/-! ### What a NODE_DL carries (R306) -/

/-- A node's TFCs that a test picks, by index. -/
def State.nodeTfcs (s : State) (n : Nat) (f : Tfc → Bool) : List Nat :=
  (s.fleet.tfcs.filter fun p => p.2.node = n && f p.2).map Prod.fst

/-- Octets 13 to 46 of a TFC downlink (R306). -/
def Tfc.content (t : Tfc) : List Byte :=
  [t.code, t.revCode] ++ leBytes 4 t.exec ++ leBytes 4 t.revert ++ t.payload ++ t.revPayload

/-- TFCs and cancellations due to a node: cancellations first, then TFCs to be delivered while the node can still
acknowledge in time (R214, R306, R315). -/
def State.nodeDue (s : State) (n : Nat) : List (Bool × Nat) :=
  let inTime := fun (t : Tfc) => s.tb4ms + 100 ≤ t.exec
  ((s.nodeTfcs n fun t => t.st = .cancelling && s.tb4ms < t.exec).map fun i => (true, i)) ++
    ((s.nodeTfcs n fun t => t.st = .pending && inTime t) ++
      (s.node n).redeliver.filter fun i => (s.tfc i).st = .acked && inTime (s.tfc i)).map fun i => (false, i)

/-- The next SYNC of a node's set: at most 14 of its *Pending* and *Acked* TFCs (R306). -/
def State.syncDl (s : State) (n : Nat) : NodeDl :=
  let x := s.node n
  let sch := x.newSched.getD (x.e, x.phase, x.ackMode)
  let l := (s.nodeTfcs n fun t => t.st = .pending || t.st = .acked).drop x.syncOfs
  .sync (14 < l.length) (nextMeeting s.dev.cycle sch.1 sch.2.1) sch.1 sch.2.2 (l.take 14)

/-- What the next NODE_DL to a node carries: a TFC or CANCEL when one is due, and SYNC otherwise; a set of SYNC frames
that has begun is completed first (R306). -/
def State.nodeContent (s : State) (n : Nat) : NodeDl :=
  if 0 < (s.node n).syncOfs then s.syncDl n
  else match s.nodeDue n with
    | (true, i) :: t => .cancel (!t.isEmpty) i
    | (false, i) :: t => .tfc (!t.isEmpty) i (s.tfc i).content
    | [] => s.syncDl n

/-- The delta that a downlink rests on, when its TFC has changed since the last one (R366, R367). -/
def State.dlDelta (s : State) (dl : NodeDl) : Option (BitVec 32) :=
  let wait := fun (i : Nat) =>
    if tabGet s.pair.sent.tfcs i = tabGet s.fleet.tfcs i then some s.pair.txSeq else some s.deltaNow
  match dl with
  | .sync _ _ _ _ _ => none
  | .tfc _ i _ => wait i
  | .cancel _ i => wait i

/-- Queues a NODE_DL for the node slot of this cycle (R306). -/
def State.nodeQueue (s : State) (n : Nat) (dl : NodeDl) : State :=
  s.frbQueue [{ frbFrame 2 2 57 (.nodeDl n dl 0) with waitDelta := s.dlDelta dl }]

/-! ### Misses, calls and recovery (R276, R310, R314) -/

/-- A call to the node waits or runs. -/
def State.calling (s : State) (n : Nat) : Bool := s.fra.calls.any fun c => c.node = n

/-- Starts a Cowslip call, unless one waits or runs or its recovery runs (R310, R314). -/
def State.callNode (s : State) (n : Nat) : State :=
  let x := s.node n
  if s.calling n || x.recoverUntil.isSome then s
  else
    (s.setNode n { x with st := if x.st = .unreachable then .unreachable else .calling }).setFra fun f => { f with
      calls := f.calls ++ [⟨n, 0, 0⟩] }

/-- A rendezvous without a valid NODE_ACK (R310): after two in a row the node is called. -/
def State.nodeMiss (s : State) (n : Nat) : State :=
  let x := s.node n
  let m := x.miss + 1
  let s1 := s.setNode n { x with
    miss := m, owed := none, await := none, awaitDl := none, more := false, syncOfs := 0
    st := if x.st = .inStep then .oneMiss else x.st }
  if 2 ≤ m && (s1.node n).st = .oneMiss then s1.callNode n else s1

/-- The rendezvous of a node ended without an acknowledgement: at the end of its cycle, or in mode 0 of the next one
(R308, R310). -/
def Node.overdue (x : Node) (now : BitVec 32) : Bool :=
  match x.owed with
  | some c => cycleReached now (c + if x.ackMode = 0 then 2 else 1)
  | none => false

/-- Counts the misses that a cycle boundary makes final (R310). -/
def State.nodeMisses (s : State) : State :=
  ((s.frames.nodes.filter fun p => p.2.overdue s.dev.cycle).map Prod.fst).foldl State.nodeMiss s

/-- NODE_RENDEZVOUS (R306, R310, R314), in the node's rendezvous cycle, while the unit transmits. -/
def execNodeRendezvous (n : Nat) (s : State) : Result :=
  if !s.transmits || !(s.node n).meets s.dev.cycle || (s.node n).owed = some s.dev.cycle then .next s
  else
    let s1 := if (s.node n).owed.isSome then s.nodeMiss n else s
    let x := s1.node n
    let s2 := if x.st = .unreachable || x.st = .calling then s1.callNode n else s1
    let s3 := s2.setNode n { s2.node n with owed := some s2.dev.cycle }
    if s3.frbMay then .next (s3.nodeQueue n (s3.nodeContent n)) else .next s3

/-- The node served in a free node slot: one with a continuation marked MORE, one in recovery, or one to be redelivered to
after LOST, in that order and by lowest ID (R306, R314). -/
def State.freeSlotNode (s : State) : Option (Nat × Bool) :=
  let pick := fun (f : Node → Bool) => (s.frames.nodes.find? fun p => p.2.enrolled && f p.2).map Prod.fst
  match pick fun x => x.more, pick fun x => x.recoverUntil.isSome, pick fun x => !x.redeliver.isEmpty with
  | some n, _, _ => some (n, false)
  | none, some n, _ => some (n, true)
  | none, none, some n => some (n, false)
  | none, none, none => none

/-- Uses the node slot of a cycle that is no node's rendezvous (R306, R314). -/
def State.freeSlot (s : State) : State :=
  if s.nodeSlotTaken s.dev.cycle || (s.frb.queue.any fun f => f.kind = 2) then s
  else match s.freeSlotNode with
    | some (n, sync) => s.nodeQueue n (if sync then s.syncDl n else s.nodeContent n)
    | none => s

/-- NODE_RECOVERY_TIMEOUT (R314): after three calls in a row failed the node is UNREACHABLE. -/
def execNodeRecoveryTimeout (n : Nat) (s : State) : Result :=
  let x := s.node n
  match x.recoverUntil with
  | some c =>
    if !cycleReached s.dev.cycle c then .next s
    else
      let fails := x.callFails + 1
      let gone := 3 ≤ fails || x.st = .unreachable
      let s1 := s.setNode n { x with callFails := fails, recoverUntil := none, st := if gone then .unreachable else .calling }
      if gone && x.st ≠ .unreachable then .next (s1.event .nodeUnreachable [n]) else .next s1
  | none => .next s

/-! ### NODE_ACK (R308, R311, R315) -/

/-- NCLK and the drift estimate (R311): the clock errors summed over at least 60 s, in 0.1 ppm. -/
def State.nodeClock (s : State) (n : Nat) (nclk : Int) : State :=
  let x := { s.node n with nclk := clampTo 127 nclk }
  match x.driftAt with
  | none => s.setNode n { x with driftAt := some s.tb4ms, driftSum := 0 }
  | some t =>
    let sum := x.driftSum + clampTo 127 nclk
    let dt := s.tb4ms - t
    if dt < 60000 then s.setNode n { x with driftSum := sum }
    else
      let est := clampTo 32767 (sum * 10000000 / (dt : Int))
      let s1 := s.setNode n { x with driftEst := est, driftAt := some s.tb4ms, driftSum := 0, drift := x.drift || 400 < est.natAbs }
      if 400 < est.natAbs then s1.event .nodeDrift [n, est.natAbs, bit (est < 0)] else s1

/-- A cancellation has reached the node (R308). -/
def State.tfcCancelled (s : State) (i : Nat) : State :=
  if (s.tfc i).st = .cancelling then s.tfcEnds i .cancelled else s

/-- A final SYNC is acknowledged: *Cancelling* TFCs are left out of it, and a new schedule is in force (R308, R317). -/
def State.syncAcked (s : State) (n : Nat) : State :=
  let s1 := (s.nodeTfcs n fun t => t.st = .cancelling).foldl State.tfcCancelled s
  match (s1.node n).newSched with
  | some (e, p, m) => s1.setNode n { s1.node n with e := e, phase := p, ackMode := m, newSched := none }
  | none => s1

/-- What an acknowledgement's status means for what was delivered (R308, R312, R315). -/
def State.nodeAnswer (s : State) (n : Nat) (dl : NodeDl) (status : Nat) : State :=
  match dl with
  | .tfc _ i _ =>
    if status = 0 then
      let s1 := s.tfcAcked i
      s1.setNode n { s1.node n with redeliver := (s1.node n).redeliver.filter (· ≠ i) }
    else s
  | .cancel _ i => if status = 0 then s.tfcCancelled i else s
  | .sync more _ _ _ list =>
    let s1 := if !more && status ≤ 2 then s.syncAcked n else s
    if status = 1 then
      s1.setNode n { s1.node n with redeliver := list.filter fun i => s1.tb4ms + 100 ≤ (s1.tfc i).exec }
    else if status = 2 then
      ({ s1 with frames := { s1.frames with nMissed := bump s1.frames.nMissed } }).event .nodeMissed [n]
    else s1

/-- NODE_ACK under the node key; its counter is that of the NODE_DL it acknowledges (R285, R287, R290, R308). -/
def execNodeAck (n : Nat) (fcnt : BitVec 32) (form mic : Bool) (status : BitVec 5) (nclk : Int) (s : State) : Result :=
  let x := s.node n
  if s.blk.frb.st ≠ .on then .next s
  else if !form || !x.enrolled then .next s.countMic
  else if !fresher x.rx fcnt then .next s.countReplay
  else
    match x.await, x.awaitDl with
    | some (_, k, sfd), some dl =>
      if !mic || k ≠ fcnt then .next s.countMic
      else
        let s1 := s.setNode n { x with
          rx := some fcnt, await := none, awaitDl := none, owed := none, miss := 0, callFails := 0, recoverUntil := none
          st := .inStep, lastSync := sfd }
        .next ((s1.nodeClock n nclk).nodeAnswer n dl status.toNat)
    | _, _ => .next s.countMic

/-! ### Schedule writes (R305, R316, R317) -/

/-- A node's key of the store. -/
def nodeKey (n sub : Nat) : Nat := odKey (0x5400 + n - 1) sub

/-- A write of a node's interval exponent or acknowledgement mode (R305, R317). -/
def State.scheduleWrite (s : State) (n sub v : Nat) : State :=
  let x := s.node n
  let ok := if sub = 1 then 5 ≤ v && v ≤ 16 else sub = 3 && (v = 0 || v = 2)
  if !x.enrolled || !ok then s.deny .range
  else
    let sch := x.newSched.getD (x.e, x.phase, x.ackMode)
    let e := if sub = 1 then v else sch.1
    let mode := if sub = 3 then v else sch.2.2
    match s.assignPhase n e mode with
    | none => s.answer .full
    | some p =>
      let s1 := s.setNode n { x with newSched := if (e, p, mode) = (x.e, x.phase, x.ackMode) then none else some (e, p, mode) }
      ((s1.odStore (nodeKey n sub) (leBytes 1 v) (leBytes 1 (if sub = 1 then 12 else 2))).odStore (nodeKey n 2) (leBytes 2 p)
        (leBytes 2 0)).answer .ok

/-- NODE_SCHEDULE_WRITE (R305, R316). -/
def execNodeScheduleWrite (role : Role) (n : Nat) (sub v : Nat) (s : State) : Result :=
  .next (s.asRole role .engineer fun s => s.scheduleWrite n sub v)

end Sys2Proof.Machine
end

