-- ==== Sys2Proof/Machine/Keys.lean ====
section
/-!
DEFINITION. The KEY block, derivations, wrapped blobs, stored keys, enrolment and certificates
(spec/17_security.md, R531 to R546, R552, R554, R557).
-/
namespace Sys2Proof.Machine

/-- Changes the security part. -/
def State.setSec (s : State) (f : Security → Security) : State := { s with sec := f s.sec }

/-! ### Life cycle and root (R531, R547) -/

/-- Life-cycle state that the fuses give (R547). -/
def Security.lifeCycle (k : Security) : LifeCycle :=
  if k.decom then .decommissioned
  else if !k.deploy then .manufacturing
  else if k.returns % 2 = 1 then .serviceReturn
  else .deployed

/-- Code of a life-cycle state (R556). -/
def LifeCycle.code : LifeCycle → Nat
  | .manufacturing => 0 | .deployed => 1 | .serviceReturn => 2 | .decommissioned => 3

/-- The life-cycle bit in force is 1 in an attribute word (R534). -/
def Security.lcAllows (k : Security) (attr : BitVec 32) : Bool :=
  match k.lifeCycle with
  | .manufacturing => attr.getLsbD 8 | .deployed => attr.getLsbD 9 | .serviceReturn => attr.getLsbD 10
  | .decommissioned => false

/-- The root in force (R531). -/
def Security.root (k : Security) : List Byte := if k.testRoot then Config.testRoot else Config.fusedRoot

/-- The serial number's 16 octets. -/
def serialOctets : List Byte := (List.finRange 16).map Config.serial

/-! ### Derivation (R532) -/

/-- Octets of an ASCII label. -/
def ascii (t : String) : List Byte := t.toList.map fun c => BitVec.ofNat 8 c.toNat

/-- Derivation in counter mode for at most 256 bits (R532). -/
def derive (key : List Byte) (label context : List Byte) (bits : Nat) : List Byte :=
  (Config.hmacSha256 key (beBytes 4 1 ++ label ++ [0] ++ context ++ beBytes 4 bits)).take (bits / 8)

/-- Key-wrapping key of the root in force; none is derived in *Decommissioned* (R532, R548). -/
def Security.kwkDerived (k : Security) : Option (List Byte) :=
  if k.lifeCycle = .decommissioned then none else some (derive k.root (ascii "NZ-KWK") serialOctets 256)

/-- The KWK: that of the latch, or derived when the latch is empty (R550). -/
def Security.kwkNow (k : Security) : Option (List Byte) :=
  match k.kwk with
  | some w => some w
  | none => k.kwkDerived

/-- First valid identity scalar from counter j on (R532). -/
def identityFrom (root : List Byte) (j : Nat) : Nat → List Byte
  | 0 => []
  | n + 1 =>
    let v := derive root (ascii "NZ-UID") (serialOctets ++ leBytes 1 j) 256
    if Config.p256Valid v then v else identityFrom root (j + 1) n

/-- The unit identity scalar (R532, R544). -/
def Security.identity (k : Security) : List Byte := identityFrom k.root 1 255

/-- Octets of the site key in its slot, when it is there (R537). -/
def Security.siteKey (k : Security) : Option (List Byte) := if k.slots[2].valid then some k.slots[2].key else none

/-- Code of a role in derivations (R532). -/
def roleCode : Role → Nat
  | .observer => 0 | .operator => 1 | .engineer => 2 | .vendor => 3

/-- Key of a role for a login (R532, R533). -/
def Security.roleKey (k : Security) (r : Role) : List Byte :=
  let cred := derive k.root (ascii "NZ-CRED") (serialOctets ++ leBytes 1 (roleCode r)) 256
  match r, k.siteKey with
  | .vendor, _ => cred
  | _, some site => derive site (ascii "NZ-ROLE") (leBytes 1 (roleCode r)) 256
  | _, none => cred

/-! ### Attributes and slots (R534, R535, R537) -/

/-- Attribute word of a kind of key, for Vendor-world requests (R534, R535). -/
def attrOf (master lc usage : Nat) (exportable root : Bool) (alg : Nat) : BitVec 32 :=
  BitVec.ofNat 32 (master + 16 + lc * 256 + usage * 2048 + bit exportable * 65536 + bit root * 131072 + alg * 268435456)

/-- ALG of an attribute word. -/
def algOf (a : BitVec 32) : Nat := (a.extractLsb' 28 4).toNat

/-- Puts a key into a slot. -/
def State.putSlot (s : State) (i : Fin 32) (k : KeySlot) : State :=
  s.setSec fun x => { x with slots := x.slots.set i { k with used := x.useCtr }, useCtr := x.useCtr + 1 }

/-- Notes the use of a slot, for the choice of the least recently used one (R537). -/
def State.useSlot (s : State) (i : Fin 32) : State :=
  s.setSec fun x => { x with slots := x.slots.set i { x.slots[i] with used := x.useCtr }, useCtr := x.useCtr + 1 }

/-- A slot on demand: one of 6 to 31 that is free, else the least recently used (R537). -/
def Security.demandSlot (k : Security) (named : Fin 32) : Fin 32 :=
  if named.val < 6 || !k.slots[named].valid then named
  else
    let pool := (List.finRange 32).filter fun i => 6 ≤ i.val
    match pool.find? fun i => !k.slots[i].valid with
    | some i => i
    | none => pool.foldl (fun a i => if k.slots[i].used < k.slots[a].used then i else a) 6

/-- Every key slot cleared (R550, R554). -/
def State.slotsClear (s : State) : State :=
  s.setSec fun x => { x with slots := Vector.replicate 32 {} }

/-! ### Blobs (R538) -/

/-- The header of a blob, its associated data (R538). -/
def blobHeader (k : KeySlot) (iv : List Byte) : List Byte :=
  leBytes 4 0x424B5A4E ++ [1, k.id] ++ leBytes 2 k.index.toNat ++ leBytes 4 k.gen.toNat ++ leBytes 4 k.attr.toNat ++
    iv ++ leBytes 2 k.key.length ++ [0, 0]

/-- A fresh random vector of 12 octets. -/
def State.freshIv (s : State) : List Byte × State :=
  let a := s.takeFree
  let b := a.2.takeFree
  (leBytes 8 a.1.toNat ++ leBytes 4 b.1.toNat, b.2)

/-- Seals a key as a blob (R538). -/
def sealBlob (kwk : List Byte) (k : KeySlot) (iv : List Byte) : List Byte :=
  blobHeader k iv ++ Config.gcmSeal kwk iv (blobHeader k iv) k.key

/-- Opens a blob: its key, when magic, format, length and tag are right (R538). -/
def openBlob (kwk : List Byte) (b : List Byte) : Option KeySlot :=
  let n := leNat ((b.drop 28).take 2)
  if leNat (b.take 4) ≠ 0x424B5A4E || b.getD 4 0 ≠ 1 || (n ≠ 16 && n ≠ 32) || b.length ≠ 48 + n then none
  else
    (Config.gcmOpen kwk ((b.drop 16).take 12) (b.take 32) (b.drop 32)).map fun key =>
      { attr := BitVec.ofNat 32 (leNat ((b.drop 12).take 4)), id := b.getD 5 0
        index := BitVec.ofNat 16 (leNat ((b.drop 6).take 2)), gen := BitVec.ofNat 32 (leNat ((b.drop 8).take 4))
        valid := true, key := key }

/-- Opens a blob as the engine loads it: the key is one of the root and the life cycle in force (R531, R536, R548). -/
def Security.unwrap (k : Security) (b : List Byte) : Option KeySlot :=
  match k.kwkNow with
  | none => none
  | some w =>
    match openBlob w b with
    | some x => if k.lcAllows x.attr && x.attr.getLsbD 17 = k.testRoot then some x else none
    | none => none

/-! ### Stored keys (R541, R542) -/

/-- Place of a blob in NOR: key ID and location. -/
def norKey (id : BitVec 8) (loc : Bool) : Nat := id.toNat * 2 + bit loc

/-- Blob at a place. -/
def Security.norBlob (k : Security) (id : BitVec 8) (loc : Bool) : List Byte := (tabGet k.nor (norKey id loc)).getD []

/-- What a commit record names, when it qualifies (R542). -/
def Security.commitHolds (k : Security) (c : KeyCommit) : Option (KeyCommit × KeySlot) :=
  let b := k.norBlob c.id c.loc
  if crc32c b ≠ c.crc then none
  else match k.unwrap b with
    | some x => if x.gen = c.gen then some (c, x) else none
    | none => none

/-- The commit of highest generation among those that qualify (R542). -/
def Security.choose (k : Security) (id : BitVec 8) : Option (KeyCommit × KeySlot) :=
  ((k.commits.filter fun c => c.id = id).filterMap k.commitHolds).foldl (fun best x =>
    match best with
    | some b => if b.1.gen.toNat < x.1.gen.toNat then some x else some b
    | none => some x) none

/-- Highest generation committed for a key ID. -/
def Security.committedGen (k : Security) (id : BitVec 8) : Nat :=
  (k.commits.filter fun c => c.id = id).foldl (fun m c => max m c.gen.toNat) 0

/-- Stores a blob of a new generation: NOR, read-back, commit record (R541). -/
def State.storeBlob (s : State) (id : BitVec 8) (blob : List Byte) (gen : BitVec 32) : State × Bool :=
  let loc := match s.sec.choose id with
    | some c => !c.1.loc
    | none => false
  let s1 := s.setSec fun k => { k with nor := tabPut k.nor (norKey id loc) blob }
  match s1.sec.unwrap blob with
  | some _ => (s1.setSec fun k => { k with commits := k.commits ++ [KeyCommit.mk id loc gen (crc32c blob)] }, true)
  | none => (s1, false)

/-- NO_KEYS is set while the site key or the unit's own certificate is absent, or the KEY engine failed its test (R29,
R544, R601). -/
def State.noKeysCheck (s : State) : State :=
  if s.sec.slots[2].valid && s.sec.ownCert.isSome && !s.start.fail.getLsbD 2 then s.clearCause 3 else s.setCause 3

/-- The fixed slots are loaded: KWK, identity, site key, and the group key under which frames go (R537, R542). A stored key
of which no record qualifies is absent. -/
def State.loadFixed (s : State) : State :=
  let w := s.sec.kwkNow
  let s1 := s.setSec fun k => { k with kwk := w }
  let s2 := match w with
    | some v => s1.putSlot 0 { attr := attrOf 0 7 3 false s.sec.testRoot 1, valid := true, key := v }
    | none => s1
  let s3 := s2.putSlot 1 { attr := attrOf 1 7 0x18 false s.sec.testRoot 3, valid := true, key := s.sec.identity }
  let s4 := match s3.sec.choose 1 with
    | some c => (s3.putSlot 2 c.2).setSec fun k => { k with siteGen := c.1.gen }
    | none => s3.setSec fun k => { k with siteGen := 0 }
  match s4.sec.choose 2 with
  | some c =>
    if c.1.gen = s4.sec.groupTx then (s4.putSlot 3 c.2).setSec fun k => { k with groupGen := c.1.gen }
    else (s4.putSlot 4 c.2).setSec fun k => { k with groupGen := c.1.gen }
  | none => s4.setSec fun k => { k with groupGen := 0 }

/-- Slots that a wipe left empty are loaded again on demand (R550); firmware does so at a management tick. -/
def State.keysReload (s : State) : State :=
  let want := fun (i : Fin 32) (id : BitVec 8) => !s.sec.slots[i].valid && (s.sec.choose id).isSome
  if s.start.fail.getLsbD 2 || (s.sec.slots[0].valid && !want 2 1 && !(want 3 2 && s.sec.groupGen = s.sec.groupTx)) then s
  else s.loadFixed

/-- The stored keys chosen at start-up (R542): every frame goes under the generation chosen, and a counter of another
generation starts at 0 (R289, R543). -/
def State.keysChoose (s : State) : State :=
  let gen := match s.sec.choose 2 with
    | some c => c.1.gen
    | none => 0
  let g := s.frames.group
  let group : Counter := if gen = s.sec.groupTx then
      { next := g.committed, committed := g.committed, exhausted := g.committed = 0xFFFFFFFF } else {}
  let s1 := { s with frames := { s.frames with group := group } }
  ((s1.setSec fun k => { k with groupTx := gen, renewal := none }).loadFixed).noKeysCheck

/-! ### Operations of the KEY engine (R534, R536, R554) -/

/-- Counts a refusal; refusals within one second share one record (R536). -/
def State.keyRefusal (s : State) : State :=
  let s1 := s.setSec fun k => { k with refused := bump k.refused }
  let shared : Bool := match s.sec.refusedAt with
    | some t => s.tb5ms < t + 1000
    | none => false
  if shared then s1 else (s1.setSec fun k => { k with refusedAt := some s.tb5ms }).event .keyRefused []

/-- Usage bit that an operation needs, and the ALG values that fit it (R534). -/
def KeyOp.needs : KeyOp → Option (Nat × List Nat)
  | .enc => some (11, [0, 1])
  | .dec => some (12, [0, 1])
  | .mac => some (13, [0, 1, 2])
  | .derive => some (14, [0, 1, 2])
  | .ecdh => some (14, [3])
  | .sign => some (15, [3])
  | _ => none

/-- The slot's key may serve an operation of a world (R536). -/
def Security.mayUse (k : Security) (op : KeyOp) (slot : Fin 32) (world : BitVec 2) : Bool :=
  let x := k.slots[slot]
  let w := x.attr.getLsbD (4 + world.toNat)
  x.valid && k.lcAllows x.attr && x.attr.getLsbD 17 = k.testRoot &&
    match op.needs with
    | some (u, algs) => w && x.attr.getLsbD 0 && x.attr.getLsbD u && algs.contains (algOf x.attr)
    | none => w

/-- The engine refuses an operation at once (R536, R601). LOAD reads a blob and needs no key but the KWK. -/
def State.keyDenies (s : State) (op : KeyOp) (slot : Fin 32) (world : BitVec 2) : Bool :=
  s.start.fail.getLsbD 2 ||
    match op with
    | .load => world ≠ 0 || s.sec.kwkNow.isNone
    | .clear => !s.sec.slots[slot].valid
    | .wrap => !s.sec.mayUse op slot world || s.sec.kwkNow.isNone
    | _ => !s.sec.mayUse op slot world || s.sec.len = 0

/-- The status of the last operation. -/
def State.keyStatus (s : State) (st : Status) : State :=
  (s.setSec fun k => { k with status := st.code }).answer st

/-- A write of KEY_CMD (R536, R552, R554). -/
def State.keyCmd (s : State) (b : Bus) (op : KeyOp) (slot dst : Fin 32) (aux : KeyAux) : State :=
  s.guarded b 0x40130000 .write fun s =>
    if s.sec.busy.isSome then s.answer .busy
    else if s.keyDenies op slot b.world then s.keyRefusal.keyStatus .denied
    else
      let k := s.sec
      (s.useSlot slot).setSec fun x => { x with
        aborted := false, busy := some ⟨op, slot, dst, k.src, k.dst, k.len, aux⟩ }

/-- LOAD (R554). -/
def execKeyLoad (b : Bus) (slot dst : Fin 32) (aux : KeyAux) (s : State) : Result := .next (s.keyCmd b .load slot dst aux)

/-- CLEAR (R554). -/
def execKeyClear (b : Bus) (slot dst : Fin 32) (aux : KeyAux) (s : State) : Result := .next (s.keyCmd b .clear slot dst aux)

/-- DERIVE (R532, R554). -/
def execKeyDerive (b : Bus) (slot dst : Fin 32) (aux : KeyAux) (s : State) : Result := .next (s.keyCmd b .derive slot dst aux)

/-- ENC (R554). -/
def execKeyEnc (b : Bus) (slot dst : Fin 32) (aux : KeyAux) (s : State) : Result := .next (s.keyCmd b .enc slot dst aux)

/-- DEC (R554). -/
def execKeyDec (b : Bus) (slot dst : Fin 32) (aux : KeyAux) (s : State) : Result := .next (s.keyCmd b .dec slot dst aux)

/-- MAC (R554). -/
def execKeyMac (b : Bus) (slot dst : Fin 32) (aux : KeyAux) (s : State) : Result := .next (s.keyCmd b .mac slot dst aux)

/-- SIGN (R554). -/
def execKeySign (b : Bus) (slot dst : Fin 32) (aux : KeyAux) (s : State) : Result := .next (s.keyCmd b .sign slot dst aux)

/-- ECDH (R554). -/
def execKeyEcdh (b : Bus) (slot dst : Fin 32) (aux : KeyAux) (s : State) : Result := .next (s.keyCmd b .ecdh slot dst aux)

/-- WRAP (R538, R554). -/
def execKeyWrap (b : Bus) (slot dst : Fin 32) (aux : KeyAux) (s : State) : Result := .next (s.keyCmd b .wrap slot dst aux)

/-- A blob's load at the end of LOAD (R537, R538). -/
def State.keyLoaded (s : State) (dst : Fin 32) (blob : List Byte) : State :=
  match s.sec.unwrap blob with
  | some k => (s.putSlot (s.sec.demandSlot dst) k).keyStatus .ok
  | none =>
    ((s.setSec fun k => { k with blobFails := bump k.blobFails }).keyRefusal).keyStatus .denied

/-- A key made by DERIVE or ECDH, with the ROOT bit that hardware sets (R534). -/
def slotMade (a : KeyAux) (key : List Byte) (root : Bool) : KeySlot :=
  let rest := a.attr &&& ~~~(0x20000#32)
  { attr := if root then rest ||| 0x20000#32 else rest, id := a.id, index := a.index, gen := a.gen, valid := true
    key := if algOf a.attr = 0 then key.take 16 else key }

/-- What an operation does when it completes (R532, R538, R554). -/
def State.keyPerform (s : State) (x : KeyBusy) : State :=
  let k := s.sec.slots[x.slot]
  let input := s.mem.read x.src.toNat x.len.toNat
  let put := fun (out : List Byte) => ({ s with mem := s.mem.write x.dstAddr.toNat out } : State).keyStatus .ok
  let made := fun (key : List Byte) =>
    (s.putSlot (s.sec.demandSlot x.dst) (slotMade x.aux key s.sec.testRoot)).keyStatus .ok
  match x.op with
  | .load => s.keyLoaded x.dst input
  | .clear => (s.setSec fun z => { z with slots := z.slots.set x.slot {} }).keyStatus .ok
  | .derive => made (derive k.key x.aux.label x.aux.context (if algOf x.aux.attr = 0 then 128 else 256))
  | .enc => put (Config.aesEnc k.key x.aux.iv input)
  | .dec => put (Config.aesDec k.key x.aux.iv input)
  | .mac => put (if algOf k.attr = 2 then Config.hmacSha256 k.key input else Config.aesCmac k.key input)
  | .sign => put (Config.ecdsaSign k.key (Config.sha256 input))
  | .ecdh => made (Config.ecdhX k.key input)
  | .wrap =>
    let iv := s.freshIv
    match s.sec.kwkNow with
    | some w => ({ iv.2 with mem := iv.2.mem.write x.dstAddr.toNat (sealBlob w k iv.1) } : State).keyStatus .ok
    | none => s.keyStatus .denied

/-- KEY_OPERATION_DONE (R537, R554). -/
def execKeyOperationDone (s : State) : Result :=
  match s.sec.busy with
  | some x => .next ((s.setSec fun k => { k with busy := none }).keyPerform x)
  | none => .next s

/-- A KEY operation in progress is aborted without output (R552). -/
def State.keyAbort (s : State) : State :=
  if s.sec.busy.isSome then
    s.setSec fun k => { k with busy := none, aborted := true, status := Status.denied.code }
  else s

/-- KEY_WIPE (R554). -/
def execKeyWipe (b : Bus) (s : State) : Result :=
  .next (s.guarded b 0x40130020 .write fun s => s.slotsClear)

/-! ### Installing and renewing (R539 to R543, R557) -/

/-- A site key stored as a new generation is in force at once (R541). -/
def State.siteInForce (s : State) (k : KeySlot) : State :=
  ((s.putSlot 2 k).setSec fun x => { x with siteGen := k.gen }).noKeysCheck

/-- KEY_IMPORT (R540). -/
def State.keyImport (s : State) (msg : List Byte) : State :=
  let gen := BitVec.ofNat 32 (leNat ((msg.drop 1).take 4))
  let x := Config.ecdhX s.sec.identity ((msg.drop 5).take 33)
  let imp := derive x (ascii "NZ-IMP") (serialOctets ++ msg.take 1) 256
  if msg.length ≠ 111 then s.deny .length
  else if msg.getD 0 0 ≠ 1 || !(msg.drop 98).all (fun b => b = 0) || gen.toNat ≤ s.sec.committedGen 1 then s.deny .other
  else match Config.gcmOpen imp ((msg.drop 38).take 12) (msg.take 5) ((msg.drop 50).take 48), s.sec.kwkNow with
    | some key, some w =>
      let k : KeySlot := { attr := attrOf 1 2 8 true s.sec.testRoot 1, id := 1, gen := gen, valid := true, key := key }
      let iv := s.freshIv
      let r := iv.2.storeBlob 1 (sealBlob w k iv.1) gen
      if r.2 then ((r.1.siteInForce k).event .keyImported [1, gen.toNat]).answer .ok else r.1.deny .other
    | _, _ => s.deny .other

/-- KEY_IMPORT (R540, R557). -/
def execKeyImport (role : Role) (msg : List Byte) (s : State) : Result :=
  .next (s.asRole role .engineer fun s => s.inListening fun s => s.keyImport msg)

/-- A blob written back (R539). -/
def State.blobWrite (s : State) (blob : List Byte) : State :=
  match s.sec.unwrap blob with
  | some k =>
    if k.id ≠ 1 || k.gen.toNat ≤ s.sec.committedGen k.id then s.deny .other
    else
      let r := s.storeBlob k.id blob k.gen
      if r.2 then (r.1.siteInForce k).answer .ok else r.1.deny .other
  | none => (s.setSec fun k => { k with blobFails := bump k.blobFails }).deny .other

/-- SITE_KEY_BLOB_WRITE (R539, R557). -/
def execSiteKeyBlobWrite (role : Role) (blob : List Byte) (s : State) : Result :=
  .next (s.asRole role .engineer fun s =>
    if blob.length ≠ 80 then s.deny .length else s.inListening fun s => s.blobWrite blob)

/-- A random key of 16 octets. -/
def State.freshKey (s : State) : List Byte × State :=
  let a := s.takeFree
  let b := a.2.takeFree
  (leBytes 8 a.1.toNat ++ leBytes 8 b.1.toNat, b.2)

/-- A renewal waits for its activation cycle (R543). -/
def Security.renewing (k : Security) : Bool := k.groupGen ≠ k.groupTx

/-- The group key is renewed: a new generation is stored, and every reporting member gets a GROUP_KEY item (R543). -/
def State.groupRenew (s : State) : State × Status :=
  let n := s.sec.committedGen 2
  if s.sec.renewing then (s, .busy)
  else if 0xFFFFFFFF ≤ n then (s, .denied)
  else match s.sec.kwkNow with
    | none => (s, .denied)
    | some w =>
      let r := s.freshKey
      let gen := BitVec.ofNat 32 (n + 1)
      let k : KeySlot := { attr := attrOf 2 2 7 false s.sec.testRoot 0, id := 2, gen := gen, valid := true, key := r.1 }
      let iv := r.2.freshIv
      let st := iv.2.storeBlob 2 (sealBlob w k iv.1) gen
      if !st.2 then (st.1, .denied)
      else
        let cyc := s.dev.cycle + BitVec.ofNat 32 (s.od 0x9010 5 200)
        let who := (s.fleet.members.filter fun (p : Nat × Member) =>
          p.2.st = .idle || p.2.st = .working || p.2.st = .charging || p.2.st = .stopped).map Prod.fst
        let s1 := (st.1.putSlot 4 k).setSec fun x => { x with
          groupGen := gen, renewal := some { gen := gen, cycle := cyc, waiting := who } }
        let s2 := who.foldl (fun (s : State) m => s.addDue m (.groupKey (gen.setWidth 8) cyc)) s1
        (s2.event .keyRenewed [gen.toNat, cyc.toNat], .ok)

/-- At the boundary of the activation cycle, frames go under the new key, whose counter starts at 0 (R291, R543). -/
def State.groupActivate (s : State) : State :=
  match s.sec.renewal with
  | some r =>
    if s.sec.renewing && cycleReached s.dev.cycle r.cycle then
      let s1 := s.setSec fun k => { k with
        groupTx := r.gen, slots := (k.slots.set 3 k.slots[4]).set 4 k.slots[3] }
      { s1 with frames := { s1.frames with group := {} } }
    else s
  | none => s

/-- GROUP_KEY_RENEWAL: a write of OD 0x9010:03 (R543, R557). -/
def execGroupKeyRenewal (role : Role) (s : State) : Result :=
  .next (s.asRole role .engineer fun s =>
    if s.listening || s.dev.dstate = .run then let r := s.groupRenew; r.1.answer r.2 else s.deny .state)

/-! ### Enrolment (R196, R546, R557) -/

/-- Enrolment is open: *Listening*, or *Run*, which streams it (R557). -/
def State.enrolOpen (s : State) : Bool := s.listening || s.dev.dstate = .run

/-- A radio address is enrolled under another ID (R546). -/
def Security.addrTaken (k : Security) (addr : BitVec 64) (node : Bool) (id : Nat) : Bool :=
  (k.members.any fun m => m.addr = addr && (node || m.id ≠ id)) ||
    k.nodes.any fun n => n.addr = addr && (!node || n.id ≠ id)

/-- Puts an enrolment at its place by ID. -/
def putMember (m : EnrolMember) (l : List EnrolMember) : List EnrolMember :=
  (l.filter fun x => x.id < m.id) ++ m :: l.filter fun x => m.id < x.id

/-- As `putMember`, for nodes. -/
def putNode (m : EnrolNode) (l : List EnrolNode) : List EnrolNode :=
  (l.filter fun x => x.id < m.id) ++ m :: l.filter fun x => m.id < x.id

/-- A member is enrolled (R196, R546). -/
def State.enrolMember (s : State) (v : List Byte) : State :=
  let id := leNat (v.take 2)
  let addr := BitVec.ofNat 64 (leNat ((v.drop 2).take 8))
  let cls := (v.getD 10 0).toNat
  let role := (v.getD 11 0).toNat
  if v.length ≠ 12 then s.deny .length
  else if id = 0 || 256 < id || 15 < cls || 31 < role then s.deny .range
  else if s.sec.members.any fun m => m.id = id then s.answer .busy
  else if s.sec.addrTaken addr false id then s.deny .other
  else
    let s1 := s.setSec fun k => { k with members := putMember ⟨id, addr, BitVec.ofNat 4 cls, BitVec.ofNat 8 role⟩ k.members }
    let s2 := (s1.setLink id {}).setMember id { enrolled := true, identity := addr.toNat, cls := BitVec.ofNat 4 cls,
                                                role := BitVec.ofNat 5 role }
    ((s2.creMemberWrite id (BitVec.ofNat 32 cls)).event .enrolment [0, id]).answer .ok

/-- ENROL_MEMBER (R546, R557). -/
def execEnrolMember (role : Role) (v : List Byte) (s : State) : Result :=
  .next (s.asRole role .engineer fun s => if s.enrolOpen then s.enrolMember v else s.deny .state)

/-- A wake address belongs to another node or to the unit (R317, R546). -/
def State.wakeTaken (s : State) (wake : BitVec 16) (n : Nat) : Bool :=
  wake.toNat = s.od 0x5100 3 1 || s.sec.nodes.any fun x => x.wake = wake && x.id ≠ n

/-- A field node is enrolled, or enrolled again with a higher key generation (R305, R543, R546). -/
def State.enrolNode (s : State) (v : List Byte) : State :=
  let id := leNat (v.take 2)
  let addr := BitVec.ofNat 64 (leNat ((v.drop 2).take 8))
  let wake := BitVec.ofNat 16 (leNat ((v.drop 10).take 2))
  let gen := v.getD 12 0
  let old := s.sec.nodes.find? fun n => n.id = id
  let higher := match old with
    | some n => n.gen.toNat < gen.toNat
    | none => true
  if v.length ≠ 13 then s.deny .length
  else if id = 0 || 1024 < id || wake = 0 || wake = 0xFFFF then s.deny .range
  else if s.wakeTaken wake id || s.sec.addrTaken addr true id || !higher then s.deny .other
  else
    let x := s.node id
    match (if old.isSome then some x.phase else s.assignPhase id 12 2) with
    | none => s.answer .full
    | some p =>
      let s1 := s.setSec fun k => { k with nodes := putNode ⟨id, addr, wake, gen⟩ k.nodes }
      let n : Node := if old.isSome then { x with wake := wake, tx := {}, rx := none }
        else { enrolled := true, phase := p, wake := wake }
      ((s1.setNode id n).event .enrolment [1, id]).answer .ok

/-- ENROL_NODE (R546, R557). -/
def execEnrolNode (role : Role) (v : List Byte) (s : State) : Result :=
  .next (s.asRole role .engineer fun s => if s.enrolOpen then s.enrolNode v else s.deny .state)

/-- An enrolment is removed; a member that is not *Retired* is answered BUSY (R546). -/
def State.enrolRemove (s : State) (v : Word) : State :=
  let id := (v.extractLsb' 16 16).toNat
  if v.getLsbD 0 then
    if s.sec.nodes.any fun n => n.id = id then
      let s1 := s.setSec fun k => { k with nodes := k.nodes.filter fun n => n.id ≠ id }
      ((s1.setNode id {}).event .enrolment [3, id]).answer .ok
    else s.deny .range
  else if !(s.sec.members.any fun m => m.id = id) then s.deny .range
  else if (s.member id).st ≠ .retired then s.answer .busy
  else
    let s1 := s.setSec fun k => { k with members := k.members.filter fun m => m.id ≠ id }
    (((s1.setMember id {}).setLink id {}).event .enrolment [2, id]).answer .ok

/-- REMOVE_ENROLMENT (R546, R557). -/
def execRemoveEnrolment (role : Role) (v : Word) (s : State) : Result :=
  .next (s.asRole role .engineer fun s => s.inListening fun s => s.enrolRemove v)

/-! ### Certificates (R544) -/

/-- A certificate's signature verifies against the site authority and its site ID is the unit's. -/
def State.certOk (s : State) (v : List Byte) : Bool :=
  match s.sec.siteAuth with
  | some pub => Config.ecdsaVerify pub (v.take 112) (v.drop 112) && leNat ((v.drop 100).take 4) = s.od 0x9030 8 0
  | none => false

/-- The own certificate names this unit's public key, radio address and serial (R544). -/
def State.certOwn (s : State) (v : List Byte) : Bool :=
  (v.drop 32).take 65 = Config.p256Public s.sec.identity &&
    leNat ((v.drop 8).take 8) = Config.radioAddress.toNat && (v.drop 16).take 16 = serialOctets

/-- A unit ID is that of another unit enrolled at the site. -/
def Security.knowsUnit (k : Security) (id : BitVec 8) : Bool :=
  k.certs.toList.any fun c => match c with
    | some v => v.getD 5 0 = id
    | none => false

/-- A certificate or the authority's key is written (R544). -/
def State.certWrite (s : State) (sub : Nat) (v : List Byte) : State :=
  let done := fun (s : State) => (s.event .certificate [sub]).answer .ok
  if sub = 2 then
    if v.length ≠ 65 then s.deny .length else done (s.setSec fun k => { k with siteAuth := some v })
  else if v.length ≠ 176 then s.deny .length
  else if !s.certOk v then s.deny .other
  else if sub = 1 then
    if s.certOwn v then done ((s.setSec fun k => { k with ownCert := some v }).noKeysCheck) else s.deny .other
  else if h : 3 ≤ sub ∧ sub ≤ 6 then
    done (s.setSec fun k => { k with certs := k.certs.set (sub - 3) (some v) (by omega) })
  else s.deny .noSub

/-- CERTIFICATE_WRITE (R544, R557). -/
def execCertificateWrite (role : Role) (sub : Nat) (v : List Byte) (s : State) : Result :=
  .next (s.asRole role .engineer fun s => s.inListening fun s => s.certWrite sub v)

end Sys2Proof.Machine
end

