-- ==== Sys2Proof/Machine/Recorder.lean ====
section
/-!
DEFINITION. The event recorder: records as octets, flushes, the ring, degraded mode and reading
(spec/18_event_recorder.md, R558 to R576).
-/
namespace Sys2Proof.Machine

/-- Changes the recorder. -/
def State.setEvr (s : State) (f : Evr → Evr) : State := { s with evr := f s.evr }

/-! ### A record as octets (R558) -/

/-- TYPE of a record (R560). -/
def RecType.value : RecType → Nat
  | .code t => t.toNat
  | .event e => e.subject.toNat * 256 + (Config.eventCode e).toNat

/-- A list cut or filled with zeros to a length. -/
def padTo (n : Nat) (l : List Byte) : List Byte := l.take n ++ List.replicate (n - l.length) 0

/-- Body octets of a record. -/
def Rec.bodyOctets (r : Rec) : List Byte :=
  match r.body, r.typ with
  | .octets l, _ => l
  | .numbers n, .event e => padTo (Config.eventBody e).val (Config.eventOctets e n)
  | .numbers _, .code _ => []

/-- Flag octet of a record (R558). -/
def Rec.flags (r : Rec) : Nat :=
  bit r.fbc + 2 * bit r.tinv + 4 * bit r.aon + 8 * bit r.degr + 16 * bit r.test + 64 * (r.sev % 4)

/-- The whole record, CRC included (R558). -/
def Rec.bytes (r : Rec) : List Byte :=
  let b := r.bodyOctets
  let l := leBytes 2 r.typ.value ++ leBytes 2 (10 + b.length) ++ leBytes 4 r.opsec.toNat ++ leBytes 3 r.pcyc.toNat ++
    leBytes 1 r.flags ++ leBytes 6 (r.stamp / 1000000000) ++ leBytes 4 (r.stamp % 1000000000) ++ b
  l ++ leBytes 4 (crc32c l).toNat

/-! ### The ring (R569 to R571) -/

/-- Octets in use in a segment, its header included (R569). -/
def Segment.used (g : Segment) : Nat := 32 + (g.recs.map Rec.size).sum

/-- Adds a record to the ring: to the head segment, or to the next one, which overwrites the oldest once all 64 are in use
(R570). -/
def Evr.ringAdd (e : Evr) (r : Rec) : Evr :=
  let fresh := fun (l : List Segment) (seq : BitVec 32) =>
    let l' := l ++ [Segment.mk seq e.ringNext [r]]
    if 64 < l'.length then l'.drop 1 else l'
  let ring := match e.ring.getLast? with
    | none => fresh [] 0
    | some g =>
      if g.used + r.size ≤ 65536 then e.ring.dropLast ++ [{ g with recs := g.recs ++ [r] }] else fresh e.ring (g.seq + 1)
  { e with ring := ring, ringNext := e.ringNext + 1 }

/-- Copies the first records of the buffer into the ring and frees them (R566, R570). -/
def Evr.copyOut (e : Evr) (n : Nat) : Evr :=
  { (e.buffer.take n).foldl Evr.ringAdd e with buffer := e.buffer.drop n }

/-- Oldest record number held (R575). -/
def Evr.oldest (e : Evr) : BitVec 32 :=
  match e.ring with
  | g :: _ => g.first
  | [] => e.ringNext

/-- Number the next record will have; those of the buffer are numbered as they will be in the ring. -/
def Evr.nextNum (e : Evr) : BitVec 32 := e.ringNext + BitVec.ofNat 32 e.buffer.length

/-- All records held, oldest first. -/
def Evr.all (e : Evr) : List Rec := e.ring.flatMap Segment.recs ++ e.buffer

/-- The cursor of a session, moved up to the oldest record when it is older or not set (R576). -/
def Evr.cursorAt (e : Evr) (c : Option (BitVec 32)) : BitVec 32 :=
  match c with
  | none => e.oldest
  | some k => if (k - e.oldest).toNat ≤ e.all.length then k else e.oldest

/-! ### Flushes (R566 to R568) -/

/-- A flush ends: its records are in the ring and freed, the counts go into MRAM (R561, R566, R567). A power-fail flush takes
in all that was committed meanwhile; a trigger that came meanwhile starts the next. -/
def Evr.flushEnd (e : Evr) (ms : Nat) : Evr :=
  match e.flush with
  | none => e
  | some f =>
    let e1 := e.copyOut (if f.power then e.buffer.length else f.count)
    let e2 := { e1 with
      flush := none, flushEndMs := ms, flushes := bump e.flushes, mramOpsec := e.opsec, mramPcyc := e.pcyc }
    if f.again then e2.startFlush false else e2

/-- The log memory fails: writing to the ring stops, LOG_FAILED stands first in the buffer, and both markers are set (R572).
`ofs` is the ring offset, `cause` 1 for a verify mismatch and 2 for an uncorrectable read. -/
def State.logFails (s : State) (ofs : BitVec 32) (cause : Nat) : State :=
  if s.evr.degr then s
  else
    let s1 := s.setEvr fun e => { e with degr := true, logFail := true, marker := true, flush := none }
    let r := s1.mkRec (.code 0x0001) 2 (.octets (leBytes 4 ofs.toNat ++ leBytes 1 cause)) 5 false
    let s2 := s1.setEvr fun e => { e with buffer := r :: e.buffer }
    (s2.setEvr fun e => e.makeRoom 0 e.buffer.length).raise 50

/-- FLUSH_COMPLETE (R567, R572): `fail` is the ring offset at which the verify read differs, if it does. -/
def execFlushComplete (fail : Option Word) (s : State) : Result :=
  match s.evr.flush, fail with
  | none, _ => .next s
  | some _, some ofs => .next (s.logFails ofs 1)
  | some _, none => .next (s.setEvr fun e => e.flushEnd s.tb5ms)

/-- FLUSH_PERIOD_EXPIRY (R566): at the management tick, 10 s after the last flush ended. -/
def execFlushPeriodExpiry (s : State) : Result :=
  let s1 := s.reachMs (s.evr.flushEndMs + 10000)
  .next (if s1.evr.flush.isSome then s1 else s1.flushLog)

/-! ### Commits through the registers (R563) -/

/-- Address of EVR (R452). -/
def evrBase : Nat := 0x40140000

/-- A master's staging copy (R563). -/
def Evr.stage (e : Evr) (m : Nat) : Staging := tabGetD {} e.staging m

/-- Changes a master's staging copy. -/
def Evr.setStage (e : Evr) (m : Nat) (x : Staging) : Evr := { e with staging := tabSet {} e.staging m x }

/-- The staged record is refused (R563). -/
def Staging.refused (x : Staging) : Bool :=
  let subj := x.typ.toNat / 256
  1014 < x.len.toNat || x.typ = 0 || subj = 0 || (x.sev = 3 && subj ≠ 0x70) || (subj = 0x70 && x.sev ≠ 3)

/-- A write of EVR_RECEND.COMMIT by a master: the status goes to its EVR_RECRES, and the body octets are consumed. -/
def State.recordCommit (s : State) (m : Nat) : State :=
  let x := s.evr.stage m
  let done := fun (s : State) (st : Status) =>
    (s.setEvr fun e => e.setStage m { x with data := [], res := st.code }).answer st
  if x.refused then done s .denied
  else
    let n := x.len.toNat
    let r := s.commitRec (s.mkRec (.code x.typ) x.sev.toNat (.octets (padTo n x.data)) n false)
    done r.1 r.2

/-- RECORD_COMMIT (R563). -/
def execRecordCommit (b : Bus) (s : State) : Result :=
  .next (s.guarded b (evrBase + 0x108) .write fun s => s.recordCommit b.id)

/-- EVR register writes (R575). -/
def State.evrWrite (s : State) (m off : Nat) (w : Word) : State :=
  match off with
  | 0x0000 => if w.getLsbD 2 then s.setEvr fun e => { e with lost := false } else s
  | 0x0008 => if w.getLsbD 0 then s.flushLog else s
  | 0x0100 =>
    let x := s.evr.stage m
    s.setEvr fun e => e.setStage m { x with
      typ := w.extractLsb' 0 16, sev := w.extractLsb' 16 2, len := w.extractLsb' 18 10 }
  | 0x0104 =>
    let x := s.evr.stage m
    s.setEvr fun e => e.setStage m { x with data := (x.data ++ leBytes 4 w.toNat).take 1016 }
  | 0x0108 => if w.getLsbD 0 then s.recordCommit m else s
  | _ => s

/-- Where a FLUSH comes from: the register or OD 0x2050:08 (R566). -/
def State.flushAsk (s : State) (x : EnableFrom) : State :=
  match x with
  | .reg b => s.guarded b (evrBase + 8) .write fun s => s.flushLog.answer .ok
  | .od role => s.asRole role .operator fun s => s.flushLog.answer .ok

/-- FLUSH (R566, R576). -/
def execFlush (from' : EnableFrom) (s : State) : Result := .next (s.flushAsk from')

/-! ### Test, repair and reading (R574, R576) -/

/-- The log test (R574). A test that passes erases the ring and copies the buffer into it. -/
def State.logTest (s : State) (passes : Bool) : State :=
  if !s.listening then s.deny .state
  else if !passes then s.deny .other
  else
    let n := s.evr.buffer.length
    let s1 := s.setEvr fun e => ({ e with
      ring := [], flush := none, degr := false, logFail := false, marker := false, failStarts := 0 }).copyOut n
    (s1.ownRec 0x0005 1 (leBytes 4 n)).answer .ok

/-- LOG_TEST (R574). -/
def execLogTest (role : Role) (passes : Bool) (s : State) : Result :=
  .next (s.asRole role .engineer fun s => s.logTest passes)

/-- A session's read of the record at its cursor: the whole record, and the cursor moves on (R576). `ecc` is the ring offset
of an uncorrectable error that the read meets (R572). -/
def State.recordRead (s : State) (slot : Fin 11) (ecc : Option Word) : State :=
  match ecc with
  | some ofs => (s.logFails ofs 2).deny .other
  | none =>
    let c := s.evr.cursorAt s.dict.sess[slot].cursor
    match s.evr.all[(c - s.evr.oldest).toNat]? with
    | none => s.answerValue []
    | some r =>
      let x := { s.dict.sess[slot] with cursor := some (c + 1) }
      ({ s with dict := { s.dict with sess := s.dict.sess.set slot x } } : State).answerValue r.bytes

/-- LOG_RECORD_READ (R576). -/
def execLogRecordRead (slot : Fin 11) (ecc : Option Word) (s : State) : Result :=
  .next (if s.dict.sess[slot].opened then s.recordRead slot ecc else s.deny .session)

/-! ### Power fail (R568, R613) -/

/-- The power-fail detector fires: interrupt source 0, the POWER_FAIL record, and a flush that runs until the buffer is
empty (R568, R613). `mv` is VIN at detection. -/
def State.powerFail (s : State) (mv : BitVec 16) : State :=
  let s1 := { s with pwr := { s.pwr with
    vinMv := mv, pfail := true, pfailNow := true, pfCnt := bump s.pwr.pfCnt, pfUp := bump s.pwr.pfUp } }
  let s2 := ((s1.raise 0).setEvr fun e => { e with pfail := true }).ownRec 0x0004 2 (leBytes 2 (mv.toNat / 100))
  s2.setEvr fun e => e.startFlush true

/-! ### Start-up (R561, R568, R571, R573) -/

/-- At start-up the counts take the higher of their copies, degraded mode is entered again where a marker says so, and
otherwise what the buffer holds goes into the ring first. -/
def State.evrStart (s : State) (vin : Bool) : State :=
  s.setEvr fun e =>
    let ops := if e.opsec < e.mramOpsec then e.mramOpsec else e.opsec
    let pc := if e.pcyc < e.mramPcyc then e.mramPcyc else e.pcyc
    let bad := e.logFail || e.marker
    let e1 := { e with opsec := ops, pcyc := if vin then pc + 1 else pc, degr := bad }
    if bad then { e1 with failStarts := e.failStarts + 1 } else e1.copyOut e1.buffer.length

/-- Life-cycle state as START carries it and OD 0x2080:01 reads. -/
def Evr.afterPowerFail (e : Evr) : Bool :=
  match e.all.getLast? with
  | some r => r.typ = .code 0x0004
  | none => false

/-- The START record, and LOG_STILL_FAILED in degraded mode (R562, R573). -/
def State.startRecord (s : State) (cause slot life : Nat) : State :=
  let pf := s.evr.afterPowerFail
  let s1 := s.ownRec 0x0003 0 (leBytes 1 cause ++ leBytes 1 slot ++ leBytes 1 life ++ leBytes 1 (bit pf))
  if s1.evr.degr then s1.ownRec 0x0006 2 (leBytes 4 s1.evr.failStarts) else s1

end Sys2Proof.Machine
end

