-- ==== Sys2Proof/Machine/States.lean ====
section
/-!
DEFINITION. Entering each device state: what every transition does, and what belongs to *Run*, *Listening* and the standby
states (spec/01_architecture.md, R26 to R30; R80, R94, R112, R134, R203, R386, R421, R618).
-/
namespace Sys2Proof.Machine

/-- Code of a device state (R26). -/
def devCode : DevState → Nat
  | .startUp => 0 | .listening => 1 | .run => 2 | .hotStandby => 3 | .warmStandby => 4 | .dormant => 5
  | .debugSession => 6

/-- Power domains on in a device state (R618): cluster 1 is off in *Warm standby*, all but PD_AON in *Dormant*. -/
def domainsOf (d : DevState) (now : BitVec 12) : BitVec 12 :=
  match d with
  | .dormant => 1
  | .warmStandby => now &&& ~~~(8#12)
  | .startUp => 0xFFF
  | _ => now ||| 8#12

/-- Changes the pair part. -/
def State.setPair (s : State) (f : Pair → Pair) : State := { s with pair := f s.pair }

/-- Sets ELIGIBLE; ARM follows it in a standby (R360, R372). -/
def State.setEligible (s : State) (v : Bool) : State :=
  let s1 := if s.dev.eligible = v then s else s.event .eligibility [bit v]
  ({ s1 with dev := { s1.dev with eligible := v } } : State).setPair fun p =>
    if s.standby then { p with arm := v } else p

/-- The cores of cluster 1 are in reset without PD_CPU1 (R618). -/
def State.clusterDown (s : State) : State :=
  { s with cores := { s.cores with
      core := s.cores.core.mapFinIdx fun i (c : Core') _ => if 8 ≤ i then { running := c.running } else c } }

/-- A device state is entered: its record, and what follows the state whatever it is (R26, R80, R94, R112, R134, R618). -/
def State.devTo (s : State) (d : DevState) : State :=
  let old := s.dev.dstate
  let s0 := s.event .stateChange [devCode old, devCode d, s.dev.cause.toNat]
  let s1 := { s0 with
    dev := { s0.dev with dstate := d, target := none, lineDown := false, startWith := none }
    pwr := { s0.pwr with pdStat := domainsOf d s0.pwr.pdStat, pdReq := domainsOf d s0.pwr.pdReq } }
  let s2 := if d = .warmStandby then { s1.clusterDown with gbb := { s1.gbb with burst := true } }
    else if old = .warmStandby then { s1 with gbb := { s1.gbb with burst := false } }
    else s1
  let s3 := if s2.transmits then s2 else s2.sessionsClose
  let s4 := if old = .listening && d ≠ .listening then s3.surveysEnd else s3
  if old = .warmStandby && d ≠ .warmStandby then s4.teaselStart else s4.teaselResume

/-- A block is asked ON if it is OFF, as the device state machine does on the way into a state (R30, R596). -/
def State.askOn (s : State) (k : BlockId) : State := (s.enableOn k).1

/-- A block is asked OFF if the rules allow it now (R44). -/
def State.askOff (s : State) (k : BlockId) : State :=
  if (s.offRefused k).isSome && (s.ctl k).st = .on then s else (s.enableOff k).1

/-- *Listening* is entered. A unit that comes from a standby state is no standby any more. -/
def State.enterListening (s : State) : State :=
  ((s.devTo .listening).setEligible false).setPair fun p => { p with
    arm := false, snapAwait := false, buffered := [], window := false, windowT := none }

/-- *Run* is entered: members are watched anew, the NTRIP session opens, and CRE and the radios come on (R112, R203). -/
def State.enterRun (s : State) : State :=
  let s1 := ((s.devTo .run).membersRun).ntripOpen
  ((s1.askOn .cre).askOn .fra).askOn .frb

/-- *Run* is entered with no claim from a standby state: the CRE evaluates requests (R383 keeps RECON otherwise). -/
def State.enterRunFresh (s : State) : State :=
  let s1 := s.enterRun
  { s1 with cre := { s1.cre with recon := false } }

/-! ### Standby states (R386, R421) -/

/-- What a node record keeps when a standby empties its copies: what enrolment and the keys gave it. -/
def Node.emptied (x : Node) : Node :=
  { enrolled := x.enrolled, wake := x.wake, tx := x.tx, rx := x.rx }

/-- What a member record keeps: its enrolment. -/
def Member.emptied (x : Member) : Member :=
  { enrolled := x.enrolled, identity := x.identity, cls := x.cls
    st := if x.st = .retired then .retired else .unknown }

/-- The reservation table and the corridor directory emptied as PD_CRE off and on leaves them (R386, R619). -/
def Cre.emptied (c : Cre) : Cre :=
  { c with resv := [], corrs := [], nextId := 1, results := [], members := [], recon := true }

/-- A state of copies that nobody has streamed yet (R386). -/
def State.emptyCopies (s : State) : State :=
  { s with
    fleet := { s.fleet with
      tasks := [], tfcs := [], members := s.fleet.members.map fun (p : Nat × Member) => (p.1, p.2.emptied) }
    frames := { s.frames with
      asm := [], decided := [], due := [], nodes := s.frames.nodes.map fun (p : Nat × Node) => (p.1, p.2.emptied) }
    cre := s.cre.emptied }

/-- An axis goes into shadow: it reads OFF, and its outputs are those of an OFF axis (R421). -/
def State.shadowOn (s : State) (n : Fin 8) : State :=
  let a := s.axis n
  s.setAxis n { (a.setMo fun m => { m with
      vel := 0, acc := 0, v := 0, motion := .rest, mode := .position, gear := none, armed := none, homing := none }) with
    ctl := { a.ctl with st := .off, enable := false, enPend := false }, drvEn := false, cmd := none, shadow := true
    shOffset := 0, shOffsets := [], shAligned := false, shRec := none }

/-- Every axis goes into shadow, and the CLE is OFF (R421). -/
def State.allShadow (s : State) : State :=
  let s1 := (List.finRange 8).foldl (fun s n => s.shadowOn n) s
  (s1.setCtl .cle fun c => { c with st := .off, enable := false, enPend := false }).cleOff

/-- The configured standby state (R391). -/
def State.standbyMode (s : State) : DevState := if s.od 0x8000 2 0 = 1 then .warmStandby else .hotStandby

/-- A standby state is entered other than by SWAP: not eligible, no pair state (R30, R386). The CRE comes ON again with
RECON = 1. -/
def State.enterStandby (s : State) : State :=
  let s1 := ((s.devTo s.standbyMode).setEligible false).emptyCopies
  let s2 := s1.setCtl .cre fun c => { c with st := .off, enPend := false }
  let s3 := (((s2.askOn .cre).askOn .frb).askOn .fra).allShadow
  s3.setPair fun p => { p with
    snapAwait := false, buffered := [], snapDone := false, deltasOk := 0, heard := [], acksHeard := [], repochHeard := none
    phase := [], aligned := false, window := false, windowT := none }

end Sys2Proof.Machine
end

