-- ==== Sys2Proof/Machine/StartUp.lean ====
section
/-!
DEFINITION. Start-up (spec/20_startup_calibration.md): what a start finds in place, the stages from the boot ROM to the
instant at which the dictionary answers, which one start command takes, and the end of *Start-up*, which a management tick
takes (R24, R596).
-/
namespace Sys2Proof.Machine

/-! ### What a start finds in place (R594, R665) -/

/-- A record of a list kept through a start-up, less the entries that hold nothing more. -/
def keptTab {α : Type} [DecidableEq α] (d : α) (f : α → α) (t : List (Nat × α)) : List (Nat × α) :=
  (t.map fun p => (p.1, f p.2)).filter fun p => p.2 ≠ d

/-- Member records at a start-up: what enrolment gives, with *Retired* kept (R200). -/
def State.membersKept (s : State) : List (Nat × Member) :=
  s.sec.members.foldl (fun t (m : EnrolMember) => tabPut t m.id
    { enrolled := true, identity := m.addr.toNat, cls := m.cls, role := BitVec.ofNat 5 m.role.toNat
      st := if (s.member m.id).st = .retired then .retired else .unknown }) []

/-- A node's record at a start-up: its enrolment, its schedule, and its counters as committed (R289, R666). -/
def Node.kept (x : Node) : Node :=
  { enrolled := x.enrolled, e := x.e, phase := x.phase, ackMode := x.ackMode, newSched := x.newSched, wake := x.wake
    rx := x.rx, tx := { next := x.tx.committed, committed := x.tx.committed, exhausted := x.tx.committed = 0xFFFFFFFF } }

/-- Frames and counters at a start-up (R289, R666). -/
def State.framesKept (s : State) : Frames :=
  { group := s.frames.group
    links := keptTab {} (fun (l : MemberLink) => { rxEnrol := l.rxEnrol }) s.frames.links
    nodes := keptTab {} Node.kept s.frames.nodes }

/-- The corridor engine at a start-up: the map store, and where PD_CRE stayed powered the reservations (R161, R665). -/
def State.creKept (s : State) (cold : Bool) : Cre :=
  let c : Cre := { store := { stored := s.cre.store.stored }, classes := s.cre.classes }
  if cold then { c with classes := Vector.replicate 16 {} }
  else { c with resv := s.cre.resv, corrs := s.cre.corrs, nextId := s.cre.nextId }

/-- Non-volatile fields of keys, enrolment and life cycle, and those of PD_AON (R541 to R547, R550, R555). -/
def State.secKept (s : State) : Security :=
  let k := s.sec
  { deploy := k.deploy, decom := k.decom, returns := k.returns, kwk := k.kwk, nor := k.nor, commits := k.commits
    groupTx := k.groupTx, ownCert := k.ownCert, siteAuth := k.siteAuth, certs := k.certs, members := k.members
    nodes := k.nodes, tamperEvents := k.tamperEvents, tmp := k.tmp }

/-- The lanes at a start-up: the zone records in MRAM, the count of exclusions, and the levels at the balls (R220, R253). -/
def State.safKept (s : State) : Saf :=
  { lanes := s.saf.lanes.map fun l => { zoneRec := l.zoneRec, zoneOk := l.zoneOk }
    nExcl := s.saf.nExcl
    estA := { raw := s.saf.estA.raw }, estB := { raw := s.saf.estB.raw } }

/-- The recorder at a start-up: PD_AON, the ring and what stands in MRAM (R561, R565, R569). -/
def State.evrKept (s : State) : Evr :=
  let e := s.evr
  { buffer := e.buffer, ring := e.ring, ringNext := e.ringNext, lostCnt := e.lostCnt, lostRun := e.lostRun
    logFail := e.logFail, marker := e.marker, failStarts := e.failStarts, opsec := e.opsec, opTicks := e.opTicks
    pcyc := e.pcyc, mramOpsec := e.mramOpsec, mramPcyc := e.mramPcyc }

/-- PD_AON's time of a permit's SFD, ns, by the age the SFD has (R585). -/
def State.fbcAgo (s : State) (sfd : Nat) : Nat := s.tim.fbc.t / nsUnit - (s.tb4ns - sfd)

/-- The update logic at a start-up: slots, store areas and what the boot area holds. While an activation waits for its first
start, the last permit of the old image is noted (R585). -/
def State.updKept (s : State) : Upd :=
  let u := s.upd
  let permit := match u.migrate, s.fra.lastPermit with
    | some _, some p => some (s.fbcAgo p.2)
    | some _, none => none
    | none, _ => u.lastPermit
  { slot := u.slot, pref := u.pref, trial := u.trial, tcount := u.tcount, winEnd := u.winEnd, rolledBack := u.rolledBack
    run := u.run, svFuse := u.svFuse, area := u.area, ready := u.ready, readyVer := u.readyVer
    dl := if u.ready.isSome then .stored else .none, migrate := u.migrate, pauseMs := u.pauseMs, lastPermit := permit }

/-- An axis at a start-up: where PD_MOT stayed powered, its counters and positions (R665). -/
def Axis.kept (a : Axis) : Axis :=
  let m := a.mo
  { mo := { enc := m.enc, step := m.step, pos := m.pos, cpos := m.cpos, cposF := m.cposF, phase := m.phase, dir := m.dir
            ofs := m.ofs } }

/-- Axes and loops at a start-up (R665). -/
def State.motKept (s : State) (cold : Bool) : Motor :=
  if cold then {} else { axis := s.mot.axis.map Axis.kept, menc := s.mot.menc, mencErr := s.mot.mencErr }

/-- Bytes of MRAM and NOR, the only memory whose contents a start-up keeps in this model. -/
def Mem.kept (m : Mem) : Mem :=
  { bytes := m.bytes.filter fun c => (0x10000000 ≤ c.1 && c.1 ≤ 0x107FFFFF) || (0x20000000 ≤ c.1 && c.1 ≤ 0x23FFFFFF) }

/-- Supplies at a start-up: levels, and what PD_AON holds (R613, R632). -/
def State.pwrKept (s : State) : Pwr :=
  let p := s.pwr
  { vinOk := true, vbatOk := p.vbatOk, vstopOk := p.vstopOk, pfThr := p.pfThr, vinMv := p.vinMv, vbatMv := p.vbatMv
    vstopMv := p.vstopMv, pfCnt := p.pfCnt, pllLock := true }

/-- What remains of the unit when a start-up begins: `cold` when every domain but PD_AON lost power (R594, R665). What
the model adds for itself goes on. -/
def State.unpowered (s : State) (cold : Bool) : State :=
  { pending := s.pending, out := s.out, ans := s.ans, free := s.free
    dev := { powered := true }
    dict := { half := s.dict.half, halfUsed := s.dict.halfUsed }
    sec := s.secKept
    fleet := { epochStored := s.fleet.epochStored, members := s.membersKept }
    frames := s.framesKept, cre := s.creKept cold, saf := s.safKept, evr := s.evrKept, upd := s.updKept
    mot := s.motKept cold, mem := s.mem.kept, pwr := s.pwrKept
    tim := { fbc := { s.tim.fbc with clkFail := false } }
    corr := { source := s.corr.source }
    tsl := { baseSet := s.tsl.baseSet }
    pair := { holdIn := s.pair.holdIn }
    start := { wdcnt := s.start.wdcnt, pairPosBall := s.start.pairPosBall, testenBall := s.start.testenBall
               ramps := s.start.ramps }
    dbg := if cold then {} else { ir := s.dbg.ir, dr := s.dbg.dr, cells := s.dbg.cells } }

/-! ### Stages up to the START record (R596) -/

/-- Time error that PD_AON carries: the stored estimate, and Y_F for the time since the last load (R338). -/
def Fbc.error (f : Fbc) : Option Nat :=
  if f.valid then
    f.te.map fun e => e + ((f.t - f.loadAt) / nsUnit * f.yf + 9999999) / 10000000
  else none

/-- The bases are initialised (R338), and the cycle number with them (R17). -/
def State.basesInit (s : State) : State :=
  let f := s.tim.fbc
  let t := if f.valid then f.t else 0
  let t4 := if f.valid then ((f.t : Int) + f.t4ofs.toInt * nsUnit).toNat else 0
  let b0 : Base := { s.tb 0 with t := t, te0 := f.error }
  let b4 : Base := { s.tb 4 with t := t4, te0 := f.error }
  let s1 := ({ s with tim := { s.tim with
      base := #v[b0, s.tb 1, s.tb 2, s.tb 3, b4], leap := s.odInt 0x4000 1 37 } } : State).domainsFromOd
  let ms := s1.tb4ms
  { s1 with dev := { s1.dev with
      cycle := cycleOf ms, lastBoundary := ms / 50 * 50 } }

/-- Self-test results (R600): bits 0 to 4, and 5 FCAL and 6 DDR. -/
def failBits (x : StartInput) : BitVec 8 :=
  x.fails.setWidth 8 ||| BitVec.ofNat 8 (32 * bit (!x.fcal) + 64 * bit x.ddr)

/-- A lane memory fails, or LANE (R601). -/
def laneFails (x : StartInput) : Bool := x.fails.getLsbD 1 || (x.fails.getLsbD 0 && x.laneMem)

/-- Results of the self-test in force, the cause SELFTEST, and one record per failing test (R600, R601). -/
def State.selfTested (s : State) (x : StartInput) : State :=
  let units := (x.units &&& 0xFFFF0000#32) ||| (if x.fails.getLsbD 0 then x.banks.setWidth 32 else 0)
  let s1 := { s with start := { s.start with fail := failBits x, done := 0x1F, units := units, fcal := x.fcal } }
  let held := s1.mem.bank.mapFinIdx fun i (b : Bank) _ =>
    if x.fails.getLsbD 0 && x.banks.getLsbD i then { b with st := .off, pwr := 0 } else b
  let s2 := { s1 with mem := { s1.mem with bank := held } }
  let rec' := fun (s : State) (i : Nat) =>
    if (failBits x).getLsbD i then s.event .selfTestFailed [i, units.toNat] else s
  if failBits x = 0 then s2 else ((List.range 7).foldl rec' s2).setCause 0

/-- The lanes begin: SF1 as configured, SF2 from the zone records, the configuration adopted (R220, R254, R601, R602). -/
def State.lanesBegin (s : State) (x : StartInput) : State :=
  let c := s.safCfgOd
  let s1 := (s.safCfgPlace c).safCfgAdopt c
  let zones := s1.saf.lanes.toList.foldl (fun (z : BitVec 16) (l : Lane) => if l.zoneOk then z ||| l.zoneRec else z) 0
  if laneFails x then s1.setSaf fun k => { k with safe := true, sf1 := .awaiting, sf2 := 0 }
  else s1.setSaf fun k => { k with
    sf1 := if c.sf1Clear then .clear else .awaiting, sf2 := zones, lastCycle := s.dev.cycle, boundaryAt := some s.tb5ns }

/-- Causes that the stored state gives: tamper and life cycle (R28, R29). A decommissioned unit erases its stored keys
(R548). -/
def State.storedCauses (s : State) : State :=
  let s1 := if s.sec.tmp.tampered then s.setCause 1 else s
  let s2 := if s1.sec.lifeCycle = .decommissioned then s1.setSec fun k => { k with nor := [], commits := [] } else s1
  if s2.sec.lifeCycle = .deployed then s2 else s2.setCause 4

/-- Records of the boot (R587, R589, R646). -/
def State.bootRecords (s : State) (old : Upd) : State :=
  let s1 := if s.upd.fallback then s.event .slotFallback [s.upd.run.val] else s
  let s2 := if old.trial && s.upd.rolledBack then s1.event .rolledBack [s.upd.run.val] else s1
  if s2.start.testenBall && s2.sec.lifeCycle ≠ .manufacturing then s2.event .testenHigh [] else s2

/-- Role epoch, members' classes and the nodes' wake addresses at a start-up (R192, R196, R667). -/
def State.fleetBegin (s : State) : State :=
  let e := s.fleet.epochStored + 1
  let s1 := { s with fleet := { s.fleet with roleEpoch := e, epochStored := e } }
  s1.sec.members.foldl (fun (s : State) (m : EnrolMember) =>
    { s with cre := s.cre.setMember m.id { s.cre.member m.id with cls := m.cls } }) s1

/-- A fresh nonce of the debug challenge (R655). -/
def State.newNonce (s : State) : State :=
  let a := s.takeFree
  let b := a.2.takeFree
  { b.2 with dbg := { b.2.dbg with
      chal := some (serialOctets ++ leBytes 8 a.1.toNat ++ leBytes 8 b.1.toNat) } }

/-- The strap is sampled (R644), and with it the settings that stand on it. -/
def State.strap (s : State) : State := s.setPair fun p => { p with pos := s.start.pairPosBall }

/-- The boot ROM service loader alone (R599, R604). -/
def State.loaderOnly (s : State) (wdog : Bool) : State :=
  let s1 := { s with start := { s.start with
      loader := true, answers := true, fail := if wdog then 0x80 else 0, wdcnt := 0, input := none
      startT := BitVec.ofNat 32 s.tb5ms } }
  ((s1.setCause 0).storedCauses).devTo .listening

/-- The stages from the boot ROM to the START record (R596): slot, self-test, settings, time, keys, record. -/
def State.bootStages (s : State) (x : StartInput) : State :=
  let old := s.upd
  let s1 := (s.setUpd Upd.boot).strap.newNonce
  if !s1.upd.slotOk s1.upd.run then s1.loaderOnly false
  else
    let s2 := (s1.settingsHalf.setUpd fun u => { u with migrate := none }).settingsLoad.fromOd
    let s3 := (((s2.bootMicrocode.basesInit.selfTested x).storedCauses).keysChoose).fleetBegin
    let s4 := (s3.lanesBegin x).startRecord (match s3.start.cause with
      | .vin => 0 | .dormantWake => 1 | .restart => 2 | .watchdog => 3) s3.upd.run.val s3.sec.lifeCycle.code
    let s5 := s4.bootRecords old
    { s5 with start := { s5.start with answers := true, input := some x } }

/-! ### A start (R594, R599, R626) -/

/-- The root PLL has locked: TB5 starts from PD_AON's count of crystal ticks (R595). -/
def State.clocked (s : State) (x : StartInput) : State :=
  let s1 := s.sleep x.xtal
  { s1 with tim := { s1.tim with ticks := x.xtal * fbcTick / 32 } }

/-- A start-up from the lock of the root PLL on. The fourth consecutive watchdog start stops at the boot ROM (R599). -/
def State.startLocked (s : State) (cause : StartCause) (x : StartInput) : State :=
  let wd := if cause = .watchdog then s.start.wdcnt + 1 else s.start.wdcnt
  let s1 := (s.clocked x).evrStart (cause = .vin)
  let s2 := { s1 with start := { s1.start with cause := cause, wdcnt := min wd 3, ramps := 0 } }
  if cause = .watchdog && s.start.wdcnt = 3 then (s2.setUpd Upd.boot).loaderOnly true else s2.bootStages x

/-- A start whose PMIC ramp found no lock: one ramp more, and after the third a record and a wait (R626). -/
def State.rampFailed (s : State) (cause : StartCause) : State :=
  let n := s.start.ramps + 1
  let s1 := { s with
    pwr := { s.pwr with pllLock := false, pdStat := if n < 3 then 0xFFF else 1 }
    start := { s.start with cause := cause, ramps := n, retry := 3 ≤ n } }
  if n = 3 then s1.eventAon .pllFailed [n] else s1

/-- A start-up begins: `cold` with the PMIC ramp of every domain but PD_AON (R594). -/
def State.startUp (s : State) (cause : StartCause) (cold : Bool) (x : StartInput) : State :=
  let s1 := s.unpowered cold
  if cold && !x.lock then s1.rampFailed cause else s1.startLocked cause x

/-! ### The end of *Start-up* (R30, R596 to R602) -/

/-- The map store is reloaded and validated; kept reservations stay (R161, R665). -/
def State.mapReload (s : State) : State :=
  match s.cre.store.stored with
  | some img =>
    if mapCheck img = 0 && !s.start.fail.getLsbD 6 then
      let m := mapOf img
      let s1 := s.setStore fun k => { k with inStore := true }
      { s1 with
        mem := s1.mem.write s1.cre.mapBase.toNat img
        cre := { s1.cre with map := some m, mapCells := BitVec.ofNat 21 m.cells.length } }
    else (s.setStore fun k => { k with result := BitVec.ofNat 8 (mapCheck img) }).setCause 2
  | none => s.setCause 2

/-- The Fleet module of the running image, when it carries one. -/
def State.fleetModule (s : State) : Option (List Byte) :=
  match s.upd.slot[s.upd.run] with
  | some x => ((imgModules x.octets).find? fun m => m.1 = 3).map (imgOctets x.octets)
  | none => none

/-- The module's entry table keeps its rules (R468). -/
def moduleOk (l : List Byte) : Bool :=
  let n := imgAt l 0 4
  l.length ≤ 16777216 && 1 ≤ n && n ≤ 1024 && 4 + 4 * n ≤ l.length &&
    (List.range n).all fun i => 0xA0000000 ≤ imgAt l (4 + 4 * i) 4 && imgAt l (4 + 4 * i) 4 ≤ 0xA0FFFFFF

/-- The Fleet world at a start-up, and the application cores released from reset (R448, R468). -/
def State.fleetLoad (s : State) : State :=
  let world : FleetWorld × List Byte :=
    if s.cores.fleet = 0 then (.noCore, [])
    else match s.fleetModule with
      | none => (.absent, [])
      | some l => if moduleOk l && !s.start.fail.getLsbD 6 then (.running, l) else (.refused, [])
  let runs := world.1 = .running
  let core := s.cores.core.mapFinIdx fun i (c : Core') _ =>
    { c with running := runs || !(12 ≤ i && i ≤ 14 && s.cores.fleet.getLsbD (i - 12)) }
  { s with
    mem := if runs then s.mem.write 0xA0000000 world.2 else s.mem
    cores := { s.cores with
      core := core, world := world.1, entries := BitVec.ofNat 16 (if runs then imgAt world.2 0 4 else 0) } }

/-- Blocks that a start-up enables (R596). -/
def State.blocksBegin (s : State) : State :=
  let s1 := ((((s.askOn .grf).askOn .gbb).askOn .eth0).askOn .eth1).askOn .cre
  let can := fun (s : State) (k : BlockId) (idx : Nat) => if s.od idx 1 1 = 1 then s.askOn k else s
  let s2 := can (can s1 .can0 0x1FF1) .can1 0x1FF2
  let s3 := (s2.askOn .fra).askOn .frb
  if s3.dev.paired then s3.askOn .pair else s3

/-- The window of a trial begins with the end of the image's first start-up (R587). -/
def State.trialWindow (s : State) : State :=
  if s.upd.trial && s.upd.winEnd.isNone then
    s.setUpd fun u => { u with winEnd := some (s.evr.opsec.toNat + 60 * s.od 0x2060 7 10) }
  else s

/-- Transition out of *Start-up*, or out of *Listening* by RUN, with no cause of *Listening*: *Run*, a standby state, or
in a pair the wait for the claim (R30, R360). -/
def State.enterService (s : State) : State :=
  if !s.dev.paired then s.enterRunFresh
  else
    let s1 := s.setPair fun p => { p with arm := true }
    if s1.pair.holdIn then s1.enterStandby
    else { s1 with dev := { s1.dev with target := some .run } }

/-- *Debug session* is entered (R27, R30, R657). -/
def State.enterDebug (s : State) : State := s.devTo .debugSession

/-- *Start-up* ends (R596): map, Fleet module, blocks, and the transition of R30. -/
def State.startEnd (s : State) : State :=
  let s1 := (((s.mapReload).fleetLoad).blocksBegin).trialWindow
  let s2 := if s1.od 0x2010 4 1 = 0 then s1.setCause 6 else s1
  let s3 := { s2 with start := { s2.start with
      input := none, wdcnt := 0, startT := BitVec.ofNat 32 s2.tb5ms } }
  let s4 := if s3.start.fail = 0 then s3 else s3.emcyAllOn .selfTest .selfTestFailed
  if s4.dbg.enabled then s4.enterDebug
  else if s4.dev.cause ≠ 0 then s4.enterListening
  else s4.enterService

/-- A start-up whose offset has come ends, at a management tick (R24). -/
def State.startTick (s : State) : State :=
  match s.start.input with
  | some x => if s.dev.dstate = .startUp && x.ms ≤ s.tb5ms then s.startEnd else s
  | none => s

/-- A level of VBAT, mV, lies within its range (R616, R632). -/
def vbatFits (mv : BitVec 16) : Bool := 1800 ≤ mv.toNat && mv.toNat ≤ 3800

/-- VIN_VALID (R594): a unit that has power already is left as it is. `vbat` is the level at VBAT. -/
def execVinValid (mv vbat : BitVec 16) (x : StartInput) (s : State) : Result :=
  if s.dev.powered then .next s
  else .next (({ s with pwr := { s.pwr with
    vinOk := true, vinMv := mv, vbatMv := vbat, vbatOk := vbatFits vbat } } : State).startUp .vin true x)

/-- The start that follows a failed ramp has the cause of the start that failed. -/
def State.rampAgain (s : State) (x : StartInput) : State := s.startUp s.start.cause true x

/-- PLL_LOCK_TIMEOUT (R626): the PMIC ramp is repeated while fewer than three have failed. -/
def execPllLockTimeout (x : StartInput) (s : State) : Result :=
  if s.dev.powered && s.dev.dstate = .startUp && !s.pwr.pllLock && !s.start.retry then .next (s.rampAgain x) else .next s

/-- START_UP_RETRY (R626): 10 s of the crystal after the third failed ramp, the whole start-up is tried again. -/
def execStartUpRetry (x : StartInput) (s : State) : Result :=
  if s.start.retry then
    let s1 := s.sleep 327680
    .next (({ s1 with start := { s1.start with ramps := 0, retry := false } } : State).rampAgain x)
  else .next s

end Sys2Proof.Machine
end

