-- ==== Sys2Proof/Machine/Device.lean ====
section
/-!
DEFINITION. The device state machine (spec/01_architecture.md R26 to R37): the stop sequence that leaves *Run*, *Dormant*
and its wakes, the state commands, and the enables of blocks (R38 to R44).
-/
namespace Sys2Proof.Machine

/-! ### Disabling blocks for a transition (R31, R44, R419) -/

/-- Blocks that a transition disables, CRE ahead of the axes and these ahead of the CLE (R419, R42). *Listening* keeps what
R603 leaves working. -/
def blocksFor (d : DevState) : List BlockId :=
  let motion := BlockId.cre :: (List.finRange 8).map BlockId.mot ++ [.cle]
  match d with
  | .listening => motion
  | _ => motion ++ [.fra, .frb, .gbb, .grf, .eth0, .eth1, .can0, .can1, .pair]

/-- Every block of a list reads OFF. -/
def State.allOff (s : State) (l : List BlockId) : Bool := l.all fun k => (s.ctl k).st = .off

/-- Each block of a list that does not shut down yet is asked to, as far as the rules allow it now. -/
def State.askAllOff (s : State) (l : List BlockId) : State :=
  l.foldl (fun s k => if (s.ctl k).st = .on || (s.ctl k).st = .starting then s.askOff k else s) s

/-! ### *Dormant* (R30, R33) -/

/-- *Dormant* is entered: its record, then every domain but PD_AON loses power. -/
def State.enterDormant (s : State) : State :=
  let delay := s.od 0x2010 6 0
  let addr := BitVec.ofNat 16 (s.od 0x5100 3 1)
  let s1 := (s.devTo .dormant).unpowered true
  { s1 with
    pwr := { s1.pwr with pllLock := false, pdStat := 1, pdReq := 1 }
    dev := { s1.dev with
      dstate := .dormant, wakeAddr := addr
      wakeAt := if delay = 0 then none else some (s1.tim.fbc.t / nsUnit + delay * 1000000000) } }

/-- DORMANT_WAKE_DELAY_EXPIRY (R33): the FBC reaches the end of the delay. -/
def execDormantWakeDelayExpiry (x : StartInput) (s : State) : Result :=
  match s.dev.dstate, s.dev.wakeAt with
  | .dormant, some t =>
    let f := s.tim.fbc
    let k := ((t - f.t / nsUnit) * nsUnit + f.inc - 1) / f.inc
    .next ((s.sleep k).startUp .dormantWake true x)
  | _, _ => .next s

/-- WAKE_UP_CALL (R313, R599): in any state but *Dormant* it is ignored. -/
def execWakeUpCall (addr : BitVec 16) (crcOk : Bool) (x : StartInput) (s : State) : Result :=
  if s.dev.dstate = .dormant && crcOk && addr = s.dev.wakeAddr then .next (s.startUp .dormantWake true x) else .next s

/-! ### The stop sequence (R31) -/

/-- Where a transition ends. -/
def State.arrive (s : State) (d : DevState) : State :=
  match d, s.dev.startWith with
  | .startUp, some c => s.startUp c.1 false c.2
  | .dormant, _ => s.enterDormant
  | _, _ => s.enterListening

/-- Steps 2 to 4 of R31: STOP_OUT loses its keep-alive, the permit gate closes, in a pair the hold is released, and the
recorder is flushed. -/
def State.stopLines (s : State) : State :=
  let s1 := s.setSaf fun k => { k with keepAlive := false, gate := false }
  let s2 := if s1.pair.paired then s1.holdRelease else s1
  ({ s2 with dev := { s2.dev with lineDown := true } } : State).flushLog

/-- A transition in progress goes as far as it can: the burst first, then the lines, then the blocks, then the new state. -/
def State.leaveAdvance (s : State) : State :=
  match s.dev.target with
  | none => s
  | some d =>
    if s.dev.dstate = .run && s.fra.burst.isSome then s
    else
      let s1 := if s.dev.dstate = .run && !s.dev.lineDown then s.stopLines else s
      let s2 := s1.askAllOff (blocksFor d)
      if s2.allOff (blocksFor d) then s2.arrive d else s2

/-- *Run* is left for a state other than a standby state: the stop burst is raised (R31). -/
def State.leaveRun (s : State) (d : DevState) (w : Option (StartCause × StartInput)) : State :=
  let s1 := s.burstRequest { s.saf.word with stop := true }
  ({ s1 with dev := { s1.dev with target := some d, startWith := w } } : State).leaveAdvance

/-- A standby gives up its eligibility first (R32), and its axes leave shadow. -/
def State.leaveStandby (s : State) : State :=
  let s1 := s.setEligible false
  { s1 with mot := { s1.mot with axis := s1.mot.axis.map fun a => { a with shadow := false } } }

/-- A transition from any other state: blocks are disabled, then the new state. -/
def State.leaveOther (s : State) (d : DevState) : State :=
  let s1 := if s.standby then s.leaveStandby else s
  ({ s1 with dev := { s1.dev with target := some d } } : State).leaveAdvance

/-- A swap has been accepted and the hold is not released yet (R388). -/
def State.swapping (s : State) : Bool := s.pair.swapAsk || s.pair.swap.isSome

/-- A swap that cannot go on is given up: requests are evaluated again. -/
def State.swapDrop (s : State) : State :=
  let s1 := s.setPair fun p => { p with swapAsk := false, swap := none }
  { s1 with cre := { s1.cre with recon := false }, dev := { s1.dev with target := none } }

/-- Transitions that a cause of *Listening* forces (R29). -/
def State.causeActs (s : State) : State :=
  if s.dev.cause = 0 then s
  else match s.dev.dstate, s.dev.target with
    | .run, none => s.leaveRun .listening none
    | .run, some _ => if s.swapping then (s.swapDrop).leaveRun .listening none else s
    | .hotStandby, none => s.leaveOther .listening
    | .warmStandby, none => s.leaveOther .listening
    | .startUp, some .run => s.enterListening
    | .listening, some .run =>
      ({ s with dev := { s.dev with target := none } } : State).setPair fun p => { p with arm := false }
    | _, _ => s

/-- What the device state machine does at a management tick (R24): a start-up ends, a cause acts, a transition goes on. -/
def State.stateTick (s : State) : State :=
  let s1 := s.startTick.causeActs
  match s1.dev.target with
  | some .run => s1
  | _ => if s1.swapping then s1 else s1.leaveAdvance

/-! ### State commands (R30, R36, R37) -/

/-- Checks that every state command meets: role, whether anything answers, a transition in progress, and *Start-up*. -/
def State.stateCmd (s : State) (role : Role) (restart : Bool) (f : State → State) : State :=
  if !s.start.answers then s
  else if s.start.loader then s.deny .noIndex
  else s.asRole role .engineer fun s =>
    if s.dev.target.isSome then s.answer .busy
    else if s.dev.dstate = .startUp && !restart then s.answer .busy
    else f s

/-- RUN (R29, R30): in *Listening*, with no cause left but COMMANDED. -/
def State.cmdRun (s : State) : State :=
  if s.listening && s.dev.cause &&& 0xBF = 0 then ((s.clearCause 6).answer .ok).enterService else s.deny .state

/-- RUN (R30). -/
def execRun (role : Role) (s : State) : Result := .next (s.stateCmd role false State.cmdRun)

/-- LISTEN (R30): the cause COMMANDED is set, and the unit leaves for *Listening*. -/
def State.cmdListen (s : State) : State :=
  match s.dev.dstate with
  | .run => ((s.setCause 6).answer .ok).leaveRun .listening none
  | .hotStandby => ((s.setCause 6).answer .ok).leaveOther .listening
  | .warmStandby => ((s.setCause 6).answer .ok).leaveOther .listening
  | _ => s.deny .state

/-- LISTEN (R30, R32). -/
def execListen (role : Role) (s : State) : Result := .next (s.stateCmd role false State.cmdListen)

/-- DORMANT (R30). -/
def State.cmdDormant (s : State) : State :=
  match s.dev.dstate with
  | .run => (s.answer .ok).leaveRun .dormant none
  | .listening => (s.answer .ok).leaveOther .dormant
  | .hotStandby => (s.answer .ok).leaveOther .dormant
  | .warmStandby => (s.answer .ok).leaveOther .dormant
  | _ => s.deny .state

/-- DORMANT (R30, R32, R33). -/
def execDormant (role : Role) (s : State) : Result := .next (s.stateCmd role false State.cmdDormant)

/-- A restart with cause RESTART, from *Run* through the stop sequence (R30, R594). -/
def State.restart (s : State) (x : StartInput) : State :=
  if s.dev.dstate ≠ .run then s.startUp .restart false x
  else if s.dev.target.isSome then { s with dev := { s.dev with target := some .startUp, startWith := some (.restart, x) } }
  else s.leaveRun .startUp (some (.restart, x))

/-- RESTART (R30, R599). -/
def execRestart (role : Role) (x : StartInput) (s : State) : Result :=
  .next (s.stateCmd role true fun s => (s.answer .ok).restart x)

/-- A Vendor-world core is halted by the debugger: the watchdog does not count (R660). The security core runs Vendor code. -/
def State.vendorHalted (s : State) : Bool :=
  s.dbg.hart[16].halted || (List.finRange 16).any fun k => s.cores.core[k].halted && s.cores.worldOf k = 0

/-- WATCHDOG_EXPIRY (R31, R599): a watchdog that fires in a way that stops the security core starts the unit at once. In
*Dormant* and without power no watchdog runs. -/
def execWatchdogExpiry (stopsCore : Bool) (x : StartInput) (s : State) : Result :=
  if !s.dev.powered || s.dev.dstate = .dormant || !s.pwr.pllLock || s.vendorHalted then .next s
  else if s.dev.dstate = .run && !stopsCore then
    if s.dev.target.isSome then .next { s with dev := { s.dev with target := some .startUp, startWith := some (.watchdog, x) } }
    else .next (s.leaveRun .startUp (some (.watchdog, x)))
  else .next (s.startUp .watchdog false x)

/-- The standby mode changes between *Hot* and *Warm* (R30): to *Warm* eligibility stays, to *Hot* it waits for phase
alignment. -/
def State.standbySwitch (s : State) (warm : Bool) : State :=
  match s.dev.dstate, warm with
  | .hotStandby, true => s.devTo .warmStandby
  | .warmStandby, false => ((s.devTo .hotStandby).setEligible false).setPair fun p => { p with phase := [], aligned := false }
  | _, _ => s

/-- STANDBY_MODE_WRITE (R30, R391): OD 0x8000:02. -/
def execStandbyModeWrite (role : Role) (v : Nat) (s : State) : Result :=
  .next (s.asRole role .engineer fun s =>
    if 1 < v then s.deny .range
    else ((s.odStore (odKey 0x8000 2) (leBytes 1 v) [0]).answer .ok).standbySwitch (v = 1))

/-! ### Enables of blocks (R38 to R42) -/

/-- A write of an ENABLE bit, from a register or from the dictionary (R39). -/
def State.enableAsk (s : State) (x : EnableFrom) (k : BlockId) (v : Bool) : State :=
  match x with
  | .reg b => s.guarded b (BlockId.addr k) .write fun s => let r := s.enableWrite k v; r.1.answer r.2
  | .od role => s.enableOd role k v

/-- ENABLE_WRITE (R39). -/
def execEnableWrite (from' : EnableFrom) (k : BlockId) (v : Bool) (s : State) : Result := .next (s.enableAsk from' k v)

/-- A block whose start may complete now: an axis with PWM or SPI DAC output leaves STARTING at a sample edge instead
(R428). -/
def State.mayStart (s : State) (k : BlockId) : Bool :=
  match k with
  | .mot n => (s.axis n).stepDir
  | _ => true

/-- BLOCK_START_COMPLETE (R39). -/
def execBlockStartComplete (k : BlockId) (s : State) : Result :=
  if (s.ctl k).st = .starting && s.mayStart k then .next ((s.setCtl k fun c => { c with st := .on }).blockOn k) else .next s

/-- QUIESCE_COMPLETE (R40, R41): not before the block's outputs are safe. -/
def execQuiesceComplete (k : BlockId) (s : State) : Result :=
  if (s.ctl k).st = .quiescing && s.mayEnd k then .next (s.quiesceEnd k) else .next s

end Sys2Proof.Machine
end

