-- ==== Sys2Proof/Machine/Uplinks.lean ====
section
/-!
DEFINITION. UPLINK items, requests in segments, Vetch operations from the queues, and the repetition of items
(spec/09_radio_frames.md, R297, R300 to R302; spec/05_vetch_corridors.md, R168, R169, R172; spec/11_pair.md, R371).
-/
namespace Sys2Proof.Machine

/-! ### Rebuilding a request (R171, R301) -/

/-- Words A and B of a cell (R171). -/
def cellWords (cell : Nat) (entry exit : BitVec 32) (v : Nat) : Dword × Dword :=
  (BitVec.ofNat 64 (entry.toNat + exit.toNat * 2 ^ 32), BitVec.ofNat 64 (cell + v * 2 ^ 20))

/-- The cell that a neighbour index names, if its presence bit is 1 (R154, R301). -/
def State.neighbour (s : State) (cell j : Nat) : Option Nat :=
  ((s.cre.map.bind fun k => k.cells[cell]?).bind fun x => x.slots[j]?).join

/-- Words of the cells after one with a given cell and entry time; else the index of the cell whose neighbour is absent
(R301). -/
def State.rebuildFrom (s : State) (i prev : Nat) (entry : BitVec 32) : List SegCell → Except Nat (List (Dword × Dword))
  | [] => .ok []
  | c :: t =>
    match s.neighbour prev c.nb with
    | none => .error i
    | some cell =>
      let e := entry + c.dEntry.setWidth 32
      match s.rebuildFrom (i + 1) cell e t with
      | .ok l => .ok (cellWords cell e (e + c.dExit.setWidth 32) (c.speed4.toNat * 4) :: l)
      | .error k => .error k

/-- The words of a whole request (R301). -/
def State.rebuild (s : State) (first : Nat) (entry : BitVec 32) : List SegCell → Except Nat (List (Dword × Dword))
  | [] => .ok []
  | c :: t =>
    match s.rebuildFrom 1 first entry t with
    | .ok l => .ok (cellWords first entry (entry + c.dExit.setWidth 32) (c.speed4.toNat * 4) :: l)
    | .error k => .error k

/-- Segments in order of their first cell. -/
def insertSeg (x : Nat × List SegCell) : List (Nat × List SegCell) → List (Nat × List SegCell)
  | [] => [x]
  | y :: t => if x.1 < y.1 then x :: y :: t else if x.1 = y.1 then y :: t else y :: insertSeg x t

/-- The cells of an assembly when its segments follow one another without a gap. -/
def joinSegs (at' : Nat) : List (Nat × List SegCell) → Option (List SegCell)
  | [] => some []
  | x :: t => if x.1 = at' then (joinSegs (at' + x.2.length) t).map (x.2 ++ ·) else none

/-- All cells of a complete request: its head, every segment, NCELLS cells (R301). -/
def Assembly.complete (a : Assembly) : Option (Nat × BitVec 32 × List SegCell) :=
  match a.head, joinSegs 0 a.segs with
  | some (n, c0, e0), some l => if a.segs.length = a.total && l.length = n then some (c0, e0, l) else none
  | _, _ => none

/-! ### Decisions (R302) -/

/-- A decided request is remembered for 40 cycles (R302). -/
def Decided.lives (d : Decided) (now : BitVec 32) : Bool :=
  match d.at' with
  | some c => (now - c).toNat ≤ 40
  | none => true

/-- Drops decisions older than 40 cycles. -/
def State.decidedAge (s : State) : State :=
  { s with frames := { s.frames with decided := s.frames.decided.filter fun d => d.lives s.dev.cycle } }

/-- The RESULT of a member's request falls due and is remembered (R297, R302). -/
def State.requestDecided (s : State) (m : Nat) (tag : BitVec 16) (r : CmdItem) : State :=
  let rest := s.frames.decided.filter fun d => !(d.member = m && d.tag = tag)
  ({ s with frames := { s.frames with decided := rest ++ [Decided.mk m tag (some s.dev.cycle) (some r)] } }).addDue m r

/-- Vetch answered an operation of the Vendor queue: a REQUEST or RESTORE that a member's uplink asked for becomes its
RESULT item (R296, R302). -/
def State.vetchVendorDone (s : State) (r : VResult) : State :=
  let m := bitsOf r.w1.toNat 40 32
  let tag := r.w0.extractLsb' 32 16
  let op := bitsOf r.w0.toNat 31 24
  if (op = 1 || op = 7) && s.frames.decided.any fun d => d.member = m && d.tag = tag && d.at'.isNone then
    s.requestDecided m tag (resultItem r.w0 r.w1)
  else s

/-- Submits an operation on the Vendor queue and handles its result if it comes at once. -/
def State.vendorSubmit (s : State) (w : Dword) (cells : List (Dword × Dword)) : State × Option VResult :=
  let r := s.vetchSend w cells
  match r.2 with
  | some v => (r.1.vetchVendorDone v, some v)
  | none => r

/-- The RESULT item of a request that cannot be rebuilt: DENIED, reason LINK (R173, R301). -/
def linkResult (tag : BitVec 16) (cell : Nat) : CmdItem := .result tag Status.denied.code 6 (BitVec.ofNat 8 cell) 0 0

/-- A complete request is rebuilt and submitted, unless one of its member and TAG was decided or is in flight
(R301, R302). -/
def State.requestSubmit (s : State) (a : Assembly) (c0 : Nat) (e0 : BitVec 32) (l : List SegCell) : State :=
  match s.frames.decided.find? fun d => d.member = a.member && d.tag = a.tag && d.lives s.dev.cycle with
  | some d =>
    match d.result with
    | some r => ({ s with frames := { s.frames with nDuplicate := bump s.frames.nDuplicate } }).addDue a.member r
    | none => s
  | none =>
    match s.rebuild c0 e0 l with
    | .error k => s.requestDecided a.member a.tag (linkResult a.tag k)
    | .ok cells =>
      let s1 := { s with frames := { s.frames with
        decided := s.frames.decided ++ [Decided.mk a.member a.tag none none] } }
      let op := if a.restore.isSome then 7 else 1
      (s1.vendorSubmit (vetchHeader op cells.length a.member false a.tag (a.restore.getD 0)) cells).1

/-! ### Items of an UPLINK (R290, R300) -/

/-- An UPLINK's items: the first one stands for the frame's receive checks, those behind it belong to the frame accepted
last (R290, R300). -/
def State.uplink (s : State) (f : RxFrame) (first : Bool) : State × Bool :=
  if s.blk.frb.st ≠ .on then (s, false)
  else if first then
    let a := s.acceptPair f
    if a.2 then (if s.standby then a.1 else a.1.heardOther f.member, true) else a
  else (s, f.form && f.mic && (s.link f.member).rx = some f.fcnt)

/-- Puts a segment into its assembly (R301, R302). -/
def State.segmentIn (s : State) (m : Nat) (restore : Option (BitVec 16)) (g : UpSegment) : State × Assembly :=
  let mine := fun (a : Assembly) => a.member = m && a.tag = g.tag && a.restore.isSome = restore.isSome
  let old := (s.frames.asm.find? mine).getD
    ⟨m, g.tag, restore, s.dev.cycle, none, g.total, []⟩
  let head := match g.head with
    | some (n, c, e) => some (n, c.toNat, e)
    | none => old.head
  let a := { old with
    head := head, restore := if g.head.isSome then restore else old.restore
    segs := insertSeg (g.firstCell, g.cells) old.segs }
  ({ s with frames := { s.frames with asm := (s.frames.asm.filter fun x => !mine x) ++ [a] } }, a)

/-- An assembly is over. -/
def State.asmDrop (s : State) (a : Assembly) : State :=
  { s with frames := { s.frames with asm := s.frames.asm.filter fun x =>
      !(x.member = a.member && x.tag = a.tag && x.restore.isSome = a.restore.isSome) } }

/-- A segment of a REQUEST or RESTORE (R301, R302). A standby keeps the complete REQUESTs it hears (R371). -/
def State.segmentItem (s : State) (m : Nat) (restore : Option (BitVec 16)) (g : UpSegment) : State :=
  let r := s.segmentIn m restore g
  match r.2.complete with
  | none => r.1
  | some (c0, e0, l) =>
    let s1 := r.1.asmDrop r.2
    if s.transmits then s1.requestSubmit r.2 c0 e0 l
    else if s.standby && restore.isNone then
      { s1 with pair := { s1.pair with heard := s1.pair.heard ++ [HeardReq.mk m g.tag s.dev.cycle r.2] } }
    else s1

/-- UPLINK_REQUEST_ITEM (R300, R301). -/
def execUplinkRequestItem (f : RxFrame) (first : Bool) (seg : UpSegment) (s : State) : Result :=
  let a := s.uplink f first
  if a.2 && (s.transmits || s.standby) then .next (a.1.segmentItem f.member none seg) else .next a.1

/-- UPLINK_RESTORE_ITEM (R300, R301, R383). -/
def execUplinkRestoreItem (f : RxFrame) (first : Bool) (seg : UpSegment) (s : State) : Result :=
  let a := s.uplink f first
  if a.2 && s.transmits then .next (a.1.segmentItem f.member (some seg.corridor) seg) else .next a.1

/-- The STATUS item of an UPLINK with RELEASE items: the first status that is not OK stays (R300). -/
def State.releaseStatus (s : State) (m : Nat) (fcnt : BitVec 32) (st : Status) : State :=
  let mine := fun (d : DueItem) => d.member = m && (match d.item with
    | .status k _ => k = fcnt
    | _ => false)
  if s.frames.due.any mine then
    let upd := fun (d : DueItem) =>
      let good := match d.item with
        | .status _ v => v = 0
        | _ => false
      if (mine d && good) = true then { d with item := .status fcnt st.code } else d
    { s with frames := { s.frames with due := s.frames.due.map upd } }
  else s.addDue m (.status fcnt st.code)

/-- UPLINK_RELEASE_ITEM (R300). -/
def execUplinkReleaseItem (f : RxFrame) (first : Bool) (corr : BitVec 16) (s : State) : Result :=
  let a := s.uplink f first
  if a.2 && s.transmits then
    let r := a.1.vetchSend (vetchHeader 3 0 f.member false 0 corr) []
    match r.2 with
    | some v => .next (r.1.releaseStatus f.member f.fcnt v.v.status)
    | none => .next r.1
  else .next a.1

/-- A ROLE_ACK of a member's pending role change, or of a corrective ROLE command (R206, R375). -/
def State.roleAcked (s : State) (m : Nat) (role : BitVec 8) : State :=
  let x := s.member m
  let s1 := match x.change with
    | some c => if c.role.setWidth 8 = role then s.setMember m { x with change := some { c with acked := true } } else s
    | none => s
  let mine := fun (d : DueItem) => d.member = m && (match d.item with
    | .role r => r.setWidth 8 = role
    | _ => false)
  let fixed := x.role.setWidth 8 = role
  let s2 := s1.dropDue mine
  { s2 with pair := { s2.pair with
      roleFix := if fixed then s2.pair.roleFix.filter (· ≠ m) else s2.pair.roleFix } }

/-- ROLE_ACK (R206, R300, R371). -/
def execRoleAck (f : RxFrame) (first : Bool) (role : BitVec 8) (s : State) : Result :=
  let a := s.uplink f first
  if !a.2 then .next a.1
  else if s.transmits then .next (a.1.roleAcked f.member role)
  else if s.standby then
    .next { a.1 with pair := { a.1.pair with
      acksHeard := if a.1.pair.acksHeard.contains f.member then a.1.pair.acksHeard else f.member :: a.1.pair.acksHeard } }
  else .next a.1

/-- REQUEST_SEGMENT_TIMEOUT (R302). -/
def execRequestSegmentTimeout (m : Nat) (tag : BitVec 16) (s : State) : Result :=
  match s.frames.asm.find? fun a => a.member = m && a.tag = tag with
  | some a =>
    if cycleReached s.dev.cycle (a.since + 8) then
      let s1 := s.asmDrop a
      .next { s1 with frames := { s1.frames with nIncomplete := bump s1.frames.nIncomplete } }
    else .next s
  | none => .next s

/-- ITEM_REPEAT (R297): items whose repetition has come fall due again. -/
def execItemRepeat (s : State) : Result := if s.standby then .next s else .next s.dueAgain

/-! ### Operations that the CRE takes from its request queues (R168 to R172) -/

/-- One operation from a request queue. -/
def State.vetchRow (s : State) (vendor : Bool) (w : Dword) (cells : List (Dword × Dword)) : State :=
  let r := s.vetchOp vendor w cells
  match r.2 with
  | some v => if vendor then r.1.vetchVendorDone v else r.1
  | none => r.1

/-- REQUEST (R174). -/
def execRequest (vendor : Bool) (w : Dword) (cells : List (Dword × Dword)) (s : State) : Result :=
  .next (s.vetchRow vendor (withOp w 1) cells)

/-- RELEASE_CELLS (R182). -/
def execReleaseCells (vendor : Bool) (w : Dword) (s : State) : Result := .next (s.vetchRow vendor (withOp w 2) [])

/-- RELEASE (R182). -/
def execRelease (vendor : Bool) (w : Dword) (s : State) : Result := .next (s.vetchRow vendor (withOp w 3) [])

/-- FREEZE (R181). -/
def execFreeze (vendor : Bool) (w : Dword) (s : State) : Result := .next (s.vetchRow vendor (withOp w 4) [])

/-- THAW (R181). -/
def execThaw (vendor : Bool) (w : Dword) (s : State) : Result := .next (s.vetchRow vendor (withOp w 5) [])

/-- RELEASE_MEMBER (R182). -/
def execReleaseMember (vendor : Bool) (w : Dword) (s : State) : Result := .next (s.vetchRow vendor (withOp w 6) [])

/-- RESTORE (R185). -/
def execRestore (vendor : Bool) (w : Dword) (cells : List (Dword × Dword)) (s : State) : Result :=
  .next (s.vetchRow vendor (withOp w 7) cells)

/-- The oldest held result of a request queue is written once its result queue has room (R169). -/
def State.vetchResultWrite (s : State) (vendor : Bool) : State :=
  match s.cre.results.find? fun r => r.vendor = vendor with
  | none => s
  | some r =>
    match s.enginePush (s.resultQueue vendor) [r.w0, r.w1] with
    | none => s
    | some s1 => { s1 with cre := { s1.cre with results := s1.cre.results.erase r } }

/-- VETCH_RESULT_WRITE (R169). -/
def execVetchResultWrite (vendor : Bool) (s : State) : Result := .next (s.vetchResultWrite vendor)

/-- TAB_IDX_LATCH (R192): the CRE is reachable by Vendor-world masters only (R452). -/
def execTabIdxLatch (b : Bus) (idx : BitVec 13) (s : State) : Result :=
  .next (s.guarded b 0x40040030 .write fun s => s.tabLatch idx)

end Sys2Proof.Machine
end

