-- ==== Sys2Proof/Machine/Yarrow.lean ====
section
/-!
DEFINITION. The Yarrow lanes and the voter: lane periods, the ESTOP channels, the safety commands, the permit word, the
loopback and the safety configuration (spec/07_fleet_stop.md, R218 to R230, R236 to R254).
-/
namespace Sys2Proof.Machine

/-! ### ESTOP channels (R239 to R243) -/

/-- One channel; false for ESTOP_A. -/
def State.estop (s : State) (b : Bool) : Estop := if b then s.saf.estB else s.saf.estA

/-- Changes one channel. -/
def State.setEstop (s : State) (b : Bool) (f : Estop → Estop) : State :=
  s.setSaf fun k => if b then { k with estB := f k.estB } else { k with estA := f k.estA }

/-- A channel demands, through its filter or by being unstable (R240, R241). -/
def Estop.demands (e : Estop) : Bool := e.filt || e.unstableNow

/-- A latched fault of a channel, if any, is clearable (R241, R242). -/
def Estop.clearable (e : Estop) : Bool := (!e.unst || !e.unstableNow) && (!e.tpf || 10 ≤ e.followed)

/-- A fault of the ESTOP inputs has latched: counted, with its record (R250, R253). -/
def State.estopLatched (s : State) (e : Event) (n : List Nat) : State :=
  (s.setSaf fun k => { k with nEstopFlt := bump k.nEstopFlt }).event e n

/-- The discrepancy is timed from the instant at which one channel alone begins or ceases to demand, and a latched fault
becomes clearable once both have demanded together and then both have ceased (R243). -/
def State.estopPaired (s : State) : State :=
  let a := s.saf.estA.demands
  let b := s.saf.estB.demands
  let both := s.saf.disc && (s.saf.discBoth || (a && b))
  s.setSaf fun k => { k with
    discSince := if a = b then none else if k.disc then none else some (k.discSince.getD s.tb5ns)
    discBoth := both, discClr := s.saf.disc && (k.discClr || (both && !a && !b)) }

/-- ESTOP_FILTER_EXPIRY (R240): the channel has read a level for the filter time; `run` says which. -/
def execEstopFilterExpiry (b run : Bool) (s : State) : Result :=
  .next (s.setEstop b fun e => { e with raw := run, filt := !run }).estopPaired

/-- ESTOP_UNSTABLE (R241). -/
def execEstopUnstable (b : Bool) (s : State) : Result :=
  let s1 := (s.setEstop b fun e => { e with unst := true, unstableNow := true }).estopPaired
  .next (if (s.estop b).unst then s1 else s1.estopLatched .estopFault [bit b, 1])

/-- ESTOP_STABLE (R241): run level for 1 s, longer than any filter time. -/
def execEstopStable (b : Bool) (s : State) : Result :=
  .next (if (s.estop b).unstableNow then
      (s.setEstop b fun e => { e with unstableNow := false, raw := true, filt := false }).estopPaired
    else s)

/-- ESTOP_TEST_PULSE (R242), in mode 0: the channel read high throughout its own window, it read low in the other's window
while high outside both, and it followed its own pulse correctly. -/
def execEstopTestPulse (b high low followed : Bool) (s : State) : Result :=
  if s.saf.cfg.mode ≠ 0 then .next s
  else
    let bad := high || low
    let ok := followed && !bad
    let s1 := s.setEstop b fun e => { e with tpf := e.tpf || bad, followed := if ok then min 10 (e.followed + 1) else 0 }
    .next (if bad && !(s.estop b).tpf then s1.estopLatched .estopFault [bit b, 0] else s1)

/-- DISCREPANCY_TIMEOUT (R243). -/
def execDiscrepancyTimeout (s : State) : Result :=
  match s.saf.discSince with
  | none => .next s
  | some t =>
    let s1 := s.reachNs (t + s.saf.cfg.discrepancy * 1000000)
    .next ((s1.setSaf fun k => { k with disc := true, discSince := none, discBoth := false, discClr := false }).estopLatched
      .discrepancy [])

/-- Every latched ESTOP fault is clearable (R244). -/
def Saf.clearable (k : Saf) : Bool := k.estA.clearable && k.estB.clearable && (!k.disc || k.discClr)

/-- The ESTOP inputs demand SF1: a channel, or a latched test-pulse or discrepancy fault (R218, R240 to R243). -/
def Saf.estopDemand (k : Saf) : Bool := k.estA.demands || k.estB.demands || k.estA.tpf || k.estB.tpf || k.disc

/-- SF1 is demanded (R218). A demand of SF1_STOP lasts until its reset (R219). -/
def Saf.sf1Demand (k : Saf) : Bool := k.estopDemand || k.sf1Cmd

/-! ### Safety commands (R244) -/

/-- Zones stopped under SF2, with every included lane's copy of the zone record (R218, R220). -/
def State.setZones (s : State) (z : BitVec 16) : State :=
  s.setSaf fun k => { k with
    sf2 := z, lanes := k.lanes.map fun (l : Lane) => if l.included then { l with zoneRec := z, zoneOk := true } else l }

/-- SF1_RESET (R244). -/
def State.sf1Reset (s : State) : State × Status :=
  let k := s.saf
  if k.sf1 = .clear && !k.sf1Demand then (s, .ok)
  else if k.estA.demands || k.estB.demands || !k.clearable then (s.event .resetRefused [2], .busy)
  else
    let clr := fun (e : Estop) => { e with unst := false, tpf := false, followed := 0 }
    ((s.setSaf fun k => { k with
      sf1 := .clear, sf1Cmd := false, estA := clr k.estA, estB := clr k.estB, disc := false, discBoth := false
      discClr := false }).event .sf1Reset [], .ok)

/-- SF4_RESET (R244, R245). -/
def State.sf4Reset (s : State) : State × Status :=
  if s.saf.rstop = 0 then (s, .ok)
  else if !s.saf.cfg.autoRelease && !s.saf.tword1 then
    ((s.setSaf fun k => { k with rstop := 0 }).event .sf4Change [0], .ok)
  else (s.event .resetRefused [5], .busy)

/-- A reset meets a demand of its function among the commands of its lane period: the demand wins (R219). -/
def SafCmd.loses (m : SafCmd) (l : List SafCmd) : Bool :=
  match m.code.toNat with
  | 2 => l.any fun x => x.code = 1
  | 4 => l.any fun x => x.code = 3 && x.zone = m.zone
  | _ => false

/-- What the lanes do at a command; `l` are the commands of the period (R219, R244). -/
def State.safAct (s : State) (l : List SafCmd) (m : SafCmd) : State × Status :=
  let z : BitVec 16 := 1#16 <<< m.zone.toNat
  if m.loses l then (s.event .resetRefused [m.code.toNat], .busy)
  else match m.code.toNat with
  | 1 => (s.setSaf fun k => { k with sf1Cmd := true }, .ok)
  | 2 => s.sf1Reset
  | 3 => ((s.setZones (s.saf.sf2 ||| z)).event .zoneStop [m.zone.toNat], .ok)
  | 4 => ((s.setZones (s.saf.sf2 &&& ~~~z)).event .zoneReset [m.zone.toNat], .ok)
  | 5 => s.sf4Reset
  | _ => (s, .denied)

/-- The reply to a command: SAF_CMDSTAT and the answer of the write that waits for it (R244, R252). -/
def State.safReply (s : State) (m : SafCmd) (st : Status) : State :=
  ((s.setSaf fun k => { k with cmds := k.cmds.tail, cmdStatus := st.code, cmdStatSeq := m.seq }).answer st).waitDone (.saf m.seq)

/-- The lanes act in this period, once and in order, on every sequence number that waits; without a voted record each command
is answered DENIED (R244). -/
def State.safCommand (s : State) (voted : Bool) : State :=
  s.saf.cmds.foldl (fun t m =>
    if voted then
      let r := t.safAct s.saf.cmds m
      r.1.safReply m r.2
    else t.safReply m .denied) s

/-- A safety command with a new sequence number goes to SAF_CMD (R244). -/
def State.safPass (s : State) (code : Nat) (zone : Nat) : State :=
  s.setSaf fun k => { k with
    cmdSeq := k.cmdSeq + 1
    cmds := k.cmds ++ [({ code := BitVec.ofNat 8 code, zone := BitVec.ofNat 4 zone, seq := k.cmdSeq + 1 } : SafCmd)] }

/-- A command written to OD 0x7010:01 (R244). A standby passes stops to the active unit, whose reply it answers, and denies
resets (R387). -/
def State.safWrite (s : State) (role : Role) (code zone : Nat) (reply : Status) : State :=
  s.asRole role .operator fun s =>
    if 15 < zone then s.deny .range
    else if s.standby then
      if (code = 1 || code = 3) && s.pair.link then (s.emit (.safetyStop code zone)).answer reply else s.deny .state
    else s.safPass code zone

/-- SF1_STOP (R244). `reply` is the active unit's, for a standby (R387). -/
def execSf1Stop (role : Role) (reply : Status) (s : State) : Result := .next (s.safWrite role 1 0 reply)

/-- SF1_RESET (R244). -/
def execSf1Reset (role : Role) (s : State) : Result := .next (s.safWrite role 2 0 .denied)

/-- ZONE_STOP (R244). `reply` is the active unit's, for a standby (R387). -/
def execZoneStop (role : Role) (zone : Nat) (reply : Status) (s : State) : Result := .next (s.safWrite role 3 zone reply)

/-- ZONE_RESET (R244). -/
def execZoneReset (role : Role) (zone : Nat) (s : State) : Result := .next (s.safWrite role 4 zone .denied)

/-- SF4_RESET (R244). -/
def execSf4Reset (role : Role) (s : State) : Result := .next (s.safWrite role 5 0 .denied)

/-! ### The loopback (R230) -/

/-- A permit that failed its loopback releases the hold while the partner reports ELIGIBLE (R359). -/
def State.loopRelease (s : State) : State :=
  if s.pair.paired && s.pair.partner.eligible then s.holdRelease else s

/-- A permit sent without a loopback: the gate stays closed in the next cycle, and the third in a row forces the safe state
(R230). -/
def State.loopMissed (s : State) : State :=
  let third := s.saf.loopConsec.toNat = 2
  let s1 := (s.setSaf fun k => { k with
    loopback := .missing, loopMiss := k.loopMiss + 1, loopConsec := if third then 2 else k.loopConsec + 1
    loopFlt := k.loopFlt || third }).event .loopbackMissing [s.saf.word.cycle.toNat]
  if third then s1.safeEnter 6 else s1.loopRelease

/-- PERMIT_LOOPBACK (R230): whether the permit arrived with a valid FCS, its MIC verifies, and CYCLE and every field match
the voted word. -/
def execPermitLoopback (arrives mic same : Bool) (s : State) : Result :=
  if s.saf.loopback ≠ .awaited then .next s
  else if !(arrives && mic) then .next s.loopMissed
  else if same then .next (s.setSaf fun k => { k with loopback := .passed, loopConsec := 0 })
  else .next (((s.setSaf fun k => { k with loopback := .missing, loopFlt := true }).safeEnter 5).loopRelease)

/-! ### The permit word and the gate (R226 to R228, R245) -/

/-- The debug line reads 0 (R221): the unit is in no debug session. -/
def State.noDebugLine (s : State) : Bool := s.dev.dstate ≠ .debugSession

/-- STOP of the voted record: SF1 demanded or awaiting reset, or the safe state (R227). -/
def Saf.stopNow (k : Saf) : Bool := k.sf1 ≠ .clear || k.safe

/-- RCLS: the class mask while SF4 is enabled (R227). -/
def Saf.rclsNow (k : Saf) : BitVec 16 := if k.cfg.sf4 then k.cfg.rtkClass else 0

/-- Validity bits of members, from 256 down: bit m - 1 for member m; a word whose CRC-8 fails reads 0 (R186, R221). -/
def State.authBits (s : State) (badWords : BitVec 8) : BitVec 256 :=
  (List.range 256).foldl (fun (a : BitVec 256) i =>
    if !badWords.getLsbD (i / 32) && s.memberValid (i + 1) then a ||| (1#256 <<< i) else a) 0

/-- The integrity bit of the cycle's word: that of the Teasel word that names it, else set (R146). -/
def State.wordInteg (s : State) : Bool :=
  match s.saf.tword with
  | some (k, b) => if k = s.dev.cycle then b else true
  | none => true

/-- RSTOP at a boundary (R245). -/
def Saf.rstopAt (k : Saf) (integ : Bool) : BitVec 16 :=
  if integ then (if k.cfg.sf4 then k.cfg.rtkZone else k.rstop) else if k.cfg.autoRelease then 0 else k.rstop

/-- A cycle for which no word names its number counts as a STALE verdict (R142, R146). -/
def State.wordStale (s : State) : State :=
  let named : Bool := match s.saf.tword with
    | some (k, _) => k = s.dev.cycle
    | none => false
  if !named && s.verified && s.verifies then s.staleAt s.tb0ns else s

/-- The gate at a boundary (R228). -/
def State.gateOpens (s : State) : Bool :=
  s.runLine && s.noDebugLine && !s.saf.safe && s.saf.loopback ≠ .missing && s.pairGate

/-- The period aligned with a cycle boundary: SF4, the permit-authorisation word of the cycle and the gate (R227, R228,
R230, R245). -/
def State.laneBoundary (s : State) (badWords : BitVec 8) : State :=
  let integ := s.wordInteg
  let s0 := if s.saf.loopback = .awaited then s.loopMissed else s
  let r := s0.saf.rstopAt integ
  let s1 := (s0.setSaf fun k => { k with lastCycle := s.dev.cycle, boundaryAt := some s.tb5ns, rstop := r }).wordStale
  let s2 := if r = s0.saf.rstop then s1 else s1.event .sf4Change [r.toNat]
  let k := s2.saf
  let w : PermitWord := { cycle := s.dev.cycle, stop := k.stopNow, integ := integ, zstop := k.sf2, rstop := r, rcls := k.rclsNow,
                          auth := if k.stopNow then 0 else s2.authBits badWords }
  let withheld := k.loopback = .missing && s2.runLine
  s2.setSaf fun k => { k with
    word := w, gate := s2.gateOpens, nWithheld := if withheld then bump k.nWithheld else k.nWithheld }

/-- The keep-alive that the voted record asks for (R226). -/
def State.keepAliveWanted (s : State) : Bool :=
  s.runLine && s.noDebugLine && !s.saf.safe && s.saf.sf1 = .clear && s.saf.sf2 &&& s.saf.cfg.outMask = 0

/-- The outputs under a keep-alive: supplied, a stage energises with its supply present; one that has lost it keeps its
output until its timer expires (R225, R617). -/
def State.keepAliveSet (s : State) : State :=
  let w := s.keepAliveWanted
  s.setSaf fun k => { k with
    keepAlive := w, outA := k.outA || (w && s.pwr.vstopOk), outB := k.outB || (w && s.pwr.vstopOk) }

/-- KEEPALIVE_TIMEOUT (R225): the stage's own timer. -/
def execKeepaliveTimeout (s : State) : Result :=
  .next (if s.saf.keepAlive then s else s.setSaf fun k => { k with outA := false, outB := false })

/-- A read-back fault: latched, with the safe state (R225). -/
def State.outFault (s : State) (a b : Bool) : State :=
  ((s.setSaf fun k => { k with fltA := k.fltA || a, fltB := k.fltB || b }).event .outFault [bit a + 2 * bit b]).safeEnter 4

/-- STOP_OUT_TEST_PULSE (R225): an energised output switches off for 200 us; `ok` says that the lanes read it so. -/
def execStopOutTestPulse (b ok : Bool) (s : State) : Result :=
  let on := if b then s.saf.outB else s.saf.outA
  .next (if on && !ok then s.outFault (!b) b else s)

/-- PERMIT_GATE_CLOSE (R228): 10 ms after the boundary; a permit that has not begun is not sent. -/
def execPermitGateClose (s : State) : Result :=
  let s1 := (s.reachOffset 10000).setSaf fun k => { k with gate := false }
  .next (if s1.fra.permitDue then s1.permitUnsent else s1)

/-! ### The vote (R222, R223) -/

/-- A lane disagrees: counted and recorded; at the second period in a row it is excluded (R222, R223). -/
def State.laneDisagrees (s : State) (i : Fin 3) : State :=
  let l := s.saf.lanes[i]
  let s1 := (s.setSaf fun k => { k with
    nDisag := bump k.nDisag, lanes := k.lanes.set i { l with count := l.count + 1, disagreed := true } }).event .laneDisagreed [i]
  if !l.disagreed then s1
  else
    ((s1.setSaf fun k => { k with
      degraded := true, degradedAt := some (k.degradedAt.getD s.tb5ns), nExcl := k.nExcl + 1
      lanes := k.lanes.set i { k.lanes[i] with included := false } }).event .laneExcluded [i]).event .degradedSet [i]

/-- One lane's part in the vote: an included lane that agrees has not disagreed in this period. -/
def State.laneVoted (s : State) (outs : Vector LaneOut 3) (i : Fin 3) : State :=
  if !s.saf.lanes[i].included then s
  else if outs[i] = .good then s.setSaf fun k => { k with lanes := k.lanes.set i { k.lanes[i] with disagreed := false } }
  else s.laneDisagrees i

/-- Without a voted record no lane disagrees with one: the safe state follows, and no run of disagreements goes on (R222). -/
def State.lanesApart (s : State) : State :=
  s.setSaf fun k => { k with lanes := k.lanes.map fun (l : Lane) => { l with disagreed := false } }

/-- Lanes included. -/
def Saf.nLanes (k : Saf) : Nat := (k.lanes.toList.filter Lane.included).length

/-- Included lanes whose records agree. -/
def Saf.nGood (k : Saf) (outs : Vector LaneOut 3) : Nat :=
  ((List.finRange 3).filter fun i => k.lanes[i].included && outs[i] = .good).length

/-- The voter has a voted record: two identical of three, or both of two (R222). -/
def Saf.voted (k : Saf) (outs : Vector LaneOut 3) : Bool := 2 ≤ k.nLanes && 2 ≤ k.nGood outs

/-- DEGRADED_TIME_LIMIT (R223). -/
def execDegradedTimeLimit (s : State) : Result :=
  match s.saf.degradedAt with
  | none => .next s
  | some t => .next ((s.reachNs (t + s.saf.cfg.degradedH * 3600000000000)).safeEnter 3)

/-! ### A lane period (R221) -/

/-- SF1 after a period: Active while a demand is present, Awaiting reset once none remains (R244). -/
def State.sf1Settle (s : State) : State :=
  let s1 :=
    if s.saf.sf1Demand then
      if s.saf.sf1 = .active then s
      else ((s.setSaf fun k => { k with sf1 := .active }).event .sf1Demand [bit s.saf.sf1Cmd]).emcyAllOn .sf1Active .sf1Demand
    else if s.saf.sf1 = .active then s.setSaf fun k => { k with sf1 := .awaiting }
    else s
  if s1.saf.sf1 = .active then s1 else s1.emcyAllOff .sf1Active .sf1Reset

/-- A burst is requested when STOP or a zone bit of the voted record rises from the state before (R236). Entry to the safe
state asks for its own. -/
def State.burstOnRise (s : State) (before : Saf) : State :=
  let k := s.saf
  let up := (k.stopNow && !before.stopNow) || (k.sf2 &&& ~~~before.sf2) ≠ 0 || (k.rstop &&& ~~~before.rstop) ≠ 0
  if up && k.safe = before.safe then
    s.burstRequest { k.word with stop := k.stopNow, zstop := k.sf2, rstop := k.rstop, rcls := k.rclsNow }
  else s

/-- What a voted record does: the command, the demands, at a boundary the word and the gate, the outputs, the burst request
(R218, R219, R226, R236). -/
def State.laneApply (s : State) (badWords : BitVec 8) (stuck : BitVec 2) : State :=
  let s1 := (s.safCommand true).sf1Settle
  let s2 := if s1.dev.cycle = s1.saf.lastCycle && s1.saf.boundaryAt.isSome then s1 else s1.laneBoundary badWords
  let s3 := s2.keepAliveSet
  let s4 := s3.burstOnRise s.saf
  let bad := if s4.saf.keepAlive then 0 else stuck
  let s5 := if bad = 0 then s4 else s4.outFault (bad.getLsbD 0) (bad.getLsbD 1)
  s5.permitVoted

/-- No cycle boundary for 55 ms (R248). -/
def State.boundaryLost (s : State) : State :=
  match s.saf.boundaryAt with
  | some t => if t + 55000000 < s.tb5ns then s.safeEnter 7 else s
  | none => s

/-- LANE_PERIOD (R221 to R230): the period that ends at the next 250 us of TB4. `outs` are the lanes' records, `badWords` the
words of the validity vector whose CRC-8 fails, `stuck` the outputs that read energised more than 200 us after
de-energisation was requested. -/
def execLanePeriod (outs : Vector LaneOut 3) (badWords : BitVec 8) (stuck : BitVec 2) (e : EstopIn) (s : State) : Result :=
  if s.dev.dstate = .startUp || s.dev.dstate = .dormant then .next s
  else
    let s0 := s.reachTb4 ((s.tb4ns / 250000 + 1) * 250000)
    let s1 := s0.setSaf fun k => { k with
      estA := { k.estA with raw := e.level.getLsbD 0 }, estB := { k.estB with raw := e.level.getLsbD 1 }
      nShortLow := k.nShortLow + BitVec.ofNat 32 e.shortLows }
    let voted := s1.saf.voted outs
    if voted then
      .next ((((List.finRange 3).foldl (fun t i => t.laneVoted outs i) s1).laneApply badWords stuck).boundaryLost)
    else .next ((s1.lanesApart.safCommand false).safeEnter 1)

/-! ### The safety configuration (R254) -/

/-- The configuration that 16 octets carry, in the order of OD 0x7020 (R254). -/
def SafCfg.ofOctets (l : List Byte) : SafCfg :=
  let n := fun (i k : Nat) => leNat ((l.drop i).take k)
  { filter := n 0 1, discrepancy := n 1 2, mode := n 3 1, outMask := BitVec.ofNat 16 (n 4 2), sf4 := n 6 1 % 2 = 1
    rtkClass := BitVec.ofNat 16 (n 7 2), rtkZone := BitVec.ofNat 16 (n 9 2), autoRelease := n 11 1 = 1, degradedH := n 12 2
    sf1Clear := n 14 1 = 1 }

/-- The lanes take the buffer when all compute the same CRC-32C over its 16 octets (R254). -/
def State.safCommit (s : State) (agree : Bool) : State :=
  let l := s.saf.cfgBuf.toList
  let crc := crc32c l
  if s.runLine then s
  else if agree then
    (s.setSaf fun k => { k with cfg := SafCfg.ofOctets l, cfgOk := true, cfgCrc := crc }).event .configAdopted
      [s.saf.cfgCrc.toNat, crc.toNat]
  else (s.setSaf fun k => { k with cfgOk := false }).event .configRefused [s.saf.cfgCrc.toNat, crc.toNat]

/-- SAF_CFG_COMMIT (R252, R254): a write of SAF_CFGCMD with COMMIT = 1 by a Vendor-world master; `agree` says that the three
lanes compute the same CRC. -/
def execSafCfgCommit (b : Bus) (agree : Bool) (s : State) : Result :=
  .next (if s.allows b 0x400F0180 .write then s.safCommit agree else s.violation b 0x400F0180 .write)

end Sys2Proof.Machine
end

