-- ==== Sys2Proof/Machine/PairStream.lean ====
section
/-!
DEFINITION. State streaming of a pair: the records of a cycle, deltas and snapshots out and in, eligibility
(spec/11_pair.md, R365 to R373, R386; spec/12_axes.md, R421, R422).
-/
namespace Sys2Proof.Machine

/-! ### The pair configuration (R372) -/

/-- Keeps a list of rows in ascending order of key. -/
def insertObj (x : Nat × Obj) : List (Nat × Obj) → List (Nat × Obj)
  | [] => [x]
  | y :: t => if x.1 < y.1 then x :: y :: t else y :: insertObj x t

/-- Index ranges of the pair configuration CRC (R372). -/
def pairIndex (idx : Nat) : Bool :=
  (0x3000 ≤ idx && idx ≤ 0x3FFF) || (0x5000 ≤ idx && idx ≤ 0x5032) || (0x6000 ≤ idx && idx ≤ 0x61FF) ||
    (0x6500 ≤ idx && idx ≤ 0x66FF) || (0x7000 ≤ idx && idx ≤ 0x77FF) || idx = 0xA810

/-- Octets of a value at its type's width, strings padded with 0 to their declared length (R372). -/
def OdType.padded (t : OdType) (l : List Byte) : List Byte :=
  match t with
  | .str m => l ++ List.replicate (m - l.length) 0
  | _ => l

/-- CRC-32C over persisting objects whose index a test picks, in ascending order, after octets `pre`. -/
def State.cfgCrc (s : State) (pre : List Byte) (f : Nat → Bool) : BitVec 32 :=
  let rows := ((objects.filter Obj.keep).flatMap Obj.each).filter fun p => f (p.1 / 256)
  let sorted := rows.foldl (fun l p => insertObj p l) []
  crc32c (pre ++ sorted.flatMap fun p => p.2.ty.padded (s.odHeld p.1 p.2.default))

/-- The pair configuration CRC, OD 0x8000:0D (R372). -/
def State.pairCrc (s : State) : BitVec 32 :=
  let map := match s.cre.map with
    | some m => m.id
    | none => 0
  s.cfgCrc (leBytes 4 map.toNat) pairIndex

/-- CRC-32C of the configuration objects of an axis (R422). -/
def State.axisCrc (s : State) (n : Fin 8) : BitVec 32 := s.cfgCrc [] fun i => i = 0x7800 + n.val

/-! ### Eligibility (R372, R373) -/

/-- Conditions of R372 that rest on the link. -/
def State.linkFit (s : State) : Bool := s.pair.link && s.pair.fmt && s.pairCrc = s.pair.partner.cfgCrc && s.tim.aligned

/-- The unit is eligible. While PAIR_HOLD_IN reads deasserted, a partner that has fallen silent takes no eligibility away
(R373). -/
def State.eligibleNow (s : State) : Bool :=
  s.standby && s.sec.lifeCycle = .deployed && s.pair.snapDone && 3 ≤ s.pair.deltasOk &&
    (s.linkFit || (s.dev.eligible && !s.pair.holdIn)) && (s.dev.dstate ≠ .hotStandby || s.pair.aligned || (s.dev.eligible && !s.pair.holdIn)) &&
    !(s.pair.miss = 3 && s.pair.holdIn)

/-- ELIGIBLE follows its conditions (R372). -/
def State.eligUpdate (s : State) : State := if s.standby then s.setEligible s.eligibleNow else s

/-! ### What is streamed (R365, R366) -/

/-- The streamed part of the state as it stands. -/
def State.streamed (s : State) : Streamed :=
  { resv := s.cre.resv, corrs := s.cre.corrs, members := s.fleet.members, cre := s.cre.members, tasks := s.fleet.tasks
    tfcs := s.fleet.tfcs, nodes := s.frames.nodes, links := s.frames.links, hist := s.frames.decided
    group := (s.sec.groupGen, s.sec.groupTx) }

/-- Entries of a table that differ from an older one, and keys that are gone. -/
def tabDiff {α : Type} [DecidableEq α] (old new : List (Nat × α)) : List (Nat × Option α) :=
  ((new.filter fun p => tabGet old p.1 ≠ some p.2).map fun p => (p.1, some p.2)) ++
    ((old.filter fun p => (tabGet new p.1).isNone).map fun p => (p.1, none))

/-- SAFE of the state as it stands. -/
def State.safeRec (s : State) : PairRec := .safe ⟨s.saf.sf1, s.saf.sf2, s.saf.rstop⟩

/-- EPOCH of the state as it stands. -/
def State.epochRec (s : State) : PairRec := .epoch s.fleet.roleEpoch s.cre.nextId s.cre.seq

/-- AXIS of an axis as it stands (R422). -/
def State.axisRec (s : State) (n : Fin 8) : PairRec :=
  let a := s.axis n
  .axis n ⟨BitVec.ofInt 32 a.readPos, a.homed, a.locked, BitVec.ofInt 32 a.lockPos, s.holds n, a.atRest, s.axisCrc n⟩

/-- The group key's record: the generation in force, the one in use, both keys and the activation cycle (R365, R543). -/
def State.groupRec (s : State) : PairRec :=
  .group s.sec.groupGen s.sec.groupTx s.sec.slots[3].key s.sec.slots[4].key (match s.sec.renewal with
    | some r => r.cycle
    | none => 0)

/-- Records of the differences between two streamed states (R22, R366). -/
def Streamed.diff (old new : Streamed) : List PairRec :=
  ((tabDiff old.resv new.resv).map fun p => .resv p.1 p.2) ++
    ((new.corrs.filter fun c => !old.corrs.contains c).map fun c => .corr c true) ++
    ((old.corrs.filter fun c => !new.corrs.any fun d => d.id = c.id).map fun c => .corr c false) ++
    ((tabDiff old.members new.members).map fun p => .member p.1 (p.2.getD {})) ++
    (((tabDiff old.cre new.cre).filter fun p =>
      (tabGetD {} old.cre p.1).frozen ≠ (p.2.getD {}).frozen).map fun p => .freeze p.1 (p.2.getD {}).frozen) ++
    ((tabDiff old.tasks new.tasks).map fun p => .task p.1 (p.2.getD {})) ++
    ((tabDiff old.tfcs new.tfcs).map fun p => .tfc p.1 (p.2.getD {})) ++
    ((tabDiff old.nodes new.nodes).map fun p => .node p.1 (p.2.getD {})) ++
    ((tabDiff old.links new.links).flatMap fun p =>
      let a := tabGetD {} old.links p.1
      let b := p.2.getD {}
      (if a.paired = b.paired && a.keyGen = b.keyGen then [] else [PairRec.key p.1 b.paired b.keyGen]) ++
        (if a.rx = b.rx then [] else [PairRec.fcnt p.1 b.rx])) ++
    ((new.hist.filter fun d => !old.hist.contains d).map .hist)

/-- Records of the state whose key a test picks: the content of a snapshot part (R369). -/
def Streamed.pick (k : Streamed) (f : Nat → Bool) : List PairRec :=
  Streamed.diff {} { k with
    resv := k.resv.filter fun p => f p.1, corrs := k.corrs.filter fun c => f c.id.toNat
    members := k.members.filter fun p => f p.1, cre := k.cre.filter fun p => f p.1, tasks := k.tasks.filter fun p => f p.1
    tfcs := k.tfcs.filter fun p => f p.1, nodes := k.nodes.filter fun p => f p.1, links := k.links.filter fun p => f p.1
    hist := k.hist.filter fun d => f d.member }

/-- Part `i` of the rolling snapshot: the entries whose number is `i` modulo 200 (R369). -/
def State.rollingPart (s : State) (i : Nat) : List PairRec := s.streamed.pick fun k => k % 200 = i

/-- Records that every delta carries: SAFE, EPOCH and the axes, and the group key once it has changed. -/
def State.standing (s : State) (group : Bool) : List PairRec :=
  [s.safeRec, s.epochRec] ++ (if group then [s.groupRec] else []) ++ (List.finRange 8).map s.axisRec

/-- The unit streams to its partner: it is active in a pair, over a link that both images can read (R364, R366). -/
def State.streams (s : State) : Bool := s.pair.paired && s.inRun && s.pair.link && s.pair.fmt && s.blk.pair.st = .on

/-- Sends the delta of a cycle (R366). -/
def State.deltaSend (s : State) (cycle : BitVec 32) (final : Bool) : State :=
  let now := s.streamed
  let recs := s.pair.sent.diff now ++ s.standing (s.pair.sent.group ≠ now.group)
  let d : PairDelta := ⟨s.pair.txSeq + 1, final, cycle, recs⟩
  (s.setPair fun p => { p with txSeq := p.txSeq + 1, sent := now }).emit (.delta d)

/-- Sends the rolling snapshot part that follows a delta (R369). -/
def State.rollingSend (s : State) : State :=
  (s.setPair fun p => { p with part := (p.part + 1) % 200 }).emit
    (.snapshotPart false false s.pair.part s.pair.txSeq (s.rollingPart s.pair.part))

/-- Sends the whole state, requested by the standby (R369). -/
def State.snapshotSend (s : State) : State :=
  s.emit (.snapshotPart true true 0 s.pair.txSeq ((s.streamed.pick fun _ => true) ++ s.standing true))

/-! ### What a standby does with it (R368 to R371, R386, R422) -/

/-- A reservation entry goes into the CRE through the mirror registers (R370, R390). -/
def State.mirror (s : State) (i : Nat) (r : Option Resv) : State :=
  let t := match r with
    | some v => tabPut s.cre.resv i v
    | none => tabDel s.cre.resv i
  ({ s with cre := { s.cre with resv := t } } : State).setPair fun p => { p with mirCnt := bump p.mirCnt }

/-- A corridor of the directory. -/
def Cre.putCorr (c : Cre) (k : Corridor) (live : Bool) : Cre :=
  let rest := c.corrs.filter fun x => x.id ≠ k.id
  let put := c.corrs.map fun x => if x.id = k.id then k else x
  { c with corrs := if !live then rest else if c.live k.id then put else c.corrs ++ [k] }

/-- SAFE: only what it shows cleared clears a stop; the unit's own demand stays (R371, R386). -/
def State.safeApply (s : State) (r : SafeRec) : State :=
  let sf1 : Sf1State := if s.saf.sf1Demand then .active else if r.sf1 = .clear then .clear else .awaiting
  (s.setZones r.sf2).setSaf fun k => { k with sf1 := sf1, rstop := r.rstop }

/-- The group key's record: the keys and generations of the active unit, stored as they come (R365, R543). -/
def State.groupApply (s : State) (gen tx : BitVec 32) (cur succ : List Byte) (cycle : BitVec 32) : State :=
  let k := fun (g : BitVec 32) (key : List Byte) =>
    ({ attr := attrOf 2 2 7 false s.sec.testRoot 0, id := 2, gen := g, valid := true, key := key } : KeySlot)
  let s1 := (s.putSlot 3 (k tx cur)).putSlot 4 (k (if gen = tx then s.sec.slots[4].gen else gen) succ)
  let s2 := s1.setSec fun x => { x with
    groupGen := gen, groupTx := tx, renewal := if gen = tx then none else some { gen := gen, cycle := cycle, waiting := [] } }
  let s3 := if s.sec.groupTx = tx then s2
    else { s2 with frames := { s2.frames with group := {} }, pair := { s2.pair with rxPartner := none } }
  match s3.sec.kwkNow with
  | some w =>
    if s3.sec.committedGen 2 < gen.toNat then
      let iv := s3.freshIv
      (iv.2.storeBlob 2 (sealBlob w (k gen (if gen = tx then cur else succ)) iv.1) gen).1
    else s3
  | none => s3

/-- An axis of a shadow: offset or streamed count, alignment, and the record of a loss of alignment (R422). -/
def State.axisApply (s : State) (n : Fin 8) (r : AxisRec) : State :=
  let a := s.axis n
  let same := r.cfgCrc = s.axisCrc n
  let pos := r.pos.toInt
  let rec' := some (r.atRest, r.homed, r.locked, r.lockPos.toInt, pos)
  let b :=
    if a.byEncoder then
      let ofs := pos - a.shLatched
      let l := (ofs :: a.shOffsets).take 3
      let spread := l.foldl max ofs - l.foldl min ofs
      { a with shOffset := ofs, shOffsets := l, shAligned := same && l.length = 3 && spread ≤ a.cfg.lockTol.toNat, shRec := rec' }
    else
      { (a.setMo fun m => { m with step := pos, pos := pos }) with shAligned := same && r.atRest, shRec := rec' }
  let c := b.setMo fun m => { m with pos := b.readPos }
  let s1 := s.setAxis n c
  if a.shAligned && !c.shAligned && r.homed then s1.event .axisAlignment [n.val] else s1

/-- Applies one record (R365, R370). -/
def State.recApply (s : State) : PairRec → State
  | .resv i r => s.mirror i r
  | .corr c live => { s with cre := s.cre.putCorr c live }
  | .member m r =>
    let active := r.st ≠ .unknown && r.st ≠ .retired
    (s.setMember m r).creMemberWrite m (r.cls.setWidth 32 + BitVec.ofNat 32 (16 * bit active))
  | .freeze m frozen => if frozen then s.vetchSubmit 4 0 m false 0 else s.vetchSubmit 5 0 m false 0
  | .task id t => { s with fleet := { s.fleet with tasks := tabSet {} s.fleet.tasks id t } }
  | .tfc i t => { s with fleet := { s.fleet with tfcs := tabSet {} s.fleet.tfcs i t } }
  | .node n r => s.setNode n { r with tx := (s.node n).tx }
  | .key m paired gen =>
    let l := s.link m
    s.setLink m { l with paired := paired, keyGen := gen, tx := if l.paired then l.tx else 0 }
  | .fcnt m rx => s.setLink m { s.link m with rx := rx }
  | .hist d =>
    let rest := s.frames.decided.filter fun x => !(x.member = d.member && x.tag = d.tag)
    { s with frames := { s.frames with decided := rest ++ [d] } }
  | .safe r => s.safeApply r
  | .epoch role nextId seq =>
    { s with
      fleet := { s.fleet with roleEpoch := role, epochStored := role }, cre := { s.cre with nextId := nextId, seq := seq } }
  | .axis n r => if (s.axis n).shadow then s.axisApply n r else s
  | .group gen tx cur succ cycle => s.groupApply gen tx cur succ cycle

/-- Applies the records of a message in order. -/
def State.recsApply (s : State) (l : List PairRec) : State := l.foldl State.recApply s

/-- The standby asks for a full snapshot (R368, R369). -/
def State.snapshotAsk (s : State) : State :=
  if s.standby && s.pair.link && s.pair.fmt && !s.pair.snapAwait then
    (s.setPair fun p => { p with snapAwait := true, snapDone := false, deltasOk := 0, buffered := [], nSnap := bump p.nSnap }).emit
      .snapshotRequest
  else s

/-- A standby that holds no snapshot asks for one as soon as the link allows (R372, R374). -/
def State.snapshotNeed (s : State) : State := if s.pair.snapDone then s else s.snapshotAsk

/-- A delta in sequence is applied and acknowledged (R366, R368). -/
def State.deltaApply (s : State) (d : PairDelta) : State :=
  (((s.recsApply d.recs).setPair fun p => { p with rxSeq := d.seq, deltasOk := p.deltasOk + 1 }).emit (.deltaAck d.seq)).eligUpdate

/-- A gap in the sequence (R368). -/
def State.deltaGap (s : State) : State :=
  let s1 := s.setPair fun p => { p with nGap := bump p.nGap, deltasOk := 0 }
  (s1.snapshotAsk).eligUpdate

/-- A delta reaches the standby (R368, R369). -/
def State.deltaIn (s : State) (d : PairDelta) : State :=
  if s.pair.snapAwait then s.setPair fun p => { p with buffered := p.buffered ++ [d] }
  else if d.seq = s.pair.rxSeq + 1 && s.pair.snapDone then s.deltaApply d
  else s.deltaGap

/-- Deltas buffered during a snapshot, from the successor of its SEQ on (R369). -/
def State.bufferedApply (s : State) (l : List PairDelta) : State :=
  l.foldl (fun (s : State) d =>
    if d.seq = s.pair.rxSeq + 1 then s.deltaApply d
    else if precEq d.seq s.pair.rxSeq then s
    else s.deltaGap) s

/-- A part of a requested snapshot (R369): the first empties the copies, the last ends the wait. -/
def State.snapshotIn (s : State) (last : Bool) (part : Nat) (seq : BitVec 32) (recs : List PairRec) : State :=
  if !s.pair.snapAwait then s
  else
    let s1 := ((if part = 0 then s.emptyCopies else s).recsApply recs)
    if !last then s1
    else
      let wait := s1.pair.buffered
      ((s1.setPair fun p => { p with
        snapAwait := false, snapDone := true, deltasOk := 0, rxSeq := seq, buffered := [] }).bufferedApply wait).eligUpdate

/-- Takes out the entries of a rolling part, for its copy to be replaced (R369). -/
def State.partClear (s : State) (f : Nat → Bool) : State :=
  let keep := fun {α : Type} (t : List (Nat × α)) => t.filter fun (p : Nat × α) => !f p.1
  { s with
    cre := { s.cre with
      resv := keep s.cre.resv, corrs := s.cre.corrs.filter fun c => !f c.id.toNat, members := keep s.cre.members }
    fleet := { s.fleet with members := keep s.fleet.members, tasks := keep s.fleet.tasks, tfcs := keep s.fleet.tfcs }
    frames := { s.frames with nodes := keep s.frames.nodes, decided := s.frames.decided.filter fun d => !f d.member } }

/-- A rolling part that describes the delta applied last is compared, and replaces the copy where they differ (R369). -/
def State.rollingIn (s : State) (part : Nat) (seq : BitVec 32) (recs : List PairRec) : State :=
  if seq ≠ s.pair.rxSeq || !s.pair.snapDone || s.rollingPart part = recs then s
  else
    ((s.partClear fun k => k % 200 = part).recsApply recs).setPair fun p => { p with nMismatch := bump p.nMismatch }

end Sys2Proof.Machine
end

