-- ==== Sys2Proof/Machine/PairCmds.lean ====
section
/-!
DEFINITION. The commands of a pair: the interlock and the claim, takeover, heartbeats, the link and its messages, phase
alignment, deposition and swap (spec/11_pair.md, R358 to R392; spec/10_time.md, R342, R343; spec/12_axes.md, R423).
-/
namespace Sys2Proof.Machine

/-- PAIR is ON with pair operation on (R359). -/
def State.pairOn (s : State) : Bool := s.pair.paired && s.blk.pair.st = .on

/-! ### Takeover (R375, R379, R380, R383, R423) -/

/-- Pending role changes at a takeover: those acknowledged are in force, the others are abandoned, and their members are told
the role in force (R375). -/
def State.takeoverRoles (s : State) : State :=
  (s.fleet.members.map Prod.fst).foldl (fun (s : State) m =>
    let x := s.member m
    match x.change with
    | none => s
    | some c =>
      if c.acked || s.pair.acksHeard.contains m then s.setMember m { x with role := c.role, change := none }
      else
        let s1 := (s.setMember m { x with change := none }).policyEvent 7 0 m (c.role.setWidth 32)
        (s1.addDue m (.role x.role)).setPair fun p => { p with roleFix := p.roleFix ++ [m] }) s

/-- SLIP is written to the channels a test picks (R63). -/
def State.slipAll (s : State) (f : Channel → Bool) : State :=
  s.eachChan fun s c =>
    let x := s.chan c
    if f x then s.chanLock c (x.lockWord ||| 4) else s

/-- What a takeover does to the broadcast carrier phase: from *Hot standby* the cells released but not aligned slip, from
*Warm standby* every locked channel, with LRST for 60 s (R379, R380). -/
def State.takeoverPhase (s : State) (warm : Bool) : State :=
  if warm then
    let s1 := s.slipAll Channel.lock
    s1.setCorr fun c => { c with lrst := some (s.tb0ns + 60000000000) }
  else
    let bad := s.pair.phase.filter fun c => c.streamed && c.good < 10
    if bad.isEmpty then s else s.slipAll fun x => bad.any fun c => c.sig = x.sig && c.prn.toNat = x.prn.toNat

/-- An axis leaves shadow and is ON: aligned, with what was last streamed; otherwise neither homed nor locked, and the
corridors that hold its gated cells become invalid (R423). -/
def State.axisClaim (s : State) (n : Fin 8) : State :=
  let a := s.axis n
  if !a.shadow then s
  else
    let ok := a.shAligned && a.shRec.isSome
    let r := a.shRec.getD (false, false, false, 0, 0)
    let b := { (a.setMo fun m => { m with ofs := if a.byEncoder then m.ofs + a.shOffset else m.ofs }) with
      shadow := false, shOffset := 0, homed := ok && r.2.1, locked := ok && r.2.2.1, lockPos := r.2.2.2.1 }
    let s1 := ((s.setAxis n b).loopStarting n).axisStarting n
    let s2 := s1.setCtl (.mot n) fun c => { c with enable := true, st := .on, enPend := false }
    let s3 := if a.stepDir then s2 else s2.setCtl .cle fun c => { c with enable := true, st := .on, enPend := false }
    if ok then s3 else s3.gateLost n

/-- A claim from a standby state has completed (R375). -/
def State.takeover (s : State) : State :=
  let warm := s.dev.dstate = .warmStandby
  let heard := s.pair.repochHeard.getD s.fleet.roleEpoch
  let top := if precedes s.fleet.roleEpoch heard then heard else s.fleet.roleEpoch
  let s1 := { s with
    fleet := { s.fleet with roleEpoch := top + 1, epochStored := top + 1 }
    dev := { s.dev with eligible := false } }
  let s2 := s1.setPair fun p => { p with
    takeover := some (top + 1), nTakeover := bump p.nTakeover, tkFrom := some p.holdInAt, txSeq := p.rxSeq, ackSeq := p.rxSeq
    sent := s1.streamed, part := 0, snapAwait := false, buffered := [], window := true, windowT := none }
  let s3 := (((s2.enterRun).takeoverRoles).policyEvent 9 0 0 0).takeoverPhase warm
  let s4 := (List.finRange 8).foldl State.axisClaim s3
  s4.event .takeover [(top + 1).toNat]

/-! ### The interlock (R358 to R362) -/

/-- The claim completes (R360): a standby takes over; a unit that waited for its claim enters *Run*. -/
def State.claimDone (s : State) : State :=
  let s1 := (s.setPair fun p => { p with sampling := false, claimDone := true, claimed := true }).event .claim []
  if s1.standby then s1.takeover
  else if s1.dev.target = some .run && s1.dev.cause = 0 then s1.enterRunFresh
  else s1

/-- PAIR_HOLD_IN has changed (R358, R360 to R362): the gate follows; a race in the sample is lost at position 1 and outlasted at
position 0; a unit that waited for its claim becomes a standby when its partner holds. -/
def State.holdInSet (s : State) (asserted : Bool) : State :=
  let s1 := s.setPair fun p => { p with
    holdIn := asserted, holdInAt := s.tb5ns, conflict := p.conflict && asserted, swapRel := if asserted then none else p.swapRel }
  if asserted then
    let s2 := s1.gateShut
    if s2.pair.sampling && s2.pair.pos then
      ((s2.holdRelease).setPair fun p => { p with race := true }).event .raceLost []
    else if s2.pair.sampling then s2.setPair fun p => { p with sampling := false }
    else if s2.dev.target = some .run && !s2.pair.holding && s2.dev.dstate ≠ .run then s2.enterStandby
    else s2.eligUpdate
  else if s1.pair.holding && !s1.pair.claimDone && !s1.pair.pos then s1.claimDone
  else s1.eligUpdate

/-- PAIR_HOLD_IN_CHANGE (R358). -/
def execPairHoldInChange (asserted : Bool) (s : State) : Result :=
  .next (if asserted = s.pair.holdIn then s else s.holdInSet asserted)

/-- CLAIM_ASSERT (R360): PAIR_HOLD_IN has read deasserted for 3 ms at position 0 or 9 ms at position 1. -/
def execClaimAssert (s : State) : Result :=
  if s.pairOn && s.pair.arm && !s.pair.holding && !s.pair.holdIn && !s.saf.safe then
    let s1 := s.reachNs (s.pair.holdInAt + if s.pair.pos then 9000000 else 3000000)
    .next (s1.setPair fun p => { p with
      holding := true, sampling := true, claimDone := false, claimAt := s1.tb5ns, kaAt := max p.kaAt s1.tb5ns })
  else .next s

/-- CLAIM_COMPLETE (R360): the 1 ms sample ends. -/
def execClaimComplete (s : State) : Result :=
  if s.pair.holding && s.pair.sampling then .next (s.reachNs (s.pair.claimAt + 1000000)).claimDone else .next s

/-- PAIR_KA_WRITE (R359, R390). -/
def execPairKaWrite (b : Bus) (key : BitVec 16) (s : State) : Result :=
  .next (s.guarded b 0x40100014 .write fun s => if key = 0x4B41 then s.setPair fun p => { p with kaAt := s.tb5ns } else s)

/-- PAIR_KA_TIMEOUT (R359): 15 ms without a feed. -/
def execPairKaTimeout (s : State) : Result :=
  if s.pair.holding then
    let s1 := s.reachNs (s.pair.kaAt + 15000000)
    .next (((s1.holdRelease).setPair fun p => { p with kaLost := true }).event .keepAliveLost [])
  else .next s

/-- HOLD_RELEASE (R359, R390): PAIR_CTRL.RELEASE. -/
def execHoldRelease (b : Bus) (s : State) : Result := .next (s.guarded b 0x40100000 .write State.holdRelease)

/-- HOLD_CONFLICT (R362): PAIR_HOLD_IN has read asserted for more than 1 ms after the claim completed. -/
def execHoldConflict (s : State) : Result :=
  if s.pair.holding && s.pair.claimDone && s.pair.holdIn && !s.pair.conflict then
    let s1 := s.reachNs (max s.pair.holdInAt (s.pair.claimAt + 1000000) + 1000000)
    .next ((s1.setPair fun p => { p with conflict := true }).event .holdConflict [])
  else .next s

/-! ### Deposition (R385) -/

/-- A unit in *Run* is deposed: it releases its hold, and issues LISTEN to itself. -/
def State.deposed (s : State) : State :=
  if s.dev.dstate = .run && (s.dev.target.isNone || s.swapping) then
    let s1 := if s.swapping then s.swapDrop else s
    ((s1.holdRelease).setCause 6).leaveRun .listening none
  else s

/-- ROLE_STALE_RECEIVED (R385). -/
def execRoleStaleReceived (s : State) : Result := .next (if s.pair.link then s.deposed else s)

/-- A link message of an older role epoch is answered ROLE_STALE (R385). -/
def State.staleLink (s : State) (repoch : BitVec 32) : State :=
  if precedes repoch s.fleet.roleEpoch then
    (s.setPair fun p => { p with nStale := bump p.nStale }).emit .roleStale
  else s

/-- A link message that names a newer role epoch deposes a unit in hold conflict (R362). -/
def State.newerLink (s : State) (repoch : BitVec 32) : State :=
  if s.pair.conflict && precedes s.fleet.roleEpoch repoch then s.deposed else s

/-! ### Heartbeats (R342, R363) -/

/-- The heartbeat the unit sends now. -/
def State.heartbeat (s : State) : Heartbeat :=
  { tx := s.tim.base[4].nsField, echo := s.pair.hbRx, repoch := s.fleet.roleEpoch, dstate := s.dev.dstate, pos := s.pair.pos
    eligible := s.dev.eligible, sent := s.pair.txSeq, applied := s.pair.rxSeq, cfgCrc := s.pairCrc }

/-- HEARTBEAT_SEND (R363): at the next 10 ms of TB5. -/
def execHeartbeatSend (s : State) : Result :=
  if s.blk.pair.st ≠ .on then .next s
  else
    let s1 := s.reachNs ((s.tb5ns / 10000000 + 1) * 10000000)
    let h := s1.heartbeat
    .next ((s1.setPair fun p => { p with hbTx := h.tx }).emit (.heartbeat h))

/-- A signed difference of two NS fields. -/
def nsDiff (a b : BitVec 32) : Int := (a - b).toInt

/-- The standby's offset from one exchange, with the flag of OD 0x4020:02 (R342). -/
def State.thetaNew (s : State) (h : Heartbeat) (rx : BitVec 32) : State :=
  let t := (nsDiff rx h.tx - nsDiff h.echo s.pair.hbTx) / 2
  let near := t.natAbs ≤ 50
  let good := if near then min 10 (s.tim.thetaGood + 1) else 0
  let bad := if near then 0 else min 3 (s.tim.thetaBad + 1)
  let al := if 10 ≤ good then true else if 3 ≤ bad then false else s.tim.aligned
  let s1 := { s with tim := { s.tim with theta := t, thetaGood := good, thetaBad := bad, aligned := al } }
  if al = s.tim.aligned then s1 else s1.event .pairTime [bit al]

/-- One partner heartbeat on either path (R363). -/
def State.hbSeen (s : State) : State :=
  s.setPair fun p => { p with hbOk := true, miss := 0, hbDue := some (s.tb5ns + 12000000) }

/-- HEARTBEAT_RECEIVED (R342, R363, R385): on the link with its content, or a pull of PAIR_HB alone. -/
def execHeartbeatReceived (h : Option Heartbeat) (s : State) : Result :=
  if s.blk.pair.st ≠ .on then .next s
  else
    let s1 := s.hbSeen
    match h with
    | none => .next s1.eligUpdate
    | some h =>
      let rx := s.tim.base[4].nsField
      let s2 := s1.setPair fun p => { p with
        hbRx := rx
        partner := { p.partner with
          repoch := h.repoch, dstate := h.dstate, pos := h.pos, eligible := h.eligible, cfgCrc := h.cfgCrc } }
      let s3 := if s.standby then s2.thetaNew h rx else s2
      let s4 := (s3.staleLink h.repoch).newerLink h.repoch
      let s5 := if h.dstate = .run && precedes s.fleet.roleEpoch h.repoch then s4.deposed else s4
      .next s5.eligUpdate

/-- The third miss in a row (R363, R373, R377): an active unit goes on alone; a standby whose partner holds is not eligible
any more, and its TB4 loses its source. -/
def State.hbLost (s : State) : State :=
  let s1 := s.setPair fun p => { p with hbOk := false, partner := { p.partner with eligible := false } }
  if s1.standby then (if s1.pair.holdIn then (s1.sourceLost 4).eligUpdate else s1)
  else if s1.inRun && !s1.pair.holdIn then (s1.event .partnerLost []).frbServe
  else s1

/-- HEARTBEAT_MISSED (R363): 12 ms after the partner's previous heartbeat, and every 10 ms after that. -/
def execHeartbeatMissed (s : State) : Result :=
  match s.pair.hbDue with
  | none => .next s
  | some t =>
    let s1 := s.reachNs t
    let s2 := s1.setPair fun p => { p with
      hbDue := some (t + 10000000), miss := if p.miss = 3 then 3 else p.miss + 1, missTotal := p.missTotal + 1 }
    .next (if s.pair.miss = 2 then s2.hbLost else s2)

/-! ### The link (R364, R645) -/

/-- LINK_UP (R364): both lanes have symbol lock, and the partner has shown the certificate of a unit; `auth` says that the
mutual authentication completed. A partner not enrolled at the site is refused. -/
def execLinkUp (unit : BitVec 8) (auth : Bool) (s : State) : Result :=
  if s.blk.pair.st ≠ .on then .next s
  else
    let s1 := s.setPair fun p => { p with l0 := true, l1 := true }
    if auth && s.sec.knowsUnit unit then
      .next ((((s1.setPair fun p => { p with link := true, partner := { p.partner with unit := unit } }).event .linkState
        [1]).snapshotNeed).eligUpdate)
    else .next (s1.event .helloRefused [unit.toNat])

/-- The link is down: a snapshot under way is abandoned, and a swap not released yet is given up (R364, R374). -/
def State.linkDown (s : State) : State :=
  let s1 := s.setPair fun p => { p with link := false, fmt := false, snapAwait := false, buffered := [] }
  let s2 := if s1.swapping then s1.swapDrop else s1
  (s2.event .linkState [0]).eligUpdate

/-- LINK_DOWN (R364): which lanes still have symbol lock, and how many code errors were counted. -/
def execLinkDown (l0 l1 : Bool) (codeErr : BitVec 16) (s : State) : Result :=
  let s1 := s.setPair fun p => { p with l0 := l0, l1 := l1, codeErr := p.codeErr + codeErr }
  .next (if s.pair.link then s1.linkDown else s1)

/-- HELLO (R364, R645): each image can read the other's format, and the partner's position. Equal positions keep the link
down. -/
def execHello (readable pos : Bool) (s : State) : Result :=
  if !s.pair.link then .next s
  else if pos = s.pair.pos then .next (s.linkDown.event .samePosition [bit pos])
  else .next (((s.setPair fun p => { p with fmt := readable, partner := { p.partner with pos := pos } }).snapshotNeed).eligUpdate)

/-- Whether a message of the link is taken: the link is up, its tag verifies, and a stale sender is answered (R364, R368,
R385). -/
def State.linkTakes (s : State) (repoch : BitVec 32) (tagOk : Bool) : Bool :=
  s.pair.link && tagOk && !precedes repoch s.fleet.roleEpoch

/-- DELTA_RECEIVED (R365, R368). -/
def execDeltaReceived (d : PairDelta) (repoch : BitVec 32) (tagOk : Bool) (s : State) : Result :=
  if s.pair.link && tagOk && !s.linkTakes repoch tagOk then .next (s.staleLink repoch)
  else if s.linkTakes repoch tagOk && s.standby && s.pair.fmt then .next (s.deltaIn d)
  else if s.linkTakes repoch tagOk then .next (s.newerLink repoch)
  else .next s

/-- DELTA_ACK_RECEIVED (R366, R367): frames that waited for it may leave. -/
def execDeltaAckReceived (seq : BitVec 32) (s : State) : Result :=
  if s.pair.link && precedes s.pair.ackSeq seq && precEq seq s.pair.txSeq then
    .next (s.setPair fun p => { p with ackSeq := seq }).frbServe
  else .next s

/-- SNAPSHOT_REQUEST (R369): the active unit sends its whole state. -/
def execSnapshotRequest (s : State) : Result := .next (if s.streams then s.snapshotSend else s)

/-- SNAPSHOT_PART_RECEIVED (R369). -/
def execSnapshotPartReceived (requested last : Bool) (part : Nat) (seq : BitVec 32) (recs : List PairRec) (repoch : BitVec 32)
    (tagOk : Bool) (s : State) : Result :=
  if s.linkTakes repoch tagOk && s.standby && s.pair.fmt then
    .next (if requested then s.snapshotIn last part seq recs else s.rollingIn part seq recs)
  else .next s

/-! ### Phase alignment (R378) -/

/-- A number of millionths rounded to the nearest whole, halves up. -/
def nearest (x : Int) : Int := (x + 500000) / 1000000

/-- Puts a number at its place in a rising list. -/
def insertRising (x : Int) : List Int → List Int
  | [] => [x]
  | y :: t => if x ≤ y then x :: y :: t else y :: insertRising x t

/-- Median; of an even count the mean of the middle two, rounded down. -/
def median (l : List Int) : Int :=
  let v := l.foldl (fun t x => insertRising x t) []
  let n := v.length
  if n = 0 then 0 else if n % 2 = 1 then v.getD (n / 2) 0 else (v.getD (n / 2 - 1) 0 + v.getD (n / 2) 0) / 2

/-- f of the cells of one signal: the fraction of the cell of highest elevation (R378). -/
def commonPhase (l : List PhaseIn) : Int :=
  match l with
  | [] => 0
  | c :: t =>
    let r := t.foldl (fun (b : PhaseIn) x => if b.elev < x.elev then x else b) c
    r.d - nearest r.d * 1000000

/-- Applies the alignment of one cell to its channel: CYC_ADJ, and the lock time of the partner (R63, R378). -/
def State.cellAlign (s : State) (x : PhaseIn) (n : Int) : State :=
  s.eachChan fun s c =>
    let k := s.chan c
    if k.sig = x.sig && k.prn.toNat = x.prn.toNat && k.lock then
      let s1 := if n = 0 then s else s.chanLock c (k.lockWord ||| ((BitVec.ofInt 32 n) <<< 16))
      s1.chanLockt c x.lockMs
    else s

/-- The cells of one signal that both units track, aligned channel by channel (R378). -/
def State.cellsAlign (s : State) (l : List PhaseIn) : State :=
  let f := commonPhase l
  l.foldl (fun (s : State) x => s.cellAlign x (nearest (x.d - f))) s

/-- A cell after an epoch whose common phase is f, from its count of good epochs (R378). -/
def phaseCell (x : PhaseIn) (f : Int) (old : Nat) : PhaseCell :=
  let n := nearest (x.d - f)
  let r := x.d - f - n * 1000000
  PhaseCell.mk x.sig x.prn (if x.both && n = 0 && r.natAbs ≤ 50000 then min 10 (old + 1) else 0) true

/-- The phase table after an epoch of one signal (R378). -/
def Pair.signalAlign (p : Pair) (sig : BitVec 8) (l : List PhaseIn) : Pair :=
  let both := l.filter PhaseIn.both
  let f := commonPhase both
  let old := fun (x : PhaseIn) =>
    ((p.phase.find? fun c => c.sig = x.sig && c.prn = x.prn).map PhaseCell.good).getD 0
  { p with
    phase := (p.phase.filter fun c => c.sig ≠ sig) ++ l.map fun x => phaseCell x f (old x)
    terms := if both.isEmpty then p.terms else
      (p.terms.filter fun t => t.sig ≠ sig) ++ [PhaseTerm.mk sig f (median (both.map PhaseIn.p))] }

/-- The cells of one signal in an epoch (R378). -/
def State.signalAlign (s : State) (sig : BitVec 8) (l : List PhaseIn) : State :=
  (s.cellsAlign (l.filter PhaseIn.both)).setPair fun p => p.signalAlign sig l

/-- Signals that occur, each once. -/
def phaseSignals (l : List PhaseIn) : List (BitVec 8) :=
  l.foldl (fun t x => if t.contains x.sig then t else t ++ [x.sig]) []

/-- One streamed epoch (R378): every signal, then whether alignment is complete over the cells this unit tracks too. -/
def State.phaseIn (s : State) (l : List PhaseIn) : State :=
  let s0 := s.setPair fun p => { p with phase := p.phase.filter fun c => l.any fun x => x.sig = c.sig && x.prn = c.prn }
  let s1 := (phaseSignals l).foldl (fun (s : State) g => s.signalAlign g (l.filter fun x => x.sig = g)) s0
  let done := (l.filter PhaseIn.tracked).all fun x => s1.pair.phase.any fun c => c.sig = x.sig && c.prn = x.prn && c.good = 10
  (s1.setPair fun p => { p with aligned := done && !l.isEmpty }).eligUpdate

/-- PHASE_STREAM (R378), in *Hot standby*. -/
def execPhaseStream (cells : List PhaseIn) (repoch : BitVec 32) (tagOk : Bool) (s : State) : Result :=
  .next (if s.linkTakes repoch tagOk && s.dev.dstate = .hotStandby then s.phaseIn cells else s)

/-! ### What a standby hears of its partner (R290, R371) -/

/-- A valid PERMIT or STOP frame of the partner: its stops go into the lanes, a permit's role epoch is kept (R371). -/
def State.partnerHeard (s : State) (stopFrame : Bool) (w : PermitWord) (repoch : BitVec 32) : State :=
  let s1 := s.setPair fun p => { p with
    repochHeard := if stopFrame then p.repochHeard else match p.repochHeard with
      | some r => some (if precedes r repoch then repoch else r)
      | none => some repoch }
  let s2 := if w.stop && s1.saf.sf1 = .clear then s1.setSaf fun k => { k with sf1 := .awaiting } else s1
  if w.zstop &&& ~~~s2.saf.sf2 = 0 then s2 else s2.setZones (s2.saf.sf2 ||| w.zstop)

/-- STANDBY_HEARD_PERMIT (R290, R371). -/
def execStandbyHeardPermit (unit : BitVec 8) (fcnt : BitVec 32) (mic stopFrame : Bool) (w : PermitWord) (repoch : BitVec 32)
    (s : State) : Result :=
  if !s.standby || s.blk.frb.st ≠ .on then .next s
  else if unit ≠ s.pair.partner.unit then .next s.countMic
  else if !fresher s.pair.rxPartner fcnt then .next s.countReplay
  else if !mic then .next s.countMic
  else .next ((s.setPair fun p => { p with rxPartner := some fcnt }).partnerHeard stopFrame w repoch)

/-! ### The mirror registers (R370, R390) -/

/-- The entry that PAIR_MIR0 to 3 hold, laid out as CRE_TAB_D0 to D3; none where VALID is 0 (R192, R390). -/
def State.mirEntry (s : State) : Option Resv :=
  let d0 := s.pair.mir[0]
  let d3 := s.pair.mir[3]
  let cell := (d0.extractLsb' 0 20).toNat
  if d3.getLsbD 24 then
    some {
      cell := cell, holder := (d0.extractLsb' 20 9).toNat, entry := s.pair.mir[1], exit := s.pair.mir[2]
      corr := d3.extractLsb' 0 16, idx := (d3.extractLsb' 16 8).toNat, overdue := d3.getLsbD 25, frozen := d3.getLsbD 26
      blocked := d3.getLsbD 27, hold := if d3.getLsbD 28 then (s.cre.gateOf cell).map fun g => g.axis else none
      aged := d3.getLsbD 29 }
  else none

/-- MIRROR_WRITE (R370, R390): PAIR_MIRIDX with GO = 1, taken only in a standby while RECON = 1. -/
def execMirrorWrite (b : Bus) (idx : BitVec 13) (s : State) : Result :=
  .next (s.guarded b 0x40100050 .write fun s =>
    if s.standby && s.cre.recon then s.mirror idx.toNat s.mirEntry else s)

/-! ### Swap (R388) -/

/-- SWAP is accepted only in *Run*, with the link up and the partner ELIGIBLE. -/
def State.cmdSwap (s : State) : State :=
  if s.dev.dstate = .run && s.pair.paired && s.pair.link && s.pair.partner.eligible then
    let s1 := s.answer .ok
    ({ s1 with
      cre := { s1.cre with recon := true }, dev := { s1.dev with target := some s.standbyMode } } : State).setPair fun p =>
        { p with swapAsk := true }
  else s.deny .state

/-- SWAP (R30, R388). -/
def execSwap (role : Role) (s : State) : Result := .next (s.stateCmd role false State.cmdSwap)

/-- The release of a swap: the former active unit keeps its state and is a standby that needs no snapshot (R388). -/
def State.swapRelease (s : State) : State :=
  let s1 := s.holdRelease
  let s2 := ((s1.devTo s.standbyMode).event .swap []).allShadow
  { (s2.setPair fun p => { p with
      swap := none, swapRel := some s.tb5ns, snapDone := true, snapAwait := false, buffered := [], deltasOk := 0, rxSeq := p.txSeq
      heard := [], acksHeard := [], repochHeard := none, phase := [], aligned := false, arm := false }) with
    dev := { s2.dev with eligible := false } }

/-- A swap goes on at a management tick: once its final delta is acknowledged and the permit of the cycle has begun (R388). -/
def State.swapTick (s : State) : State :=
  match s.pair.swap with
  | some q => if precEq q s.pair.ackSeq && s.fra.permitBegun && s.dev.dstate = .run then s.swapRelease else s
  | none => s

/-- SWAP_CLAIM_TIMEOUT (R388): 20 ms after the release without a claim of the partner. -/
def execSwapClaimTimeout (s : State) : Result :=
  match s.pair.swapRel with
  | none => .next s
  | some t =>
    let s1 := s.reachNs (t + 20000000)
    let s2 := s1.setPair fun p => { p with swapRel := none }
    .next (if s2.standby && !s2.pair.holdIn then s2.setEligible true else s2)

end Sys2Proof.Machine
end

