-- ==== Sys2Proof/Machine/Tamper.lean ====
section
/-!
DEFINITION. Life cycle and tamper (spec/17_security.md R547 to R553).
-/
namespace Sys2Proof.Machine

/-! ### Life cycle (R547, R548) -/

/-- Every session returns to Observer (R507). -/
def State.sessionsObserver (s : State) : State :=
  { s with dict := { s.dict with sess := s.dict.sess.map fun x => { x with role := .observer, key := none } } }

/-- Role that a change needs, and the fuses after it; none for a change that R547 does not have. -/
def Security.changeTo (k : Security) (v : Nat) : Option (Role × Security) :=
  match k.lifeCycle, v with
  | .manufacturing, 1 => some (.vendor, { k with deploy := true })
  | .deployed, 2 => if k.returns < 32 then some (.engineer, { k with returns := k.returns + 1 }) else none
  | .serviceReturn, 1 =>
    if k.returns < 32 && !k.debugSeen then some (.engineer, { k with returns := k.returns + 1 }) else none
  | .manufacturing, 3 => some (.vendor, { k with decom := true })
  | .deployed, 3 => some (.engineer, { k with decom := true })
  | .serviceReturn, 3 => some (.engineer, { k with decom := true })
  | _, _ => none

/-- An accepted change, in the order of R548. -/
def State.lifeCycleChange (s : State) (k : Security) (x : StartInput) : State :=
  let old := s.sec.lifeCycle.code
  let s1 := (({ s with sec := k } : State).secureWipe.slotsClear).sessionsObserver
  ((s1.event .lifeCycleChanged [old, k.lifeCycle.code]).flushLog).restart x

/-- LIFE_CYCLE_COMMAND (R547, R548): OD 0x2080:02. -/
def execLifeCycleCommand (role : Role) (v : Nat) (x : StartInput) (s : State) : Result :=
  .next (s.asRole role .engineer fun s => s.inListening fun s =>
    if 3 < v then s.deny .range
    else match s.sec.changeTo v with
      | some (min, k) => s.asRole role min fun s => (s.answer .ok).lifeCycleChange k x
      | none => s.deny .other)

/-! ### Tamper (R549 to R553) -/

/-- Number of a source (R549). -/
def tamperNo : TamperSource → Nat
  | .loop0 => 0 | .loop1 => 1 | .vin => 2 | .vbat => 3 | .clock => 4 | .temp => 5

/-- Changes the TMP part. -/
def State.setTmp (s : State) (f : Tmp → Tmp) : State := s.setSec fun k => { k with tmp := f k.tmp }

/-- Response configured for a source: 0 log, 1 wipe, 2 lock. -/
def State.tamperResp (s : State) (i : Nat) : Nat := s.sec.tmp.resp.toNat / 4 ^ i % 4

/-- The source is watched now (R549). -/
def State.tamperWatched (s : State) (t : TamperSource) : Bool :=
  match t with
  | .loop0 => s.sec.tmp.loop.getLsbD 0
  | .loop1 => s.sec.tmp.loop.getLsbD 1
  | .vin => s.dev.dstate ≠ .dormant
  | _ => true

/-- Only PD_AON is there to respond: *Dormant*, or no VIN (R551). -/
def State.aonOnly (s : State) : Bool := s.dev.dstate = .dormant || !s.dev.powered

/-- What a wipe does, the latch of PD_AON apart (R550, R552). -/
def State.wipeCore (s : State) : State := ((s.slotsClear).secureWipe).keyAbort

/-- The KWK latch of PD_AON is cleared (R550). -/
def State.kwkClear (s : State) : State :=
  (s.setSec fun k => { k with kwk := none }).setTmp fun t => { t with kwkl := false }

/-- A source fires (R550, R551, R555). VIN is back when its source fires, so ACTIVE does not stay set for it (R549). -/
def State.tamperFire (s : State) (t : TamperSource) : State :=
  let i := tamperNo t
  let m : BitVec 6 := 1#6 <<< i
  if !s.tamperWatched t then s
  else
    let cfg := s.tamperResp i
    let r := if cfg = 1 && s.dev.dstate = .startUp && s.dev.powered then 2 else cfg
    let s1 := (s.setTmp fun x => { x with active := if t = .vin then x.active else x.active ||| m, seen := x.seen ||| m, cnt := x.cnt + 1 }).setSec fun k =>
      { k with tamperEvents := bump k.tamperEvents }
    let s2 := if r = 0 then s1 else if s.aonOnly then s1.kwkClear else s1.kwkClear.wipeCore
    let s3 := if r = 2 then (s2.setTmp fun x => { x with tampered := true }) else s2
    let s4 := if r = 2 && !s.aonOnly then s3.setCause 1 else s3
    if s.aonOnly then s4.eventAon .tamper [i, r] else s4.event .tamper [i, r]

/-- TAMPER_FIRE (R549). The VBAT source fires when VBAT leaves its range (R616). -/
def execTamperFire (source : TamperSource) (s : State) : Result :=
  .next ((if source = .vbat then { s with pwr := { s.pwr with vbatOk := false } } else s).tamperFire source)

/-- A source whose response is lock is active (R553). -/
def State.lockActive (s : State) : Bool :=
  (List.range 6).any fun i => s.sec.tmp.active.getLsbD i && s.tamperResp i = 2

/-- TAMPERED is cleared (R553). -/
def State.tamperClear (s : State) : State :=
  s.inListening fun s =>
    if s.lockActive then s.answer .busy
    else (((s.setTmp fun x => { x with tampered := false }).clearCause 1).event .tamperCleared []).answer .ok

/-- TAMPER_CLEAR (R553): OD 0x9040:09, with the sources that are active at the write. -/
def execTamperClear (role : Role) (v : Nat) (active : BitVec 6) (s : State) : Result :=
  .next (s.asRole role .engineer fun s =>
    if v ≠ 1 then s.deny .range else (s.setTmp fun x => { x with active := active }).tamperClear)

end Sys2Proof.Machine
end

