-- ==== Sys2Proof/Machine/Power.lean ====
section
/-!
DEFINITION. Supplies, power domains, clocks and the calibration clear (spec/21_power_clocks.md, R612 to R626;
spec/18_event_recorder.md, R568; spec/10_time.md, R338; spec/20_startup_calibration.md, R608).
-/
namespace Sys2Proof.Machine

/-- Changes the power part. -/
def State.setPwr (s : State) (f : Pwr → Pwr) : State := { s with pwr := f s.pwr }

/-- Everything but PD_AON has its power and the root PLL its lock. -/
def State.alive (s : State) : Bool := s.dev.powered && s.dev.dstate ≠ .dormant && s.pwr.pllLock

/-! ### VIN and VBAT (R568, R613, R614, R616) -/

/-- POWER_FAIL (R568, R613): a new detection, once the last one has cleared. -/
def execPowerFail (mv : BitVec 16) (s : State) : Result :=
  if s.alive && !s.pwr.pfailNow then .next (s.powerFail mv) else .next s

/-- POWER_FAIL_CLEARED (R613): PFAIL stays set until start-up. -/
def execPowerFailCleared (mv : BitVec 16) (s : State) : Result :=
  if s.alive && s.pwr.pfailNow then
    .next ((s.setPwr fun p => { p with pfailNow := false, vinMv := mv }).setEvr fun e => { e with pfail := false })
  else .next s

/-- PD_AON has lost its contents: the FBC, the latches and counters, and the always-on buffer (R338, R568, R616). -/
def State.aonLost (s : State) : State :=
  { s with
    tim := { s.tim with fbc := {} }
    evr := { s.evr with buffer := [], opsec := 0, opTicks := 0, pcyc := 0 }
    sec := { s.sec with kwk := none, tmp := {} }
    pwr := { s.pwr with pfThr := 0x2D, pfCnt := 0 }
    start := { s.start with wdcnt := 0, ramps := 0 }
    upd := { s.upd with lastPermit := none } }

/-- Power has gone from every domain but PD_AON (R614); a VBAT below 1.8 V takes PD_AON with it (R616). -/
def State.brownOut (s : State) (vbat : BitVec 16) : State :=
  let s1 := s.unpowered true
  let s2 := { s1 with
    dev := { s1.dev with powered := false }
    start := { s1.start with ramps := 0 }
    pwr := { s1.pwr with
      vinOk := false, vinMv := 0, pllLock := false, pdStat := 1, vbatMv := vbat, vbatOk := vbatFits vbat } }
  if vbat.toNat < 1800 then s2.aonLost else s2

/-- BROWN_OUT (R614): VIN stays below 4.0 V for 20 us. `vbat` is the level at VBAT then, mV. -/
def execBrownOut (vbat : BitVec 16) (s : State) : Result := if s.dev.powered then .next (s.brownOut vbat) else .next s

/-- VBAT_LOSS (R616): VBAT falls below 1.8 V while VIN is absent. -/
def execVbatLoss (vbat : BitVec 16) (s : State) : Result :=
  if s.dev.powered then .next s
  else .next ((s.setPwr fun p => { p with vbatMv := vbat, vbatOk := false }).aonLost)

/-! ### VSTOP, VOUT and temperature (R612, R617, R621) -/

/-- Without VSTOP the stop outputs are off and both ESTOP channels read the stop level, which their filters follow (R240,
R617). -/
def State.vstopGone (s : State) : State :=
  s.setSaf fun k => { k with
    outA := false, outB := false, estA := { k.estA with raw := false }, estB := { k.estB with raw := false } }

/-- VSTOP_LOW (R617): one record for each fall. -/
def execVstopLow (mv : BitVec 16) (s : State) : Result :=
  let s1 := s.setPwr fun p => { p with vstopOk := false, vstopMv := mv }
  if !s.alive then .next s1
  else .next (if s.pwr.vstopOk then s1.vstopGone.event .vstopFall [mv.toNat] else s1.vstopGone)

/-- VSTOP_RESTORED (R617): the outputs can be driven again; the voter and the ESTOP filters decide what they do. -/
def execVstopRestored (mv : BitVec 16) (s : State) : Result :=
  .next (s.setPwr fun p => { p with vstopOk := true, vstopMv := mv })

/-- VOUT_OVERLOAD (R612): VOUT33, or VOUT18, enters foldback; one record per overload. -/
def execVoutOverload (v18 : Bool) (s : State) : Result :=
  if s.alive then .next ((s.setPwr fun p => { p with voutOvl := true }).event .voutOverload [bit v18]) else .next s

/-- TEMPERATURE_WARNING (R621): the die rises through 105 degC; `t` is TMP_TEMP. -/
def execTemperatureWarning (t : BitVec 16) (s : State) : Result :=
  let s1 := s.setTmp fun x => { x with temp := t }
  if s.alive then .next (s1.event .temperature [t.toNat]) else .next s1

/-! ### Clock failure (R338, R625) -/

/-- CLOCK_FAILURE (R625): the tamper source and a record stamped by the FBC; the safe state while the root keeps running; a
start with cause 3, with the power of the other domains removed, once CLK_TIM has stopped. -/
def execClockFailure (stopped : Bool) (x : StartInput) (s : State) : Result :=
  if !s.alive then .next s
  else
    let s1 := { s with tim := { s.tim with fbc := { s.tim.fbc with clkFail := true } } }
    let s2 := (s1.tamperFire .clock).event .clockFailure [bit stopped]
    .next (if stopped then s2.startUp .watchdog true x else s2.safeEnter 8)

/-! ### Power domains (R44, R618, R619) -/

/-- Switchable blocks of a domain (R618). -/
def domainBlocks (d : Fin 12) : List BlockId :=
  match d.val with
  | 4 => [.cre]
  | 5 => [.gbb]
  | 6 => [.gbb]
  | 7 => [.grf]
  | 8 => [.fra, .frb]
  | 9 => (List.finRange 8).map BlockId.mot ++ [.cle]
  | 10 => [.eth0, .eth1, .can0, .can1]
  | _ => []

/-- A domain that PMU_PDREQ may switch off now (R619). -/
def State.mayUnpower (s : State) (d : Fin 12) : Bool := 3 ≤ d.val && s.allOff (domainBlocks d)

/-- What a domain loses with its power: its registers, and the contents that the rules name (R386, R618, R619, R632). -/
def State.domainLost (s : State) (d : Fin 12) : State :=
  match d.val with
  | 3 => s.clusterDown
  | 4 => { s with cre := s.creKept true }
  | 5 => { s with gbb := { chans := s.gbb.chans.filter fun p => 336 ≤ p.1 } }
  | 6 => { s with gbb := { s.gbb with chans := s.gbb.chans.filter fun p => p.1 < 336 } }
  | 7 => { s with grf := {} }
  | 8 => { s with fra := { s.fra with regs := {} }, frb := { s.frb with regs := {} } }
  | 9 => { s with mot := {} }
  | 11 => { s with mem := s.mem.clear 0x80000000 0x40000000 }
  | _ => s

/-- PMU_PDREQ (R619): domains asked on come on later; a domain that may not be switched off keeps its power. -/
def State.domainReq (s : State) (req : BitVec 12) : State :=
  let off := (List.finRange 12).filter fun d => s.pwr.pdReq.getLsbD d.val && !req.getLsbD d.val
  let no := off.filter fun d => !s.mayUnpower d
  let yes := off.filter fun d => s.mayUnpower d
  let keep : BitVec 12 := no.foldl (fun (m : BitVec 12) d => m ||| (1#12 <<< d.val)) req
  let s1 := yes.foldl (fun (s : State) d => s.domainLost d) s
  s1.setPwr fun p => { p with pdReq := keep, pdStat := p.pdStat &&& keep, cfgErr := p.cfgErr || !no.isEmpty }

/-- POWER_DOMAIN_REQUEST (R619). -/
def execPowerDomainRequest (b : Bus) (req : BitVec 12) (s : State) : Result :=
  .next (s.guarded b 0x4002000C .write fun s => s.domainReq req)

/-- What firmware puts back into a domain's registers from the objects (R264, R427, R446, R596). -/
def State.domainFilled (s : State) (d : Fin 12) : State :=
  match d.val with
  | 4 => s.classesFromOd
  | 5 => s.gnssFromOd
  | 7 => s.gnssFromOd
  | 8 => s.radioFromOd
  | 9 => ((List.finRange 8).foldl (fun (s : State) n => s.axisOff n) s.mencFromOd).cleOff
  | _ => s

/-- POWER_DOMAIN_ON (R619): a domain asked on reads on; its blocks start OFF. -/
def execPowerDomainOn (d : Fin 12) (s : State) : Result :=
  if s.alive && s.pwr.pdReq.getLsbD d.val && !s.pwr.pdStat.getLsbD d.val then
    .next ((s.setPwr fun p => { p with pdStat := p.pdStat ||| (1#12 <<< d.val) }).domainFilled d)
  else .next s

/-! ### The reference of the root PLL (R623, R624) -/

/-- REF10_QUALIFIED (R624): with selection 1 the PLL begins to slew to REF10_IN, or takes it back. -/
def execRef10Qualified (ppb : BitVec 32) (s : State) : Result :=
  if s.alive && s.pwr.refNow then
    .next (s.setPwr fun p => { p with
      qual := true, refOfs := ppb, lostMs := none, ref := if p.ref = .onRef then .onRef else .slewToRef })
  else .next s

/-- REF10_LOST (R624): the PLL holds its last word. -/
def execRef10Lost (s : State) : Result :=
  if s.alive && s.pwr.refNow && s.pwr.qual then
    .next ((s.setPwr fun p => { p with
      qual := false, ref := .holding, lostMs := some s.tb5ms, lossCnt := bump p.lossCnt, lossUp := bump p.lossUp }).event
        .refLost [])
  else .next s

/-- REF10_RETURN_TIMEOUT (R624): 10 s without requalification, the PLL slews back to the TCXO. -/
def execRef10ReturnTimeout (s : State) : Result :=
  match s.pwr.ref, s.pwr.lostMs with
  | .holding, some t =>
    .next ((s.reachMs (t + 10000)).setPwr fun p => { p with ref := .slewToTcxo, lostMs := none })
  | _, _ => .next s

/-- PLL_SLEW_COMPLETE (R624). -/
def execPllSlewComplete (s : State) : Result :=
  match s.pwr.ref with
  | .slewToRef => .next (s.setPwr fun p => { p with ref := .onRef })
  | .slewToTcxo => .next (s.setPwr fun p => { p with ref := .tcxo })
  | _ => .next s

/-- DF412 (R624): 0 on the TCXO, 1 on REF10_IN locked, 2 while the PLL slews or holds. -/
def RefState.df412 : RefState → Nat
  | .tcxo => 0 | .onRef => 1 | _ => 2

/-- REFIN, LOST and SLEW of CLK_STAT (R633). -/
def RefState.refin : RefState → Bool
  | .tcxo => false | .slewToRef => false | _ => true

/-! ### Clearing user calibration (R608) -/

/-- User objects that a value of OD 0xA800:01 names, by key. -/
def clearKeys (v : Nat) : List (Nat × Obj) :=
  let user := (objects.filter fun o => o.keep && 0xA800 ≤ o.idx && o.idx ≤ 0xAFFF).flatMap Obj.each
  if v = 0xFFFFFFFF then user
  else user.filter fun p => v < 2 ^ 24 && p.1 / 256 = v % 65536 && (v / 65536 = 0 || p.1 % 256 = v / 65536)

/-- Old values of what is cleared, as numbers for its record. -/
def State.clearOld (s : State) (l : List (Nat × Obj)) : List Nat :=
  l.filterMap fun p => (tabGet s.dict.od p.1).map leNat

/-- User objects go back to their defaults (R608); without a station position the source reads 0 (R91). -/
def State.calClear (s : State) (v : Nat) : State :=
  let l := clearKeys v
  if l.isEmpty then s.deny .other
  else
    let s1 := l.foldl (fun (s : State) p => s.odStore p.1 p.2.default p.2.default) s
    let s2 := if l.any fun p => p.1 / 256 = 0xA810 then s1.setCorr fun c => { c with source := 0, mismatch := false } else s1
    let s3 := if l.any fun p => p.1 / 256 = 0xA840 then s2.timFromOd else s2
    (s3.event .calibrationCleared (v :: s.clearOld l)).answer .ok

/-- CALIBRATION_CLEAR (R608). -/
def execCalibrationClear (role : Role) (v : Word) (s : State) : Result :=
  .next (s.asRole role .engineer fun s => s.inListening fun s => s.calClear v.toNat)

end Sys2Proof.Machine
end

