-- ==== Sys2Proof/Machine/Radio.lean ====
section
/-!
DEFINITION. The commands of the radios: windows, listens, slots, ends of frames, descriptors, retunes and the radio
settings (spec/08_radio_access.md, R259 to R284; spec/11_pair.md, R371). In the pause of a radio microcode load the radios
do nothing (R586).
-/
namespace Sys2Proof.Machine

/-- A change of the radios, which the pause of a radio microcode load holds (R586). -/
def State.onAirTime (s : State) (f : State → State) : State := if s.upd.paused = some .radio then s else f s

/-- PERMIT_WINDOW_START (R272). -/
def execPermitWindowStart (w : Fin 3) (bufferOk : Bool) (s : State) : Result :=
  .next (s.onAirTime fun s =>
    if s.na && w ≠ 0 then s else (s.reachOffset (1200 * w.val)).permitBegin w.val bufferOk)

/-- The listen of a Cowslip segment has ended (R276). -/
def State.cowslipListenEnd (s : State) (busy : Bool) : State :=
  let s1 := s.setFra fun f => { f with listen := none }
  if busy then (s1.countBlock false false).callRestart
  else
    let s2 := s1.reachTb4 (s1.tb4ns + 10000)
    if 13000 ≤ s2.cycleUs then s2.callRestart else s2.segmentSend

/-- A listen of FRA has ended (R267, R272, R276, R277). -/
def State.fraListenEnd (s : State) (rnd : Nat) (level mean : Int) (bufferOk : Bool) : State :=
  match s.fra.listen with
  | none => s
  | some l =>
    let part := match l with
      | .stop _ => 0
      | _ => rnd
    let s1 := s.reachTb4 (s.fra.listenFrom + s.fra.regs.listenUs part * 1000)
    let busy := s1.fra.regs.busy level
    let s2 := s1.countListen false mean busy
    match l with
    | .permit w =>
      if busy then (if w = 2 then s2.countBlock false false else s2).permitNext w else s2.permitClear w bufferOk
    | .stop n => s2.stopListenEnd n busy bufferOk
    | .cowslip => s2.cowslipListenEnd busy

/-- LISTEN_END (R267): the listen's random part in 10 us, the highest 20 us mean of its power and the mean of the whole, in
dBm. `bufferOk` is for a permit that the listen admits (R229). -/
def execListenEnd (frb : Bool) (rnd : Nat) (level mean : Int) (bufferOk : Bool) (s : State) : Result :=
  .next (s.onAirTime fun s => if frb then s.frbListenEnd rnd level mean else s.fraListenEnd rnd level mean bufferOk)

/-- LISTEN_RETRY (R275): 0.5 ms after a busy listen. -/
def execListenRetry (s : State) : Result :=
  .next (s.onAirTime fun s =>
    match s.frb.busyAt with
    | some t => ((s.reachTb4 (t + 500000)).setFrb fun b => { b with busyAt := none }).frbServe
    | none => s)

/-- DATA_SLOT_START (R271, R275). -/
def execDataSlotStart (slot : FrbSlot) (s : State) : Result :=
  .next (s.onAirTime fun s =>
    let s1 := (s.slotClose).reachOffset slot.span.1
    if !s1.slotExists slot || !s1.frbMay then s1
    else
      let s2 := s1.setFrb fun b => { b with slot := some slot }
      let s3 := match slot with
        | .correction => s2.fragsQueue
        | .node => s2.freeSlot
        | _ => s2.packAll
      s3.frbServe)

/-- A stop frame of a burst has ended (R236, R277). -/
def State.stopEnd (s : State) (bufferOk : Bool) : State :=
  (s.fraSent.setSaf fun k => { k with sent := k.sent + 1 }).stopStep bufferOk

/-- A frame of FRA ends (R259, R276, R281). -/
def State.fraFrameEnd (s : State) (bufferOk : Bool) : State :=
  match s.fra.onAir with
  | none => s
  | some f =>
    let s1 := s.reachTb4 (s.fra.airFrom + f.us * 1000)
    match f with
    | .permit w _ => s1.permitEnd w
    | .stop .. => s1.stopEnd bufferOk
    | .cowslip .. => s1.segmentEnd
    | .segment q => (s1.fraSent.setFra fun f => { f with queue := takeFrame q f.queue }).completeFrame false q .ok 0
        (BitVec.ofNat 32 s.fra.airFrom)

/-- FRAME_TX_END (R259). -/
def execFrameTxEnd (frb : Bool) (s : State) : Result :=
  .next (s.onAirTime fun s => if frb then s.frbFrameEnd else s.fraFrameEnd true)

/-- STOP_FRAME_END (R277): the stop frame on air ends and the burst goes on; `bufferOk` is for a permit that follows the
burst (R229, R278). -/
def execStopFrameEnd (bufferOk : Bool) (s : State) : Result :=
  .next (s.onAirTime fun s =>
    match s.fra.onAir with
    | some (.stop ..) => s.fraFrameEnd bufferOk
    | _ => s)

/-- COWSLIP_WINDOW_START (R276). -/
def execCowslipWindowStart (s : State) : Result :=
  .next (s.onAirTime fun s => if s.transmits then (s.reachOffset 11000).segmentBegin else s)

/-- TX_DESCRIPTOR (R279). -/
def execTxDescriptor (frb : Bool) (w0 w1 : Dword) (s : State) : Result := .next (s.descriptor frb w0 w1)

/-- The launch time of FRA's first waiting segment (R280): the Cowslip window must be open for a segment to begin. -/
def State.fraLaunch (s : State) : State :=
  match s.fra.queue.find? fun (f : FrbFrame) => !f.ripe with
  | none => s
  | some f =>
    let s1 := s.reachTb4 (s.tb4ns + ((f.launch.getD 0) - s.tim.base[4].nsField).toNat)
    let isOpen := 11000 ≤ s1.cycleUs && s1.cycleUs < 13000
    let s2 := s1.setFra fun k => { k with queue := ripen f k.queue }
    if isOpen then s2.segmentBegin
    else if f.lateDrop then (s1.setFra fun k => { k with queue := takeFrame f k.queue }).frameLate false f
    else s2

/-- LAUNCH_TIME (R280). -/
def execLaunchTime (frb : Bool) (s : State) : Result :=
  .next (s.onAirTime fun s => if frb then s.frbLaunch else s.fraLaunch)

/-- RX_FRAME_FCS_FAILED (R261, R282, R283). MRX counts in FRB's register. -/
def execRxFrameFcsFailed (port : RxPort) (s : State) : Result :=
  .next (s.setRadio (port ≠ .fra) fun r => { r with cntRxErr := bump r.cntRxErr })

/-- The channel of MRX from an offset on (R274, R371): a standby follows FRA's channels for the whole cycle; a unit that
transmits stays with its permit until it ends and then goes to REP. -/
def State.mrxAt (s : State) (us : Nat) : Option (BitVec 12) :=
  if s.standby then
    if us < 1300 || 3600 ≤ us || s.na then some (s.fraChannel 0) else if us < 2500 then some (s.fraChannel 1) else some (s.fraChannel 2)
  else if us < 3600 then none
  else match s.fra.onAir with
    | some (.permit _ _) => none
    | _ => some s.repChannel

/-- MRX_RETUNE (R274, R371), at an offset of the cycle in us. -/
def execMrxRetune (us : Nat) (s : State) : Result :=
  .next (s.onAirTime fun s =>
    if s.blk.frb.st ≠ .on then s
    else
      let s1 := s.reachOffset us
      match s1.mrxAt s1.cycleUs with
      | some c => s1.setFrb fun b => { b with mrxCh := c }
      | none => s1)

/-- A radio setting in *Listening* (R264, R284): range, then the rules of the profile with the new value; a refused write
changes nothing. -/
def State.radioSet (s : State) (o : Obj) (idx sub : Nat) (v : List Byte) : State :=
  if !o.inRange v then s.deny .range
  else
    s.inListening fun s =>
      let s1 := s.odStore (odKey idx sub) v o.default
      if s1.radioOk then s1.radioRenew.answer .ok else s.deny .range

/-- Default octets of a radio object: the WAKE channel's follows the profile in force (R266, R270). -/
def State.radioObj (s : State) (idx sub : Nat) : Option Obj :=
  if 0x5000 ≤ idx && idx ≤ 0x5031 then
    (objAt idx sub).map fun o => if idx = 0x5010 && sub = 6 then { o with dflt := wakeDefault (s.od 0x5000 1 0 = 1) } else o
  else none

/-- RADIO_CONFIG_WRITE (R264, R284): a value of an object of OD 0x5000 to 0x5031. -/
def execRadioConfigWrite (role : Role) (idx sub : Nat) (v : Int) (s : State) : Result :=
  .next (match s.radioObj idx sub with
    | some o => s.asRole role .engineer fun s =>
        if o.ty.get (o.ty.put v) ≠ v then s.deny .range else s.radioSet o idx sub (o.ty.put v)
    | none => s.deny .noIndex)

end Sys2Proof.Machine
end

