-- ==== Sys2Proof/Machine/Registers.lean ====
section
/-!
DEFINITION. Writes of registers under their access codes (spec/01_architecture.md, R9 to R11, and the register tables of
every chapter), and writes of memory over the bus. A write that a register ignores has no effect and is no violation.
-/
namespace Sys2Proof.Machine

/-! ### Enables and STATUS of a block (R38, R39) -/

/-- REFUSED is W1C in the STATUS of every block (R38). -/
def State.statusWrite (s : State) (k : BlockId) (w : Word) : State :=
  if w.getLsbD 3 then s.setCtl k fun c => { c with refused := false } else s

/-- ENABLE of a CTRL register (R39): the other fields of the same write come first. -/
def State.ctrlEnable (s : State) (k : BlockId) (w : Word) : State :=
  let r := s.enableWrite k (w.getLsbD 0)
  r.1.answer r.2

/-! ### SYS, CLK, PMU, JDX, INT (R449, R463, R466, R632, R633) -/

/-- SYS_CORECFG (R449): the security core alone writes it, FLEET and LOCK while LOCK is 0. -/
def State.sysWrite (s : State) (b : Bus) (off : Nat) (w : Word) : State :=
  if off = 0x40 && b.secure && !s.cores.lock then
    { s with cores := { s.cores with fleet := w.extractLsb' 0 3, lock := w.getLsbD 31 } }
  else s

/-- CLK_REFSEL (R623, R633): the selection acts at the next start-up, which loads it anew. -/
def State.clkWrite (s : State) (off : Nat) (w : Word) : State :=
  if off = 0 then s.setPwr fun p => { p with refSel := w.getLsbD 0 } else s

/-- PMU registers (R632). -/
def State.pmuWrite (s : State) (off : Nat) (w : Word) : State :=
  match off with
  | 0x00 => s.setPwr fun p => { p with voutOvl := p.voutOvl && !w.getLsbD 5, cfgErr := p.cfgErr && !w.getLsbD 6 }
  | 0x04 =>
    let v := w.toNat % 512
    if 45 ≤ v && v ≤ 400 then s.setPwr fun p => { p with pfThr := BitVec.ofNat 9 v }
    else s.setPwr fun p => { p with cfgErr := true }
  | 0x0C => s.domainReq (w.setWidth 12)
  | _ => s

/-- JDX registers but the ports that have rows of their own (R463): each core stages its own words. -/
def State.jdxWrite (s : State) (b : Bus) (off : Nat) (w : Word) : State :=
  let c := s.cores
  if h : off < 0x1C then
    match coreOf b.id with
    | some k => s.setCore k fun x => { x with sub := x.sub.set (off / 4) w (by omega) }
    | none => s
  else match off with
    | 0x80 => if w.getLsbD 0 then { s with cores := { c with ovf := false } } else s
    | 0x90 => { s with cores := { c with aff := w.setWidth 16 } }
    | _ =>
      let v := w.toNat % 2 ^ 20
      if h : 0xA0 ≤ off ∧ off < 0xAC ∧ 10 ≤ v ∧ v ≤ 1000000 then
        { s with cores := { c with jobMax := c.jobMax.set ((off - 0xA0) / 4) (BitVec.ofNat 20 v) (by omega) } }
      else s

/-- Sets CFG_ERR of INT. -/
def State.intCfgErr (s : State) : State := { s with cores := { s.cores with intErr := true } }

/-- INT_SRCs (R465, R466): a direct source names a core of the Vendor world; while EN = 0 nothing is pending. -/
def State.srcWrite (s : State) (n : Nat) (w : Word) : State :=
  let direct := w.getLsbD 1 && n ≠ 96
  let core : BitVec 4 := w.extractLsb' 2 4
  if !intSourceExists n then s
  else if direct && s.cores.worldOf ⟨core.toNat, core.isLt⟩ ≠ 0 then s.intCfgErr
  else
    let x := s.cores.src n
    let en := w.getLsbD 0
    let y : IntSrc := { x with
      en := en, direct := direct, core := core, tpl := w.extractLsb' 8 7, pend := x.pend && en
      merge := if en then x.merge else 0 }
    { s with cores := { s.cores with
        srcs := tabSet {} s.cores.srcs n y
        direct := if en then s.cores.direct else s.cores.direct.filter fun d => d.2 ≠ n } }

/-- INT_TPLt: one word of a template (R466). -/
def State.tplWrite (s : State) (t i : Nat) (w : Word) : State :=
  let old := (tabGetD ({} : Job) s.cores.tpls t).words
  let new := if h : i < 8 then old.set i w else old
  { s with cores := { s.cores with tpls := tabSet {} s.cores.tpls t (jobOfWords new) } }

/-- INT registers (R466). -/
def State.intWrite (s : State) (off : Nat) (w : Word) : State :=
  if off < 0x200 then s.srcWrite (off / 4) w
  else if h : 0x400 ≤ off ∧ off < 0x410 then s.intAck ⟨(off - 0x400) / 4, by omega⟩ w 0
  else if off = 0x500 then
    if w.getLsbD 0 then { s with cores := { s.cores with intErr := false } } else s
  else if 0x1000 ≤ off && off < 0x2000 then s.tplWrite ((off - 0x1000) / 0x20) ((off - 0x1000) % 0x20 / 4) w
  else s

/-! ### TIM and the Ethernet time-stamp registers (R322 to R324, R336 to R341, R350, R351) -/

/-- Changes TIM. -/
def State.setTim (s : State) (f : Tim → Tim) : State := { s with tim := f s.tim }

/-- Sets TIM_STAT.CFG_ERR. -/
def State.timErr (s : State) : State := s.setTim fun t => { t with cfgErr := true }

/-- TBn_RATE within 500 ppm, and TBn_SLEWRT up to 1,000 (R322, R323). -/
def State.tbRate (s : State) (n : Fin 6) (w : Word) : State :=
  match baseLt5 n with
  | some k => if w.toInt.natAbs ≤ 5368709 then s.setTb k fun b => { b with rate := w } else s.tbErr n
  | none => s.tbErr n

/-- TBn_SLEWRT (R323). -/
def State.tbSlewRt (s : State) (n : Fin 6) (w : Word) : State :=
  match baseLt5 n with
  | some k => if w.toNat % 2048 ≤ 1000 then s.setTb k fun b => { b with slewRt := w.setWidth 11 } else s.tbErr n
  | none => s.tbErr n

/-- Registers of one base (R350). -/
def State.tbWrite (s : State) (n : Fin 6) (off : Nat) (w : Word) : State :=
  let master := fun (f : Base → Base) => match baseLt5 n with
    | some k => if 1 ≤ k.val && k.val ≤ 3 then s.setTb k f else s
    | none => s
  match off with
  | 0x10 => s.tbRate n w
  | 0x14 => s.slewWrite n w
  | 0x18 => s.tbSlewRt n w
  | 0x1C => match baseLt5 n with
    | some k => s.setTb k fun b => { b with stepL := w }
    | none => s.tbErr n
  | 0x20 => s.stepArm n w
  | 0x24 =>
    if !w.getLsbD 18 then s
    else match baseLt5 n with
      | some k => s.setTb k fun b => { b with cfgErr := false }
      | none => s.setTim fun t => { t with tb5Err := false }
  | 0x28 => master fun b => { b with track := w.getLsbD 0 }
  | 0x2C => master fun b => { b with aofs := b.aofs.extractLsb' 32 32 ++ w }
  | 0x30 => master fun b => { b with aofs := w ++ b.aofs.extractLsb' 0 32 }
  | _ => s

/-- Changes one PPS output. -/
def State.setPps (s : State) (p : Fin 2) (f : Pps → Pps) : State :=
  s.setTim fun t => { t with pps := t.pps.set p (f t.pps[p]) }

/-- PPSp_CFG: SRC 0 to 4 and WIDTH 1 to 500; a new SRC of an enabled output omits the next pulse (R325, R339). -/
def State.ppsCfg (s : State) (p : Fin 2) (w : Word) : State :=
  let src : BitVec 3 := w.extractLsb' 1 3
  let width : BitVec 16 := w.extractLsb' 16 16
  if 4 < src.toNat || width.toNat = 0 || 500 < width.toNat then s.timErr
  else s.setPps p fun o => { o with
    en := w.getLsbD 0, src := src, pol := w.getLsbD 4, gate := w.getLsbD 5, wcode := w.getLsbD 6, width := width
    omit' := o.omit' || (o.en && o.src ≠ src) }

/-- Registers of one PPS output (R325, R339, R350). -/
def State.ppsWrite (s : State) (p : Fin 2) (off : Nat) (w : Word) : State :=
  match off with
  | 0 => s.ppsCfg p w
  | 4 =>
    let d := w.toNat % 2 ^ 19
    if 500000 < d then s.timErr
    else s.setPps p fun o => { o with delay := BitVec.ofNat 19 d, omit' := o.omit' || (o.en && o.delay.toNat ≠ d) }
  | 8 => if w.getLsbD 17 then s.setPps p fun o => { o with skip := false } else s
  | _ => s

/-- EVTi_CFG: SRC 0 to 5 (R341, R350). -/
def State.evtWrite (s : State) (i : Fin 4) (w : Word) : State :=
  let src : BitVec 3 := w.extractLsb' 4 3
  if 5 < src.toNat then s.timErr
  else s.setEvt i fun e => { e with en := w.getLsbD 0, edge := w.extractLsb' 1 2, src := src, queue := w.extractLsb' 8 5 }

/-- TIM_FBC_INCH accepts 30,502 to 30,533 (R336). -/
def State.fbcIncH (s : State) (w : Word) : State :=
  let v := w.toNat % 65536
  if 30502 ≤ v && v ≤ 30533 then s.setTim fun t => { t with fbc := { t.fbc with incH := BitVec.ofNat 16 v } } else s.timErr

/-- TIM registers (R350). -/
def State.timWrite (s : State) (off : Nat) (w : Word) : State :=
  let fbc := fun (f : Fbc → Fbc) => s.setTim fun t => { t with fbc := f t.fbc }
  if h : 0x100 ≤ off ∧ off < 0x280 then s.tbWrite ⟨(off - 0x100) / 0x40, by omega⟩ (off % 0x40) w
  else if h : 0x300 ≤ off ∧ off < 0x320 then s.ppsWrite ⟨(off - 0x300) / 0x10, by omega⟩ (off % 0x10) w
  else if h : 0x380 ≤ off ∧ off < 0x3A0 then
    if off % 8 = 0 then s.evtWrite ⟨(off - 0x380) / 8, by omega⟩ w else s
  else match off with
    | 0x00 => if w.getLsbD 2 then s.setTim fun t => { t with cfgErr := false } else s
    | 0x10 => fbc fun f => { f with incL := w }
    | 0x14 => s.fbcIncH w
    | 0x20 => fbc fun f => { f with t4ofs := f.t4ofs.extractLsb' 32 32 ++ w }
    | 0x24 => fbc fun f => { f with t4ofs := w ++ f.t4ofs.extractLsb' 0 32 }
    | 0x2C => if w.getLsbD 0 then s.fbcLoad else s
    | 0x340 => s.setTim fun t => { t with refEn := w.getLsbD 0, refGate := w.getLsbD 1 }
    | _ => s

/-- ETHx registers (R38, R351). -/
def State.ethWrite (s : State) (n : Fin 2) (off : Nat) (w : Word) : State :=
  let k : BlockId := if n = 0 then .eth0 else .eth1
  let put := fun (f : EthTs → EthTs) => s.setTim fun t => { t with eth := t.eth.set n (f t.eth[n]) }
  match off with
  | 0x00 => s.ctrlEnable k w
  | 0x04 => s.statusWrite k w
  | 0x200 => put fun e => { e with tsen := w.getLsbD 0, base := w.extractLsb' 1 3 }
  | 0x204 => put fun e => { e with phyTx := w.extractLsb' 0 16, phyRx := w.extractLsb' 16 16 }
  | 0x208 => put fun e => { e with
      dom := #v[w.extractLsb' 0 8, w.extractLsb' 8 8, w.extractLsb' 16 8], men := w.extractLsb' 24 3 }
  | _ => s

/-! ### FRA, FRB, CAN, PAIR (R282, R390, R516) -/

/-- FRx_PROFILE, _CHn, _HOPSEED, _TXPWR and FRA_SBCFGs, written only while the radio is OFF (R282). -/
def State.radioOffWrite (s : State) (b : Bool) (off : Nat) (w : Word) : State :=
  let thr : BitVec 8 := w.extractLsb' 8 8
  let rnd : BitVec 7 := w.extractLsb' 16 7
  let pwr : BitVec 6 := w.extractLsb' 0 6
  let wake : BitVec 6 := w.extractLsb' 8 6
  if off = 0x10 then
    if -95 ≤ thr.toInt && thr.toInt ≤ -60 && rnd.toNat ≤ 100 then
      s.setRadio b fun r => { r with na := w.getLsbD 0, lbtThr := thr, rnd := rnd }
    else s
  else if h : 0x14 ≤ off ∧ off < 0x24 then
    if b && 0x1C ≤ off then s
    else s.setRadio b fun r => { r with ch := r.ch.set ((off - 0x14) / 4) (w.setWidth 12) (by omega) }
  else if off = 0x24 then s.setRadio b fun r => { r with seed := w }
  else if off = 0x28 then
    s.setRadio b fun r => { r with
      pwr := if pwr.toNat ≤ 52 then pwr else r.pwr, wakePwr := if !b && wake.toNat ≤ 18 then wake else r.wakePwr }
  else if h : 0x120 ≤ off ∧ off < 0x138 then
    let lim : BitVec 16 := w.extractLsb' 16 16
    if b || 36000 < lim.toNat then s
    else s.setFra fun f => { f with
      sbLbt := f.sbLbt.set ((off - 0x120) / 4) (w.getLsbD 0) (by omega)
      sbLimit := f.sbLimit.set ((off - 0x120) / 4) lim (by omega) }
  else s

/-- FRx registers (R282). -/
def State.radioWrite (s : State) (b : Bool) (off : Nat) (w : Word) : State :=
  let k : BlockId := if b then .frb else .fra
  match off with
  | 0x00 => s.ctrlEnable k w
  | 0x04 => s.statusWrite k w
  | 0x2C => s.setRadio b fun r => { r with
      txq := w.extractLsb' 0 5, doneq := w.extractLsb' 8 5, rxq := w.extractLsb' 16 5 }
  | _ => if (s.ctl k).st = .off then s.radioOffWrite b off w else s

/-- CANn registers (R516). -/
def State.canWrite (s : State) (n : Fin 2) (off : Nat) (w : Word) : State :=
  let k : BlockId := if n = 0 then .can0 else .can1
  let isOff := (s.ctl k).st = .off
  let put := fun (f : Can → Can) => if isOff then s.setCan n f else s
  match off with
  | 0x00 => (put fun c => { c with fden := w.getLsbD 1, brsen := w.getLsbD 2 }).ctrlEnable k w
  | 0x04 => s.statusWrite k w
  | 0x10 => put fun c => { c with nbt := w.setWidth 31 }
  | 0x14 => put fun c => { c with dbt := w &&& 0x9F1F3F1F }
  | 0x1C => put fun c => { c with txq := w.extractLsb' 0 5, rxq := w.extractLsb' 8 5 }
  | _ => s

/-- PAIR registers (R390). -/
def State.pairWrite (s : State) (off : Nat) (w : Word) : State :=
  if h : 0x40 ≤ off ∧ off < 0x50 then s.setPair fun p => { p with mir := p.mir.set ((off - 0x40) / 4) w (by omega) }
  else match off with
    | 0x00 =>
      let s1 := s.setPair fun p => { p with arm := w.getLsbD 1 }
      let s2 := if w.getLsbD 2 then s1.holdRelease else s1
      s2.ctrlEnable .pair w
    | 0x04 =>
      (s.statusWrite .pair w).setPair fun p => { p with
        claimed := p.claimed && !w.getLsbD 14, race := p.race && !w.getLsbD 15, kaLost := p.kaLost && !w.getLsbD 17 }
    | 0x10 =>
      if s.blk.pair.st = .off then
        let s1 := { s with dev := { s.dev with paired := w.getLsbD 0 } }
        s1.setPair fun p => { p with paired := w.getLsbD 0 }
      else s
    | 0x14 => if w.setWidth 16 = (0x4B41 : BitVec 16) then s.setPair fun p => { p with kaAt := s.tb5ns } else s
    | 0x50 =>
      if w.getLsbD 31 && s.standby && s.cre.recon then s.mirror (w.toNat % 8192) s.mirEntry else s
    | _ => s

/-! ### SAF (R146, R244, R252) -/

/-- SAF registers a Vendor-world master writes (R252): a command under a sequence number already used is dropped. -/
def State.safRegWrite (s : State) (off : Nat) (w : Word) : State :=
  if h : 0x100 ≤ off ∧ off < 0x110 then
    let l := leBytes 4 w.toNat
    let base := (off - 0x100) / 4 * 4
    s.setSaf fun k => { k with cfgBuf := Vector.ofFn fun i =>
      if base ≤ i.val && i.val < base + 4 then l.getD (i.val - base) 0 else k.cfgBuf[i] }
  else match off with
    | 0x40 =>
      let seq : BitVec 16 := w.extractLsb' 16 16
      if seq = s.saf.cmdSeq then s
      else s.setSaf fun k => { k with
        cmdSeq := seq, cmds := k.cmds ++ [({ code := w.extractLsb' 0 8, zone := w.extractLsb' 8 4, seq := seq } : SafCmd)] }
    | 0x48 => s.setSaf fun k => { k with tword0 := w }
    | 0x4C => s.setSaf fun k => { k with tword1 := w.getLsbD 0, tword := some (k.tword0, w.getLsbD 0) }
    | 0x180 => if w.getLsbD 0 then s.safCommit true else s
    | _ => s

/-! ### CRC, QUE, KEY, MEM, UPD, TMP (R489, R491, R493, R497, R498, R554, R555, R591) -/

/-- CRCc_CFG: POLY, and WORLD while the channel is OFF (R489, R492). -/
def State.crcCfg (s : State) (c : Fin 4) (w : Word) : State :=
  let s1 := s.crcPolyWrite c (w.extractLsb' 0 3)
  let world : BitVec 2 := w.extractLsb' 4 2
  if s.ques.crc[c].ctl.st ≠ .off then s1
  else if world = 3 then s1.crcCfgErr
  else s1.setCrc c fun k => { k with world := world }

/-- Registers of one CRC channel (R497). -/
def State.crcChanWrite (s : State) (c : Fin 4) (off : Nat) (w : Word) : State :=
  match off with
  | 0x00 => s.ctrlEnable (.crc c) w
  | 0x04 =>
    (s.statusWrite (.crc c) w).setCrc c fun k => { k with
      done := k.done && !w.getLsbD 9, berr := k.berr && !w.getLsbD 10, aborted := k.aborted && !w.getLsbD 11 }
  | 0x08 => s.crcCfg c w
  | 0x0C => s.setCrc c fun k => { k with init := w }
  | 0x10 => if s.ques.crc[c].busy then s.crcCfgErr else s.setCrc c fun k => { k with value := w }
  | 0x18 => s.crcData c 1 w
  | 0x1C => s.crcData c 2 w
  | 0x20 => s.crcData c 4 w
  | 0x24 => s.setCrc c fun k => { k with saddr := w }
  | 0x28 => s.setCrc c fun k => { k with slen := w.setWidth 25 }
  | 0x2C =>
    let s1 := if w.getLsbD 2 then s.crcReset c else s
    let s2 := if w.getLsbD 1 then s1.crcAbort c s1.ques.crc[c].spos.toNat else s1
    if w.getLsbD 0 then s2.crcStart c else s2
  | _ => s

/-- CRC registers (R497). -/
def State.crcWrite (s : State) (off : Nat) (w : Word) : State :=
  if h : off < 0x100 then s.crcChanWrite ⟨off / 0x40, by omega⟩ (off % 0x40) w
  else if off = 0x400 && w.getLsbD 0 then { s with ques := { s.ques with crcErr := false } }
  else s

/-- Sets CFG_ERR of QUE. -/
def State.queErr (s : State) : State := { s with ques := { s.ques with cfgErr := true } }

/-- QUEn_CFG (R479, R489, R491): fields that the register does not take stay as they are. -/
def State.queCfg (s : State) (n : Fin 32) (w : Word) : State :=
  let size : BitVec 4 := w.extractLsb' 0 4
  let world : BitVec 2 := w.extractLsb' 4 2
  if (s.queue n).ctl.st ≠ .off then s
  else
    let q := s.queue n
    let s1 := s.putQueue n { q with
      size := if size.toNat ≤ 11 then size else q.size, world := if world = 3 then q.world else world }
    if 11 < size.toNat || world = 3 then s1.queErr else s1

/-- Control registers of one queue (R479, R491). -/
def State.queRegWrite (s : State) (n : Fin 32) (off : Nat) (w : Word) : State :=
  let q := s.queue n
  match off with
  | 0x00 => s.ctrlEnable (.que n) w
  | 0x04 => s.statusWrite (.que n) w
  | 0x08 => s.queCfg n w
  | 0x0C => if q.ctl.st = .off then s.putQueue n { q with base := w.setWidth 18 } else s
  | 0x10 => s.putQueue n { q with flush := w.setWidth 16 }
  | 0x14 => s.putQueue n { q with thr := w.setWidth 17 }
  | _ => s

/-- A data port of a queue, by master (R482, R484). -/
def State.quePortWrite (s : State) (m : Nat) (n : Fin 32) (off : Nat) (w : Word) : State :=
  match off with
  | 0x00 => s.putQueue n ((s.queue n).setPort { (s.queue n).port m with wlo := w })
  | 0x04 => s.portWrite n m w false
  | 0x14 => s.portWrite n m w true
  | _ => s

/-- QUE registers (R491). -/
def State.queWrite (s : State) (b : Bus) (off : Nat) (w : Word) : State :=
  if h : off < 0x800 then s.queRegWrite ⟨off / 0x40, by omega⟩ (off % 0x40) w
  else if h : 0x1000 ≤ off ∧ off < 0x1400 then s.quePortWrite b.id ⟨(off - 0x1000) / 0x20, by omega⟩ (off % 0x20) w
  else if off = 0x800 && w.getLsbD 0 then { s with ques := { s.ques with cfgErr := false } }
  else s

/-- KEY registers but KEY_CMD, whose operations have rows of their own (R554). -/
def State.keyWrite (s : State) (off : Nat) (w : Word) : State :=
  match off with
  | 0x04 => s.setSec fun k => { k with src := w }
  | 0x08 => s.setSec fun k => { k with dst := w }
  | 0x0C => s.setSec fun k => { k with len := w.setWidth 16 }
  | 0x10 => s.setSec fun k => { k with aux := w }
  | 0x14 => if w.getLsbD 1 then s.setSec fun k => { k with aborted := false } else s
  | 0x20 => if w.getLsbD 0 then s.slotsClear else s
  | _ => s

/-- MEM registers (R473, R476, R478, R498). -/
def State.memRegWrite (s : State) (off : Nat) (w : Word) : State :=
  let put := fun (f : Mem → Mem) => { s with mem := f s.mem }
  if h : off < 0x40 then s.bankPower ⟨off / 4, by omega⟩ (w.extractLsb' 0 2)
  else match off with
    | 0xC4 => if w.getLsbD 0 then put fun m => { m with errValid := false } else s
    | 0xD0 => if w.getLsbD 1 then put fun m => { m with wiped := false } else s
    | 0xE0 => if w.getLsbD 0 then put fun m => { m with cfgErr := false } else s
    | 0xE4 =>
      let v := w.toNat % 65536
      if 1 ≤ v && v ≤ 9 then s.memErr else put fun m => { m with scrub := BitVec.ofNat 16 v }
    | _ => s

/-- TMP_RESP: a field written 0b11 stays as it is (R555). -/
def respWrite (old new : BitVec 12) : BitVec 12 :=
  let field := fun (i : Nat) =>
    let v := new.toNat / 4 ^ i % 4
    (if v = 3 then old.toNat / 4 ^ i % 4 else v) * 4 ^ i
  BitVec.ofNat 12 (field 0 + field 1 + field 2 + field 3 + field 4 + field 5)

/-- TMP registers (R553, R555). -/
def State.tmpWrite (s : State) (off : Nat) (w : Word) : State :=
  match off with
  | 0x00 => s.setTmp fun t => { t with seen := t.seen &&& ~~~(w.extractLsb' 8 6) }
  | 0x04 => s.setTmp fun t => { t with resp := respWrite t.resp (w.setWidth 12) }
  | 0x08 => s.setTmp fun t => { t with loop := w.setWidth 2 }
  | 0x14 => if w.setWidth 16 = (0x434C : BitVec 16) then s.tamperClear else s
  | _ => s

/-! ### Blocks whose other registers stand in their own files -/

/-- A block's CTRL, STATUS and other registers: `f` takes what is not the enable record. -/
def State.blockWrite (s : State) (k : BlockId) (off : Nat) (w : Word) (f : State → State) : State :=
  match off with
  | 0 => (f s).ctrlEnable k w
  | 4 => (f s).statusWrite k w
  | _ => f s

/-- MOT registers: every axis has its own enable record (R424). -/
def State.motBlockWrite (s : State) (off : Nat) (w : Word) : State :=
  if h : off < 0x800 then
    let n : Fin 8 := ⟨off / 0x100, by omega⟩
    let s1 := s.motWrite off w
    if off % 0x100 = 0 then s1.ctrlEnable (.mot n) w else s1
  else s.motWrite off w

/-- A write of a register by block and offset (R452). SAF, KEY and DBG take what the firewall lets through. -/
def State.periphWrite (s : State) (b : Bus) (blk off : Nat) (w : Word) : State :=
  match blk with
  | 0x00 => s.sysWrite b off w
  | 0x01 => s.clkWrite off w
  | 0x02 => s.pmuWrite off w
  | 0x03 => s.jdxWrite b off w
  | 0x04 => s.blockWrite .cre off w fun s => s.creWrite off w
  | 0x05 => s.blockWrite .gbb off w fun s => s.gbbWrite off w
  | 0x06 => s.blockWrite .grf off w fun s => s.grfWrite off w
  | 0x07 => if b.world = 0 then s.timWrite off w else s
  | 0x08 => s.ethWrite 0 off w
  | 0x09 => s.ethWrite 1 off w
  | 0x0A => s.radioWrite false off w
  | 0x0B => s.radioWrite true off w
  | 0x0C => if off < 0x8000 then s.canWrite 0 off w else s.canWrite 1 (off - 0x8000) w
  | 0x0D => s.motBlockWrite off w
  | 0x0E => s.blockWrite .cle off w fun s => s.cleWrite off w
  | 0x0F => s.safRegWrite off w
  | 0x10 => s.pairWrite off w
  | 0x11 => s.crcWrite off w
  | 0x12 => s.queWrite b off w
  | 0x13 => s.keyWrite off w
  | 0x14 => s.evrWrite b.id off w
  | 0x15 => s.memRegWrite off w
  | 0x16 => if off = 0 && w.getLsbD 5 then s.setUpd fun u => { u with fallback := false } else s
  | 0x17 => s.tmpWrite off w
  | 0x19 => s.intWrite off w
  | _ => s

/-! ### Memory (R451, R476, R478, R490) -/

/-- The queue SRAM word an address of the window shows lies in the region of a circular queue that is not OFF (R490). -/
def State.sramHeld (s : State) (i : Nat) : Bool :=
  (List.finRange 32).any fun n =>
    let q := s.queue n
    !q.pingPong && q.ctl.st ≠ .off && q.span.1 ≤ i && i < q.span.2

/-- Half a word of the queue SRAM through its window (R490). -/
def State.sramWrite (s : State) (a : Nat) (w : Word) : State :=
  let i := (a - 0x30000000) / 8
  if s.sramHeld i then s
  else
    let old := tabGetD (0 : Dword) s.ques.sram i
    let new : Dword := if a % 8 < 4 then old.extractLsb' 32 32 ++ w else w ++ old.extractLsb' 0 32
    { s with ques := { s.ques with sram := tabSet 0 s.ques.sram i new } }

/-- Memory at an address takes part in an access: its bank is ON, its domain powered, no wipe runs (R476, R478, R618). -/
def State.memLive (s : State) (a : Nat) : Bool :=
  if 0x80000000 ≤ a then s.pwr.pdStat.getLsbD 11
  else if 0x0C000000 ≤ a && a ≤ 0x0C03FFFF then !s.mem.wiping
  else match bankOf a with
    | some b => if a ≤ 0x083FFFFF then s.mem.bank[b].st = .on else true
    | none => true

/-- A write of a word of memory. -/
def State.wordWrite (s : State) (a : Nat) (w : Word) : State :=
  if 0x30000000 ≤ a && a ≤ 0x301FFFFF then s.sramWrite a w
  else if s.memLive a then { s with mem := s.mem.write a (leBytes 4 w.toNat) }
  else s

/-- A word write over the bus that the firewall has passed, at a multiple of 4. -/
def State.busWrite (s : State) (b : Bus) (a : Nat) (w : Word) : State :=
  if 0x40000000 ≤ a && a ≤ 0x4019FFFF then s.periphWrite b ((a - 0x40000000) / 0x10000) (a % 0x10000) w
  else s.wordWrite a w

/-- REGISTER_WRITE (R9 to R11, R450). -/
def execRegisterWrite (b : Bus) (addr : Nat) (v : Word) (s : State) : Result :=
  .next (s.guarded b addr .write fun s => s.busWrite b (addr / 4 * 4) v)

end Sys2Proof.Machine
end

