-- ==== Sys2Proof/Machine/Views.lean ====
section
/-!
DEFINITION. What a read of each register returns (spec/01_architecture.md, R10, R34, R35, R38, and the register tables of every
chapter). A register that is write-only, reserved or absent reads 0.
-/
namespace Sys2Proof.Machine

/-! ### Words made of fields -/

/-- A word with values at their lowest bits. -/
def fields (l : List (Nat × Nat)) : Word := BitVec.ofNat 32 (l.map fun p => p.2 * 2 ^ p.1).sum

/-- A signed value as a register shows it. -/
def signed (v : Int) : Word := BitVec.ofInt 32 v

/-- STATE code of a block (R38). -/
def BlockState.code : BlockState → Nat
  | .off => 0 | .starting => 1 | .on => 2 | .quiescing => 3

/-- BLOCK_CTRL with the block's own fields (R38). -/
def BlockCtl.ctrl (c : BlockCtl) (own : List (Nat × Nat)) : Word := fields ((0, bit c.enable) :: own)

/-- BLOCK_STATUS with the block's own fields (R38). -/
def BlockCtl.status (c : BlockCtl) (own : List (Nat × Nat)) : Word :=
  fields ([(0, BlockState.code c.st), (2, bit c.enPend), (3, bit c.refused)] ++ own)

/-- Low and high word of a 64-bit register. -/
def lowWord (w : BitVec 64) : Word := w.setWidth 32
/-- High word of a 64-bit register. -/
def highWord (w : BitVec 64) : Word := (w >>> 32).setWidth 32

/-! ### SYS, CLK, PMU, JDX, INT (R2, R34, R35, R449, R463, R466, R605, R632, R633) -/

/-- Start cause as SYS_BOOT reads it (R594). -/
def StartCause.code : StartCause → Nat
  | .vin => 0 | .dormantWake => 1 | .restart => 2 | .watchdog => 3

/-- SYS registers. -/
def State.sysRead (s : State) (off : Nat) : Word :=
  let d := s.dev
  match off with
  | 0x00 => 0x4E5A7216
  | 0x20 => fields [(0, devCode d.dstate), (8, d.cause.toNat), (16, bit d.eligible), (17, bit d.paired)]
  | 0x24 => d.cycle
  | 0x28 => BitVec.ofNat 32 s.mtick
  | 0x30 => fields [(0, s.start.fail.toNat), (8, s.start.done.toNat)]
  | 0x34 => fields [(0, StartCause.code s.start.cause), (2, s.upd.run.val), (3, s.start.wdcnt)]
  | 0x38 => s.start.startT
  | 0x40 => fields [(0, s.cores.fleet.toNat), (31, bit s.cores.lock)]
  | _ => 0

/-- CLK registers (R633). -/
def State.clkRead (s : State) (off : Nat) : Word :=
  let p := s.pwr
  match off with
  | 0x00 => fields [(0, bit p.refSel)]
  | 0x04 => fields [(0, bit p.pllLock), (1, bit (RefState.refin p.ref)), (2, bit p.qual), (3, bit (p.ref = .holding)),
      (4, bit (p.ref = .slewToRef || p.ref = .slewToTcxo)), (5, bit s.tim.fbc.clkFail)]
  | 0x08 => p.refOfs
  | 0x0C => p.lossCnt
  | _ => 0

/-- PMU registers (R632). -/
def State.pmuRead (s : State) (off : Nat) : Word :=
  let p := s.pwr
  match off with
  | 0x00 => fields [(0, bit p.vinOk), (1, bit p.pfail), (2, bit p.pfailNow), (3, bit p.vbatOk), (4, bit p.vstopOk),
      (5, bit p.voutOvl), (6, bit p.cfgErr)]
  | 0x04 => p.pfThr.setWidth 32
  | 0x08 => p.pdStat.setWidth 32
  | 0x0C => p.pdReq.setWidth 32
  | 0x10 => p.vinMv.setWidth 32
  | 0x14 => p.vbatMv.setWidth 32
  | 0x18 => p.vstopMv.setWidth 32
  | 0x1C => p.pfCnt
  | _ => 0

/-- JDX registers (R463): the job ports are each core's own; a master that is no core finds 0 there. -/
def State.jdxRead (s : State) (m off : Nat) : Word :=
  let c := s.cores
  let own := fun (f : Core' → Word) => match coreOf m with
    | some k => f c.core[k]
    | none => 0
  if off = 0x24 then own fun k => fields [(0, bit k.acc)]
  else if h : 0x40 ≤ off ∧ off < 0x60 then own fun k => k.got[(off - 0x40) / 4]
  else if off = 0x80 then fields [(0, bit c.ovf)]
  else if off = 0x90 then c.aff.setWidth 32
  else if h : 0xA0 ≤ off ∧ off < 0xAC then (c.jobMax[(off - 0xA0) / 4]).setWidth 32
  else 0

/-- INT_SRCs (R466). -/
def IntSrc.word (x : IntSrc) : Word :=
  fields [(0, bit x.en), (1, bit x.direct), (2, x.core.toNat), (8, x.tpl.toNat), (16, bit x.pend), (24, x.merge.toNat)]

/-- INT registers (R466). -/
def State.intRead (s : State) (off : Nat) : Word :=
  let c := s.cores
  if off < 0x200 then (c.src (off / 4)).word
  else if off = 0x500 then fields [(0, bit c.intErr)]
  else if 0x1000 ≤ off && off < 0x2000 then
    let w := (tabGetD ({} : Job) c.tpls ((off - 0x1000) / 0x20)).words
    if h : (off - 0x1000) % 0x20 / 4 < 8 then w[(off - 0x1000) % 0x20 / 4] else 0
  else 0

/-! ### CRE, GBB, GRF (R45 to R87, R192) -/

/-- CRE_MEMBERm (R192). -/
def State.creMemberRead (s : State) (m : Nat) : Word :=
  let x := s.cre.member m
  fields [(0, x.cls.toNat), (4, bit x.active), (5, bit x.frozen), (6, s.cre.ncorr m), (9, bit (s.memberValid m))]

/-- CRE registers. -/
def State.creRead (s : State) (off : Nat) : Word :=
  let c := s.cre
  if h : 0x34 ≤ off ∧ off < 0x44 then c.tabD[(off - 0x34) / 4]
  else if 0x80 ≤ off && off < 0xA0 then
    fields ((List.range 32).map fun b => (b, bit (s.memberValid (32 * ((off - 0x80) / 4) + b + 1))))
  else if h : 0x100 ≤ off ∧ off < 0x140 then
    let k := c.classes[(off - 0x100) / 4]
    fields [(0, k.guardMs.toNat), (16, bit k.en)]
  else if 0x400 ≤ off && off < 0x800 then s.creMemberRead ((off - 0x400) / 4 + 1)
  else if h : 0x800 ≤ off ∧ off < 0xC00 then
    let k := c.classes[(off - 0x800) / 0x40]
    have : (off - 0x800) % 0x40 / 4 < 16 := by omega
    fields [(0, k.speed[(off - 0x800) % 0x40 / 4].toNat), (16, k.dist[(off - 0x800) % 0x40 / 4].toNat)]
  else match off with
    | 0x00 => s.blk.cre.ctrl [(1, bit c.recon)]
    | 0x04 => s.blk.cre.status [(8, bit c.map.isSome), (16, c.results.length)]
    | 0x10 => c.mapBase
    | 0x14 => c.mapCells.setWidth 32
    | 0x18 => fields [(0, c.vreq.toNat), (8, c.freq.toNat), (16, c.vres.toNat), (24, c.fres.toNat)]
    | 0x1C => c.nextId.setWidth 32
    | 0x20 => c.seq
    | 0x24 => fields [(0, c.resv.length), (16, c.corrs.length)]
    | 0x28 => c.resync
    | 0x30 => c.tabIdx.setWidth 32
    | _ => 0

/-- The eight registers of a channel; CARR_FW and CODE_FW read the word in force (R64). -/
def State.chanRead (s : State) (c : Fin 672) (reg : Nat) : Word :=
  let x := s.chan c
  match reg with
  | 0 => fields [(0, bit x.en), (1, x.chain.toNat), (3, bit x.pilotEn), (4, x.sig.toNat), (12, x.prn.toNat), (20, x.acc.toNat)]
  | 1 => x.spacing.setWidth 32
  | 2 => x.carrFw
  | 3 => x.codeFw
  | 4 => x.startT
  | 5 => fields [(0, x.startChip.toNat), (24, x.startFrac.toNat)]
  | 6 => x.lockWord
  | _ => BitVec.ofNat 32 (x.lockTime s.tb0ms)

/-- GBB registers (R87). -/
def State.gbbRead (s : State) (off : Nat) : Word :=
  let g := s.gbb
  if h : 0x1000 ≤ off ∧ off < 0x1000 + 0x20 * 672 then s.chanRead ⟨(off - 0x1000) / 0x20, by omega⟩ (off % 0x20 / 4)
  else if 0x40 ≤ off && off < 0x50 then
    fields ((List.range 4).map fun j => (8 * j, (g.dqmap.toList.getD (off - 0x40 + j) 0).toNat))
  else match off with
    | 0x00 => s.blk.gbb.ctrl [(1, bit g.burst)]
    | 0x04 => s.blk.gbb.status [(8, bit g.cfgErr)]
    | 0x10 => g.rate.setWidth 32
    | 0x14 => g.offset.setWidth 32
    | 0x20 => g.latchBase
    | 0x24 => fields [(0, bit g.last), (1, bit g.held0), (2, bit g.held1), (8, g.skip.toNat)]
    | 0x2C => g.seq
    | 0x50 => g.drop
    | 0x100 => fields [(0, g.acq.rqueue.toNat), (16, g.acq.thresh.toNat)]
    | 0x110 => fields [(0, g.acq.queue.length), (8, g.acq.last.toNat)]
    | _ => 0

/-- GRF registers (R52). -/
def State.grfRead (s : State) (off : Nat) : Word :=
  let g := s.grf
  if h : 0x20 ≤ off ∧ off < 0x38 then
    let a := g.agc[(off - 0x20) / 4]
    fields [(0, a.gain.toNat), (7, bit a.manual), (8, a.manGain.toNat)]
  else match off with
    | 0x00 => s.blk.grf.ctrl [(1, bit g.biasKeep), (2, g.chainEn.toNat)]
    | 0x04 => s.blk.grf.status [(8, g.chainRdy.toNat)]
    | 0x10 => fields [(0, g.ref.sel.toNat), (8, g.mon.sel.toNat)]
    | 0x14 => fields [(0, bit g.ref.isOpen), (1, bit g.ref.isShort), (2, bit g.mon.isOpen), (3, bit g.mon.isShort),
        (8, g.ref.ma.toNat), (16, g.mon.ma.toNat)]
    | _ => 0

/-! ### TIM and ETH (R350, R351) -/

/-- Registers of one base that read without an effect. -/
def Base.reg (b : Base) (off : Nat) : Word :=
  match off with
  | 0x00 => b.nsField
  | 0x04 => b.shSub.setWidth 32
  | 0x08 => b.shSecL
  | 0x0C => b.shSecH.setWidth 32
  | 0x10 => b.rate
  | 0x14 => signed (Int.tdiv b.slew nsUnit)
  | 0x18 => b.slewRt.setWidth 32
  | 0x24 => fields [(0, b.shSeq.toNat), (16, bit (b.slew ≠ 0)), (17, bit b.step.isSome), (18, bit b.cfgErr)]
  | 0x28 => fields [(0, bit b.track)]
  | 0x2C => lowWord b.aofs
  | 0x30 => highWord b.aofs
  | _ => 0

/-- Registers of base n; TB5 has neither rate nor steps. -/
def State.tbRead (s : State) (n : Fin 6) (off : Nat) : Word :=
  match baseLt5 n with
  | some k => (s.tb k).reg off
  | none => match off with
    | 0x00 => BitVec.ofNat 32 s.tb5ns
    | 0x04 => s.tim.tb5Sh.1.setWidth 32
    | 0x08 => s.tim.tb5Sh.2.1
    | 0x0C => s.tim.tb5Sh.2.2.setWidth 32
    | 0x24 => fields [(18, bit s.tim.tb5Err)]
    | _ => 0

/-- Registers of a PPS output. -/
def Pps.reg (o : Pps) (off : Nat) : Word :=
  match off with
  | 0 => fields [(0, bit o.en), (1, o.src.toNat), (4, bit o.pol), (5, bit o.gate), (6, bit o.wcode), (16, o.width.toNat)]
  | 4 => o.delay.setWidth 32
  | 8 => fields [(0, o.count.toNat), (16, bit o.suppr), (17, bit o.skip)]
  | _ => 0

/-- TIM registers. -/
def State.timRead (s : State) (off : Nat) : Word :=
  let t := s.tim
  let f := t.fbc
  if h : 0x100 ≤ off ∧ off < 0x280 then s.tbRead ⟨(off - 0x100) / 0x40, by omega⟩ (off % 0x40)
  else if h : 0x300 ≤ off ∧ off < 0x320 then
    have : (off - 0x300) / 0x10 < 2 := by omega
    (t.pps[(off - 0x300) / 0x10]).reg (off % 0x10)
  else if h : 0x380 ≤ off ∧ off < 0x3A0 then
    have : (off - 0x380) / 8 < 4 := by omega
    let e := t.evt[(off - 0x380) / 8]
    if off % 8 = 0 then fields [(0, bit e.en), (1, e.edge.toNat), (4, e.src.toNat), (8, e.queue.toNat)] else e.last
  else match off with
    | 0x00 => fields [(0, bit f.clkFail), (1, bit f.valid), (2, bit t.cfgErr)]
    | 0x04 => s.fleetMs
    | 0x10 => f.incL
    | 0x14 => f.incH.setWidth 32
    | 0x18 => BitVec.ofNat 32 (f.t / nsUnit)
    | 0x1C => f.shH
    | 0x20 => lowWord f.t4ofs
    | 0x24 => highWord f.t4ofs
    | 0x28 => f.cap
    | 0x340 => fields [(0, bit t.refEn), (1, bit t.refGate)]
    | _ => 0

/-- ETHx registers (R351). -/
def State.ethRead (s : State) (n : Fin 2) (off : Nat) : Word :=
  let c := if n = 0 then s.blk.eth0 else s.blk.eth1
  let e := s.tim.eth[n]
  match off with
  | 0x000 => c.ctrl []
  | 0x004 => c.status []
  | 0x200 => fields [(0, bit e.tsen), (1, e.base.toNat)]
  | 0x204 => fields [(0, e.phyTx.toNat), (16, e.phyRx.toNat)]
  | 0x208 => fields [(0, e.dom[0].toNat), (8, e.dom[1].toNat), (16, e.dom[2].toNat), (24, e.men.toNat)]
  | _ => 0

/-! ### FRA, FRB, CAN, PAIR (R282, R390, R516) -/

/-- FRx registers. -/
def State.radioRead (s : State) (b : Bool) (off : Nat) : Word :=
  let r := if b then s.frb.regs else s.fra.regs
  let c := if b then s.blk.frb else s.blk.fra
  let tx := if b then s.frb.onAir.isSome else s.fra.onAir.isSome
  let listen := if b then s.frb.listening else s.fra.listen.isSome
  if h : 0x14 ≤ off ∧ off < 0x24 then (r.ch[(off - 0x14) / 4]).setWidth 32
  else if h : b = false ∧ 0x100 ≤ off ∧ off < 0x118 then
    fields [(0, min 65535 (s.dutyUs ⟨(off - 0x100) / 4, by omega⟩ / 100000))]
  else if h : b = false ∧ 0x120 ≤ off ∧ off < 0x138 then
    have : (off - 0x120) / 4 < 6 := by omega
    fields [(0, bit s.fra.sbLbt[(off - 0x120) / 4]), (16, s.fra.sbLimit[(off - 0x120) / 4].toNat)]
  else match off with
    | 0x00 => c.ctrl []
    | 0x04 => c.status [(8, bit tx), (9, bit listen), (10, bit r.pllLock), (11, bit (b && s.frb.mrxOn))]
    | 0x10 => fields [(0, bit r.na), (8, r.lbtThr.toNat), (16, r.rnd.toNat)]
    | 0x24 => r.seed
    | 0x28 => fields [(0, r.pwr.toNat), (8, if b then 0 else r.wakePwr.toNat)]
    | 0x2C => fields [(0, r.txq.toNat), (8, r.doneq.toNat), (16, r.rxq.toNat)]
    | 0x30 => fields [(0, r.chNow.toNat), (16, if b then 0 else r.win.toNat)]
    | 0x34 => r.rssi.setWidth 32
    | 0x40 => r.cntTx
    | 0x44 => r.cntBusy
    | 0x48 => r.cntBlock
    | 0x4C => r.cntLate
    | 0x50 => r.cntRxErr
    | _ => 0

/-- CANn registers. -/
def State.canRead (s : State) (n : Fin 2) (off : Nat) : Word :=
  let c := s.dict.can[n]
  let k := if n = 0 then s.blk.can0 else s.blk.can1
  match off with
  | 0x00 => k.ctrl [(1, bit c.fden), (2, bit c.brsen)]
  | 0x04 => k.status [(8, bit c.busOff), (9, bit c.errPass), (10, bit c.errWarn)]
  | 0x10 => c.nbt.setWidth 32
  | 0x14 => c.dbt
  | 0x18 => fields [(0, c.tec.toNat), (8, c.rec'.toNat), (16, c.boffCnt.toNat)]
  | 0x1C => fields [(0, c.txq.toNat), (8, c.rxq.toNat)]
  | 0x20 => c.lost
  | _ => 0

/-- PAIR registers. -/
def State.pairRead (s : State) (off : Nat) : Word :=
  let p := s.pair
  match off with
  | 0x00 => s.blk.pair.ctrl [(1, bit p.arm)]
  | 0x04 => s.blk.pair.status [(8, bit p.holding), (9, bit p.holdIn), (10, bit s.pairGate), (11, bit p.pos), (12, bit p.link),
      (13, bit p.hbOk), (14, bit p.claimed), (15, bit p.race), (16, bit p.conflict), (17, bit p.kaLost), (18, bit p.fmt)]
  | 0x10 => fields [(0, bit p.paired)]
  | 0x18 => fields [(0, p.miss.toNat), (16, p.missTotal.toNat)]
  | 0x20 => p.txSeq
  | 0x24 => p.ackSeq
  | 0x28 => p.rxSeq
  | 0x30 => fields [(0, bit p.l0), (1, bit p.l1), (16, p.codeErr.toNat)]
  | 0x54 => p.mirCnt
  | _ => 0

/-! ### MOT and CLE (R424, R444) -/

/-- Configuration registers of an axis. -/
def AxisCfg.reg (c : AxisCfg) (off : Nat) : Word :=
  match off with
  | 0x14 => c.vmax.setWidth 32
  | 0x18 => c.amax
  | 0x1C => c.ldec
  | 0x20 => c.jmax
  | 0x34 => c.felim.setWidth 32
  | 0x38 => c.slimLo
  | 0x3C => c.slimHi
  | 0x40 => c.gnum
  | 0x44 => c.gden
  | 0x48 => c.gcomp
  | 0x4C => c.hspd.setWidth 32
  | 0x50 => c.homePos
  | 0x54 => c.htrav
  | 0x58 => fields [(0, c.stallFe.toNat), (16, c.stallT.toNat)]
  | 0x5C => c.backoff
  | 0x60 => fields [(0, c.deb.toNat), (16, c.chn.toNat), (24, c.chw.toNat)]
  | 0x68 => c.svc.setWidth 32
  | 0x70 => fields [(0, c.spw.toNat), (8, c.dirset.toNat), (16, c.pwmper.toNat)]
  | 0x74 => c.escl
  | _ => 0

/-- MODE code of an axis (R403). -/
def AxisMode.code : AxisMode → Nat
  | .position => 0 | .velocity => 1 | .gearing => 2 | .homing => 3

/-- MOTn_STATUS (R424). -/
def Axis.status (a : Axis) : Word :=
  a.ctl.status [(8, bit (!a.atRest)), (9, bit a.homed), (10, bit a.locked), (11, bit a.fault), (12, bit a.limP.reads),
    (13, bit a.limN.reads), (14, bit a.home.reads), (15, bit a.limP.unstable), (16, bit a.limN.unstable),
    (17, bit a.home.unstable), (18, bit a.drvFlt.unstable), (19, AxisMode.code a.mo.mode), (21, bit a.mo.armed.isSome),
    (22, bit a.relOnly.isSome), (23, bit a.hfail), (24, bit a.soft)]

/-- Registers of axis n. -/
def State.axisRead (s : State) (n : Fin 8) (off : Nat) : Word :=
  let a := s.axis n
  match off with
  | 0x00 => a.ctl.ctrl [(1, a.cfg.out.toNat), (3, bit a.cfg.psrc), (4, bit a.cfg.lmode), (5, a.cfg.pol.toNat), (9, bit a.cfg.edir)]
  | 0x04 => a.status
  | 0x0C => fields [(0, a.stat.toNat), (16, a.statSeq.toNat)]
  | 0x10 => a.tgt
  | 0x24 => signed a.mo.pos
  | 0x28 => signed a.mo.cpos
  | 0x2C => a.mo.v
  | 0x30 => signed a.ferr
  | 0x64 => fields [(0, a.cfg.lockTol.toNat), (16, s.holds n)]
  | 0x6C => a.cause.setWidth 32
  | 0x78 => a.glitch
  | _ => a.cfg.reg off

/-- MOT registers. -/
def State.motRead (s : State) (off : Nat) : Word :=
  if h : off < 0x800 then s.axisRead ⟨off / 0x100, by omega⟩ (off % 0x100)
  else match off with
    | 0x800 => signed s.mot.menc
    | 0x804 => fields [(0, bit s.mot.mencEdir)]
    | 0x808 => s.mot.mencErr
    | 0x900 => fields [(0, bit s.mot.cfgErr)]
    | _ => 0

/-- A loop's coefficient register, staged as it reads (R444). -/
def Coeffs.reg (c : Coeffs) (off : Nat) : Word :=
  if h : 0x28 ≤ off ∧ off ≤ 0x38 then c.n1[(off - 0x28) / 4]
  else if h : 0x3C ≤ off ∧ off ≤ 0x4C then c.n2[(off - 0x3C) / 4]
  else match off with
    | 0x04 => c.kp
    | 0x08 => c.kv
    | 0x0C => c.ki
    | 0x10 => c.kvff.setWidth 32
    | 0x14 => c.kaff
    | 0x18 => fields [(0, c.umax.toNat), (16, c.imax.toNat)]
    | _ => 0

/-- Registers of one loop. -/
def Loop.reg (l : Loop) (off : Nat) : Word :=
  match off with
  | 0x00 => fields [(0, bit l.en), (1, bit l.staged.n1en), (2, bit l.staged.n2en)]
  | 0x1C => signed l.i
  | 0x20 => (BitVec.ofInt 16 l.out).setWidth 32
  | 0x24 => fields [(0, l.ovrTotal.toNat), (16, l.ovrConsec.toNat)]
  | 0x50 => BitVec.ofNat 32 l.stat
  | _ => l.staged.reg off

/-- CLE registers. -/
def State.cleRead (s : State) (off : Nat) : Word :=
  let j := s.mot.inj
  let c := s.mot.cap
  if h : 0x100 ≤ off ∧ off < 0x500 then
    have : (off - 0x100) / 0x80 < 8 := by omega
    (s.mot.loop[(off - 0x100) / 0x80]).reg ((off - 0x100) % 0x80)
  else if h : 0x44 ≤ off ∧ off < 0x64 then
    fields [(0, c.sel[(off - 0x44) / 4].1.val), (4, c.sel[(off - 0x44) / 4].2.val)]
  else match off with
    | 0x00 => s.blk.cle.ctrl []
    | 0x04 => s.blk.cle.status [(8, bit s.mot.cleErr)]
    | 0x10 => s.mot.per.setWidth 32
    | 0x14 => BitVec.ofNat 32 s.budget
    | 0x20 => fields [(0, j.loop.val), (3, j.point.toNat), (5, j.kind.toNat), (8, j.hold.toNat)]
    | 0x24 => j.amp
    | 0x28 => j.f1
    | 0x2C => j.f2
    | 0x30 => j.dur
    | 0x38 => fields [(0, bit j.run), (1, j.ended.toNat), (8, j.status.toNat)]
    | 0x40 => BitVec.ofNat 32 c.bank.val
    | 0x64 => fields [(0, c.dec.toNat), (9, c.trig.toNat), (16, c.pre.toNat)]
    | 0x68 => c.level
    | 0x70 => fields [(0, bit c.armed), (1, bit c.trigd), (2, bit c.done), (16, c.start.toNat)]
    | _ => 0

/-! ### SAF (R252) -/

/-- SF1 code (R252). -/
def Sf1State.code : Sf1State → Nat
  | .clear => 0 | .active => 1 | .awaiting => 2

/-- SAF_STATUS. -/
def Saf.status (k : Saf) : Word :=
  fields [(0, bit k.lanes[0].included), (1, bit k.lanes[1].included), (2, bit k.lanes[2].included), (3, bit k.degraded),
    (4, bit k.safe), (5, Sf1State.code k.sf1), (7, bit k.gate), (8, bit (k.estA.tpf || k.estB.tpf || k.estA.unst || k.estB.unst || k.disc)),
    (9, bit (k.fltA || k.fltB)), (10, bit k.loopFlt), (12, bit k.cfg.sf4), (13, bit k.cfgOk)]

/-- SAF registers. -/
def State.safRead (s : State) (off : Nat) : Word :=
  let k := s.saf
  if 0x10 ≤ off && off < 0x30 then k.word.auth.extractLsb' (8 * (off - 0x10)) 32
  else if h : 0x60 ≤ off ∧ off < 0x6C then
    have : (off - 0x60) / 4 < 3 := by omega
    fields [(0, k.lanes[(off - 0x60) / 4].count.toNat), (16, bit (!k.lanes[(off - 0x60) / 4].included))]
  else match off with
    | 0x00 => k.status ||| fields [(11, bit s.fra.burst.isSome)]
    | 0x04 => fields [(0, k.sf2.toNat), (16, k.rstop.toNat)]
    | 0x08 => k.rclsNow.setWidth 32
    | 0x0C => k.word.cycle
    | 0x44 => fields [(0, k.cmdStatus.toNat), (16, k.cmdStatSeq.toNat)]
    | 0x50 => fields [(0, bit k.estA.raw), (1, bit k.estB.raw), (2, bit k.estA.demands), (3, bit k.estB.demands),
        (4, bit k.estA.tpf), (5, bit k.estB.tpf), (6, bit k.estA.unst), (7, bit k.estB.unst), (8, bit k.disc)]
    | 0x54 => fields [(0, bit k.outA), (1, bit k.outB), (2, bit k.fltA), (3, bit k.fltB)]
    | 0x58 => fields [(0, k.loopMiss.toNat), (16, k.loopConsec.toNat)]
    | 0x70 => fields [(0, k.sent.toNat), (16, k.blocked.toNat)]
    | 0x80 => k.cfgCrc
    | _ => 0

/-! ### CRC, QUE, MEM (R491, R497, R498) -/

/-- The bits of a CRC register's width; the bits above read as 0 (R493). -/
def crcMask (p : BitVec 3) : BitVec 32 := BitVec.ofNat 32 (2 ^ crcWidth p - 1)

/-- Registers of a CRC channel. -/
def CrcChan.reg (k : CrcChan) (off : Nat) : Word :=
  match off with
  | 0x00 => k.ctl.ctrl []
  | 0x04 => k.ctl.status [(8, bit k.busy), (9, bit k.done), (10, bit k.berr), (11, bit k.aborted)]
  | 0x08 => fields [(0, k.poly.toNat), (4, k.world.toNat)]
  | 0x0C => k.init
  | 0x10 => k.value &&& crcMask k.poly
  | 0x14 => (k.value ^^^ crcFinal k.poly) &&& crcMask k.poly
  | 0x24 => k.saddr
  | 0x28 => k.slen.setWidth 32
  | 0x30 => k.spos.setWidth 32
  | _ => 0

/-- CRC registers. -/
def State.crcRead (s : State) (off : Nat) : Word :=
  if h : off < 0x100 then
    have : off / 0x40 < 4 := by omega
    (s.ques.crc[off / 0x40]).reg (off % 0x40)
  else if off = 0x400 then fields [(0, bit s.ques.crcErr)]
  else 0

/-- Control registers of a queue. -/
def Queue.reg (q : Queue) (off : Nat) : Word :=
  match off with
  | 0x00 => q.ctl.ctrl []
  | 0x04 => q.ctl.status [(8, bit q.bank)]
  | 0x08 => fields [(0, q.size.toNat), (4, q.world.toNat)]
  | 0x0C => q.base.setWidth 32
  | 0x10 => q.flush.setWidth 32
  | 0x14 => q.thr.setWidth 32
  | 0x18 => BitVec.ofNat 32 q.avail.length
  | 0x1C => BitVec.ofNat 32 q.held
  | 0x20 => q.wptr.setWidth 32
  | 0x24 => q.rptr.setWidth 32
  | 0x28 => fields [(0, q.twDrop.toNat), (16, q.bPress.toNat)]
  | _ => 0

/-- QUE registers that read without an effect: RHI and TRYST of the ports, and the control registers (R482, R491). -/
def State.queRead (s : State) (m off : Nat) : Word :=
  if h : off < 0x800 then (s.queue ⟨off / 0x40, by omega⟩).reg (off % 0x40)
  else if h : 0x1000 ≤ off ∧ off < 0x1400 then
    let p := (s.queue ⟨(off - 0x1000) / 0x20, by omega⟩).port m
    if off % 0x20 = 0x0C then p.rhi
    else if off % 0x20 = 0x18 then fields [(0, bit p.empty), (1, bit p.full)]
    else 0
  else if off = 0x800 then fields [(0, bit s.ques.cfgErr)]
  else 0

/-- PSTATE code of a bank (R476). -/
def BankPower.code : BankPower → Nat
  | .off => 0 | .retention => 1 | .on => 2 | .filling => 0

/-- MEM registers. -/
def State.memRegRead (s : State) (off : Nat) : Word :=
  let m := s.mem
  if h : off < 0x40 then fields [(0, m.bank[off / 4].pwr.toNat), (8, BankPower.code m.bank[off / 4].st)]
  else if h : 0x40 ≤ off ∧ off < 0x80 then
    fields [(0, m.bank[(off - 0x40) / 4].corr.toNat), (16, m.bank[(off - 0x40) / 4].repCol.toNat)]
  else if h : 0x80 ≤ off ∧ off < 0xC0 then
    fields [(0, m.bank[(off - 0x80) / 4].retry.toNat), (24, m.bank[(off - 0x80) / 4].starve.toNat)]
  else match off with
    | 0xC0 => m.errAddr
    | 0xC4 => fields [(0, bit m.errValid), (1, bit m.errPort), (8, m.errCount.toNat)]
    | 0xD0 => fields [(0, bit m.wiping), (1, bit m.wiped), (8, m.wipes.toNat)]
    | 0xE0 => fields [(0, bit m.cfgErr)]
    | 0xE4 => m.scrub.setWidth 32
    | _ => 0

/-! ### KEY, EVR, UPD, TMP, DBG (R554, R555, R575, R591, R662) -/

/-- KEY registers: no register reads a key. -/
def State.keyRead (s : State) (off : Nat) : Word :=
  let k := s.sec
  if h : 0x100 ≤ off ∧ off < 0x180 then (k.slots[(off - 0x100) / 4]).attr
  else if h : 0x180 ≤ off ∧ off < 0x200 then
    let x := k.slots[(off - 0x180) / 4]
    fields [(0, x.id.toNat), (8, x.gen.toNat % 256), (16, bit x.valid)]
  else match off with
    | 0x04 => k.src
    | 0x08 => k.dst
    | 0x0C => k.len.setWidth 32
    | 0x10 => k.aux
    | 0x14 => fields [(0, bit k.busy.isSome), (1, bit k.aborted), (8, k.status.toNat)]
    | 0x18 => fields [(0, bit k.testRoot)]
    | _ => 0

/-- EVR registers; EVR_RECRES is each master's own. -/
def State.evrRead (s : State) (m off : Nat) : Word :=
  let e := s.evr
  match off with
  | 0x000 => fields [(0, bit e.degr), (1, bit e.flush.isSome), (2, bit e.lost), (3, bit e.logFail), (4, bit e.pfail)]
  | 0x004 => BitVec.ofNat 32 e.fill
  | 0x00C => e.lostCnt
  | 0x010 => e.nextNum
  | 0x014 => e.oldest
  | 0x018 => e.opsec
  | 0x01C => e.pcyc &&& 0xFFFFFF
  | 0x10C => (e.stage m).res.setWidth 32
  | _ => 0

/-- Trial seconds remaining, OPSEC (R591). -/
def State.winLeft (s : State) : Nat :=
  match s.upd.winEnd with
  | some t => if s.upd.trial then t - s.evr.opsec.toNat else 0
  | none => 0

/-- UPD registers. -/
def State.updRead (s : State) (off : Nat) : Word :=
  let u := s.upd
  match off with
  | 0x00 => fields [(0, u.run.val), (1, u.pref.val), (2, bit u.trial), (3, min u.tcount 3), (5, bit u.fallback)]
  | 0x04 => BitVec.ofNat 32 s.winLeft
  | 0x08 => BitVec.ofNat 32 u.svFuse
  | 0x0C => fields ((List.finRange 3).flatMap fun i =>
      [(i.val, bit u.area[i].trialEnd.isSome), (8 + i.val, bit (u.area[i].confirmed && u.area[i].image.isSome))])
  | 0x10 =>
    let act : Bool := match u.uartMs with
      | some t => s.tb5ms < t + 1000
      | none => false
    fields [(0, bit u.usbCfg), (1, bit act), (16, u.badFrm.toNat)]
  | _ => 0

/-- TMP registers. -/
def State.tmpRead (s : State) (off : Nat) : Word :=
  let t := s.sec.tmp
  match off with
  | 0x00 => fields [(0, t.active.toNat), (8, t.seen.toNat), (16, bit t.tampered), (17, bit t.kwkl)]
  | 0x04 => t.resp.setWidth 32
  | 0x08 => t.loop.setWidth 32
  | 0x0C => t.temp.setWidth 32
  | 0x10 => t.cnt
  | _ => 0

/-- Seconds of the arming that remain, rounded up (R662). -/
def State.armLeft (s : State) : Nat :=
  match s.dbg.armedTo with
  | some t => (t - s.tb5ms + 999) / 1000
  | none => 0

/-- DBG_STAT [5:0] (R662). -/
def State.dbgStat (s : State) : List (Nat × Nat) :=
  let d := s.dbg
  [(0, bit d.enabled), (1, bit d.armedTo.isSome), (2, d.tries), (4, bit d.locked), (5, bit d.ever)]

/-- DBG registers. -/
def State.dbgRead (s : State) (off : Nat) : Word :=
  if 0x10 ≤ off && off < 0x30 then
    match s.dbg.chal with
    | some l => BitVec.ofNat 32 (leNat ((l.drop (off - 0x10)).take 4))
    | none => 0
  else match off with
    | 0x00 => fields (s.dbgStat ++ (List.finRange 16).map fun i => (16 + i.val, bit s.dbg.hart[i.val].halted))
    | 0x30 => BitVec.ofNat 32 s.armLeft
    | _ => 0

/-! ### A read over the bus (R10, R450 to R452) -/

/-- What a register of a block reads, for a master. -/
def State.periphRead (s : State) (m blk off : Nat) : Word :=
  match blk with
  | 0x00 => s.sysRead off
  | 0x01 => s.clkRead off
  | 0x02 => s.pmuRead off
  | 0x03 => s.jdxRead m off
  | 0x04 => s.creRead off
  | 0x05 => s.gbbRead off
  | 0x06 => s.grfRead off
  | 0x07 => s.timRead off
  | 0x08 => s.ethRead 0 off
  | 0x09 => s.ethRead 1 off
  | 0x0A => s.radioRead false off
  | 0x0B => s.radioRead true off
  | 0x0C => if off < 0x8000 then s.canRead 0 off else s.canRead 1 (off - 0x8000)
  | 0x0D => s.motRead off
  | 0x0E => s.cleRead off
  | 0x0F => s.safRead off
  | 0x10 => s.pairRead off
  | 0x11 => s.crcRead off
  | 0x12 => s.queRead m off
  | 0x13 => s.keyRead off
  | 0x14 => s.evrRead m off
  | 0x15 => s.memRegRead off
  | 0x16 => s.updRead off
  | 0x17 => s.tmpRead off
  | 0x18 => s.dbgRead off
  | 0x19 => s.intRead off
  | _ => 0

/-- A word of memory as the bus returns it; memory that takes no part in an access returns 0. -/
def State.wordRead (s : State) (a : Nat) : Word :=
  if 0x30000000 ≤ a && a ≤ 0x301FFFFF then
    let w := tabGetD 0 s.ques.sram ((a - 0x30000000) / 8)
    if a % 8 = 0 then lowWord w else highWord w
  else if s.memLive a then BitVec.ofNat 32 (leNat (s.mem.read a 4))
  else 0

/-- What a read of the bus does beside returning a word: a base's NS and the FBC's NSL latch their other registers
(R320, R350), and a queue's data port gives a word up (R482, R484). The answer carries the word. -/
def State.busRead (s : State) (b : Bus) (a : Nat) : State :=
  if 0x40000000 ≤ a && a ≤ 0x4019FFFF then
    let off := a % 0x10000
    let blk := (a - 0x40000000) / 0x10000
    if h : blk = 7 ∧ 0x100 ≤ off ∧ off < 0x280 ∧ off % 0x40 = 0 then s.nsRead ⟨(off - 0x100) / 0x40, by omega⟩
    else if h : blk = 0x12 ∧ 0x1000 ≤ off ∧ off < 0x1400 ∧ (off % 0x20 = 8 ∨ off % 0x20 = 0x10) then
      s.portRead ⟨(off - 0x1000) / 0x20, by omega⟩ b.id (off % 0x20 = 0x10)
    else
      let s1 := if blk = 7 && off = 0x18 then
          s.setTim fun t => { t with fbc := { t.fbc with shH := BitVec.ofNat 32 (t.fbc.t / nsUnit / 2 ^ 32) } }
        else s
      s1.answerValue (leBytes 4 (s.periphRead b.id blk off).toNat)
  else s.answerValue (leBytes 4 (s.wordRead a).toNat)

end Sys2Proof.Machine
end

