-- ==== Sys2Proof/Machine/Debug.lean ====
section
/-!
DEFINITION. The test access port, the debug unlock and the debug module (spec/23_debug.md). The layout of DTMCS, of DMI
accesses and of the debug module's registers is that of RISC-V External Debug Support 0.13.2, which R653 names.
-/
namespace Sys2Proof.Machine

/-- Changes the debug part. -/
def State.setDbg (s : State) (f : Dbg → Dbg) : State := { s with dbg := f s.dbg }

/-! ### The port (R653, R661) -/

/-- Selects an instruction with what its data register captures. -/
def State.tapSelect (s : State) (ir : TapIr) (dr : Nat) : State := s.setDbg fun d => { d with ir := ir, dr := dr }

/-- BYPASS, and every instruction that is not available (R653): one bit that captures 0. -/
def State.tapBypass (s : State) : State := s.tapSelect .bypass 0

/-- TAP_RESET (R653). -/
def execTapReset (s : State) : Result := .next (s.tapSelect .idcode 0x2716A3CB)

/-- IDCODE (R653). -/
def execIdcode (s : State) : Result := .next (s.tapSelect .idcode 0x2716A3CB)

/-- BYPASS (R653). -/
def execBypass (s : State) : Result := .next s.tapBypass

/-- SAMPLE/PRELOAD (R653): `cells` are the boundary cells that hold 1 afterwards. -/
def execSamplePreload (cells : List Nat) (s : State) : Result :=
  .next (s.setDbg fun d => { d with ir := .samplePreload, cells := cells })

/-- EXTEST (R653, R661): outputs are driven from the cells while debug is enabled. -/
def execExtest (cells : List Nat) (s : State) : Result :=
  .next (if s.dbg.enabled then s.setDbg fun d => { d with ir := .extest, cells := cells } else s.tapBypass)

/-- CLAMP (R653, R661). -/
def execClamp (s : State) : Result := .next (if s.dbg.enabled then s.tapSelect .clamp 0 else s.tapBypass)

/-- HIGHZ (R653, R661). -/
def execHighz (s : State) : Result := .next (if s.dbg.enabled then s.tapSelect .highz 0 else s.tapBypass)

/-- Kinds of output balls that R661 tells apart. -/
inductive BallKind where
  | s24 | pairHoldOut | radioSwitch | analogue | other
  deriving DecidableEq, Repr

/-- A ball's block has no control over it: an instruction drives it from its cell, or sets it to high impedance (R661).
The observe-only balls are never driven. -/
def State.ballTaken (s : State) (k : BallKind) : Bool :=
  k = .other && (s.dbg.ir = .extest || s.dbg.ir = .clamp || s.dbg.ir = .highz)

/-- DTMCS (R653): version 0.13, 7 address bits, DMISTAT and the idle hint. -/
def State.dtmcs (s : State) : Nat := 1 + 7 * 2 ^ 4 + s.dbg.dmiStat * 2 ^ 10 + Config.dtmIdle.val * 2 ^ 12

/-- DTMCS (R653): reports DMISTAT; a write of dmireset or dmihardreset clears it. -/
def execDtmcs (reset hardReset : Bool) (s : State) : Result :=
  let s1 := s.tapSelect .dtmcs s.dtmcs
  .next (if reset || hardReset then s1.setDbg fun d => { d with dmiStat := 0 } else s1)

/-! ### Unlock (R655 to R657, R664) -/

/-- DBG_CHAL and DBG_TOKEN are available (R653). -/
def State.tokenAvailable (s : State) : Bool := s.sec.lifeCycle = .manufacturing || s.sec.lifeCycle = .serviceReturn

/-- DBG_CHAL (R655). -/
def execDbgChal (s : State) : Result :=
  let l := s.dbg.chal.getD []
  .next (if s.tokenAvailable then (s.tapSelect .dbgChal (leNat l)).answerValue l else s.tapBypass)

/-- A token that fails its magic or its signature (R656). -/
def State.tokenFails (s : State) : State :=
  let n := min (s.dbg.tries + 1) 3
  ((s.setDbg fun d => { d with tries := n, locked := d.locked || 3 ≤ n }).newNonce).event .debugTokenFailed [n]

/-- A token enables debug (R657); *Start-up* that has not ended ends in *Debug session* (R599). -/
def State.debugEnable (s : State) : State :=
  let nonce := leNat ((s.dbg.chal.getD []).drop 16)
  let s1 := s.setDbg fun d => { d with enabled := true, ever := true }
  let s2 := ((s1.setSec fun k => { k with testRoot := true, debugSeen := true }).slotsClear).secureWipe
  let s3 := if s2.dev.dstate = .startUp then s2.setCause 3 else (s2.setCause 3).enterDebug
  s3.event .debugEnabled [s3.sec.lifeCycle.code, nonce]

/-- The magic of a token and its reserved octets (R655). -/
def tokenMagic (t : List Byte) : Bool := leNat (t.take 4) = 0x47445A4E && leNat ((t.drop 4).take 4) = 0

/-- A token is taken: *Start-up* or *Listening*, in *Service-Return* only while armed and not locked (R655, R656). -/
def State.tokenTaken (s : State) : Bool :=
  (s.dev.dstate = .startUp || s.dev.dstate = .listening) && !s.dbg.locked &&
    (s.sec.lifeCycle = .manufacturing || (s.sec.lifeCycle = .serviceReturn && s.dbg.armedTo.isSome))

/-- A token passes (R655): in *Manufacturing* by its magic, else also by its signature. -/
def State.tokenPasses (s : State) (t : List Byte) : Bool :=
  tokenMagic t && (s.sec.lifeCycle = .manufacturing || Config.ecdsaVerify Config.debugKey (s.dbg.chal.getD []) (t.drop 8))

/-- A tamper that fires while the token is checked: true when its response refuses the token (R552, R656). -/
def State.tokenTamper (s : State) (tamper : Option TamperSource) : Bool :=
  match tamper with
  | some t => s.tamperWatched t && s.tamperResp (tamperNo t) ≠ 0
  | none => false

/-- DBG_TOKEN at Update-DR (R655 to R657). `tamper` is a source that fires while the token is being checked. -/
def execDbgToken (t : List Byte) (tamper : Option TamperSource) (s : State) : Result :=
  if !s.tokenAvailable then .next s.tapBypass
  else
    let s1 := s.setDbg fun d => { d with ir := .dbgToken, dr := leNat t }
    let s2 := match tamper with
      | some x => s1.tamperFire x
      | none => s1
    if !s.tokenTaken || s.tokenTamper tamper then .next s2
    else .next (if s.tokenPasses t then s2.debugEnable else s2.tokenFails)

/-- DEBUG_ARM (R656, R664): OD 0x9050:01. -/
def execDebugArm (role : Role) (v : Nat) (s : State) : Result :=
  .next (s.asRole role .engineer fun s =>
    if v ≠ 1 then s.deny .range
    else s.inListening fun s =>
      if s.sec.lifeCycle ≠ .serviceReturn || s.dbg.locked then s.deny .other
      else (s.setDbg fun d => { d with armedTo := some (s.tb5ms + 600000) }).answer .ok)

/-- DEBUG_ARM_EXPIRY (R656). -/
def execDebugArmExpiry (s : State) : Result :=
  match s.dbg.armedTo with
  | some t => .next ((s.reachMs t).setDbg fun d => { d with armedTo := none })
  | none => .next s

/-! ### Harts (R658 to R660) -/

/-- The selection of a hart is allowed (R658). -/
def State.hartOk (s : State) (n : Nat) : Bool :=
  s.dbg.enabled && (n ≤ 15 || (n = 16 && s.sec.lifeCycle = .manufacturing))

/-- Selects a hart. -/
def State.hartSelect (s : State) (n : Nat) : State := s.setDbg fun d => { d with hartSel := n }

/-- Changes one hart. -/
def State.setHart (s : State) (n : Fin 17) (f : Hart → Hart) : State :=
  s.setDbg fun d => { d with hart := d.hart.set n (f d.hart[n]) }

/-- Changes whether an application core is halted. -/
def State.coreHalted (s : State) (n : Fin 17) (v : Bool) : State :=
  if h : n.val < 16 then s.setCore ⟨n.val, h⟩ fun c => { c with halted := v } else s

/-- Runs a change of a hart that may be selected; any other stays non-existent (R658). -/
def State.onHart (s : State) (n : Nat) (f : Fin 17 → State → State) : State :=
  let s1 := if s.dbg.enabled then s.hartSelect n else s
  if h : n < 17 then (if s.hartOk n then f ⟨n, h⟩ s1 else s1) else s1

/-- Halts a hart (R659, R660). -/
def State.hartHalt (s : State) (n : Fin 17) : State :=
  if s.dbg.hart[n].halted then s
  else (s.setHart n fun h => { h with halted := true, since := s.tb5u10, regs := [] }).coreHalted n true

/-- HART_HALT (R659, R660). -/
def execHartHalt (hart : Nat) (s : State) : Result := .next (s.onHart hart fun n s => s.hartHalt n)

/-- The time a core's job has been in service does not count what it spent halted (R660). -/
def State.jobShift (s : State) (n : Fin 17) (by' : Nat) : State :=
  { s with cores := { s.cores with jobs := s.cores.jobs.map fun (a : Accepted) =>
      match a.place with
      | .service k t => if k.val = n.val then { a with place := .service k (t + by') } else a
      | _ => a } }

/-- Resumes a hart (R659). -/
def State.hartResume (s : State) (n : Fin 17) : State :=
  let h := s.dbg.hart[n]
  if h.halted then
    ((s.setHart n fun h => { h with halted := false, regs := [] }).coreHalted n false).jobShift n (s.tb5u10 - h.since)
  else s

/-- HART_RESUME (R659). -/
def execHartResume (hart : Nat) (s : State) : Result := .next (s.onHart hart fun n s => s.hartResume n)

/-- SINGLE_STEP (R659): the hart executes one instruction of its program and is halted again; what its registers then hold
is its program's. -/
def execSingleStep (hart : Nat) (s : State) : Result :=
  .next (s.onHart hart fun n s => if s.dbg.hart[n].halted then s.setHart n fun h => { h with regs := [] } else s)

/-! ### Triggers (R659) -/

/-- A trigger matches: 0 to 7 on execution, 8 to 11 on a load or a store, each as its tdata1 arms it. -/
def triggerHits (h : Hart) (addr : BitVec 64) (k : AccessKind) : Bool :=
  (List.finRange 12).any fun i =>
    let t := h.trig[i]
    t.addr = addr && match k with
      | .execute => i.val < 8 && t.cfg.getLsbD 2
      | .write => 8 ≤ i.val && t.cfg.getLsbD 1
      | .read => 8 ≤ i.val && t.cfg.getLsbD 0

/-- TRIGGER_HIT (R659): while debug is not enabled no trigger is armed (R654). -/
def execTriggerHit (core : Fin 16) (addr : BitVec 64) (kind : AccessKind) (s : State) : Result :=
  let n : Fin 17 := ⟨core.val, by omega⟩
  .next (if s.dbg.enabled && !s.dbg.hart[n].halted && triggerHits s.dbg.hart[n] addr kind then s.hartHalt n else s)

/-! ### Abstract commands (R659) -/

/-- An abstract command may access a register: control, general and floating-point ones. -/
def hartRegister (n : Nat) : Bool := n ≤ 0x103F

/-- The selected trigger of a hart. -/
def Hart.selected (h : Hart) : Trigger := h.trig.toList.getD h.tselect {}

/-- Reads a register of a hart: what the debug module holds of it, else its program's value, which the spec does not give. -/
def State.hartRead (s : State) (n : Fin 17) (r : Nat) : BitVec 64 × State :=
  let h := s.dbg.hart[n]
  if r = 0x1000 then (0, s)
  else if n.val < 16 && r = 0x7A0 then (BitVec.ofNat 64 h.tselect, s)
  else if n.val < 16 && r = 0x7A1 then (h.selected.cfg, s)
  else if n.val < 16 && r = 0x7A2 then (h.selected.addr, s)
  else match tabGet h.regs r with
    | some v => (v, s)
    | none =>
      let f := s.takeFree
      (f.1, f.2.setHart n fun h => { h with regs := tabPut h.regs r f.1 })

/-- Changes the selected trigger of a hart. -/
def Hart.setTrigger (h : Hart) (f : Trigger → Trigger) : Hart :=
  if hs : h.tselect < 12 then { h with trig := h.trig.set h.tselect (f h.trig[h.tselect]) } else h

/-- Writes a register of a hart: tselect above 11 stays as it is, and x0 reads 0 always. -/
def State.hartWrite (s : State) (n : Fin 17) (r : Nat) (v : BitVec 64) : State :=
  s.setHart n fun h =>
    if r = 0x1000 then h
    else if n.val < 16 && r = 0x7A0 then (if v.toNat ≤ 11 then { h with tselect := v.toNat } else h)
    else if n.val < 16 && r = 0x7A1 then h.setTrigger fun t => { t with cfg := v }
    else if n.val < 16 && r = 0x7A2 then h.setTrigger fun t => { t with addr := v }
    else { h with regs := tabPut h.regs r v }

/-- An abstract command on a selected hart: cmderr 4 when it is not halted, 2 when the register is not offered. -/
def State.abstractCmd (s : State) (n : Fin 17) (transfer write postexec : Bool) (r : Nat) (v : BitVec 64) : State :=
  if s.dbg.cmdErr ≠ 0 then s
  else if !s.dbg.hart[n].halted then s.setDbg fun d => { d with cmdErr := 4 }
  else if transfer && !hartRegister r then s.setDbg fun d => { d with cmdErr := 2 }
  else
    let s1 := if !transfer then s
      else if write then (s.hartWrite n r v).setDbg fun d => { d with data := v }
      else
        let x := s.hartRead n r
        (x.2.setDbg fun d => { d with data := x.1 }).answerValue (leBytes 8 x.1.toNat)
    if postexec then s1.setHart n fun h => { h with regs := [] } else s1

/-- ABSTRACT_COMMAND (R659): `postexec` runs the program buffer, whose effect on the registers is the buffer's program's. -/
def execAbstractCommand (hart : Nat) (transfer write postexec : Bool) (reg : BitVec 16) (v : BitVec 64) (s : State) : Result :=
  .next (s.onHart hart fun n s => s.abstractCmd n transfer write postexec reg.toNat v)

/-! ### System bus (R659) -/

/-- The debug module as a master: world 0, not secure. -/
def debugMaster : Bus := ⟨17, 0, false⟩

/-- A system bus access: refused or unmapped sets sberror to 2 and is recorded; none begins while sberror is set. -/
def State.systemBus (s : State) (write : Bool) (addr : Nat) (v : Word) : State :=
  let k : AccessKind := if write then .write else .read
  if !s.dbg.enabled || s.dbg.sberror ≠ 0 then s
  else if !s.allows debugMaster addr k then ((s.violation debugMaster addr k).setDbg fun d => { d with sberror := 2 })
  else if write then (s.busWrite debugMaster (addr / 4 * 4) v).setDbg fun d => { d with sbdata := v }
  else
    let s1 := (s.answer .ok).busRead debugMaster (addr / 4 * 4)
    s1.setDbg fun d => { d with sbdata := BitVec.ofNat 32 (leNat s1.ans.value) }

/-- SYSTEM_BUS_ACCESS (R659). -/
def execSystemBusAccess (write : Bool) (addr : BitVec 32) (v : Word) (s : State) : Result :=
  .next (s.systemBus write addr.toNat v)

/-! ### DMI (R654) -/

/-- dmstatus for the selected hart. -/
def State.dmStatus (s : State) : Word :=
  let n := s.dbg.hartSel
  let ok := s.hartOk n
  let halted := match s.dbg.hart.toList[n]? with
    | some h => ok && h.halted
    | none => false
  let run := ok && !halted
  fields [(0, 2), (7, 1), (8, bit halted), (9, bit halted), (10, bit run), (11, bit run), (14, bit (!ok)), (15, bit (!ok))]

/-- A debug module register read while debug is enabled. -/
def State.dmRead (s : State) (a : Nat) : Word :=
  let d := s.dbg
  match a with
  | 0x04 => d.data.setWidth 32
  | 0x05 => (d.data >>> 32).setWidth 32
  | 0x10 => (tabGetD 0 d.dm 0x10 &&& 1) ||| fields [(16, d.hartSel % 1024), (6, d.hartSel / 1024)]
  | 0x11 => s.dmStatus
  | 0x16 => fields [(0, 2), (8, d.cmdErr), (24, 2)]
  | 0x20 => d.progbuf[0]
  | 0x21 => d.progbuf[1]
  | 0x38 => tabGetD 0 d.dm 0x38 &&& 0x001F8000 ||| fields [(0, 4), (5, 32), (12, d.sberror), (29, 1)]
  | 0x3C => d.sbdata
  | _ => tabGetD 0 d.dm a

/-- A write of dmcontrol: hart selection, halt and resume requests. -/
def State.dmControl (s : State) (w : Word) : State :=
  let n := bitsOf w.toNat 25 16 + 1024 * bitsOf w.toNat 15 6
  let s1 := s.setDbg fun d => { d with dm := tabSet 0 d.dm 0x10 (w &&& 1) }
  s1.onHart n fun k s => if w.getLsbD 31 then s.hartHalt k else if w.getLsbD 30 then s.hartResume k else s

/-- A write of command: an access-register command on the selected hart. -/
def State.dmCommand (s : State) (w : Word) : State :=
  if w.toNat / 2 ^ 24 ≠ 0 then s.setDbg fun d => { d with cmdErr := if d.cmdErr = 0 then 2 else d.cmdErr }
  else s.onHart s.dbg.hartSel fun n s =>
    s.abstractCmd n (w.getLsbD 17) (w.getLsbD 16) (w.getLsbD 18) (w.toNat % 65536) s.dbg.data

/-- A debug module register write while debug is enabled. -/
def State.dmWrite (s : State) (a : Nat) (w : Word) : State :=
  match a with
  | 0x04 => s.setDbg fun d => { d with data := d.data.extractLsb' 32 32 ++ w }
  | 0x05 => s.setDbg fun d => { d with data := w ++ d.data.extractLsb' 0 32 }
  | 0x10 => s.dmControl w
  | 0x11 => s
  | 0x16 => if w.extractLsb' 8 3 = (0 : BitVec 3) then s else s.setDbg fun d => { d with cmdErr := 0 }
  | 0x17 => s.dmCommand w
  | 0x20 => s.setDbg fun d => { d with progbuf := d.progbuf.set 0 w }
  | 0x21 => s.setDbg fun d => { d with progbuf := d.progbuf.set 1 w }
  | 0x38 => s.setDbg fun d => { d with
      dm := tabSet 0 d.dm 0x38 (w &&& 0x001F8000), sberror := if w.extractLsb' 12 3 = (0 : BitVec 3) then d.sberror else 0 }
  | 0x39 =>
    let s1 := s.setDbg fun d => { d with dm := tabSet 0 d.dm 0x39 w }
    if (tabGetD 0 s.dbg.dm 0x38).getLsbD 20 then s1.systemBus false w.toNat 0 else s1
  | 0x3C => s.systemBus true (tabGetD 0 s.dbg.dm 0x39).toNat w
  | _ => s.setDbg fun d => { d with dm := tabSet 0 d.dm a w }

/-- The DMI register after an access: address, data and op status. -/
def State.dmiDone (s : State) (addr : BitVec 7) (data : Word) (st : Nat) : State :=
  (s.setDbg fun d => { d with
    ir := .dmi, dr := addr.toNat * 2 ^ 34 + data.toNat * 4 + st, dmiStat := if st = 0 then d.dmiStat else st }).answerValue
    (leBytes 4 data.toNat)

/-- DMI (R654): op 1 reads, op 2 writes. While debug is not enabled, and while a failed access has not been reset, the access
fails with op status 2. -/
def execDmi (op : BitVec 2) (addr : BitVec 7) (data : Word) (s : State) : Result :=
  if !s.dbg.enabled || s.dbg.dmiStat ≠ 0 then .next (s.dmiDone addr 0 2)
  else if op = 1 then .next (s.dmiDone addr (s.dmRead addr.toNat) 0)
  else if op = 2 then .next ((s.dmWrite addr.toNat data).dmiDone addr data 0)
  else .next (s.dmiDone addr 0 0)

end Sys2Proof.Machine
end

