-- ==== Sys2Proof/Machine/Update.lean ====
section
/-!
DEFINITION. Firmware update (spec/19_update.md): the checks on a downloaded image, activation of main firmware and of
microcode, confirmation and rollback. What lies before a download is complete is the dictionary's (R522).
-/
namespace Sys2Proof.Machine

/-- Index of an engine's store area. -/
def Engine.idx : Engine → Fin 3
  | .gbb => 0 | .radio => 1 | .cle => 2

/-- KIND of an engine's microcode, and class of its activation (R580, R584). -/
def Engine.kind (e : Engine) : Nat := (Engine.idx e).val + 2

/-- Engine of a microcode KIND. -/
def engineOf : Nat → Option Engine
  | 2 => some .gbb | 3 => some .radio | 4 => some .cle | _ => none

/-- Changes a store area. -/
def State.setArea (s : State) (e : Engine) (f : StoreArea → StoreArea) : State :=
  s.setUpd fun u => { u with area := u.area.set (Engine.idx e) (f u.area[Engine.idx e]) }

/-- Puts an image, or none, into the place that downloads of a KIND go to: the inactive slot or a store area (R583). -/
def State.imagePut (s : State) (kind : Nat) (x : Option Stored) : State :=
  if kind = 1 then s.setUpd fun u => { u with slot := u.slot.set (1 - u.run) x }
  else match engineOf kind with
    | some e => s.setArea e fun a => { a with image := x, confirmed := false, trialEnd := none }
    | none => s

/-! ### Download (R582, R583) -/

/-- An image received is stored, or refused with the code of the first check that fails. -/
def State.imageChecked (s : State) (l : List Byte) (norOk : Bool) : State :=
  let code := s.imageCheck l norOk
  let i := imgInfo l
  if code = 0 then
    (s.imagePut i.kind (some ⟨i, l, true⟩)).setUpd fun u => { u with
      dl := .stored, checking := none, refusal := 0, ready := some i.kind, readyVer := i.version }
  else
    (s.imagePut i.kind none).setUpd fun u => { u with dl := .refused, checking := none, refusal := code }

/-- IMAGE_CHECK_COMPLETE (R582, R583): of the image that was handed over at DOMAIN_END. -/
def execImageCheckComplete (norOk : Bool) (s : State) : Result :=
  match s.upd.checking with
  | some l => .next (s.imageChecked l norOk)
  | none => .next s

/-- A stored image is discarded (R583). -/
def State.imageDiscard (s : State) : State :=
  match s.upd.ready with
  | some k => ((s.imagePut k none).setUpd fun u => { u with dl := .none, ready := none, readyVer := 0 }).answer .ok
  | none => s.deny .state

/-- DISCARD_STORED_IMAGE (R583, R592). -/
def execDiscardStoredImage (role : Role) (s : State) : Result := .next (s.asRole role .engineer State.imageDiscard)

/-! ### Activation (R584 to R586) -/

/-- A download of an image is open, or its checks run. -/
def State.imageOpen (s : State) : Bool :=
  s.upd.checking.isSome || s.dict.transfers.any fun t => t.index = 0x2060 && t.sub = 1

/-- Answer of R584 to an activation of a class; a CLE microcode load is accepted only while the CLE reads OFF (R440). -/
def State.activateStatus (s : State) (kind : Nat) : Status :=
  let trial : Bool := match engineOf kind with
    | some e => s.upd.area[Engine.idx e].trialEnd.isSome
    | none => false
  if s.upd.ready ≠ some kind || s.dev.dstate = .debugSession then .denied
  else if s.imageOpen || s.upd.act.isSome || trial || s.dev.target.isSome ||
    (kind = 4 && s.blk.cle.st ≠ .off) then .busy
  else .ok

/-- Runs an activation that R584 does not turn away. -/
def State.activate (s : State) (role : Role) (kind : Nat) (f : State → State) : State :=
  s.asRole role .engineer fun s =>
    match s.activateStatus kind with
    | .ok => f (s.answer .ok)
    | .busy => s.answer .busy
    | _ => s.deny .state

/-- The stored main image is preferred, in trial, and the unit restarts (R585). The migration mode is read now (R590). -/
def State.activateMain (s : State) (x : StartInput) : State :=
  ((s.setUpd fun u => { u with
    pref := 1 - u.run, trial := true, tcount := 0, winEnd := none, rolledBack := false, ready := none, dl := .none
    lastPermit := none, migrate := some (s.od 0x2060 8 1 = 1) }).event .imageActivated [1, s.upd.readyVer.toNat]).restart x

/-- ACTIVATE_MAIN (R584, R585). -/
def execActivateMain (role : Role) (x : StartInput) (s : State) : Result :=
  .next (s.activate role 1 fun s => s.activateMain x)

/-- A microcode activation waits for its placement instant (R586). -/
def State.activateEngine (s : State) (role : Role) (e : Engine) : State :=
  s.activate role (Engine.kind e) fun s => s.setUpd fun u => { u with act := some (.waiting e false) }

/-- ACTIVATE_GBB (R584, R586). -/
def execActivateGbb (role : Role) (s : State) : Result := .next (s.activateEngine role .gbb)

/-- ACTIVATE_RADIO (R584, R586). -/
def execActivateRadio (role : Role) (s : State) : Result := .next (s.activateEngine role .radio)

/-- ACTIVATE_CLE (R584, R586). -/
def execActivateCle (role : Role) (s : State) : Result := .next (s.activateEngine role .cle)

/-- The engine pauses from now on. -/
def State.pauseFrom (s : State) (e : Engine) (rb : Bool) (endNs : Nat) : State :=
  s.setUpd fun u => { u with act := some (.pause e endNs rb), paused := some e }

/-- The GBB's pause begins 1 ms after the latch edge of a correction-grid epoch, for 30 ms of TB5: accumulations are
discarded (R586). -/
def State.pauseGbb (s : State) (rb : Bool) : State :=
  let grid := s.tb0ns / 50000000 * 50000000 + 1000000
  let s1 := s.reachTb0 (if s.tb0ns ≤ grid then grid else grid + 50000000)
  let s2 := { s1 with gbb := { s1.gbb with chans := s1.gbb.chans.map fun (p : Nat × Channel) => (p.1, p.2.discard) } }
  s2.pauseFrom .gbb rb (s2.tb5ns + 30000000)

/-- The radio's pause begins 11.0 ms after the boundary of a cycle that is no correction cycle and has no stop burst, for
15 ms of TB4 (R586). A slot or a window of that cycle that is open closes. -/
def State.pauseRadio (s : State) (rb : Bool) : State :=
  if s.corrCycle s.dev.cycle || s.fra.burst.isSome || 11000 < s.cycleUs then s
  else
    let s1 := s.reachOffset 11000
    let s2 := (s1.setFrb fun f => { f with slot := none, listening := false, clear := false, mrxOn := false }).setFra
      fun f => { f with segDue := false }
    s2.pauseFrom .radio rb (s2.tb4ns + 15000000)

/-- MICROCODE_PAUSE_START (R586, R588): at the placement instant; the CLE's pause only while the CLE reads OFF. -/
def execMicrocodePauseStart (s : State) : Result :=
  match s.upd.act with
  | some (.waiting .gbb rb) => .next (s.pauseGbb rb)
  | some (.waiting .radio rb) => .next (s.pauseRadio rb)
  | some (.waiting .cle rb) =>
    if s.blk.cle.st = .off then .next (s.pauseFrom .cle rb (s.tb5ns + 5000000)) else .next s
  | _ => .next s

/-- The engine runs its new code: a stored image in trial, or after the trial's end the module of the main image, with the
store area empty (R586, R588). -/
def State.engineLoaded (s : State) (e : Engine) (rb : Bool) : State :=
  let s1 := s.setUpd fun u => { u with act := none, paused := none }
  if rb then
    (s1.setArea e fun a => { a with image := none, confirmed := false, trialEnd := none, running := s.mainInfo.version }).event
      .rolledBack [Engine.kind e]
  else
    let v : BitVec 32 := match s.upd.area[Engine.idx e].image with
      | some x => x.info.version
      | none => 0
    let window := s.evr.opsec.toNat + 60 * s.od 0x2060 7 10
    ((s1.setArea e fun a => { a with running := v, confirmed := false, trialEnd := some window }).setUpd fun u => { u with
      ready := none, dl := .none }).event .imageActivated [Engine.kind e, v.toNat]

/-- The radios go on after a pause: MRX receives, and a stop burst that waited begins (R277, R586). -/
def State.radioResume (s : State) : State :=
  let s1 := if s.blk.frb.st = .on then s.setFrb fun f => { f with mrxOn := true } else s
  (s1.stopNext 3).burstDrop

/-- MICROCODE_PAUSE_END (R586). -/
def execMicrocodePauseEnd (s : State) : Result :=
  match s.upd.act with
  | some (.pause .radio t rb) => .next (((s.reachTb4 t).engineLoaded .radio rb).radioResume)
  | some (.pause e t rb) => .next ((s.reachNs t).engineLoaded e rb)
  | _ => .next s

/-! ### Confirmation and rollback (R587, R588) -/

/-- The running main image is in trial. -/
def Upd.inTrial (u : Upd) : Bool := u.trial && u.run = u.pref

/-- The half that a migration left for the old image is erased (R590). -/
def State.oldHalfErase (s : State) : State :=
  let o := 1 - s.dict.halfUsed
  if s.dict.half[o].fmt = s.mainInfo.word16 then s
  else { s with dict := { s.dict with half := s.dict.half.set o {} } }

/-- The main image in trial is confirmed, and the fuses follow its security version. -/
def State.confirmMain (s : State) : State :=
  if s.upd.inTrial then
    (s.setUpd fun u => { u with
      trial := false, tcount := 0, winEnd := none, svFuse := max u.svFuse (min 64 s.mainInfo.secVer) }).oldHalfErase
  else s

/-- Microcode images in trial are confirmed. -/
def State.confirmMicrocode (s : State) : State :=
  s.setUpd fun u => { u with area := u.area.map fun a =>
    if a.trialEnd.isSome then { a with confirmed := true, trialEnd := none } else a }

/-- Something is in trial. -/
def State.anyTrial (s : State) : Bool := s.upd.inTrial || s.upd.area.toList.any fun a => a.trialEnd.isSome

/-- CONFIRM (R587, R588, R593): OD 0x2060:06. -/
def execConfirm (role : Role) (v : Nat) (s : State) : Result :=
  .next (s.asRole role .engineer fun s =>
    if v ≠ 1 then s.deny .range
    else if s.anyTrial then (s.confirmMain.confirmMicrocode).answer .ok
    else s.deny .state)

/-- Moves to the first instant at which OPSEC has reached a value. -/
def State.reachOpsec (s : State) (t : Nat) : State :=
  if t ≤ s.evr.opsec.toNat then s
  else
    let k := (t - s.evr.opsec.toNat) * 32768 - s.evr.opTicks
    s.run ((k * fbcTick - s.tim.fbc.phase + 31) / 32)

/-- The first engine whose trial has a window. -/
def State.trialEngine (s : State) : Option (Engine × Nat) :=
  [Engine.gbb, .radio, .cle].findSome? fun e => s.upd.area[Engine.idx e].trialEnd.map fun t => (e, t)

/-- CONFIRMATION_WINDOW_EXPIRY (R587, R588): a main image rolls back and the unit restarts; an engine's rollback waits for
its placement instant. -/
def execConfirmationWindowExpiry (x : StartInput) (s : State) : Result :=
  if s.dev.dstate = .dormant || !s.pwr.vinOk then .next s
  else match s.upd.inTrial, s.upd.winEnd, s.trialEngine with
    | true, some t, _ => .next ((((s.reachOpsec t).setUpd Upd.rollBack).event .rolledBack [s.upd.run.val]).restart x)
    | _, _, some (e, t) =>
      if s.upd.act.isNone then .next ((s.reachOpsec t).setUpd fun u => { u with act := some (.waiting e true) }) else .next s
    | _, _, none => .next s

end Sys2Proof.Machine
end

