-- ==== Sys2Proof/Machine/OdRead.lean ====
section
/-!
DEFINITION. What a read of each object returns (spec/16_object_dictionary.md, R500 to R504, and the object table of every
chapter). An object that a register shows is read through that register's view.
-/
namespace Sys2Proof.Machine

/-! ### Rows and their values -/

/-- The row of an object; sub-index 0 of an index with more than one sub-index holds the highest in use (R500). -/
def odRow (idx sub : Nat) : Option Obj :=
  match objAt idx sub with
  | some o => some o
  | none => if sub = 0 && !(objsOf idx).isEmpty then some (.read idx 0 1 (.u 1)) else none

/-- Objects of which each CAN channel has a copy (R509, R525). -/
def perChannel (idx : Nat) : Bool := 0x1000 ≤ idx && idx < 0x1FF0

/-- Key of an object, of the copy selected (R509). -/
def copyKey (copy : Fin 2) (idx sub : Nat) : Nat :=
  odKey (if perChannel idx then copy.val * 65536 + idx else idx) sub

/-- Copy that a request of a session reaches (R509). -/
def State.copyOf (s : State) (slot : Fin 11) : Fin 2 :=
  if slot.val = 1 then 1 else if slot.val = 0 then 0 else if s.dict.sess[slot].copy = 1 then 1 else 0

/-- Default octets of a stored object, where they stand on another setting (R266, R270, R513, R514). -/
def State.defaultNow (s : State) (copy : Fin 2) (o : Obj) (idx sub : Nat) : List Byte :=
  let node := s.dict.can[copy].nodeId.toNat
  let pdo := fun (base : Nat) => leBytes 4 (2 ^ 31 + base + 0x100 * (idx % 4) + node)
  if idx = 0x1014 then leBytes 4 (0x80 + node)
  else if idx = 0x5010 && sub = 6 then leBytes 2 (wakeDefault (s.od 0x5000 1 0 = 1))
  else if 0x1400 ≤ idx && idx ≤ 0x1403 && sub = 1 then pdo 0x200
  else if 0x1800 ≤ idx && idx ≤ 0x1803 && sub = 1 then pdo 0x180
  else
    match o.ty with
    | .oct n => List.replicate n 0
    | _ => o.default

/-- Value held of a stored object: in force, or committed for the next start-up (R504). -/
def State.stored (s : State) (copy : Fin 2) (o : Obj) (idx sub : Nat) : List Byte :=
  match s.odHeld (copyKey copy idx sub) [] with
  | [] =>
    match o.ty with
    | .str _ => []
    | _ => s.defaultNow copy o idx sub
  | v => v

/-! ### Codes of what is read -/

/-- Major and minor of a version (R525). -/
def versionHigh (v : BitVec 32) : Nat := v.toNat / 65536

/-- NMT state as CiA 301 codes it (R510, R525). -/
def Nmt.code : Nmt → Nat
  | .initialisation => 0 | .stopped => 4 | .operational => 5 | .preOperational => 127

/-- Survey state (R94, R130). -/
def SurveyState.code : SurveyState → Nat
  | .idle => 0 | .running => 1 | .complete => 2 | .aborted => 3

/-- NTRIP status (R126). -/
def NtripState.code : NtripState → Nat
  | .off => 0 | .connecting => 1 | .streaming => 2 | .backoff => 3 | .refused => 4

/-- Verdict code (R141). -/
def Verdict.code : Verdict → Nat
  | .pass => 0 | .passExcl => 1 | .withheldTeasel => 2 | .withheldOther => 3 | .stale => 4 | .unverified => 5

/-- State of a base (R328). -/
def BaseState.code : BaseState → Nat
  | .free => 0 | .locked => 1 | .holdover => 2 | .refused => 3 | .catchup => 4

/-- Status of a node (R317). -/
def NodeStatus.code : NodeStatus → Nat
  | .inStep => 0 | .oneMiss => 1 | .calling => 2 | .recovery => 3 | .unreachable => 4

/-- Fleet world, OD 0x2030:02 (R470). -/
def FleetWorld.code : FleetWorld → Nat
  | .running => 0 | .noCore => 1 | .absent => 2 | .stopped => 3 | .refused => 4

/-- Download state, OD 0x2060:02 (R592). -/
def Download.code : Download → Nat
  | .none => 0 | .receiving => 1 | .verifying => 2 | .stored => 3 | .refused => 4

/-- A value held at the ends of a signed 32-bit range. -/
def sat32 (v : Int) : Int := max (-2147483648) (min 2147483647 v)

/-! ### Numbers by chapter -/

/-- Objects 0x1000 to 0x1FFF (R513, R525). -/
def State.readComm (s : State) (slot : Fin 11) (copy : Fin 2) (idx sub : Nat) : Int :=
  let can := s.dict.can[copy]
  match idx with
  | 0x1001 => can.errReg
  | 0x1018 =>
    match sub with
    | 1 => 0x0A53
    | 2 => 0x7216
    | 3 => 0x00B0 * 65536 + versionHigh s.mainInfo.version
    | _ => Config.serialNumeric.toNat
  | 0x1200 => if sub = 1 then 0x600 + can.nodeId.toNat else 0x580 + can.nodeId.toNat
  | 0x1FF0 => s.dict.sess[slot].copy.toNat
  | 0x1FF1 => if sub = 7 then Nmt.code s.dict.can[0].nmt else s.dict.can[0].discarded.toNat
  | 0x1FF2 => if sub = 7 then Nmt.code s.dict.can[1].nmt else s.dict.can[1].discarded.toNat
  | _ => 0

/-- Objects 0x2000 to 0x202F (R25, R525, R604, R635). -/
def State.readUnit (s : State) (slot : Fin 11) (idx sub : Nat) : Int :=
  let x := s.dict.sess[slot]
  match idx with
  | 0x2000 =>
    match sub with
    | 1 => 0x4E5A7216
    | 3 => 0xB0
    | 5 => s.mainInfo.version.toNat
    | 6 => s.upd.run.val
    | 7 => s.upd.area[0].running.toNat
    | 8 => s.upd.area[1].running.toNat
    | 9 => s.upd.area[2].running.toNat
    | 0xA => Config.bootRomVersion.toNat
    | 0xB => s.evr.opsec.toNat / 3600
    | _ => s.evr.pcyc.toNat
  | 0x2010 =>
    match sub with
    | 1 => devCode s.dev.dstate
    | 2 => s.dev.cause.toNat
    | _ => s.dev.cycle.toNat
  | 0x2012 =>
    match sub with
    | 1 => s.start.fail.toNat
    | 2 => StartCause.code s.start.cause
    | 3 => s.start.startT.toNat
    | 4 => s.start.firstPermit.toNat
    | _ => s.start.units.toNat
  | 0x2014 =>
    match sub with
    | 1 => s.pwr.vinMv.toNat
    | 2 => s.pwr.vbatMv.toNat
    | 3 => s.pwr.vstopMv.toNat
    | 5 => (s.pmuRead 0).toNat % 64
    | 6 => s.pwr.pfUp.toNat
    | 7 => s.pwr.pdStat.toNat
    | _ => s.sec.tmp.temp.toInt
  | 0x2015 =>
    match sub with
    | 2 => bit (RefState.refin s.pwr.ref)
    | 3 => (s.clkRead 4).toNat % 64
    | 4 => s.pwr.refOfs.toInt
    | _ => s.pwr.lossUp.toNat
  | _ =>
    match sub with
    | 1 => Role.rank x.role
    | 2 => x.status.toNat
    | 3 => x.detail.toNat
    | 5 => ((s.dict.sess.toList.drop 3).filter fun y => y.opened).length
    | 6 => s.dict.failedLogins.toNat
    | _ => s.dict.discarded.toNat

/-- State of the trial, OD 0x2060:09 (R592). -/
def State.trialCode (s : State) : Nat := if s.anyTrial then 1 else if s.upd.rolledBack then 2 else 0

/-- Objects 0x2030 to 0x208F (R470, R497, R576, R592, R528, R556). -/
def State.readSystem (s : State) (idx sub : Nat) : Int :=
  let d := s.dict
  match idx with
  | 0x2030 =>
    match sub with
    | 2 => FleetWorld.code s.cores.world
    | 7 => s.cores.nMon.toNat
    | 8 => s.cores.nViol.toNat
    | 9 => s.cores.nOvf.toNat
    | _ => s.cores.entries.toNat
  | 0x2040 =>
    match sub with
    | 1 => s.mem.nCorr.toNat
    | 2 => s.mem.nUncorr.toNat
    | 3 => s.mem.nRetry.toNat
    | 4 => (s.mem.bank.toList.map fun b => b.repCol.toNat).sum
    | 5 => (fields ((List.finRange 16).map fun i => (2 * i.val, BankPower.code s.mem.bank[i].st))).toNat
    | _ => s.ques.nFull.toNat
  | 0x2050 =>
    match sub with
    | 1 => s.evr.oldest.toNat
    | 2 => s.evr.nextNum.toNat
    | 5 => (fields [(0, bit s.evr.degr), (1, bit s.evr.flush.isSome), (2, bit (s.evr.lostUp ≠ 0)), (3, bit s.evr.pfail)]).toNat
    | 6 => s.evr.fill * 100 / 16384
    | 7 => s.evr.lostUp.toNat
    | _ => s.evr.flushes.toNat
  | 0x2060 =>
    match sub with
    | 2 => Download.code s.upd.dl
    | 3 => s.upd.refusal
    | 4 => s.upd.readyVer.toNat
    | 9 => s.trialCode
    | 0xA => s.winLeft
    | 0xB => s.upd.svFuse
    | 0xD => s.upd.pauseMs.toNat
    | _ => Config.usbIds.toNat
  | 0x2070 =>
    let h := d.half[d.halfUsed]
    match sub with
    | 1 => s.mainInfo.word16.toNat
    | 2 => d.halfUsed.val
    | 3 => (d.half[1 - d.halfUsed]).fmt.toNat
    | 4 => h.bank[h.active].used * 100 / bankOctets
    | _ => d.compactions.toNat
  | _ =>
    match sub with
    | 1 => s.sec.lifeCycle.code
    | 3 => s.sec.returns
    | _ => bit s.sec.testRoot

/-- Signals of an antenna that are tracked with LOCK (R90). -/
def State.locks (s : State) (mon : Bool) : Nat :=
  (s.gbb.chans.filter fun p => p.2.en && p.2.started && p.2.lock && (336 ≤ p.1) = mon).length

/-- Objects 0x3000 to 0x3FFF (R90, R126, R151). -/
def State.readGnss (s : State) (idx sub : Nat) : Int :=
  let k := s.corr
  let t := s.tsl
  match idx with
  | 0x3000 =>
    if sub = 1 then s.posSource
    else bit s.posInForce + 2 * bit k.mismatch + 4 * bit (k.ntrip = .streaming) + 8 * bit (s.od 0x3021 1 3 ≠ 0)
  | 0x3010 =>
    match sub with
    | 3 => SurveyState.code k.survey.st
    | 4 => k.survey.count
    | 5 => k.survey.rx
    | 6 => k.survey.ry
    | 7 => k.survey.rz
    | _ => k.survey.sd
  | 0x3030 => if sub = 8 then NtripState.code k.ntrip else k.tcp.length
  | 0x3040 =>
    match sub with
    | 1 => k.released.toNat
    | 2 => k.withheld.toNat
    | 3 => k.nLate.toNat
    | 4 => k.latency.toNat
    | 5 => k.latencyMax.toNat
    | 6 => k.omitted.toNat
    | 7 => k.tcpSlow.toNat
    | 8 => k.nNoPos.toNat
    | 9 => k.nPos.toNat
    | _ => k.nTeasel.toNat
  | 0x3100 =>
    match sub with
    | 6 => (s.grfRead 0x14).toNat
    | 7 => s.locks false
    | 8 => s.locks true
    | 9 => k.ttff.toNat
    | 0xA => s.gbb.skipTotal.toNat
    | _ => s.gbb.drop.toNat
  | 0x3800 =>
    match sub with
    | 2 => bit t.lost + 2 * bit (!t.fixDone) + 4 * bit (!s.verified) + 8 * bit (!t.baseSet)
    | 3 => (t.verdict.map Verdict.code).getD 0
    | 4 => min t.exclLast 255
    | 5 => t.hDiff
    | 6 => sat32 t.uDiff
    | 7 => min t.heldLast 255
    | 8 => t.timeUs.toNat
    | 9 => t.entries.toNat
    | 0xA => t.relExcl.toNat
    | _ => t.stales.toNat
  | _ =>
    match sub with
    | 3 => SurveyState.code t.survey.st
    | 4 => t.survey.count
    | 5 => t.survey.rx
    | 6 => t.survey.ry
    | 7 => t.survey.rz
    | _ => t.survey.sd

/-- Status of a base, OD 0x401n:02 (R352). -/
def State.baseFlags (s : State) (n : Fin 5) : Nat :=
  let b := s.tb n
  bit b.service + 2 * bit (b.st = .holdover) + 4 * bit (s.timeValid n) + 8 * bit b.jump + 16 * bit b.present

/-- Objects 0x4000 to 0x4FFF (R352). -/
def State.readTime (s : State) (idx sub : Nat) : Int :=
  let t := s.tim
  if h : 0x4010 ≤ idx ∧ idx < 0x4015 then
    let n : Fin 5 := ⟨idx - 0x4010, by omega⟩
    match sub with
    | 1 => BaseState.code (s.tb n).st
    | 2 => s.baseFlags n
    | 3 => min ((s.te n).getD 0xFFFFFFFF) 0xFFFFFFFF
    | 4 => sat32 (s.tb n).delta
    | _ => (s.tb n).refusals.toNat
  else if h : 0x4200 ≤ idx ∧ idx < 0x4230 then
    have : (idx - 0x4200) / 0x10 < 3 := by omega
    let p := t.ptp[(idx - 0x4200) / 0x10]
    match sub with
    | 0xE => p.port.toNat
    | 0xF => sat32 p.offset
    | 0x10 => min p.mpd 0xFFFFFFFF
    | 0x11 => ((p.foreign.head?).map fun f => f.1.toNat).getD 0
    | _ => p.dropped.toNat
  else match idx with
    | 0x4000 =>
      match sub with
      | 2 => t.leapPend.toNat
      | 3 => t.leapAt
      | _ => (s.timRead 0).toNat % 4
    | 0x4020 => if sub = 1 then sat32 t.theta else bit t.aligned
    | _ => t.evtDropped.toNat

/-- Objects 0x5000 to 0x5FFF (R284, R316). -/
def State.readRadio (s : State) (idx sub : Nat) : Int :=
  let f := s.frames
  match idx with
  | 0x5032 => if h : 1 ≤ sub ∧ sub ≤ 6 then s.dutyUs ⟨sub - 1, by omega⟩ / 100000 else 0
  | 0x5040 =>
    match sub with
    | 1 => s.fra.regs.cntTx.toNat
    | 2 => s.frb.regs.cntTx.toNat
    | 3 => s.fra.regs.cntBusy.toNat
    | 4 => s.frb.regs.cntBusy.toNat
    | 5 => s.fra.nPermitUnsent.toNat
    | 6 => s.fra.nLimit.toNat
    | 7 => s.frb.nFragLost.toNat
    | 8 => s.fra.nRestart.toNat
    | _ => s.frb.regs.cntRxErr.toNat
  | 0x5100 => if sub = 2 then Config.radioAddress.toNat else f.group.next.toNat
  | 0x5110 =>
    match sub with
    | 1 => f.nReplay.toNat
    | 2 => f.nMic.toNat
    | 3 => f.nIncomplete.toNat
    | 4 => f.nDuplicate.toNat
    | _ => f.nMissed.toNat
  | _ =>
    let x := s.node (idx - 0x5400 + 1)
    match sub with
    | 2 => x.phase
    | 4 => x.wake.toNat
    | 5 => NodeStatus.code x.st + 8 * bit x.drift
    | 6 => min x.miss 255
    | 7 => x.nclk
    | 8 => max (-32768) (min 32767 x.driftEst)
    | _ => x.lastSync

/-- Objects 0x6000 to 0x60FF (R195). -/
def State.readMap (s : State) (idx sub : Nat) : Int :=
  let c := s.cre
  let k := c.counts
  match idx with
  | 0x6000 =>
    match sub with
    | 2 => ((c.map.map fun m => m.id.toNat).getD 0 : Nat)
    | 3 => s.cellCount
    | 4 => if c.store.validating.isSome then 3 else if c.map.isNone then 0 else if c.store.inStore then 1 else 2
    | _ => c.store.result.toNat
  | _ =>
    match sub with
    | 1 => k.committed.toNat
    | 2 => k.conflict.toNat
    | 3 => k.envelope.toNat
    | 4 => k.gate.toNat
    | 5 => k.full.toNat
    | 6 => k.denied.toNat
    | 7 => k.busy.toNat
    | 8 => c.resv.length
    | 9 => c.corrs.length
    | 0xA => k.maxInflight.toNat
    | 0xB => (c.resv.filter fun p => p.2.overdue).length
    | 0xC => (c.members.filter fun p => p.2.frozen).length
    | 0xD => k.invalidations.toNat
    | _ => k.discarded.toNat

/-- Objects 0x6100 to 0x65FF that are numbers (R216). -/
def State.readFleet (s : State) (idx sub : Nat) : Int :=
  let f := s.fleet
  if 0x6200 ≤ idx && idx < 0x6300 then
    let m := idx - 0x6200 + 1
    let x := s.member m
    match sub with
    | 1 => MemberState.code x.st
    | 2 => x.cls.toNat
    | 3 => x.role.toNat
    | 4 => x.cell
    | 5 => x.lastHeard.toNat
    | 6 => x.miss
    | 7 => (s.tasksOf m).length
    | 8 => x.battery.toNat
    | _ => x.stopCause.toNat
  else match idx with
    | 0x6100 =>
      match sub with
      | 1 => (f.members.filter fun p => p.2.enrolled).length
      | 2 => f.roleEpoch.toNat
      | 3 => (f.members.filter fun p => p.2.st = .silent).length
      | 4 => f.joinIgnored.toNat
      | _ => f.itemsIgnored.toNat
    | 0x6400 =>
      match sub with
      | 4 => f.callResult.toNat
      | 5 => (f.tasks.filter fun p => p.2.st = .opened).length
      | _ => f.staleAnswers.toNat
    | _ =>
      match sub with
      | 5 => (f.tfcs.filter fun p => p.2.st = .pending || p.2.st = .acked).length
      | _ => f.tfcFailed.toNat

/-- Objects 0x7000 to 0x77FF (R254). -/
def State.readSafety (s : State) (idx sub : Nat) : Int :=
  let k := s.saf
  match idx with
  | 0x7000 =>
    match sub with
    | 1 => (s.safRead 0).toNat % 16384
    | 2 => (s.safRead 4).toNat
    | 3 => Sf1State.code k.sf1
    | 4 => k.cfgCrc.toNat
    | _ => (s.safRead 0x50).toNat % 512
  | _ =>
    match sub with
    | 1 => k.nBursts.toNat
    | 2 => k.nNotSent.toNat
    | 3 => k.nWithheld.toNat
    | 4 => k.nDisag.toNat
    | 5 => k.nExcl.toNat
    | 6 => k.nEstopFlt.toNat
    | _ => k.nShortLow.toNat

/-- Objects of an axis at 0x780n and 0x781n that a register holds (R426). -/
def State.readAxis (s : State) (n : Fin 8) (idx sub : Nat) : Int :=
  let a := s.axis n
  if idx < 0x7810 then a.cfg.svc.toNat
  else match sub with
    | 1 => bit a.ctl.enable
    | 3 => a.cfg.gnum.toInt
    | 4 => a.cfg.gden.toNat
    | 5 => a.cfg.gcomp.toInt
    | 6 => a.status.toNat
    | 7 => a.mo.pos
    | 8 => sat32 a.ferr
    | 9 => a.cause.toNat
    | _ => s.holds n

/-- Objects 0x7800 to 0x7FFF that a register holds (R426, R445). -/
def State.readMotion (s : State) (idx sub : Nat) : Int :=
  if h : 0x7800 ≤ idx ∧ idx < 0x7820 then s.readAxis ⟨idx % 8, by omega⟩ idx sub
  else if h : 0x7890 ≤ idx ∧ idx < 0x7898 then
    have : idx - 0x7890 < 8 := by omega
    let l := s.mot.loop[idx - 0x7890]
    match sub with
    | 0x14 => l.out
    | 0x15 => l.ovrTotal.toNat
    | _ => l.stat
  else match idx with
    | 0x7820 => if sub = 1 then s.mot.menc else s.mot.mencErr.toNat
    | 0x7880 => if sub = 2 then bit s.blk.cle.enable else s.budget
    | 0x78A0 => if sub = 7 then (s.cleRead 0x38).toNat else (s.cleRead (0x20 + 4 * (sub - 1))).toNat
    | _ =>
      match sub with
      | 1 => (s.cleRead 0x40).toNat
      | 0xA => (s.cleRead 0x64).toNat
      | 0xB => (s.cleRead 0x68).toInt
      | 0xD => (s.cleRead 0x70).toNat
      | _ => (s.cleRead (0x44 + 4 * (sub - 2))).toNat

/-- Objects 0x8000 (R391). -/
def State.readPair (s : State) (sub : Nat) : Int :=
  let p := s.pair
  match sub with
  | 3 => bit p.pos
  | 4 => bit p.link + 2 * bit p.hbOk + 4 * bit s.dev.eligible + 8 * bit p.partner.eligible + 16 * bit p.aligned +
      32 * bit (s.pairCrc = p.partner.cfgCrc) + 64 * bit p.fmt + 128 * bit p.conflict
  | 5 => p.partner.unit.toNat
  | 6 => devCode p.partner.dstate
  | 7 => (p.takeover.getD 0).toNat
  | 8 => p.nTakeover.toNat
  | 9 => p.nSnap.toNat
  | 0xA => p.nGap.toNat
  | 0xB => p.nMismatch.toNat
  | 0xC => p.tkTime.toNat
  | 0xD => s.pairCrc.toNat
  | 0xE => p.nStale.toNat
  | 0xF => p.nRebuilt.toNat
  | _ => p.nUnknown.toNat

/-- Objects 0x9000 to 0x9FFF that are numbers (R556, R664). -/
def State.readSecure (s : State) (idx sub : Nat) : Int :=
  let k := s.sec
  match idx with
  | 0x9010 =>
    match sub with
    | 1 => k.siteGen.toNat + k.groupGen.toNat * 2 ^ 32
    | 6 => k.refused.toNat
    | _ => k.blobFails.toNat
  | 0x9040 => if sub = 8 then (s.tmpRead 0).toNat % 131072 else k.tamperEvents.toNat
  | _ => if sub = 2 then (fields s.dbgStat).toNat else s.armLeft

/-- The number that an object computed by the unit reads as. -/
def State.odNumber (s : State) (slot : Fin 11) (copy : Fin 2) (idx sub : Nat) : Int :=
  if idx < 0x2000 then s.readComm slot copy idx sub
  else if idx < 0x2030 then s.readUnit slot idx sub
  else if idx < 0x3000 then s.readSystem idx sub
  else if idx < 0x4000 then s.readGnss idx sub
  else if idx < 0x5000 then s.readTime idx sub
  else if idx < 0x6000 then s.readRadio idx sub
  else if idx < 0x6100 then s.readMap idx sub
  else if idx < 0x7000 then s.readFleet idx sub
  else if idx < 0x7800 then s.readSafety idx sub
  else if idx < 0x8000 then s.readMotion idx sub
  else if idx < 0x9000 then s.readPair sub
  else if idx < 0xA000 then s.readSecure idx sub
  else Config.factoryCal (odKey idx sub)

/-! ### Octets -/

/-- Objects whose octets the unit holds as octets. -/
def State.odString (s : State) (idx sub : Nat) : Option (List Byte) :=
  let zero := fun (n : Nat) => List.replicate n (0 : Byte)
  match idx, sub with
  | 0x1008, 0 => some (ascii "Oanik NZ7216")
  | 0x2000, 2 => some (ascii "NZ7216-BG900")
  | 0x2000, 4 => some serialOctets
  | 0x2050, 0xA => some Config.typeCatalogue
  | 0x6400, 2 => some ((s.task (s.od 0x6400 1 0)).bytes (s.od 0x6400 1 0))
  | 0x6500, 4 => some (s.tfc (s.od 0x6500 3 0)).bytes
  | 0x9010, 4 =>
    some (match s.sec.choose 1 with
      | some k => if k.2.attr.getLsbD 16 then s.sec.norBlob 1 k.1.loc else zero 80
      | none => zero 80)
  | 0x9030, 1 => some (s.sec.ownCert.getD (zero 176))
  | 0x9030, 2 => some (s.sec.siteAuth.getD (zero 65))
  | 0x9030, 3 => some (s.sec.certs[0].getD (zero 176))
  | 0x9030, 4 => some (s.sec.certs[1].getD (zero 176))
  | 0x9030, 5 => some (s.sec.certs[2].getD (zero 176))
  | 0x9030, 6 => some (s.sec.certs[3].getD (zero 176))
  | 0x9030, 7 => some (Config.p256Public s.sec.identity)
  | _, _ => none

/-- A rw object whose value is not in the settings but in the unit's own state. -/
def Obj.own (o : Obj) (idx sub : Nat) : Bool :=
  o.acc = .ro || (0x7800 ≤ idx && idx < 0x7900 && !o.keep) || idx = 0x1FF0 || (0x6200 ≤ idx && idx < 0x6300) ||
    (0x5400 ≤ idx && idx < 0x5800 && (sub = 2 || sub = 4)) || (idx = 0x2060 && sub = 2)

/-- Value of an object other than those that a read changes (R500 to R504). -/
def State.odValue (s : State) (slot : Fin 11) (copy : Fin 2) (o : Obj) (idx sub : Nat) : List Byte :=
  match s.odString idx sub with
  | some l => l
  | none =>
    if sub = 0 && (objAt idx 0).isNone then leBytes 1 (highestSub idx)
    else if idx = 0x2050 && sub = 3 then leBytes 4 (s.evr.cursorAt s.dict.sess[slot].cursor).toNat
    else if o.own idx sub then o.ty.put (s.odNumber slot copy idx sub)
    else s.stored copy o idx sub

end Sys2Proof.Machine
end

