-- ==== Sys2Proof/Machine/TaskCalls.lean ====
section
/-!
DEFINITION. Task calls, TFC submission and the instants of tasks and TFCs, and Sutrisar's default allotment policy
(spec/06_robots_tasks.md, R206 to R215).
-/
namespace Sys2Proof.Machine

/-- The result of a call: two words on the Fleet result queue, or the reply of the dictionary (R210, R216). `epoch` is the
task's epoch after the call. -/
def State.callResult (s : State) (c : CallIn) (call id : Nat) (epoch : BitVec 32) (st : Status) : State :=
  match c.from' with
  | .fleet =>
    let w0 := BitVec.ofNat 64 (st.code.toNat + call * 2 ^ 8 + id % 65536 * 2 ^ 16 + c.tag.toNat * 2 ^ 48)
    (s.enginePush (s.fleetQueue 8) [w0, epoch.setWidth 64]).getD s
  | .dict _ => ({ s with fleet := { s.fleet with callResult := epoch } }).answer st

/-- The caller may call: over the dictionary with Operator role, and not on a standby (R13, R216, R387). -/
def State.callAllowed (s : State) (c : CallIn) : Bool :=
  !s.standby && (match c.from' with
    | .fleet => true
    | .dict r => Role.operator.rank ≤ r.rank)

/-- A call on one task: the check's status, and the effect when it is OK (R210). -/
def State.taskCall (s : State) (c : CallIn) (call : Nat) (check : Status) (f : State → State) : State :=
  let id := c.task.toNat
  let st := if s.callAllowed c then check else .denied
  let s1 := if st = .ok then f s else s
  s1.callResult c call id (s1.task id).epoch st

/-- The octets a call's argument points to in the scratchpad (R210, R451). -/
def State.argOctets (s : State) (a : BitVec 32) (n : Nat) : List Byte :=
  if 0x08000000 ≤ a.toNat && a.toNat + n ≤ 0x08400000 then s.mem.read a.toNat n else []

/-- Binds the TFCs that a new task's steps name (R208, R213). -/
def State.bindTfcs (s : State) (id : Nat) (t : Task) : State :=
  t.used.foldl (fun s p =>
    if p.1.tfc then s.setTfc p.1.tfcIdx { s.tfc p.1.tfcIdx with owner := some (id, p.2) } else s) s

/-- CREATE (R208, R209): the lowest *Free* entry is taken. -/
def execCreate (c : CallIn) (s : State) : Result :=
  let l := s.argOctets c.arg 128
  let id := lowestFree s.fleet.tasks 0 65536
  let st : Status :=
    if !s.callAllowed c || s.createDenied l then .denied
    else if 65536 ≤ s.fleet.tasks.length then .full
    else .ok
  if st = .ok then
    let t := taskOf l s.fleetMs
    .next ((((s.setTask id t).bindTfcs id t).taskTold id).callResult c 1 id 0 .ok)
  else .next (s.callResult c 1 c.task.toNat (s.task c.task.toNat).epoch st)

/-- The member may take the task (R209, R210). -/
def State.fits (s : State) (t : Task) (m : Nat) : Bool :=
  let x := s.member m
  s.memberOk m && (x.st = .idle || x.st = .working || x.st = .charging) && t.roles.getLsbD x.role.toNat &&
    t.classes.getLsbD x.cls.toNat

/-- What an ALLOT is answered (R209, R210, R211). -/
def State.allotCheck (s : State) (id m : Nat) (epoch : BitVec 32) : Status :=
  let t := s.task id
  match epochCheck t.epoch epoch with
  | .ok =>
    if t.st ≠ .opened || !s.fits t m then .denied
    else if s.shutByPred id then .busy
    else if 4 ≤ (s.tasksOf m).length then .full
    else .ok
  | st => st

/-- A call that names a stale epoch is recorded and counted (R211). -/
def State.callStale (s : State) (c : CallIn) (st : Status) : State :=
  if st = .staleEpoch && s.callAllowed c then s.staleTold c.task.toNat c.member.toNat (s.task c.task.toNat).epoch c.epoch
  else s

/-- ALLOT (R209, R210). -/
def execAllot (c : CallIn) (s : State) : Result :=
  let st := s.allotCheck c.task.toNat c.member.toNat c.epoch
  .next ((s.callStale c st).taskCall c 2 st fun s => s.taskAllot c.task.toNat c.member.toNat)

/-- What a call on a task in certain states is answered (R210, R211). -/
def State.taskCheck (s : State) (c : CallIn) (may : TaskState → Bool) : Status :=
  let t := s.task c.task.toNat
  match epochCheck t.epoch c.epoch with
  | .ok => if may t.st then .ok else .denied
  | st => st

/-- A task is held by a member. -/
def TaskState.holding : TaskState → Bool
  | .allotted => true | .active => true | _ => false

/-- A task has ended. -/
def TaskState.finished : TaskState → Bool
  | .done => true | .failed => true | .cancelled => true | _ => false

/-- WITHDRAW (R209, R210). -/
def execWithdraw (c : CallIn) (s : State) : Result :=
  let st := s.taskCheck c TaskState.holding
  .next ((s.callStale c st).taskCall c 3 st fun s => s.taskWithdraw c.task.toNat)

/-- CANCEL (R209, R210, R214). -/
def execCancel (c : CallIn) (s : State) : Result :=
  let st := s.taskCheck c fun k => k = .opened || k.holding
  .next ((s.callStale c st).taskCall c 4 st fun s => s.taskCancel c.task.toNat)

/-- DELETE (R209, R210, R214). -/
def execDelete (c : CallIn) (s : State) : Result :=
  let st := s.taskCheck c TaskState.finished
  .next ((s.callStale c st).taskCall c 5 st fun s => s.taskDelete c.task.toNat)

/-- SET_PRIO (R210). -/
def execSetPrio (c : CallIn) (s : State) : Result :=
  let st := s.taskCheck c fun k => k ≠ .free
  .next ((s.callStale c st).taskCall c 6 st fun s =>
    s.setTask c.task.toNat { s.task c.task.toNat with prio := c.arg.setWidth 3 })

/-- SET_ROLE: task ID and epoch are ignored (R206, R210). -/
def execSetRole (c : CallIn) (s : State) : Result :=
  .next (s.taskCall c 7 (s.roleCheck c.member.toNat (c.arg.toNat % 32)) fun s =>
    s.roleAsk c.member.toNat (c.arg.toNat % 32))

/-- TFC_SUBMIT: the record comes with the dictionary's write, or from the scratchpad (R210, R213, R216). -/
def execTfcSubmit (c : CallIn) (rec : Option (List Byte)) (s : State) : Result :=
  let l := rec.getD (s.argOctets c.arg 48)
  let i := lowestFree s.fleet.tfcs 0 4096
  let st := if s.callAllowed c then s.tfcCheck l else .denied
  if st = .ok then .next ((s.setTfc i (s.tfcOf l)).callResult c 8 i 0 .ok)
  else .next (s.callResult c 8 c.task.toNat 0 st)

/-! ### Instants of tasks and TFCs (R209, R214) -/

/-- TASK_DEADLINE (R209). -/
def execTaskDeadline (id : Nat) (s : State) : Result :=
  let t := s.task id
  if s.standby then .next s
  else if t.st = .opened || t.st = .allotted then
    let s1 := s.reachTb4 (s.fullMs t.deadline * 1000000)
    .next (s1.taskLeaves id t { t with st := .failed, epoch := t.epoch + 1, result := 3 })
  else if t.st = .active && !t.deadlineTold then
    let s1 := s.reachTb4 (s.fullMs t.deadline * 1000000)
    .next ((s1.setTask id { t with deadlineTold := true }).policyEvent 5 id t.member t.epoch)
  else .next s

/-- TFC_ACK_DEADLINE (R214). -/
def execTfcAckDeadline (i : Nat) (s : State) : Result :=
  let t := s.tfc i
  if s.standby || t.st ≠ .pending then .next s
  else .next ((s.reachTb4 ((t.exec - 100) * 1000000)).tfcFail i)

/-- TFC_EXECUTE_TIME (R214). -/
def execTfcExecuteTime (i : Nat) (s : State) : Result :=
  let t := s.tfc i
  if s.standby then .next s
  else if (t.st = .acked && t.revCode = 0) || t.st = .cancelling then
    .next ((s.reachTb4 (t.exec * 1000000)).tfcEnds i .ended)
  else .next s

/-- TFC_REVERT_TIME (R214). -/
def execTfcRevertTime (i : Nat) (s : State) : Result :=
  let t := s.tfc i
  if s.standby || t.st ≠ .acked || t.revCode = 0 then .next s
  else .next ((s.reachTb4 (t.revert * 1000000)).tfcEnds i .ended)

/-- TFC_FREE_TIMEOUT (R214). -/
def execTfcFreeTimeout (i : Nat) (s : State) : Result :=
  let t := s.tfc i
  if s.standby || !t.st.terminal || t.owner.isSome then .next s
  else .next ((s.reachTb4 ((t.endedAt + 60000) * 1000000)).setTfc i {})

/-! ### The default policy (R212) -/

/-- Travel time of a cell, ms (R154, R212); none where its VMAX is 0. -/
def MapCell.ms (k : MapCell) : Option Nat := if k.vmax = 0 then none else some (k.len * 1000 / k.vmax)

/-- A cost found for a cell, if it is less than the one known. -/
def better (t : List (Nat × Nat)) (i v : Nat) : List (Nat × Nat) :=
  match tabGet t i with
  | some w => if v < w then tabPut t i v else t
  | none => tabPut t i v

/-- One round over the neighbours of every cell reached. -/
def TrackMap.relax (k : TrackMap) (t : List (Nat × Nat)) : List (Nat × Nat) :=
  t.foldl (fun acc p =>
    match k.cells[p.1]? with
    | some x => x.nbs.foldl (fun acc n => match (k.cells[n]?).bind MapCell.ms with
        | some d => better acc n (p.2 + d)
        | none => acc) acc
    | none => acc) t

/-- Costs of the cheapest paths of at most `n` cells. -/
def TrackMap.costs (k : TrackMap) (t : List (Nat × Nat)) : Nat → List (Nat × Nat)
  | 0 => t
  | n + 1 =>
    let u := k.relax t
    if u = t then t else k.costs u n

/-- Cost of a task for a member, none where the path is longer than 4,096 cells (R212). -/
def State.allotCost (s : State) (t : Task) (m : Nat) : Option Nat :=
  match s.cre.map with
  | some k =>
    (tabGet (k.costs [((s.member m).cell, 0)] 4096) t.target).map fun d =>
      d + 20000 * (s.tasksOf m).length + if (s.member m).st = .charging then 60000 else 0
  | none => none

/-- The eligible member of least cost; of equal ones the lowest ID (R212). -/
def State.bestMember (s : State) (id : Nat) : Option Nat :=
  let t := s.task id
  let l := (s.fleet.members.map Prod.fst).filterMap fun m =>
    if s.allotCheck id m t.epoch = .ok then (s.allotCost t m).map fun c => (c, m) else none
  (l.foldl (fun (a : Option (Nat × Nat)) p => match a with
    | some b => if p.1 < b.1 then some p else some b
    | none => some p) none).map Prod.snd

/-- One task goes before another: priority, then deadline, then ID (R212). -/
def taskBefore (a b : Nat × Task) : Bool :=
  b.2.prio.toNat < a.2.prio.toNat ||
    (a.2.prio = b.2.prio && (precedes a.2.deadline b.2.deadline || (a.2.deadline = b.2.deadline && a.1 < b.1)))

/-- Inserts a task at its place. -/
def insertTask (x : Nat × Task) : List (Nat × Task) → List (Nat × Task)
  | [] => [x]
  | y :: t => if taskBefore x y then x :: y :: t else y :: insertTask x t

/-- One run of the default policy over the *Open* tasks (R212). -/
def State.defaultPolicy (s : State) : State :=
  ((s.fleet.tasks.filter fun p => p.2.st = .opened).foldl (fun l p => insertTask p l) []).foldl (fun s p =>
    match s.bestMember p.1 with
    | some m => s.taskAllot p.1 m
    | none => s) s

/-- ALLOTMENT_TICK: the period of OD 0x6600:03 has elapsed (R212). -/
def execAllotmentTick (s : State) : Result :=
  if s.standby || s.fleet.tickCount < s.od 0x6600 3 10 then .next s
  else
    let s1 := { s with fleet := { s.fleet with tickCount := 0 } }
    if s.od 0x6600 1 0 = 1 then .next (s1.policyEvent 8 0 0 0) else .next s1.defaultPolicy

/-- RESYNC_EVENT: once the event queue has room (R212). -/
def execResyncEvent (s : State) : Result :=
  if !s.fleet.evOverflow then .next s
  else
    match s.enginePush (s.fleetQueue 16) [9, 0] with
    | some s1 => .next { s1 with fleet := { s1.fleet with evOverflow := false } }
    | none => .next s

/-- SILENT_WITHDRAW_TIMEOUT: the default policy withdraws a long *Silent* member's tasks (R212). -/
def execSilentWithdrawTimeout (m : Nat) (s : State) : Result :=
  match (s.member m).silentSince with
  | some t =>
    let w := s.od 0x6600 2 30
    if s.standby || s.od 0x6600 1 0 = 1 || w = 0 || (s.member m).st ≠ .silent then .next s
    else .next ((s.reachTb4 ((t + 1000 * w) * 1000000)).withdrawAll m)
  | none => .next s

end Sys2Proof.Machine
end

