-- ==== Sys2Proof/Machine/OdWrite.lean ====
section
/-!
DEFINITION. What a write of each object does (spec/16_object_dictionary.md, R502 to R504, R514, R529, R530, and the rules for
writes of every chapter). Where an object stands for a command that is a row of its own, the write runs that command.
-/
namespace Sys2Proof.Machine

/-- A write that has passed the checks of access, role, length and range. -/
structure OdReq where
  /-- session slot -/
  slot : Fin 11
  /-- role -/
  role : Role
  /-- copy of the communication objects -/
  copy : Fin 2
  /-- row -/
  o : Obj
  /-- index -/
  idx : Nat
  /-- sub-index -/
  sub : Nat
  /-- octets written -/
  v : List Byte
  /-- what the write meets outside the unit -/
  x : OdInput

/-- The value as an unsigned number. -/
def OdReq.n (q : OdReq) : Nat := leNat q.v

/-- The value as its type gives it. -/
def OdReq.i (q : OdReq) : Int := q.o.ty.get q.v

/-- Key of the object in the settings. -/
def OdReq.key (q : OdReq) : Nat := copyKey q.copy q.idx q.sub

/-- The state after a command that a write runs. -/
def ran (s : State) (r : Result) : State :=
  match r with
  | .next t => t
  | _ => s

/-- A stored value is committed and comes into force (R504). -/
def State.keep (s : State) (q : OdReq) : State := (s.odStore q.key q.v (defaultOf q.key)).answer .ok

/-- A stored value is committed; it comes into force at the next start-up (R471, R635). -/
def State.keepLater (s : State) (q : OdReq) : State := (s.odStoreLater q.key q.v (defaultOf q.key)).answer .ok

/-- A command object that takes one value only. -/
def OdReq.one (q : OdReq) (s : State) (f : State → State) : State := if q.n = 1 then f s else s.deny .range

/-! ### Communication (R509 to R514, R525, R529) -/

/-- A PDO is disabled: bit 31 of its COB-ID (R514). -/
def State.pdoOff (s : State) (copy : Fin 2) (idx : Nat) : Bool :=
  match odRow idx 1 with
  | some o => bitAt (leNat (s.stored copy o idx 1)) 31
  | none => true

/-- The communication object of a mapping object. -/
def pdoOf (idx : Nat) : Nat := idx - 0x200

/-- Octets of a mapping entry's object, when it may be mapped: by a TPDO any object of at most 64 bits that Observer may read,
by an RPDO a rw or wo object of Observer or Operator, two apart (R13, R514). -/
def mappable (tx : Bool) (entry : Nat) : Option Nat :=
  let idx := entry / 65536
  let sub := entry / 256 % 256
  match odRow idx sub with
  | some o =>
    match o.ty.octets with
    | some n =>
      let ok := if tx then o.acc ≠ .wo
        else o.acc ≠ .ro && o.role.rank ≤ Role.operator.rank && !(idx = 0x7010 && sub = 1) && !(idx = 0x6100 && sub = 5)
      if ok && n ≤ 8 && entry % 256 = 8 * n then some n else none
    | none => none
  | none => none

/-- Entry of a mapping object. -/
def State.mapEntry (s : State) (copy : Fin 2) (idx sub : Nat) : Nat :=
  match odRow idx sub with
  | some o => leNat (s.stored copy o idx sub)
  | none => 0

/-- Octets of the objects in the first entries of a mapping; none where an entry names no mappable object. -/
def State.mapOctets (s : State) (copy : Fin 2) (idx count : Nat) : Option (List Nat) :=
  (List.range count).mapM fun k => mappable (0x1A00 ≤ idx) (s.mapEntry copy idx (k + 1))

/-- A write of a mapping object, only while the PDO is disabled (R514). -/
def State.writeMapping (s : State) (q : OdReq) : State :=
  let abort := fun (c : BitVec 32) => { s with ans := { status := .denied, detail := c } }
  if !s.pdoOff q.copy (pdoOf q.idx) then s.deny .state
  else if q.sub = 0 then
    if 8 < q.n then abort 0x06020042
    else match s.mapOctets q.copy q.idx q.n with
      | some l => if 64 < l.sum then abort 0x06020042 else s.keep q
      | none => abort 0x06040041
  else if (mappable (0x1A00 ≤ q.idx) q.n).isNone then abort 0x06040041
  else
    let count := s.mapEntry q.copy q.idx 0
    let t := s.keep q
    match t.mapOctets q.copy q.idx count with
    | some l => if 64 < l.sum then abort 0x06020042 else t
    | none => t

/-- Restores the defaults (R529). -/
def State.restoreDefaults (s : State) (v : Nat) : State :=
  if v ≠ 0x64616F6C then s.deny .other else s.inListening fun s => s.defaultsRestore.answer .ok

/-- RESTORE_DEFAULTS (R529): OD 0x1011:01. -/
def execRestoreDefaults (role : Role) (v : Word) (s : State) : Result :=
  .next (s.asRole role .engineer fun s => s.restoreDefaults v.toNat)

/-- Writes of 0x1000 to 0x1FFF. -/
def State.writeComm (s : State) (q : OdReq) : State :=
  if 0x1600 ≤ q.idx && q.idx < 0x1700 || 0x1A00 ≤ q.idx && q.idx < 0x1B00 then s.writeMapping q
  else match q.idx with
    | 0x1010 => if q.n = 0x65766173 then s.answer .ok else s.deny .other
    | 0x1011 => ran s (execRestoreDefaults q.role (BitVec.ofNat 32 q.n) s)
    | 0x1016 =>
      if h : 1 ≤ q.sub ∧ q.sub ≤ 4 then (((s.keep q).setHb q.copy ⟨q.sub - 1, by omega⟩ {}).hbSettle q.copy).answer .ok
      else s.deny .noSub
    | 0x1017 => if q.n = 0 || 10 ≤ q.n then s.keep q else s.deny .range
    | 0x1FF0 => (s.setSess q.slot fun x => { x with copy := BitVec.ofNat 8 q.n }).answer .ok
    | _ =>
      if q.idx = 0x1FF1 || q.idx = 0x1FF2 then
        if q.sub = 1 then s.enableOd q.role (if q.idx = 0x1FF1 then .can0 else .can1) (q.n = 1)
        else if q.sub ≤ 4 then s.inListening fun s => s.keep q
        else s.keep q
      else s.keep q

/-! ### The unit (R30, R37, R471, R525, R548, R574, R576, R583, R593, R635) -/

/-- The state command of OD 0x2010:03 (R37). -/
def State.writeStateCommand (s : State) (q : OdReq) : State :=
  match q.n with
  | 1 => ran s (.next (s.stateCmd q.role false State.cmdRun))
  | 2 => ran s (.next (s.stateCmd q.role false State.cmdListen))
  | 3 => ran s (.next (s.stateCmd q.role false State.cmdDormant))
  | 4 => ran s (.next (s.stateCmd q.role false State.cmdSwap))
  | 5 => ran s (execRestart q.role q.x.start s)
  | _ => s.deny .range

/-- Writes of 0x2000 to 0x202F. -/
def State.writeUnit (s : State) (q : OdReq) : State :=
  match q.idx, q.sub with
  | 0x2010, 3 => s.writeStateCommand q
  | 0x2014, _ => s.inListening fun s => ((s.keep q).pmuFromOd).answer .ok
  | 0x2015, _ => s.inListening fun s => s.keepLater q
  | 0x2020, 4 => s.keep q
  | 0x2020, _ => s.inListening fun s => s.keep q
  | _, _ => s.keep q

/-- Fleet policy held (R471). -/
def State.fleetPolicy (s : State) : Bool := s.od 0x6600 1 0 = 1

/-- Writes of OD 0x2030 (R471). -/
def State.writeCores (s : State) (q : OdReq) : State :=
  s.inListening fun s =>
    if q.sub = 1 then if q.n = 0 && s.fleetPolicy then s.deny .other else s.keepLater q
    else ((s.keep q).jdxFromOd).answer .ok

/-- Writes of the update objects (R583, R584, R590, R593). -/
def State.writeUpdate (s : State) (q : OdReq) : State :=
  match q.sub with
  | 2 => if q.n = 5 then ran s (execDiscardStoredImage q.role s) else s.deny .range
  | 5 =>
    match q.n with
    | 1 => ran s (execActivateMain q.role q.x.start s)
    | 2 => ran s (execActivateGbb q.role s)
    | 3 => ran s (execActivateRadio q.role s)
    | 4 => ran s (execActivateCle q.role s)
    | _ => s.deny .range
  | 6 => ran s (execConfirm q.role q.n s)
  | _ => s.inListening fun s => s.keep q

/-- Writes of 0x2030 to 0x208F. -/
def State.writeSystem (s : State) (q : OdReq) : State :=
  match q.idx, q.sub with
  | 0x2050, 3 => (s.setSess q.slot fun y => { y with cursor := some (BitVec.ofNat 32 q.n) }).answer .ok
  | 0x2050, 8 => q.one s fun s => ran s (execFlush (.od q.role) s)
  | 0x2050, _ => q.one s fun s => ran s (execLogTest q.role q.x.logPasses s)
  | 0x2030, _ => s.writeCores q
  | 0x2060, _ => s.writeUpdate q
  | _, _ => ran s (execLifeCycleCommand q.role q.n q.x.start s)

/-! ### GNSS, corrections and Teasel (R74, R90, R92, R109, R113, R126, R152) -/

/-- Hexadecimal digit. -/
def hexDigit (c : Nat) : Bool := (0x30 ≤ c && c ≤ 0x39) || (0x41 ≤ c && c ≤ 0x46) || (0x61 ≤ c && c ≤ 0x66)

/-- A list cut at a value. -/
def cutAt (sep : Nat) : List Nat → List (List Nat)
  | [] => [[]]
  | c :: t =>
    match cutAt sep t with
    | [] => [[c]]
    | g :: r => if c = sep then [] :: g :: r else (c :: g) :: r

/-- Literal IPv4 address: four decimal numbers up to 255. -/
def ipv4Text (l : List Nat) : Bool :=
  let g := cutAt 0x2E l
  g.length = 4 && g.all fun d =>
    1 ≤ d.length && d.length ≤ 3 && (d.all fun c => 0x30 ≤ c && c ≤ 0x39) && (d.foldl (fun a c => 10 * a + (c - 0x30)) 0) ≤ 255

/-- Literal IPv6 address: eight groups of hexadecimal digits, or fewer with one run of zero groups left out, the last two
of which may be an IPv4 address. -/
def ipv6Text (l : List Nat) : Bool :=
  let g := cutAt 0x3A l
  let last := g.getLastD []
  let v4 := ipv4Text last
  let gs := if v4 then g.dropLast ++ [[0x30], [0x30]] else g
  let empty := gs.filter fun d => d.isEmpty
  let word := gs.all fun d => d.length ≤ 4 && d.all hexDigit
  let mid := (gs.drop 1).dropLast.filter fun d => d.isEmpty
  let edges := bit ((gs.headD []).isEmpty) + bit ((gs.getLastD []).isEmpty)
  if !word then false
  else if empty.isEmpty then gs.length = 8
  else if edges = 0 then mid.length = 1 && gs.length ≤ 8
  else if gs.length = 3 && empty.length = 3 then true
  else edges = 1 && mid.length = 1 && gs.length ≤ 9 &&
    (if (gs.headD []).isEmpty then (gs.getD 1 [0]).isEmpty else (gs.getD (gs.length - 2) [0]).isEmpty)

/-- A literal address (R113). -/
def ipText (v : List Byte) : Bool := let l := v.map BitVec.toNat; ipv4Text l || ipv6Text l

/-- The correction rates of both paths keep to an epoch rate (R74). -/
def ratesFit (epoch eth rad : Nat) : Bool :=
  rateHz eth ≤ gridRate (BitVec.ofNat 3 epoch) && rateHz rad ≤ gridRate (BitVec.ofNat 3 epoch)

/-- The signal set leaves a signal on chain U of ANT_REF (R53, R64, R90). -/
def signalsOk (v : Nat) : Bool := sigTable.zipIdx.any fun p => p.1.chain = 0 && bitAt v p.2

/-- Writes of the path configurations OD 0x3020 and 0x3021 (R74, R108, R109, R126). -/
def State.writePath (s : State) (q : OdReq) : State :=
  let eth := if q.idx = 0x3020 then q.n else s.od 0x3020 1 1
  let rad := if q.idx = 0x3021 then q.n else s.od 0x3021 1 3
  let ok := match q.sub with
    | 1 => ratesFit (s.od 0x3100 4 4) eth rad
    | 7 => q.n = 0 || q.n = 5 || q.n = 6
    | k => if 2 ≤ k && k ≤ 6 then q.n = 0 || q.n = 4 || q.n = 7 else true
  if ok then s.keep q else if q.sub = 1 then s.deny .other else s.deny .range

/-- Writes of the Ethernet services OD 0x3030 (R113, R115, R126). -/
def State.writeService (s : State) (q : OdReq) : State :=
  match q.sub with
  | 2 =>
    let t := s.keep q
    if q.n = 0 then t.setCorr fun c => { c with ntrip := .off }
    else if s.corr.ntrip = .off || s.corr.ntrip = .refused then t.ntripOpen
    else t
  | 3 => if ipText q.v then s.keep q else s.deny .range
  | 9 =>
    let t := s.keep q
    if q.n = 0 then t.setCorr fun c => { c with tcp := [] } else t
  | _ => s.keep q

/-- Writes of the GNSS objects OD 0x3100 (R74, R90). -/
def State.writeFront (s : State) (q : OdReq) : State :=
  if q.sub = 4 && !ratesFit q.n (s.od 0x3020 1 1) (s.od 0x3021 1 3) then s.deny .other
  else if q.sub = 0xD && !signalsOk q.n then s.deny .other
  else ((s.keep q).gnssFromOd).answer .ok

/-- A command object with three values. -/
def OdReq.pick (q : OdReq) (s : State) (a b c : Result) : State :=
  match q.n with
  | 1 => ran s a | 2 => ran s b | 3 => ran s c
  | _ => s.deny .range

/-- Writes of 0x3000 to 0x3FFF. -/
def State.writeGnss (s : State) (q : OdReq) : State :=
  match q.idx, q.sub with
  | 0x3000, 7 => q.one s fun s => ran s (execMismatchAcknowledge q.role s)
  | 0x3000, 8 => s.inListening fun s => s.keep q
  | 0x3010, 2 => q.pick s (execSelfSurveyStart q.role s) (execSelfSurveyAbort q.role s) (execSelfSurveyAdopt q.role s)
  | 0x3020, _ => s.writePath q
  | 0x3021, _ => s.writePath q
  | 0x3030, _ => s.writeService q
  | 0x3100, _ => s.writeFront q
  | 0x3800, _ => ran s (execTeaselModeWrite q.role q.n s)
  | 0x3810, k => if h : 1 ≤ k ∧ k ≤ 3 then ran s (execBaselineWrite q.role ⟨k - 1, by omega⟩ q.i s) else s.deny .noSub
  | 0x3820, _ => s.inListening fun s => s.keep q
  | 0x3830, 2 =>
    q.pick s (execBaselineSurveyStart q.role s) (execBaselineSurveyAbort q.role s) (execBaselineSurveyAdopt q.role s)
  | _, _ => s.keep q

/-! ### Time (R331, R335, R353) -/

/-- Writes of 0x4000 to 0x4FFF. Those in force from the next second boundary wait for it. -/
def State.writeTime (s : State) (q : OdReq) : State :=
  if h : 0x4010 ≤ q.idx ∧ q.idx < 0x4015 then
    if q.sub = 9 then ran s (execStepCommand q.role ⟨q.idx - 0x4010, by omega⟩ q.n s)
    else if q.sub = 7 && q.idx = 0x4014 && q.n = 1 then s.deny .other
    else if q.sub = 6 then ((s.keep q).timFromOd).answer .ok
    else s.keep q
  else if 0x4200 ≤ q.idx && q.sub ≠ 1 && s.od q.idx 1 0 = 1 then s.deny .state
  else if q.idx = 0x4000 then
    if q.sub = 1 then
      s.inListening fun s => let t := s.keep q; { t with tim := { t.tim with leap := q.i } }
    else s.keep q
  else if q.idx = 0x4110 && q.sub ≤ 4 && (4 < bitsOf q.n 6 4 || bitsOf q.n 2 1 = 0 && bitAt q.n 0) then s.deny .range
  else ((s.keep q).timePend).answer .ok

/-! ### Radio and nodes (R264, R284, R317) -/

/-- A wake address that another node, or the unit, has (R317). -/
def State.wakeHeld (s : State) (n : Nat) (v : BitVec 16) : Bool :=
  (n ≠ 0 && s.od 0x5100 3 1 = v.toNat) || s.sec.nodes.any fun x => x.id ≠ n && x.wake = v

/-- A node's wake address is written (R317). -/
def State.writeWake (s : State) (n : Nat) (v : BitVec 16) : State :=
  if !(s.node n).enrolled || s.wakeHeld n v then s.deny .other
  else
    let t := s.setNode n { s.node n with wake := v }
    (t.setSec fun k => { k with nodes := k.nodes.map fun x => if x.id = n then { x with wake := v } else x }).answer .ok

/-- Writes of 0x5000 to 0x5FFF. -/
def State.writeRadio (s : State) (q : OdReq) : State :=
  if q.idx < 0x5100 then ran s (execRadioConfigWrite q.role q.idx q.sub q.i s)
  else if q.idx = 0x5100 then
    s.inListening fun s =>
      if q.sub = 1 && s.sec.knowsUnit (BitVec.ofNat 8 q.n) then s.deny .other
      else if q.sub = 3 && s.wakeHeld 0 (BitVec.ofNat 16 q.n) then s.deny .other
      else s.keep q
  else
    let n := q.idx - 0x5400 + 1
    if q.sub = 4 then s.writeWake n (BitVec.ofNat 16 q.n) else ran s (execNodeScheduleWrite q.role n q.sub q.n s)

/-! ### Traffic (R195, R202, R206, R216, R217, R387, R471) -/

/-- Writes of the class objects (R195). -/
def State.writeClass (s : State) (q : OdReq) : State :=
  s.inListening fun s =>
    let k := if q.idx < 0x6010 then q.sub - 1 else q.idx - 0x6010
    if h : k < 16 then
      let c : Fin 16 := ⟨k, h⟩
      let live := s.cre.corrs.any fun x => (s.cre.member x.holder).cls.toNat = k
      let done := fun (s : State) => ((s.keep q).classesFromOd).answer .ok
      if q.idx = 0x6002 then
        if q.n = 1 then if s.cre.classes[c].tableOk then done s else s.deny .other
        else if live then s.deny .other
        else done s
      else if s.cre.classes[c].en then s.deny .other
      else done s
    else s.deny .noSub

/-- A member's class is written (R217). -/
def State.writeMemberClass (s : State) (m : Nat) (v : BitVec 4) : State :=
  if !s.memberOk m then s.deny .other
  else if 0 < s.cre.ncorr m || (s.member m).st = .joining then s.answer .busy
  else
    let t := s.setMember m { s.member m with cls := v }
    let u := t.setSec fun k => { k with members := k.members.map fun x => if x.id = m then { x with cls := v } else x }
    ({ u with cre := u.cre.setMember m { u.cre.member m with cls := v } } : State).answer .ok

/-- The command of OD 0x6100:05 (R202, R216). -/
def State.writeMemberCommand (s : State) (q : OdReq) : State :=
  let m := q.n % 512
  match bitsOf q.n 23 16 with
  | 1 => ran s (execRetire q.role m s)
  | 2 => ran s (execReinstate q.role m s)
  | 3 => ran s (execReleaseFrozen q.role m s)
  | _ => s.deny .range

/-- The call that the two words of OD 0x6400:03 carry (R210, R216). -/
def OdReq.call (q : OdReq) : CallIn :=
  let at' := fun (a k : Nat) => leNat ((q.v.drop a).take k)
  { from' := .dict q.role, task := BitVec.ofNat 16 (at' 2 2), member := BitVec.ofNat 9 (at' 4 2), tag := BitVec.ofNat 16 (at' 6 2)
    epoch := BitVec.ofNat 32 (at' 8 4), arg := BitVec.ofNat 32 (at' 12 4) }

/-- A task call through the dictionary (R210, R216). TFC_SUBMIT over OD 0x6400:03 takes its record from the scratchpad. -/
def State.writeCall (s : State) (q : OdReq) : State :=
  match leNat (q.v.take 1) with
  | 1 => ran s (execCreate q.call s)
  | 2 => ran s (execAllot q.call s)
  | 3 => ran s (execWithdraw q.call s)
  | 4 => ran s (execCancel q.call s)
  | 5 => ran s (execDelete q.call s)
  | 6 => ran s (execSetPrio q.call s)
  | 7 => ran s (execSetRole q.call s)
  | 8 => ran s (execTfcSubmit q.call none s)
  | _ => s.deny .other

/-- Writes of OD 0x6600 (R217, R471). -/
def State.writePolicy (s : State) (q : OdReq) : State :=
  s.inListening fun s =>
    if q.sub = 1 && q.n = 1 && s.odHeld (odKey 0x2030 1) [7] = [0] then s.deny .other else s.keep q

/-- Writes of 0x6000 to 0x6FFF: none on a standby (R387). -/
def State.writeTraffic (s : State) (q : OdReq) : State :=
  if s.standby then s.deny .state
  else if q.idx < 0x6100 then s.writeClass q
  else if 0x6200 ≤ q.idx && q.idx < 0x6300 then
    let m := q.idx - 0x6200 + 1
    if q.sub = 2 then s.writeMemberClass m (BitVec.ofNat 4 q.n) else ran s (execRoleChangeRequest q.role m q.n s)
  else match q.idx, q.sub with
    | 0x6100, _ => s.writeMemberCommand q
    | 0x6400, 3 => s.writeCall q
    | 0x6500, 2 => ran s (execTfcSubmit { from' := .dict q.role, task := 0, member := 0, tag := 0, epoch := 0, arg := 0 } (some q.v) s)
    | 0x6500, 1 => s.keep q
    | 0x6600, _ => s.writePolicy q
    | _, _ => (s.odSet q.key q.v q.o.default).answer .ok

/-! ### Safety (R148, R244, R245, R254, R387) -/

/-- A safety command (R244). -/
def State.writeSafetyCommand (s : State) (q : OdReq) : State :=
  let z := bitsOf q.n 11 8
  if 4096 ≤ q.n then s.deny .range
  else match q.n % 256 with
    | 1 => ran s (.next (s.safWrite q.role 1 0 q.x.reply))
    | 2 => ran s (.next (s.safWrite q.role 2 0 .denied))
    | 3 => ran s (.next (s.safWrite q.role 3 z q.x.reply))
    | 4 => ran s (.next (s.safWrite q.role 4 z .denied))
    | 5 => ran s (.next (s.safWrite q.role 5 0 .denied))
    | _ => s.deny .range

/-- Writes of the safety configuration (R254): placed in SAF_CFGBUF and committed to the lanes. -/
def State.writeSafetyCfg (s : State) (q : OdReq) : State :=
  s.inListening fun s =>
    let t := s.odSet q.key q.v (defaultOf q.key)
    let c := t.safCfgOd
    if !s.safCfgOk c then s.deny .other
    else ((s.keep q).safCfgPlace c).safCommit q.x.agree |>.answer .ok

/-- Writes of 0x7000 to 0x77FF. -/
def State.writeSafety (s : State) (q : OdReq) : State :=
  if q.idx = 0x7010 then s.writeSafetyCommand q else s.writeSafetyCfg q

/-! ### Axes and loops (R426, R427, R445, R446) -/

/-- Register word that a configuration object changes, at its offset (R424, R426). -/
def axisWord (c : AxisCfg) (sub v : Nat) : Nat × Nat :=
  let sw := fun (deb chn chw : Nat) => deb % 1024 + chn * 65536 + chw * 16777216
  match sub with
  | 5 => (0x14, v) | 6 => (0x18, v) | 7 => (0x1C, v) | 8 => (0x20, v) | 9 => (0x38, v) | 0xA => (0x3C, v) | 0xB => (0x34, v)
  | 0xC => (0x60, sw v c.chn.toNat c.chw.toNat)
  | 0xD => (0x60, sw c.deb.toNat v c.chw.toNat)
  | 0xE => (0x60, sw c.deb.toNat c.chn.toNat v)
  | 0xF => (0x4C, v) | 0x10 => (0x50, v) | 0x11 => (0x54, v) | 0x12 => (0x58, v) | 0x13 => (0x5C, v) | 0x14 => (0x64, v)
  | 0x15 => (0x74, v)
  | _ => (0x70, v)

/-- OUT, PSRC, LMODE and POL of an axis that reads OFF (R426, R427). -/
def AxisCfg.putCtrl (c : AxisCfg) (sub v : Nat) : Option AxisCfg :=
  match sub with
  | 1 => if v ≤ 2 then some { c with out := BitVec.ofNat 2 v } else none
  | 2 => if v ≤ 1 then some { c with psrc := v = 1 } else none
  | 3 => if v ≤ 1 then some { c with lmode := v = 1 } else none
  | _ => if v ≤ 15 then some { c with pol := BitVec.ofNat 4 v } else none

/-- Writes of OD 0x780n (R427). -/
def State.writeAxisCfg (s : State) (n : Fin 8) (q : OdReq) : State :=
  let a := s.axis n
  let put := fun (c : AxisCfg) => (s.keep q).setAxis n { a with cfg := c }
  if q.sub ≤ 4 then
    if a.ctl.st ≠ .off then s.deny .state
    else match a.cfg.putCtrl q.sub q.n with
      | some c => put c
      | none => s.deny .range
  else if 0x15 ≤ q.sub && a.ctl.st ≠ .off then s.deny .state
  else if q.sub < 0x15 && a.locked then s.deny .state
  else
    let w := axisWord a.cfg q.sub q.n
    let fits := if q.sub = 0xC then q.n < 1024 else true
    if fits && axisRange a w.1 w.2 then put (a.cfg.put w.1 (BitVec.ofNat 32 w.2)) else s.deny .range

/-- Writes of OD 0x780n and 0x781n (R426, R427). -/
def State.writeAxis (s : State) (n : Fin 8) (q : OdReq) : State :=
  let a := s.axis n
  let stage := fun (off : Nat) => (s.setAxis n { a with cfg := a.cfg.put off (BitVec.ofNat 32 q.n) }).answer .ok
  if q.idx < 0x7810 then
    if q.sub = 0x17 then ran s (execServiceModeWrite q.role n q.n s) else s.writeAxisCfg n q
  else match q.sub with
    | 1 => ran s (execEnableWrite (.od q.role) (.mot n) (q.n = 1) s)
    | 2 => s.axisCommand q.role n (BitVec.ofNat 8 q.n) (BitVec.ofNat 8 (q.n / 256)) (BitVec.ofNat 32 (q.n / 2 ^ 32))
    | 3 => stage 0x40
    | 4 => stage 0x44
    | _ => stage 0x48

/-- Register offset of a coefficient object (R444, R445). -/
def coeffOff (sub : Nat) : Nat := if sub ≤ 7 then 4 * (sub - 1) else if sub ≤ 0xC then 0x28 + 4 * (sub - 8) else 0x3C + 4 * (sub - 0xD)

/-- Writes of OD 0x789n (R446). -/
def State.writeLoop (s : State) (n : Fin 8) (q : OdReq) : State :=
  let staged := s.mot.loop[n].staged
  let put := fun (c : Coeffs) => (s.keep q).setLoop n fun l => { l with staged := c }
  match q.sub with
  | 1 =>
    let r := s.loopEnable n (q.n = 1)
    if r.2 then r.1.keep q else s.deny (if (s.axis n).ctl.st ≠ .off then .state else .other)
  | 0x13 => q.one s fun s => ran s (execCoefficientCommit q.role n s)
  | 0x12 => put { staged with n1en := bitAt q.n 0, n2en := bitAt q.n 1 }
  | 5 => if 65535 < q.n then s.deny .range else put { staged with kvff := BitVec.ofNat 16 q.n }
  | k =>
    match staged.put (coeffOff k) (BitVec.ofNat 32 q.n) with
    | some c => put c
    | none => s.deny .range

/-- Writes of the injection objects (R441, R442, R446). -/
def State.writeInjection (s : State) (q : OdReq) : State :=
  if q.sub = 6 then
    match q.n with
    | 1 => ran s (execInjStart q.role s)
    | 2 => ran s (execInjStop q.role s)
    | _ => s.deny .range
  else
    let r := s.injWrite (0x20 + 4 * (q.sub - 1)) (BitVec.ofNat 32 q.n)
    if r.2 then r.1.answer .ok else s.deny .range

/-- Writes of the capture objects (R443, R446). -/
def State.writeCapture (s : State) (q : OdReq) : State :=
  let w : Word := BitVec.ofNat 32 q.n
  match q.sub with
  | 1 => (s.capWrite 0x40 w).answer .ok
  | 0xA =>
    if 1 ≤ q.n % 512 && q.n % 512 ≤ 256 && bitsOf q.n 10 9 ≤ 2 then (s.capWrite 0x64 w).answer .ok else s.deny .range
  | 0xB => (s.capWrite 0x68 w).answer .ok
  | 0xC =>
    match q.n with
    | 1 => ran s (execCaptureArm q.role s)
    | 2 => ran s (execCaptureAbort q.role s)
    | _ => s.deny .range
  | k => if bitsOf q.n 7 4 ≤ 11 then (s.capWrite (0x44 + 4 * (k - 2)) w).answer .ok else s.deny .range

/-- Writes of 0x7800 to 0x7FFF. -/
def State.writeMotion (s : State) (q : OdReq) : State :=
  if h : 0x7800 ≤ q.idx ∧ q.idx < 0x7820 then s.writeAxis ⟨q.idx % 8, by omega⟩ q
  else if h : 0x7890 ≤ q.idx ∧ q.idx < 0x7898 then s.writeLoop ⟨q.idx - 0x7890, by omega⟩ q
  else match q.idx, q.sub with
    | 0x7820, _ => ((s.keep q).mencFromOd).answer .ok
    | 0x7880, 2 => ran s (execEnableWrite (.od q.role) .cle (q.n = 1) s)
    | 0x7880, _ =>
      let r := s.periodWrite q.n
      if r.2 then r.1.keep q else s.deny (if s.blk.cle.st ≠ .off then .state else .other)
    | 0x78A0, _ => s.writeInjection q
    | _, _ => s.writeCapture q

/-! ### Pair, security and debug (R392, R506, R557, R664) -/

/-- Writes of OD 0x8000 (R391, R392). -/
def State.writePair (s : State) (q : OdReq) : State :=
  if q.sub = 2 then ran s (execStandbyModeWrite q.role q.n s)
  else s.inListening fun s => ((s.keep q).pairFromOd).answer .ok

/-- Session ID of a slot (R506). -/
def sessionId (slot : Fin 11) : Nat :=
  match slot.val with
  | 0 => 0x10 | 1 => 0x11 | 2 => 0x20
  | k => k - 2

/-- The 60 s of a lock-out are over (R507). -/
def Session.lockOver (x : Session) (now : Nat) : Bool :=
  match x.lockout with
  | some t => t ≤ now
  | none => false

/-- A session gets a challenge, valid for 30 s. One issued after the 60 s of a lock-out ends it (R506, R507). -/
def Session.challenged (x : Session) (c : List Byte) (now : Nat) : Session :=
  if x.lockOver now then { x with challenge := some (c, now + 30000), lockout := none, failures := 0 }
  else { x with challenge := some (c, now + 30000) }

/-- A challenge is issued (R506, R507): 16 random octets. -/
def State.challenge (s : State) (slot : Fin 11) : State :=
  let a := s.takeFree
  let b := a.2.takeFree
  let c := leBytes 8 a.1.toNat ++ leBytes 8 b.1.toNat
  (b.2.setSess slot fun x => x.challenged c s.tb5ms).answerValue c

/-- Role of a code (R506). -/
def roleOf (v : Nat) : Option Role :=
  match v with
  | 1 => some .operator | 2 => some .engineer | 3 => some .vendor
  | _ => none

/-- A response that was checked and does not verify (R507). -/
def State.loginFails (s : State) (slot : Fin 11) (role : Role) : State :=
  let f := s.dict.sess[slot].failures + 1
  let s1 := s.setSess slot fun x => { x with
    challenge := none, failures := f, lockout := if f = 5 then some (s.tb5ms + 60000) else x.lockout }
  ((s1.setDict fun d => { d with failedLogins := bump d.failedLogins }).event .loginFailed [sessionId slot, roleCode role]).deny .other

/-- A response that verifies (R506, R520, R532). -/
def State.loginDone (s : State) (slot : Fin 11) (role : Role) (c : List Byte) : State :=
  let k := derive (s.sec.roleKey role) (ascii "NZ-SESS") (c ++ leBytes 1 (sessionId slot)) 256
  (s.setSess slot fun x => { x with
    role := role, challenge := none, failures := 0, key := if slot.val < 2 then none else some k }).answer .ok

/-- A login response (R506, R507). A challenge serves one response, checked or not. -/
def State.login (s : State) (slot : Fin 11) (v : List Byte) : State :=
  let x := s.dict.sess[slot]
  if v.length ≠ 17 then s.deny .length
  else match roleOf (leNat (v.take 1)), x.challenge with
    | none, _ => s.deny .range
    | some r, some (c, t) =>
      if t < s.tb5ms || x.lockout.isSome || (r = .vendor && s.sec.lifeCycle ≠ .manufacturing) then
        (s.setSess slot fun y => { y with challenge := none }).deny .other
      else
        let good := (Config.hmacSha256 (s.sec.roleKey r) (c ++ leBytes 1 (sessionId slot) ++ v.take 1)).take 16
        if v.drop 1 = good then s.loginDone slot r c else s.loginFails slot r
    | some _, none => s.deny .other

/-- A session returns to Observer (R505, R506). -/
def Session.observer (x : Session) : Session := { x with role := .observer, key := none }

/-- A logout (R506). -/
def State.logout (s : State) (slot : Fin 11) (v : Nat) : State :=
  if v = 1 then (s.setSess slot Session.observer).answer .ok else s.deny .range

/-- Writes of OD 0x9010 to 0x9040 (R549, R553, R557). -/
def State.writeKeys (s : State) (q : OdReq) : State :=
  match q.idx, q.sub with
  | 0x9010, 2 => ran s (execKeyImport q.role q.v s)
  | 0x9010, 3 => q.one s fun s => ran s (execGroupKeyRenewal q.role s)
  | 0x9010, 4 => ran s (execSiteKeyBlobWrite q.role q.v s)
  | 0x9020, 1 => ran s (execEnrolMember q.role q.v s)
  | 0x9020, 2 => ran s (execEnrolNode q.role q.v s)
  | 0x9020, _ => ran s (execRemoveEnrolment q.role (BitVec.ofNat 32 q.n) s)
  | 0x9030, 8 => s.inListening fun s => s.keep q
  | 0x9030, k => ran s (execCertificateWrite q.role k q.v s)
  | 0x9040, 9 => ran s (execTamperClear q.role q.n q.x.active s)
  | 0x9040, _ => s.inListening fun s => ((s.keep q).tmpFromOd).answer .ok
  | _, _ => s.inListening fun s => s.keep q

/-- Writes of 0x9000 to 0x9FFF. -/
def State.writeSecure (s : State) (q : OdReq) : State :=
  match q.idx, q.sub with
  | 0x9000, 2 => s.login q.slot q.v
  | 0x9000, _ => s.logout q.slot q.n
  | 0x9050, _ => ran s (execDebugArm q.role q.n s)
  | _, _ => s.writeKeys q

/-! ### Calibration (R92, R344, R606 to R608) -/

/-- A trim keeps its effective group delay from being negative (R605 to R607). -/
def delayFits (idx sub : Nat) (v : Int) : Bool :=
  idx < 0xA910 || 0x10 < sub || 0 ≤ Config.factoryCal (odKey (idx - 0x900) sub) + v

/-- Writes of 0xA000 to 0xAFFF. -/
def State.writeCal (s : State) (q : OdReq) : State :=
  if q.idx = 0xA800 then ran s (execCalibrationClear q.role (BitVec.ofNat 32 q.n) s)
  else if q.idx = 0xA810 then
    if h : q.sub < 8 then ran s (execStationPositionWrite q.role ⟨q.sub, h⟩ q.v s) else s.deny .noSub
  else if q.idx = 0xA840 then ((s.keep q).timFromOd).answer .ok
  else s.inListening fun s => if delayFits q.idx q.sub q.i then s.keep q else s.deny .range

/-! ### A write as a whole -/

/-- What a write that has passed its checks does. -/
def State.odAct (s : State) (q : OdReq) : State :=
  if q.idx < 0x2000 then s.writeComm q
  else if q.idx < 0x2030 then s.writeUnit q
  else if q.idx < 0x3000 then s.writeSystem q
  else if q.idx < 0x4000 then s.writeGnss q
  else if q.idx < 0x5000 then s.writeTime q
  else if q.idx < 0x6000 then s.writeRadio q
  else if q.idx < 0x7000 then s.writeTraffic q
  else if q.idx < 0x7800 then s.writeSafety q
  else if q.idx < 0x8000 then s.writeMotion q
  else if q.idx < 0x9000 then s.writePair q
  else if q.idx < 0xA000 then s.writeSecure q
  else s.writeCal q

/-- Objects that the boot ROM service loader serves (R604). -/
def loaderServes (idx sub : Nat) : Bool :=
  idx = 0x2000 || (idx = 0x2010 && sub ≤ 2) || idx = 0x2012 || (idx = 0x2050 && sub ≤ 4) || idx = 0x2060 || idx = 0x9000

/-- The row of an object, or the refusal of an absent index or sub-index (R502, R604). -/
def State.odFind (s : State) (idx sub : Nat) : Except Detail Obj :=
  if s.start.loader && !loaderServes idx sub then .error .noIndex
  else if (objsOf idx).isEmpty then .error .noIndex
  else match odRow idx sub with
    | some o => .ok o
    | none => .error .noSub

/-- The checks that every write meets, in the order of R502's causes; length before range. -/
def State.odChecks (s : State) (role : Role) (idx sub : Nat) (v : List Byte) : Except Detail Obj :=
  match s.odFind idx sub with
  | .error d => .error d
  | .ok o =>
    if o.acc = .ro then .error .readOnly
    else if role.rank < o.role.rank then .error .role
    else if !o.ty.lengthOk v then .error .length
    else if !o.inRange v && !(0x1600 ≤ idx && idx < 0x1B00 && sub = 0) then .error .range
    else .ok o

/-- A write of an object (R502 to R504). What it is answered stands in `ans`; the second part says what decides the answer
later, where a lane period or a profile tick does (R244, R427). -/
def State.odWrite (s : State) (slot : Fin 11) (role : Role) (copy : Fin 2) (idx sub : Nat) (v : List Byte) (x : OdInput) :
    State × Option WaitFor :=
  match s.odChecks role idx sub v with
  | .error d => (s.deny d, none)
  | .ok o =>
    if o.ty = .domain then (s.deny .other, none)
    else
      let t := s.odAct { slot := slot, role := role, copy := copy, o := o, idx := idx, sub := sub, v := v, x := x }
      if idx = 0x7010 && t.saf.cmds.length ≠ s.saf.cmds.length then (t, some (.saf t.saf.cmdSeq))
      else if h : 0x7810 ≤ idx ∧ idx < 0x7818 then
        let n : Fin 8 := ⟨idx - 0x7810, by omega⟩
        if sub = 2 && (t.axis n).cmd ≠ (s.axis n).cmd then (t, some (.axis n)) else (t, none)
      else (t, none)

/-- A read of an object (R502, R506, R576): its value stands in `ans`. -/
def State.odRead (s : State) (slot : Fin 11) (copy : Fin 2) (idx sub : Nat) (ecc : Option Word) : State :=
  match s.odFind idx sub with
  | .error d => s.deny d
  | .ok o =>
    if o.acc = .wo then s.deny .writeOnly
    else if idx = 0x9000 && sub = 1 then s.challenge slot
    else if idx = 0x2050 && sub = 4 then s.recordRead slot ecc
    else s.answerValue (s.odValue slot copy o idx sub)

end Sys2Proof.Machine
end

