-- ==== Sys2Proof/Machine/Sessions.lean ====
section
/-!
DEFINITION. Sessions and logins, NZ-OD, DOMAIN downloads, and the service port (spec/16_object_dictionary.md, R505 to R507,
R517 to R523; spec/19_update.md, R577, R578, R583; spec/20_startup_calibration.md, R604).
-/
namespace Sys2Proof.Machine

/-! ### Sessions (R505) -/

/-- The dictionary answers: initialisation is done and a core that serves it runs (R530, R598). -/
def State.served (s : State) : Bool := s.alive && s.start.answers

/-- What a session leaves behind when it ends: its downloads and the replies that would follow. -/
def State.endWork (s : State) (slot : Fin 11) : State :=
  s.setDict fun d => { d with
    transfers := d.transfers.filter fun t => t.slot ≠ slot.val
    waiting := d.waiting.filter fun w => w.slot ≠ slot.val }

/-- A download of an image that was abandoned leaves nothing (R522, R592). -/
def State.dlSettled (s : State) : State :=
  if s.upd.dl = .receiving && !s.dict.transfers.any (fun t => t.index = 0x2060 && t.sub = 1) then
    s.setUpd fun u => { u with dl := .none }
  else s

/-- A session ends. -/
def State.endSession (s : State) (slot : Fin 11) : State := ((s.endWork slot).setSess slot fun _ => {}).dlSettled

/-- A session begins, with the role Observer (R505). -/
def State.beginSession (s : State) (slot : Fin 11) : State :=
  s.setSess slot fun _ => { opened := true, lastMs := s.tb5ms }

/-- A session has made a request (R505). -/
def State.touch (s : State) (slot : Fin 11) : State := s.setSess slot fun x => { x with lastMs := s.tb5ms }

/-- SESSION_IDLE_TIMEOUT (R505): the idle time of OD 0x2020:04 passes without a request. -/
def execSessionIdleTimeout (slot : Fin 11) (s : State) : Result :=
  let x := s.dict.sess[slot]
  let at' := x.lastMs + 1000 * s.od 0x2020 4 600
  if !x.opened || !s.served then .next s
  else
    let t := s.reachMs at'
    if 3 ≤ slot.val then .next (t.endSession slot)
    else .next (t.setSess slot Session.observer)

/-- LOGIN_CHALLENGE (R506, R507). -/
def execLoginChallenge (slot : Fin 11) (s : State) : Result :=
  .next (if s.served && s.dict.sess[slot].opened then (s.touch slot).challenge slot else s.deny .session)

/-- LOGIN_RESPONSE (R506, R507). -/
def execLoginResponse (slot : Fin 11) (v : List Byte) (s : State) : Result :=
  .next (if s.served && s.dict.sess[slot].opened then (s.touch slot).login slot v else s.deny .session)

/-- LOGOUT (R506). -/
def execLogout (slot : Fin 11) (v : Nat) (s : State) : Result :=
  .next (if s.served && s.dict.sess[slot].opened then (s.touch slot).logout slot v else s.deny .session)

/-! ### DOMAIN downloads (R159, R522, R583) -/

/-- A download to an object is open on some path (R522). -/
def State.transferOpen (s : State) (idx sub : Nat) : Bool :=
  s.dict.transfers.any fun t => t.index = BitVec.ofNat 16 idx && t.sub = BitVec.ofNat 8 sub

/-- Why an object does not take a download now, if it does not: the map image (R159), and firmware (R583). -/
def State.domainRefused (s : State) (slot : Fin 11) (idx sub : Nat) : Option State :=
  if idx = 0x6000 then
    if !s.listening then some (s.deny .state)
    else if s.transferOpen idx sub || s.cre.store.validating.isSome then some (s.answer .busy)
    else none
  else
    if slot.val ≠ 2 then some (s.deny .other)
    else if s.dev.dstate = .debugSession then some (s.deny .state)
    else if s.transferOpen idx sub || s.upd.inTrial || s.upd.ready.isSome || s.upd.checking.isSome then some (s.answer .busy)
    else none

/-- Checks on the object of a download: a wo DOMAIN, and the role. -/
def State.domainObject (s : State) (role : Role) (idx sub : Nat) : Except Detail Obj :=
  match s.odFind idx sub with
  | .error d => .error d
  | .ok o =>
    if o.acc = .ro then .error .readOnly
    else if o.ty ≠ .domain then .error .other
    else if role.rank < o.role.rank then .error .role
    else .ok o

/-- A download opens. -/
def State.domainOpen (s : State) (slot : Fin 11) (idx sub total : Nat) : State :=
  let s1 := s.setDict fun d => { d with
    transfers := d.transfers ++ [{ slot := slot.val, index := BitVec.ofNat 16 idx, sub := BitVec.ofNat 8 sub, total := total,
                                   data := [], lastMs := s.tb5ms }] }
  (if idx = 0x2060 then s1.setUpd fun u => { u with dl := .receiving, refusal := 0 } else s1).answer .ok

/-- DOMAIN_BEGIN's effect (R522). -/
def State.domainBegin (s : State) (slot : Fin 11) (role : Role) (idx sub total : Nat) : State :=
  match s.domainObject role idx sub with
  | .error d => s.deny d
  | .ok _ => (s.domainRefused slot idx sub).getD (s.domainOpen slot idx sub total)

/-- A session's download to an object. -/
def State.transferOf (s : State) (slot : Fin 11) (idx sub : Nat) : Option Transfer :=
  s.dict.transfers.find? fun t => t.slot = slot.val && t.index = BitVec.ofNat 16 idx && t.sub = BitVec.ofNat 8 sub

/-- Changes a download. -/
def State.setTransfer (s : State) (t : Transfer) (f : Transfer → Transfer) : State :=
  s.setDict fun d => { d with transfers := d.transfers.map fun u => if u = t then f u else u }

/-- Takes a download out. -/
def State.dropTransfer (s : State) (t : Transfer) : State :=
  s.setDict fun d => { d with transfers := d.transfers.filter fun u => u ≠ t }

/-- DOMAIN_DATA's effect (R522): an offset below what was received has no effect, one above it is answered BUSY with the
offset expected. -/
def State.domainData (s : State) (slot : Fin 11) (idx sub ofs : Nat) (data : List Byte) : State :=
  match s.transferOf slot idx sub with
  | none => s.deny .other
  | some t =>
    if data = [] then s.deny .length
    else if ofs < t.data.length then (s.setTransfer t fun u => { u with lastMs := s.tb5ms }).answer .ok
    else if t.data.length < ofs then
      let s1 := s.setTransfer t fun u => { u with lastMs := s.tb5ms }
      { s1 with ans := { status := .busy, detail := BitVec.ofNat 32 t.data.length } }
    else (s.setTransfer t fun u => { u with data := u.data ++ data, lastMs := s.tb5ms }).answer .ok

/-- A complete download is handed to its object, which validates it under its own chapter (R159, R522, R582). The map takes
one only in *Listening*. -/
def State.domainHand (s : State) (idx : Nat) (data : List Byte) : State :=
  if idx = 0x6000 then
    if s.listening then (s.setStore fun k => { k with validating := some data }).answer .ok else s.deny .state
  else (s.setUpd fun u => { u with checking := some data, dl := .verifying }).answer .ok

/-- DOMAIN_END's effect (R522). -/
def State.domainEnd (s : State) (slot : Fin 11) (idx sub : Nat) (crc : BitVec 32) : State :=
  match s.transferOf slot idx sub with
  | none => s.deny .other
  | some t =>
    let s1 := s.dropTransfer t
    if crc32c t.data = crc && t.data.length = t.total then s1.domainHand idx t.data
    else s1.dlSettled.deny .other

/-- DOMAIN_TRANSFER_TIMEOUT (R522): the session's downloads that have met no message for 10 s are abandoned. -/
def execDomainTransferTimeout (slot : Fin 11) (s : State) : Result :=
  if !s.served then .next s
  else match s.dict.transfers.find? fun t => t.slot = slot.val with
    | none => .next s
    | some t => .next (((s.reachMs (t.lastMs + 10000)).dropTransfer t).dlSettled)

/-! ### NZ-OD requests (R517 to R523) -/

/-- The 24 header octets of a request (R518). -/
def nzHeader (q : NzReq) (op : Nat) : List Byte :=
  leBytes 2 0x5A4E ++ [q.version] ++ leBytes 1 op ++ leBytes 2 q.session.toNat ++ leBytes 2 0 ++ leBytes 4 q.seq.toNat ++
    leBytes 2 q.index.toNat ++ leBytes 1 q.sub.toNat ++ leBytes 1 0 ++ leBytes 4 q.arg.toNat ++ leBytes 4 q.data.length

/-- A DOMAIN value is read in parts of at most 1,400 octets from an offset on; past its end there are none (R519). -/
def part (v : List Byte) (ofs : Nat) : List Byte := (v.drop ofs).take 1400

/-- READ's effect (R519). A read of OD 0x2050:04 past offset 0 does not move the cursor: one part holds any record. -/
def State.nzRead (s : State) (slot : Fin 11) (q : NzReq) (x : OdInput) : State :=
  let idx := q.index.toNat
  let sub := q.sub.toNat
  match odRow idx sub with
  | some o =>
    if o.ty = .domain && idx = 0x2050 && sub = 4 && q.arg ≠ 0 then s.answerValue []
    else
      let t := s.odRead slot (s.copyOf slot) idx sub x.ecc
      if o.ty = .domain && t.ans.status = .ok then t.answerValue (part t.ans.value q.arg.toNat) else t
  | none => s.odRead slot (s.copyOf slot) idx sub x.ecc

/-- What an operation does, and what decides its answer later where a lane period or a profile tick does (R519). -/
def State.nzAct (s : State) (slot : Fin 11) (op : Nat) (q : NzReq) (x : OdInput) : State × Option WaitFor :=
  let idx := q.index.toNat
  let sub := q.sub.toNat
  let role := s.dict.sess[slot].role
  match op with
  | 1 => (s.answer .ok, none)
  | 2 => (s.answer .ok, none)
  | 3 => (s.nzRead slot q x, none)
  | 4 => s.odWrite slot role (s.copyOf slot) idx sub q.data x
  | 5 => (s.domainBegin slot role idx sub q.arg.toNat, none)
  | 6 => (s.domainData slot idx sub q.arg.toNat q.data, none)
  | 7 => (s.domainEnd slot idx sub q.arg, none)
  | 8 => (s.answer .ok, none)
  | _ => ({ s with ans := { status := .denied, detail := 0x05040001 } }, none)

/-- The role of a session is above Observer, so that its messages carry a tag (R520). -/
def Session.tagged (x : Session) : Bool := x.key.isSome && x.role ≠ .observer

/-- The tag of a request verifies, where the session's role is above Observer (R520). -/
def Session.tagOk (x : Session) (hdr : List Byte) (q : NzReq) : Bool :=
  match x.key with
  | some k => if x.role = .observer then true else (Config.hmacSha256 k (hdr ++ q.data)).take 16 = q.tag
  | none => true

/-- SEQ of the last request of a session: one that waits for its answer, or the last one answered (R521). -/
def State.lastSeq (s : State) (slot : Fin 11) : Option (BitVec 32) :=
  (s.dict.waiting.filter fun w => w.slot = slot.val).foldl (fun l w => match l with
    | some x => if precedes x w.seq then some w.seq else l
    | none => some w.seq) (s.dict.sess[slot].last.map Prod.fst)

/-- A request is performed, and answered now or when what it waits for is decided. CLOSE ends an NZ-OD session once it is
answered (R517, R519). -/
def State.nzPerform (s : State) (slot : Fin 11) (op : Nat) (q : NzReq) (x : OdInput) : State :=
  let tagged := s.dict.sess[slot].tagged
  let r := (s.touch slot).nzAct slot op q x
  match r.2 with
  | some w =>
    r.1.setDict fun d => { d with
      waiting := d.waiting ++ [{ what := w, slot := slot.val, seq := q.seq, index := q.index.toNat, sub := q.sub.toNat,
                                 tagged := tagged }] }
  | none =>
    let t := (r.1.noteStatus slot).replySend slot op q.seq tagged
    if op = 2 && 3 ≤ slot.val then t.endSession slot else t

/-- A repeated request gets its reply again; one under a SEQ that follows is performed; any other is discarded (R521). -/
def State.nzSequence (s : State) (slot : Fin 11) (op : Nat) (q : NzReq) (x : OdInput) : State :=
  match s.lastSeq slot with
  | none => s.nzPerform slot op q x
  | some l =>
    if q.seq = l then
      match s.dict.sess[slot].last with
      | some (k, r) => if k = l then (s.touch slot).emit (.reply slot.val (0x80 + op) l r s.dict.sess[slot].tagged) else s
      | none => s
    else if precedes l q.seq then s.nzPerform slot op q x
    else s

/-- A datagram is counted as discarded, OD 0x2020:07 (R520, R523). -/
def State.nzDiscard (s : State) : State := s.setDict fun d => { d with discarded := bump d.discarded }

/-- A request to a session: it must be open (R517), and its tag must verify (R520). -/
def State.nzToSession (s : State) (op : Nat) (q : NzReq) (x : OdInput) : State :=
  if h : 1 ≤ q.session.toNat ∧ q.session.toNat ≤ 8 then
    let slot : Fin 11 := ⟨q.session.toNat + 2, by omega⟩
    if !s.dict.sess[slot].opened then (s.deny .session).emit (.reply 11 (0x80 + op) q.seq ⟨8, Detail.session.code, []⟩ false)
    else if s.dict.sess[slot].tagOk (nzHeader q op) q then s.nzSequence slot op q x
    else s.nzDiscard
  else (s.deny .session).emit (.reply 11 (0x80 + op) q.seq ⟨8, Detail.session.code, []⟩ false)

/-- Lowest NZ-OD session that is not open. -/
def State.freeSession (s : State) : Option (Fin 11) :=
  (List.finRange 11).find? fun i => 3 ≤ i.val && !s.dict.sess[i].opened

/-- OPEN's effect: a session begins, or FULL (R517). -/
def State.nzOpen (s : State) (q : NzReq) : State :=
  match s.freeSession with
  | some i => ((s.beginSession i).answer .ok).emit (.reply i.val 0x81 q.seq ⟨0, 0, []⟩ false)
  | none => (s.answer .full).emit (.reply 11 0x81 q.seq ⟨2, Detail.full.code, []⟩ false)

/-- Requests that can be served in the present second of TB5 (R523). -/
def State.nzRoom (s : State) : Bool :=
  s.dict.second ≠ s.tb5ms / 1000 || s.dict.served < 2000 + Config.nzExtra (s.tb5ms / 1000)

/-- One more request is served in the present second (R523). -/
def State.nzCount (s : State) : State :=
  let now := s.tb5ms / 1000
  s.setDict fun d => { d with second := now, served := if d.second = now then d.served + 1 else 1 }

/-- A datagram arrives at a MAC that is ON. A request of another version is discarded (R518); beyond what the dictionary can
serve, datagrams are discarded and counted (R523). The boot ROM service loader answers the service port alone (R604). -/
def State.nzArrive (s : State) (q : NzReq) (f : State → State) : State :=
  let mac := if q.eth1 then s.blk.eth1.st else s.blk.eth0.st
  if !s.served || s.start.loader || mac ≠ .on || q.version ≠ 1 then s
  else if s.nzRoom then f s.nzCount
  else s.nzDiscard

/-- OPEN (R517). -/
def execOpenSession (q : NzReq) (s : State) : Result := .next (s.nzArrive q fun s => s.nzOpen q)

/-- What the operations that need nothing from outside meet there. -/
def noInput : OdInput := { start := ⟨true, 0, 0, false, 0, true, false, 0, 0⟩, logPasses := false, ecc := none, active := 0, reply := .ok, agree := false }

/-- CLOSE (R517, R519). -/
def execCloseSession (q : NzReq) (s : State) : Result := .next (s.nzArrive q fun s => s.nzToSession 2 q noInput)

/-- READ (R519). -/
def execNzRead (q : NzReq) (x : OdInput) (s : State) : Result := .next (s.nzArrive q fun s => s.nzToSession 3 q x)

/-- WRITE (R519). -/
def execNzWrite (q : NzReq) (x : OdInput) (s : State) : Result := .next (s.nzArrive q fun s => s.nzToSession 4 q x)

/-- DOMAIN_BEGIN (R522). -/
def execDomainBegin (q : NzReq) (s : State) : Result := .next (s.nzArrive q fun s => s.nzToSession 5 q noInput)

/-- DOMAIN_DATA (R522). -/
def execDomainData (q : NzReq) (s : State) : Result := .next (s.nzArrive q fun s => s.nzToSession 6 q noInput)

/-- DOMAIN_END (R522). -/
def execDomainEnd (q : NzReq) (s : State) : Result := .next (s.nzArrive q fun s => s.nzToSession 7 q noInput)

/-- KEEPALIVE (R519). -/
def execKeepalive (q : NzReq) (s : State) : Result := .next (s.nzArrive q fun s => s.nzToSession 8 q noInput)

/-! ### Service port (R505, R577, R578) -/

/-- A frame whose magic, length or CRC is right, and whose KIND is an NZ-OD message: its payload (R578). -/
def servicePayload (f : List Byte) : Option (List Byte) :=
  let len := leNat ((f.drop 4).take 2)
  let body := f.take (6 + len)
  if leNat (f.take 2) = 0x5053 && 1 ≤ len && len ≤ 1448 && f.length = len + 10 &&
      leNat (f.drop (6 + len)) = (crc32c body).toNat then some ((f.drop 6).take len)
  else none

/-- The NZ-OD message of a payload: its OP, its header and its fields (R518). -/
def nzMessage (l : List Byte) : Option (Nat × List Byte × NzReq) :=
  let w := fun (i n : Nat) => leNat ((l.drop i).take n)
  let len := w 20 4
  if l.length < 24 + len || 1400 < len || l.length < 24 || w 0 2 ≠ 0x5A4E then none
  else some (w 3 1, l.take 24,
    { eth1 := false, version := BitVec.ofNat 8 (w 2 1), session := BitVec.ofNat 16 (w 4 2), seq := BitVec.ofNat 32 (w 8 4)
      index := BitVec.ofNat 16 (w 12 2), sub := BitVec.ofNat 8 (w 14 1), arg := BitVec.ofNat 32 (w 16 4)
      data := (l.drop 24).take len, tag := l.drop (24 + len) })

/-- An NZ-OD message on the service port: the port's session applies, whatever session ID it names (R578). -/
def State.serviceMessage (s : State) (l : List Byte) (x : OdInput) : State :=
  match nzMessage l with
  | none => s
  | some (op, hdr, q) =>
    if q.version ≠ 1 || !s.dict.sess[(2 : Fin 11)].opened then s
    else if s.dict.sess[(2 : Fin 11)].tagOk hdr q then s.nzSequence 2 op q x
    else s.nzDiscard

/-- SERVICE_FRAME (R577, R578). While USB is configured, frames on SERVICE_UART are discarded. -/
def execServiceFrame (uart : Bool) (frame : List Byte) (x : OdInput) (s : State) : Result :=
  if !s.alive || (uart && s.upd.usbCfg) then .next s
  else match servicePayload frame with
    | none => .next (s.setUpd fun u => { u with badFrm := u.badFrm + 1 })
    | some l =>
      let s1 := if uart then s.setUpd fun u => { u with uartMs := some s.tb5ms } else s
      if leNat ((frame.drop 2).take 1) ≠ 1 then .next (s1.setUpd fun u => { u with badFrm := u.badFrm + 1 })
      else if s1.served then .next (s1.serviceMessage l x)
      else .next s1

/-- SERVICE_PORT_CONNECTION_OPEN (R505, R577): the two paths share one session. -/
def execServicePortConnectionOpen (usb : Bool) (s : State) : Result :=
  if !s.alive then .next s
  else
    let s1 := if usb then s.setUpd fun u => { u with usbCfg := true } else s
    .next (if s1.dict.sess[(2 : Fin 11)].opened then s1 else s1.beginSession 2)

/-- SERVICE_PORT_CONNECTION_CLOSE (R505). -/
def execServicePortConnectionClose (s : State) : Result :=
  .next ((s.endSession 2).setUpd fun u => { u with usbCfg := false })

end Sys2Proof.Machine
end

