-- ==== Sys2Proof/Machine/Can.lean ====
section
/-!
DEFINITION. CAN FD and CiA 301: SDO, NMT, heartbeats, PDOs and error states (spec/16_object_dictionary.md, R509 to R516).
-/
namespace Sys2Proof.Machine

/-! ### Frames -/

/-- A channel is on its bus: ON, and not bus-off. -/
def State.canUp (s : State) (n : Fin 2) : Bool := s.alive && (s.canCtl n).st = .on && !s.dict.can[n].busOff

/-- The receive queue of a channel, CANn_QCFG.RXQ, is in use and has no room (R516). -/
def State.canFull (s : State) (n : Fin 2) : Bool :=
  let q := s.queue s.dict.can[n].rxq.toFin
  q.ctl.st = .on && q.room = 0

/-- A frame arrives at a channel: lost and counted while the receive queue is full, and otherwise taken (R513, R516). -/
def State.canFrame (s : State) (n : Fin 2) (f : State → State) : State :=
  if !s.canUp n || s.start.loader then s
  else if s.canFull n then (s.setCan n fun x => { x with lost := bump x.lost }).emcyOnce n 0x8110 .canState
  else if s.start.answers then f s
  else s

/-! ### SDO (R512) -/

/-- Session slot of a channel (R505). -/
def canSlot (n : Fin 2) : Fin 11 := ⟨n.val, by omega⟩

/-- Changes a channel's segmented transfer. -/
def State.setSdo (s : State) (n : Fin 2) (t : Option SdoTransfer) : State := s.setCan n fun x => { x with sdo := t }

/-- A segmented transfer is given up without an abort frame. -/
def State.sdoAbandon (s : State) (n : Fin 2) : State :=
  ((s.setSdo n none).setDict fun d => { d with transfers := d.transfers.filter fun t => t.slot ≠ n.val }).dlSettled

/-- An SDO response. -/
def State.sdoSend (s : State) (n : Fin 2) (data : List Byte) : State := s.emit (.can n (s.sdoCob n) data)

/-- An SDO abort: the answer is DENIED with the abort code as its detail, and the transfer ends (R502, R512). -/
def State.sdoAbort (s : State) (n : Fin 2) (idx sub : Nat) (code : BitVec 32) : State :=
  let s1 := s.sdoAbandon n
  let s2 := { s1 with ans := { status := .denied, detail := code } }
  (s2.noteStatus (canSlot n)).sdoSend n (abortData idx sub code)

/-- A value has arrived whole: it is written, and answered now or when a lane period or profile tick decides. `cs` is the
command octet of the response. -/
def State.sdoWrite (s : State) (n : Fin 2) (cs idx sub : Nat) (v : List Byte) (x : OdInput) : State :=
  let r := s.odWrite (canSlot n) s.dict.sess[canSlot n].role n idx sub v x
  match r.2 with
  | some k =>
    r.1.setDict fun d => { d with
      waiting := d.waiting ++ [{ what := k, slot := n.val, seq := BitVec.ofNat 32 cs, index := idx, sub := sub, tagged := false }] }
  | none =>
    r.1.writeAnswer { what := .axis 0, slot := n.val, seq := BitVec.ofNat 32 cs, index := idx, sub := sub, tagged := false }
      (s.sdoCob n)

/-- Octets of an expedited download: as many as the command octet says, or as the object has. -/
def expedited (cs idx sub : Nat) (d : List Byte) : List Byte :=
  if bitAt cs 0 then d.take (4 - bitsOf cs 3 2)
  else match odRow idx sub with
    | some o => d.take (min 4 (o.ty.octets.getD 4))
    | none => d

/-- Checks of a segmented download at its initiate (R502, R512). -/
def State.sdoChecks (s : State) (role : Role) (idx sub size : Nat) : Except (BitVec 32) Obj :=
  match s.odFind idx sub with
  | .error d => .error d.code
  | .ok o =>
    if o.acc = .ro then .error Detail.readOnly.code
    else if role.rank < o.role.rank then .error Detail.role.code
    else match o.ty with
      | .domain => if 1048576 < size then .error 0x06070012 else .ok o
      | .str m => if m < size then .error Detail.length.code else .ok o
      | t => if t.octets = some size then .ok o else .error Detail.length.code

/-- A segmented download opens; of a DOMAIN also the download of R522. -/
def State.sdoBegin (s : State) (n : Fin 2) (idx sub size : Nat) : State :=
  let role := s.dict.sess[canSlot n].role
  let start := fun (s : State) =>
    (((s.setSdo n (some { download := true, index := BitVec.ofNat 16 idx, sub := BitVec.ofNat 8 sub, data := [], size := size,
                          toggle := false, lastMs := s.tb5ms })).answer .ok).noteStatus (canSlot n)).sdoSend n
      (sdoHead 0x60 idx sub ++ leBytes 4 0)
  match s.sdoChecks role idx sub size with
  | .error d => s.sdoAbort n idx sub d
  | .ok o =>
    if o.ty = .domain then
      let t := s.domainBegin (canSlot n) role idx sub size
      if t.ans.status = .ok then start t else t.sdoAbort n idx sub t.ans.detail
    else start s

/-- Initiate download (R512). A transfer that neither is expedited nor names its size is aborted. -/
def State.sdoDownload (s : State) (n : Fin 2) (cs idx sub : Nat) (d : List Byte) (x : OdInput) : State :=
  let s1 := s.sdoAbandon n
  if bitAt cs 1 then s1.sdoWrite n 0x60 idx sub (expedited cs idx sub d) x
  else if bitAt cs 0 then s1.sdoBegin n idx sub (leNat d)
  else s1.sdoAbort n idx sub 0x05040001

/-- A download has all its octets. -/
def State.sdoEnd (s : State) (n : Fin 2) (cs : Nat) (t : SdoTransfer) (x : OdInput) : State :=
  let idx := t.index.toNat
  let sub := t.sub.toNat
  if t.data.length ≠ t.size then s.sdoAbort n idx sub Detail.length.code
  else
    let s1 := s.setSdo n none
    match s1.transferOf (canSlot n) idx sub with
    | some u =>
      let s2 := (s1.dropTransfer u).domainHand idx t.data
      if s2.ans.status = .ok then (s2.noteStatus (canSlot n)).sdoSend n (sdoDone cs idx sub)
      else s2.sdoAbort n idx sub s2.ans.detail
    | none => s1.sdoWrite n cs idx sub t.data x

/-- Download segment (R512). -/
def State.sdoDownSeg (s : State) (n : Fin 2) (cs : Nat) (d : List Byte) (x : OdInput) : State :=
  match s.dict.can[n].sdo with
  | none => s.sdoAbort n 0 0 0x05040001
  | some t =>
    let idx := t.index.toNat
    let sub := t.sub.toNat
    let u := { t with data := t.data ++ d.take (7 - bitsOf cs 3 1), toggle := !t.toggle, lastMs := s.tb5ms }
    let answer := 0x20 + 0x10 * bit t.toggle
    if !t.download then s.sdoAbort n idx sub 0x05040001
    else if bitAt cs 4 ≠ t.toggle then s.sdoAbort n idx sub 0x05030000
    else if u.size < u.data.length then s.sdoAbort n idx sub Detail.length.code
    else if bitAt cs 0 then s.sdoEnd n answer u x
    else
      let s1 := s.setSdo n (some u)
      let s2 := match s1.transferOf (canSlot n) idx sub with
        | some v => s1.setTransfer v fun w => { w with lastMs := s.tb5ms }
        | none => s1
      ((s2.answer .ok).noteStatus (canSlot n)).sdoSend n (sdoDone answer idx sub)

/-- Initiate upload (R512): up to 4 octets expedited, more in segments. -/
def State.sdoUpload (s : State) (n : Fin 2) (idx sub : Nat) (x : OdInput) : State :=
  let s1 := (s.sdoAbandon n).odRead (canSlot n) n idx sub x.ecc
  let v := s1.ans.value
  if s1.ans.status ≠ .ok then s1.sdoAbort n idx sub s1.ans.detail
  else
    let s2 := s1.noteStatus (canSlot n)
    if 1 ≤ v.length && v.length ≤ 4 then
      s2.sdoSend n (sdoHead (0x43 + 4 * (4 - v.length)) idx sub ++ v ++ leBytes (4 - v.length) 0)
    else
      (s2.setSdo n (some { download := false, index := BitVec.ofNat 16 idx, sub := BitVec.ofNat 8 sub, data := v
                           size := v.length, toggle := false, lastMs := s.tb5ms })).sdoSend n
        (sdoHead 0x41 idx sub ++ leBytes 4 v.length)

/-- Upload segment (R512). -/
def State.sdoUpSeg (s : State) (n : Fin 2) (cs : Nat) : State :=
  match s.dict.can[n].sdo with
  | none => s.sdoAbort n 0 0 0x05040001
  | some t =>
    let v := t.data.take 7
    let rest := t.data.drop 7
    if t.download then s.sdoAbort n t.index.toNat t.sub.toNat 0x05040001
    else if bitAt cs 4 ≠ t.toggle then s.sdoAbort n t.index.toNat t.sub.toNat 0x05030000
    else
      let left := if rest = [] then none else some { t with data := rest, toggle := !t.toggle, lastMs := s.tb5ms }
      (((s.setSdo n left).answer .ok).noteStatus (canSlot n)).sdoSend n
        (leBytes 1 (0x10 * bit t.toggle + 2 * (7 - v.length) + bit (decide (rest = []))) ++ v ++ leBytes (7 - v.length) 0)

/-- An SDO request frame of 8 octets, by the command specifier in [7:5] of the first: an abort by the client ends the transfer,
and block transfer and unknown specifiers are aborted (R512). -/
def State.sdoFrame (s : State) (n : Fin 2) (cs : Byte) (rest : List Byte) (x : OdInput) : State :=
  let k := cs.toNat
  let idx := leNat (rest.take 2)
  let sub := leNat ((rest.drop 2).take 1)
  s.canFrame n fun s =>
    if !s.canServes n then s
    else
      let s := s.touch (canSlot n)
      match k / 32 with
      | 0 => s.sdoDownSeg n k rest x
      | 1 => s.sdoDownload n k idx sub (rest.drop 3) x
      | 2 => s.sdoUpload n idx sub x
      | 3 => s.sdoUpSeg n k
      | 4 => s.sdoAbandon n
      | _ => s.sdoAbort n idx sub 0x05040001

/-- SDO_INITIATE_DOWNLOAD (R512). -/
def execSdoInitiateDownload (n : Fin 2) (cs : Byte) (idx : BitVec 16) (sub : BitVec 8) (d : Vector Byte 4) (x : OdInput)
    (s : State) : Result :=
  .next (s.sdoFrame n cs (leBytes 2 idx.toNat ++ [sub] ++ d.toList) x)

/-- SDO_DOWNLOAD_SEGMENT (R512). -/
def execSdoDownloadSegment (n : Fin 2) (cs : Byte) (d : Vector Byte 7) (x : OdInput) (s : State) : Result :=
  .next (s.sdoFrame n cs d.toList x)

/-- SDO_INITIATE_UPLOAD (R512). -/
def execSdoInitiateUpload (n : Fin 2) (cs : Byte) (idx : BitVec 16) (sub : BitVec 8) (x : OdInput) (s : State) : Result :=
  .next (s.sdoFrame n cs (leBytes 2 idx.toNat ++ [sub] ++ leBytes 4 0) x)

/-- SDO_UPLOAD_SEGMENT (R512). -/
def execSdoUploadSegment (n : Fin 2) (cs : Byte) (s : State) : Result := .next (s.sdoFrame n cs (leBytes 7 0) noInput)

/-- SDO_SEGMENT_TIMEOUT (R512): 1,000 ms without the next segment. -/
def execSdoSegmentTimeout (n : Fin 2) (s : State) : Result :=
  match s.dict.can[n].sdo with
  | none => .next s
  | some t =>
    let s1 := s.reachMs (t.lastMs + 1000)
    .next (if s1.canServes n then s1.sdoAbort n t.index.toNat t.sub.toNat 0x05040000 else s1.sdoAbandon n)

/-! ### NMT (R510) -/

/-- An NMT command addressed to this node or to all. -/
def State.nmtFor (s : State) (n : Fin 2) (node : BitVec 8) (f : State → State) : State :=
  s.canFrame n fun s => if node = 0 || node = s.dict.can[n].nodeId then f s else s

/-- A channel takes an NMT state. -/
def State.nmtTo (s : State) (n : Fin 2) (st : Nmt) : State := s.setCan n fun x => { x with nmt := st }

/-- NMT_START_REMOTE_NODE (R510). -/
def execNmtStartRemoteNode (n : Fin 2) (node : BitVec 8) (s : State) : Result :=
  .next (s.nmtFor n node fun s => s.nmtTo n .operational)

/-- NMT_STOP_REMOTE_NODE (R510). -/
def execNmtStopRemoteNode (n : Fin 2) (node : BitVec 8) (s : State) : Result :=
  .next (s.nmtFor n node fun s => s.nmtTo n .stopped)

/-- NMT_ENTER_PRE_OPERATIONAL (R510). -/
def execNmtEnterPreOperational (n : Fin 2) (node : BitVec 8) (s : State) : Result :=
  .next (s.nmtFor n node fun s => s.nmtTo n .preOperational)

/-- Reset communication: the channel's session ends and the next begins as Observer, transfers and watches are dropped, the
objects are those of the settings, and the node boots up again (R505, R510). -/
def State.nmtReset (s : State) (n : Fin 2) : State :=
  let s1 := ((s.sdoAbandon n).endSession (canSlot n)).beginSession (canSlot n)
  let s2 := s1.setCan n fun x => { x with
    nmt := if s.od (0x1FF1 + n.val) 6 0 = 1 then .operational else .preOperational
    hb := Vector.replicate 4 {}, tpdo := Vector.replicate 4 {}, hbSentMs := s.tb5ms }
  (s2.emit (.can n (0x700 + s.dict.can[n].nodeId.toNat) [0])).hbSettle n

/-- NMT_RESET_COMMUNICATION (R510). -/
def execNmtResetCommunication (n : Fin 2) (node : BitVec 8) (s : State) : Result :=
  .next (s.nmtFor n node fun s => s.nmtReset n)

/-- NMT_RESET_NODE: as reset communication (R510). -/
def execNmtResetNode (n : Fin 2) (node : BitVec 8) (s : State) : Result := .next (s.nmtFor n node fun s => s.nmtReset n)

/-! ### Heartbeats (R511) -/

/-- CAN_HEARTBEAT_PRODUCE (R511): the producer time of OD 0x1017 passes and the NMT state is sent. -/
def execCanHeartbeatProduce (n : Fin 2) (s : State) : Result :=
  let every := s.odCan n 0x1017 0 0
  if every = 0 || !s.canUp n || !s.start.answers || s.dict.can[n].nmt = .initialisation then .next s
  else
    let s1 := s.reachMs (s.dict.can[n].hbSentMs + every)
    .next ((s1.setCan n fun x => { x with hbSentMs := s1.tb5ms }).emit
      (.can n (0x700 + s1.dict.can[n].nodeId.toNat) (leBytes 1 s1.dict.can[n].nmt.code)))

/-- Node and time of a consumed heartbeat, OD 0x1016; time 0 or node 0 watches nothing (R511). -/
def State.hbEntry (s : State) (n : Fin 2) (i : Fin 4) : Option (Nat × Nat) :=
  let v := s.odCan n 0x1016 (i.val + 1) 0
  if bitsOf v 15 0 = 0 || bitsOf v 23 16 = 0 then none else some (bitsOf v 23 16, bitsOf v 15 0)

/-- CAN_HEARTBEAT_RECEIVED (R511): it restarts the node's consumer time. -/
def execCanHeartbeatReceived (n : Fin 2) (node : BitVec 8) (s : State) : Result :=
  .next (s.canFrame n fun s =>
    ((List.finRange 4).foldl (fun (t : State) (i : Fin 4) =>
      match s.hbEntry n i with
      | some e => if e.1 = node.toNat then t.setHb n i { heard := some s.tb5ms, lost := false } else t
      | none => t) s).hbSettle n)

/-- A consumed heartbeat is lost: an event record and EMCY 0x8130, once per loss (R511, R513). -/
def State.hbLoses (s : State) (n : Fin 2) (i : Fin 4) (node : Nat) (heard : Nat) : State :=
  let s1 := (s.setHb n i { heard := some heard, lost := true }).event .heartbeatLost [n.val, node]
  if s1.dict.can[n].conds.contains .hbLost then s1.emcyOnce n 0x8130 .heartbeatLost else s1.emcyOn n .hbLost .heartbeatLost

/-- CAN_HEARTBEAT_LOSS (R511): a node heard before is not heard within its time. -/
def execCanHeartbeatLoss (n : Fin 2) (i : Fin 4) (s : State) : Result :=
  let w := s.dict.can[n].hb[i]
  if !s.canUp n || w.lost then .next s
  else match s.hbEntry n i, w.heard with
    | some e, some t => .next ((s.reachMs (t + e.2)).hbLoses n i e.1 t)
    | _, _ => .next s

/-! ### PDOs (R514) -/

/-- A PDO is in use: *Operational*, enabled, and with a mapping; its entries. -/
def State.pdoEntries (s : State) (n : Fin 2) (comm map : Nat) : Option (List Nat) :=
  let count := s.mapEntry n map 0
  if !s.canServes n || s.dict.can[n].nmt ≠ .operational || s.pdoOff n comm || count = 0 then none
  else if (s.mapOctets n map count).isNone then none
  else some ((List.range count).map fun k => s.mapEntry n map (k + 1))

/-- Octets of the objects that a TPDO maps, as Observer reads them. -/
def State.pdoData (s : State) (n : Fin 2) (es : List Nat) : List Byte :=
  es.flatMap fun e => match odRow (e / 65536) (e / 256 % 256) with
    | some o => s.odValue (canSlot n) n o (e / 65536) (e / 256 % 256)
    | none => []

/-- Number of a communication object's sub-index. -/
def State.commValue (s : State) (n : Fin 2) (idx sub : Nat) : Nat :=
  match odRow idx sub with
  | some o => leNat (s.stored n o idx sub)
  | none => 0

/-- A TPDO is sent at an instant, in 100 us of TB5, with the values it maps then. -/
def State.tpdoSend (s : State) (n : Fin 2) (i : Fin 4) (es : List Nat) (at100us : Nat) : State :=
  let s1 := s.reachTicks (at100us * 40000)
  let data := s1.pdoData n es
  (s1.setCan n fun x => { x with tpdo := x.tpdo.set i { lastData := some data, last100us := s1.tim.ticks / 40000 } }).emit
    (.can n (s1.commValue n (0x1800 + i.val) 1 % 2 ^ 29) data)

/-- TPDO_TRANSMIT (R514): on a change of a mapped value, no sooner than the inhibit time; otherwise at the event timer. -/
def execTpdoTransmit (n : Fin 2) (i : Fin 4) (s : State) : Result :=
  if !s.served || s.start.loader then .next s
  else match s.pdoEntries n (0x1800 + i.val) (0x1A00 + i.val) with
    | none => .next s
    | some es =>
      let t := s.dict.can[n].tpdo[i]
      let free := t.last100us + s.commValue n (0x1800 + i.val) 3
      let timer := s.commValue n (0x1800 + i.val) 5
      if t.lastData ≠ some (s.pdoData n es) then
        .next (s.tpdoSend n i es (if t.lastData.isNone then s.tim.ticks / 40000 else max (s.tim.ticks / 40000) free))
      else if timer = 0 then .next s
      else .next (s.tpdoSend n i es (max free (t.last100us + 10 * timer)))

/-- The writes of an RPDO, in the order of its mapping, with the role Operator; none where one is not answered OK (R514). -/
def State.rpdoWrites (s : State) (n : Fin 2) (x : OdInput) : List Nat → List Byte → Option State
  | [], _ => some s
  | e :: es, d =>
    let k := e % 256 / 8
    let r := s.odWrite (canSlot n) .operator n (e / 65536) (e / 256 % 256) (d.take k) x
    match r.2 with
    | some w =>
      let t := r.1.setDict fun y => { y with
        waiting := y.waiting ++ [{ what := w, slot := 11 + n.val, seq := 0, index := e / 65536, sub := e / 256 % 256,
                                   tagged := false }] }
      t.rpdoWrites n x es (d.drop k)
    | none => if r.1.ans.status = .ok then r.1.rpdoWrites n x es (d.drop k) else none

/-- RPDO_RECEIVED (R514): written as Operator when OD 0x1FFn:05 = 1, or discarded and counted. -/
def execRpdoReceived (n : Fin 2) (i : Fin 4) (data : List Byte) (x : OdInput) (s : State) : Result :=
  .next (s.canFrame n fun s =>
    match s.pdoEntries n (0x1400 + i.val) (0x1600 + i.val) with
    | none => s
    | some es =>
      if s.od (0x1FF1 + n.val) 5 0 ≠ 1 || data.length ≠ (es.map fun e => e % 256 / 8).sum then s.rpdoDiscard n
      else (s.rpdoWrites n x es data).getD (s.rpdoDiscard n))

/-! ### Error states (R513, R516) -/

/-- The error counters reach new values. -/
def State.canErrors (s : State) (n : Fin 2) (tec : Nat) (rec' : BitVec 8) : State :=
  let c0 := s.dict.can[n]
  let off := 256 ≤ tec
  s.setCan n fun x => { x with
    tec := BitVec.ofNat 8 (min tec 255), rec' := rec'
    errWarn := 96 ≤ tec || 96 ≤ rec'.toNat, errPass := 128 ≤ tec || 128 ≤ rec'.toNat, busOff := off
    boffCnt := if off && !c0.busOff then c0.boffCnt + 1 else c0.boffCnt }

/-- CAN_ERROR_STATE_CHANGE (R513, R516): TEC of 256 or more is bus-off. -/
def execCanErrorStateChange (n : Fin 2) (tec : Nat) (rec' : BitVec 8) (s : State) : Result :=
  if !s.alive || (s.canCtl n).st ≠ .on then .next s
  else
    let c0 := s.dict.can[n]
    let s1 := s.canErrors n tec rec'
    let c1 := s1.dict.can[n]
    let s2 := if c0.busOff ≠ c1.busOff || c0.errPass ≠ c1.errPass then
        s1.event .canState [n.val, bit c1.errWarn + 2 * bit c1.errPass + 4 * bit c1.busOff] else s1
    let s3 := if c0.busOff && !c1.busOff then s2.emcyOnce n 0x8140 .canState else s2
    .next (if c1.errPass then s3.emcyOn n .errPassive .canState else s3.emcyOff n .errPassive .canState)

end Sys2Proof.Machine
end

