-- ==== Sys2Proof/Machine/Cycle.lean ====
section
/-!
DEFINITION. The two clocks of the management plane: the fleet-cycle boundary and the 2.5 ms management tick
(spec/01_architecture.md, R17, R23, R24; spec/11_pair.md, R366, R369, R371, R383, R388, R421).
-/
namespace Sys2Proof.Machine

/-- The unit runs its clocks: powered, with its PLL locked, and not in *Dormant*. -/
def State.runsClocks (s : State) : Bool := s.dev.powered && s.dev.dstate ≠ .dormant

/-! ### The end of a cycle -/

/-- What the active unit of a pair sends about the cycle that has ended: its delta, the final one once SWAP is accepted,
and the rolling snapshot part that follows (R366, R369, R388). -/
def State.cycleStream (s : State) (ended : BitVec 32) : State :=
  if !s.streams then s
  else
    let s1 := s.deltaSend ended false
    let s2 :=
      if s1.pair.swapAsk then
        let t := s1.deltaSend ended true
        t.setPair fun p => { p with swap := some t.pair.txSeq, swapAsk := false }
      else s1
    s2.rollingSend

/-- What the end of a cycle closes: a permit that was never begun, and a DATA slot still open (R272, R275). -/
def State.cycleClose (s : State) : State :=
  let s1 := if s.fra.permitDue then s.permitUnsent else s
  s1.slotClose

/-! ### The beginning of a cycle -/

/-- Roles that fell due take effect, and the lanes' role table with them (R206). -/
def State.cycleRoles (s : State) : State :=
  if s.inRun then
    let s1 := s.rolesEffect
    s1.setSec fun k => { k with members := k.members.map fun (m : EnrolMember) => { m with role := (s1.member m.id).role.setWidth 8 } }
  else s

/-- The radios' hop of the new cycle, and the MRX on the channel of permit window 0 (R269, R274). -/
def State.cycleHop (s : State) : State :=
  let s1 := if s.na then
      (s.setRadio false fun r => { r with chNow := s.fraChannel 0 }).setRadio true fun r => { r with chNow := s.dataChannel }
    else s
  if s1.blk.frb.st = .on then s1.setFrb fun b => { b with mrxCh := s1.fraChannel 0 } else s1

/-- A permit falls due in *Run* while FRA is on (R27, R272). -/
def State.cyclePermit (s : State) : State :=
  let due := s.inRun && (s.dev.target.isNone || s.swapping) && s.blk.fra.st = .on
  s.setFra fun f => { f with permitDue := due, permitBegun := false, voteWait := none }

/-- A standby latches the counts of its shadow axes and drops what it heard more than 8 cycles ago (R371, R422). -/
def State.cycleStandby (s : State) : State :=
  if !s.standby then s
  else
    let s1 := { s with mot := { s.mot with axis := s.mot.axis.map fun (a : Axis) =>
      if a.shadow then { a with shLatched := a.readPos - a.shOffset } else a } }
    s1.setPair fun p => { p with heard := p.heard.filter fun (h : HeardReq) => (s1.dev.cycle - h.cycle).toNat ≤ 8 }

/-- A request heard in standby is rebuilt unless its member and TAG are in the history (R371, R383). -/
def State.rebuildHeard (s : State) (h : HeardReq) : State :=
  if s.frames.decided.any fun d => d.member = h.member && d.tag = h.tag then s
  else match h.asm.complete with
    | some (c0, e0, l) =>
      (s.requestSubmit h.asm c0 e0 l).setPair fun p => { p with nRebuilt := p.nRebuilt + 1 }
    | none => s

/-- The boundary of cycle T + 2 closes the reconciliation window (R383). -/
def State.windowClose (s : State) : State :=
  match s.pair.window, s.pair.windowT with
  | true, some t =>
    if cycleReached s.dev.cycle (t + 2) then
      let s1 := { s with cre := { s.cre with nextId := s.cre.nextId + 64, recon := false } }
      let heard := s1.pair.heard
      heard.foldl State.rebuildHeard (s1.setPair fun p => { p with nRebuilt := 0, window := false, heard := [] })
    else s
  | _, _ => s

/-- The Oanik renews the group key by itself when its counter reaches 0xFFF0_0000 (R543). -/
def State.groupAuto (s : State) : State :=
  if s.inRun && 0xFFF00000 ≤ s.frames.group.next.toNat && !s.sec.renewing then s.groupRenew.1 else s

/-- What a unit that transmits does for members and nodes at a boundary (R212, R297, R302, R310). -/
def State.cycleFleet (s : State) : State :=
  if s.transmits then
    let s1 := (s.nodeMisses).decidedAge
    { s1 with fleet := { s1.fleet with tickCount := s1.fleet.tickCount + 1 } }
  else s.decidedAge

/-- Cycle `n`, whose boundary lies at `ms` of full TB4, begins. -/
def State.cycleBegin (s : State) (ms : Nat) : State :=
  let s1 := { s with dev := { s.dev with cycle := cycleOf ms, lastBoundary := ms } }
  ((((((s1.cycleRoles).groupActivate).cycleHop).windowClose).cyclePermit).cycleStandby).cycleFleet.groupAuto

/-- The boundary that comes next: the one already passed, if it has not been taken yet, or the next multiple of 50 ms. -/
def State.boundaryMs (s : State) : Nat :=
  let fl := s.tb4ms / 50 * 50
  if s.dev.lastBoundary < fl then fl else fl + 50

/-- CYCLE_BOUNDARY (R17). -/
def execCycleBoundary (s : State) : Result :=
  if !s.runsClocks then .next s
  else
    let ms := s.boundaryMs
    let s1 := s.reachTb4 (ms * 1000000)
    .next (((s1.cycleClose).cycleStream s1.dev.cycle).cycleBegin ms)

/-! ### Management ticks -/

/-- The condition word of the next cycle is written at the latest with the last tick of a cycle (R146). -/
def State.tickWord (s : State) : State :=
  let named : Bool := match s.saf.tword with
    | some w => w.1 = s.dev.cycle + 1
    | none => false
  if s.mtick = 19 && !named then s.writeWord (s.dev.cycle + 1) else s

/-- What falls due at a management tick (R24). -/
def State.tickActs (s : State) : State :=
  ((((((s.stateTick).swapTick).tickWord).keysReload).emcyDrain 0).emcyDrain 1)

/-- MANAGEMENT_TICK (R23). -/
def execManagementTick (s : State) : Result :=
  if !s.runsClocks then .next s
  else
    .next (s.reachTb4 ((s.tb4ns / 2500000 + 1) * 2500000)).tickActs

end Sys2Proof.Machine
end

