-- ==== Sys2Proof/Machine/Dispatch.lean ====
section
/-!
DEFINITION. One arm per command: a direct call of its meaning.
-/
namespace Sys2Proof.Machine

/-- The effect of a command on everything but the queue of waiting commands. -/
def exec (i : Instr) (s : State) : Host.Outcome State Fault Refusal :=
  match i with
  | .cycleBoundary => Sys2Proof.Machine.execCycleBoundary s
  | .managementTick => Sys2Proof.Machine.execManagementTick s
  | .run role => Sys2Proof.Machine.execRun role s
  | .listen role => Sys2Proof.Machine.execListen role s
  | .dormant role => Sys2Proof.Machine.execDormant role s
  | .swap role => Sys2Proof.Machine.execSwap role s
  | .restart role x => Sys2Proof.Machine.execRestart role x s
  | .standbyModeWrite role v => Sys2Proof.Machine.execStandbyModeWrite role v s
  | .vinValid mv vbat x => Sys2Proof.Machine.execVinValid mv vbat x s
  | .dormantWakeDelayExpiry x => Sys2Proof.Machine.execDormantWakeDelayExpiry x s
  | .wakeUpCall addr crcOk x => Sys2Proof.Machine.execWakeUpCall addr crcOk x s
  | .watchdogExpiry stopsCore x => Sys2Proof.Machine.execWatchdogExpiry stopsCore x s
  | .enableWrite from' k v => Sys2Proof.Machine.execEnableWrite from' k v s
  | .blockStartComplete k => Sys2Proof.Machine.execBlockStartComplete k s
  | .quiesceComplete k => Sys2Proof.Machine.execQuiesceComplete k s
  | .registerWrite b addr v => Sys2Proof.Machine.execRegisterWrite b addr v s
  | .biasShort mon => Sys2Proof.Machine.execBiasShort mon s
  | .biasOpen mon ma => Sys2Proof.Machine.execBiasOpen mon ma s
  | .biasRetry mon => Sys2Proof.Machine.execBiasRetry mon s
  | .chainReady q => Sys2Proof.Machine.execChainReady q s
  | .channelEnable b c w => Sys2Proof.Machine.execChannelEnable b c w s
  | .channelStart c => Sys2Proof.Machine.execChannelStart c s
  | .channelDisable b c w => Sys2Proof.Machine.execChannelDisable b c w s
  | .stagedWordWrite b c reg w => Sys2Proof.Machine.execStagedWordWrite b c reg w s
  | .baseBoundary c sums => Sys2Proof.Machine.execBaseBoundary c sums s
  | .channelLockWrite b c lock half => Sys2Proof.Machine.execChannelLockWrite b c lock half s
  | .slip b c => Sys2Proof.Machine.execSlip b c s
  | .cycAdj b c n => Sys2Proof.Machine.execCycAdj b c n s
  | .locktPreset b c w => Sys2Proof.Machine.execLocktPreset b c w s
  | .acqSubmit b w => Sys2Proof.Machine.execAcqSubmit b w s
  | .acqSnapshotEnd => Sys2Proof.Machine.execAcqSnapshotEnd s
  | .acqProcessingEnd p => Sys2Proof.Machine.execAcqProcessingEnd p s
  | .acqResultWrite => Sys2Proof.Machine.execAcqResultWrite s
  | .latchEdge => Sys2Proof.Machine.execLatchEdge s
  | .latchTableComplete => Sys2Proof.Machine.execLatchTableComplete s
  | .latchRelease b w => Sys2Proof.Machine.execLatchRelease b w s
  | .tb0SecondBoundary sol rtk nav => Sys2Proof.Machine.execTb0SecondBoundary sol rtk nav s
  | .burstChainPowerUp => Sys2Proof.Machine.execBurstChainPowerUp s
  | .burstStart => Sys2Proof.Machine.execBurstStart s
  | .burstEnd => Sys2Proof.Machine.execBurstEnd s
  | .selfSurveyStart role => Sys2Proof.Machine.execSelfSurveyStart role s
  | .selfSurveyAbort role => Sys2Proof.Machine.execSelfSurveyAbort role s
  | .selfSurveyAdopt role => Sys2Proof.Machine.execSelfSurveyAdopt role s
  | .stationPositionWrite role sub v => Sys2Proof.Machine.execStationPositionWrite role sub v s
  | .mismatchAcknowledge role => Sys2Proof.Machine.execMismatchAcknowledge role s
  | .teaselVerdict e => Sys2Proof.Machine.execTeaselVerdict e s
  | .verdictDeadline => Sys2Proof.Machine.execVerdictDeadline s
  | .staleVerdict => Sys2Proof.Machine.execStaleVerdict s
  | .ntripResponse code => Sys2Proof.Machine.execNtripResponse code s
  | .ntripConnectionLost => Sys2Proof.Machine.execNtripConnectionLost s
  | .ntripBackoffExpiry => Sys2Proof.Machine.execNtripBackoffExpiry s
  | .tcpClientConnect id => Sys2Proof.Machine.execTcpClientConnect id s
  | .baselineWrite role sub v => Sys2Proof.Machine.execBaselineWrite role sub v s
  | .baselineSurveyStart role => Sys2Proof.Machine.execBaselineSurveyStart role s
  | .baselineSurveyAbort role => Sys2Proof.Machine.execBaselineSurveyAbort role s
  | .baselineSurveyAdopt role => Sys2Proof.Machine.execBaselineSurveyAdopt role s
  | .teaselModeWrite role v => Sys2Proof.Machine.execTeaselModeWrite role v s
  | .mapValidationEnd => Sys2Proof.Machine.execMapValidationEnd s
  | .mapStoreCopyComplete => Sys2Proof.Machine.execMapStoreCopyComplete s
  | .request vendor w cells => Sys2Proof.Machine.execRequest vendor w cells s
  | .releaseCells vendor w => Sys2Proof.Machine.execReleaseCells vendor w s
  | .release vendor w => Sys2Proof.Machine.execRelease vendor w s
  | .freeze vendor w => Sys2Proof.Machine.execFreeze vendor w s
  | .thaw vendor w => Sys2Proof.Machine.execThaw vendor w s
  | .releaseMember vendor w => Sys2Proof.Machine.execReleaseMember vendor w s
  | .restore vendor w cells => Sys2Proof.Machine.execRestore vendor w cells s
  | .markResyncDiscard vendor w => Sys2Proof.Machine.execMarkResyncDiscard vendor w s
  | .vetchResultWrite vendor => Sys2Proof.Machine.execVetchResultWrite vendor s
  | .overdueScan => Sys2Proof.Machine.execOverdueScan s
  | .agedScan => Sys2Proof.Machine.execAgedScan s
  | .tabIdxLatch b idx => Sys2Proof.Machine.execTabIdxLatch b idx s
  | .join f nonce mapId => Sys2Proof.Machine.execJoin f nonce mapId s
  | .joiningTimeout m => Sys2Proof.Machine.execJoiningTimeout m s
  | .report f slot r => Sys2Proof.Machine.execReport f slot r s
  | .minislotEnd m => Sys2Proof.Machine.execMinislotEnd m s
  | .retire role m => Sys2Proof.Machine.execRetire role m s
  | .reinstate role m => Sys2Proof.Machine.execReinstate role m s
  | .releaseFrozen role m => Sys2Proof.Machine.execReleaseFrozen role m s
  | .roleChangeRequest role m v => Sys2Proof.Machine.execRoleChangeRequest role m v s
  | .roleChangeTimeout m => Sys2Proof.Machine.execRoleChangeTimeout m s
  | .create c => Sys2Proof.Machine.execCreate c s
  | .allot c => Sys2Proof.Machine.execAllot c s
  | .withdraw c => Sys2Proof.Machine.execWithdraw c s
  | .cancel c => Sys2Proof.Machine.execCancel c s
  | .delete c => Sys2Proof.Machine.execDelete c s
  | .setPrio c => Sys2Proof.Machine.execSetPrio c s
  | .setRole c => Sys2Proof.Machine.execSetRole c s
  | .tfcSubmit c rec => Sys2Proof.Machine.execTfcSubmit c rec s
  | .taskDeadline id => Sys2Proof.Machine.execTaskDeadline id s
  | .allotmentTick => Sys2Proof.Machine.execAllotmentTick s
  | .resyncEvent => Sys2Proof.Machine.execResyncEvent s
  | .silentWithdrawTimeout m => Sys2Proof.Machine.execSilentWithdrawTimeout m s
  | .tfcAckDeadline i1 => Sys2Proof.Machine.execTfcAckDeadline i1 s
  | .tfcExecuteTime i1 => Sys2Proof.Machine.execTfcExecuteTime i1 s
  | .tfcRevertTime i1 => Sys2Proof.Machine.execTfcRevertTime i1 s
  | .tfcFreeTimeout i1 => Sys2Proof.Machine.execTfcFreeTimeout i1 s
  | .lanePeriod outs badWords stuck e => Sys2Proof.Machine.execLanePeriod outs badWords stuck e s
  | .degradedTimeLimit => Sys2Proof.Machine.execDegradedTimeLimit s
  | .keepaliveTimeout => Sys2Proof.Machine.execKeepaliveTimeout s
  | .stopOutTestPulse b ok => Sys2Proof.Machine.execStopOutTestPulse b ok s
  | .permitGateClose => Sys2Proof.Machine.execPermitGateClose s
  | .permitLoopback arrives mic same => Sys2Proof.Machine.execPermitLoopback arrives mic same s
  | .estopTestPulse b high low followed => Sys2Proof.Machine.execEstopTestPulse b high low followed s
  | .estopFilterExpiry b run => Sys2Proof.Machine.execEstopFilterExpiry b run s
  | .estopUnstable b => Sys2Proof.Machine.execEstopUnstable b s
  | .estopStable b => Sys2Proof.Machine.execEstopStable b s
  | .discrepancyTimeout => Sys2Proof.Machine.execDiscrepancyTimeout s
  | .sf1Stop role reply => Sys2Proof.Machine.execSf1Stop role reply s
  | .sf1Reset role => Sys2Proof.Machine.execSf1Reset role s
  | .zoneStop role zone reply => Sys2Proof.Machine.execZoneStop role zone reply s
  | .zoneReset role zone => Sys2Proof.Machine.execZoneReset role zone s
  | .sf4Reset role => Sys2Proof.Machine.execSf4Reset role s
  | .safCfgCommit b agree => Sys2Proof.Machine.execSafCfgCommit b agree s
  | .permitWindowStart w bufferOk => Sys2Proof.Machine.execPermitWindowStart w bufferOk s
  | .listenEnd frb rnd level mean bufferOk => Sys2Proof.Machine.execListenEnd frb rnd level mean bufferOk s
  | .listenRetry => Sys2Proof.Machine.execListenRetry s
  | .dataSlotStart slot => Sys2Proof.Machine.execDataSlotStart slot s
  | .frameTxEnd frb => Sys2Proof.Machine.execFrameTxEnd frb s
  | .cowslipWindowStart => Sys2Proof.Machine.execCowslipWindowStart s
  | .txDescriptor frb w0 w1 => Sys2Proof.Machine.execTxDescriptor frb w0 w1 s
  | .launchTime frb => Sys2Proof.Machine.execLaunchTime frb s
  | .stopFrameEnd bufferOk => Sys2Proof.Machine.execStopFrameEnd bufferOk s
  | .radioConfigWrite role idx sub v => Sys2Proof.Machine.execRadioConfigWrite role idx sub v s
  | .uplinkRequestItem f first seg => Sys2Proof.Machine.execUplinkRequestItem f first seg s
  | .uplinkRestoreItem f first seg => Sys2Proof.Machine.execUplinkRestoreItem f first seg s
  | .uplinkReleaseItem f first corr => Sys2Proof.Machine.execUplinkReleaseItem f first corr s
  | .roleAck f first role => Sys2Proof.Machine.execRoleAck f first role s
  | .requestSegmentTimeout m tag => Sys2Proof.Machine.execRequestSegmentTimeout m tag s
  | .itemRepeat => Sys2Proof.Machine.execItemRepeat s
  | .nodeRendezvous n => Sys2Proof.Machine.execNodeRendezvous n s
  | .nodeAck n fcnt form mic status nclk => Sys2Proof.Machine.execNodeAck n fcnt form mic status nclk s
  | .nodeRecoveryTimeout n => Sys2Proof.Machine.execNodeRecoveryTimeout n s
  | .nodeScheduleWrite role n sub v => Sys2Proof.Machine.execNodeScheduleWrite role n sub v s
  | .standbyHeardPermit unit fcnt mic stopFrame w repoch => Sys2Proof.Machine.execStandbyHeardPermit unit fcnt mic stopFrame w repoch s
  | .sourceMeasurement n delta accuracy => Sys2Proof.Machine.execSourceMeasurement n delta accuracy s
  | .sourceLost n => Sys2Proof.Machine.execSourceLost n s
  | .stepCommand role n v => Sys2Proof.Machine.execStepCommand role n v s
  | .stepArm b n hi => Sys2Proof.Machine.execStepArm b n hi s
  | .stepApply n => Sys2Proof.Machine.execStepApply n s
  | .slewWrite b n v => Sys2Proof.Machine.execSlewWrite b n v s
  | .tbNsRead b n => Sys2Proof.Machine.execTbNsRead b n s
  | .timeValidityChange n => Sys2Proof.Machine.execTimeValidityChange n s
  | .ppsPulse p => Sys2Proof.Machine.execPpsPulse p s
  | .evtCapture i1 rising => Sys2Proof.Machine.execEvtCapture i1 rising s
  | .leapSecondApply => Sys2Proof.Machine.execLeapSecondApply s
  | .fbcLoad b => Sys2Proof.Machine.execFbcLoad b s
  | .clockFailure stopped x => Sys2Proof.Machine.execClockFailure stopped x s
  | .heartbeatSend => Sys2Proof.Machine.execHeartbeatSend s
  | .heartbeatReceived h => Sys2Proof.Machine.execHeartbeatReceived h s
  | .heartbeatMissed => Sys2Proof.Machine.execHeartbeatMissed s
  | .ptpSyncInterval d => Sys2Proof.Machine.execPtpSyncInterval d s
  | .ptpAnnounceInterval d => Sys2Proof.Machine.execPtpAnnounceInterval d s
  | .ptpMessageReceived d m => Sys2Proof.Machine.execPtpMessageReceived d m s
  | .pairHoldInChange asserted => Sys2Proof.Machine.execPairHoldInChange asserted s
  | .claimAssert => Sys2Proof.Machine.execClaimAssert s
  | .claimComplete => Sys2Proof.Machine.execClaimComplete s
  | .pairKaWrite b key => Sys2Proof.Machine.execPairKaWrite b key s
  | .pairKaTimeout => Sys2Proof.Machine.execPairKaTimeout s
  | .holdRelease b => Sys2Proof.Machine.execHoldRelease b s
  | .holdConflict => Sys2Proof.Machine.execHoldConflict s
  | .linkUp unit auth => Sys2Proof.Machine.execLinkUp unit auth s
  | .linkDown l0 l1 codeErr => Sys2Proof.Machine.execLinkDown l0 l1 codeErr s
  | .hello readable pos => Sys2Proof.Machine.execHello readable pos s
  | .deltaReceived d repoch tagOk => Sys2Proof.Machine.execDeltaReceived d repoch tagOk s
  | .deltaAckReceived seq => Sys2Proof.Machine.execDeltaAckReceived seq s
  | .snapshotRequest => Sys2Proof.Machine.execSnapshotRequest s
  | .snapshotPartReceived requested last part seq recs repoch tagOk => Sys2Proof.Machine.execSnapshotPartReceived requested last part seq recs repoch tagOk s
  | .phaseStream cells repoch tagOk => Sys2Proof.Machine.execPhaseStream cells repoch tagOk s
  | .mirrorWrite b idx => Sys2Proof.Machine.execMirrorWrite b idx s
  | .roleStaleReceived => Sys2Proof.Machine.execRoleStaleReceived s
  | .swapClaimTimeout => Sys2Proof.Machine.execSwapClaimTimeout s
  | .axisMove role n tgt => Sys2Proof.Machine.execAxisMove role n tgt s
  | .axisVel role n tgt => Sys2Proof.Machine.execAxisVel role n tgt s
  | .axisStop role n => Sys2Proof.Machine.execAxisStop role n s
  | .axisGear role n => Sys2Proof.Machine.execAxisGear role n s
  | .gearArm role n => Sys2Proof.Machine.execGearArm role n s
  | .axisHome role n method negative => Sys2Proof.Machine.execAxisHome role n method negative s
  | .axisLock role n => Sys2Proof.Machine.execAxisLock role n s
  | .axisUnlock role n => Sys2Proof.Machine.execAxisUnlock role n s
  | .clrflt role n => Sys2Proof.Machine.execClrflt role n s
  | .profileTick enc z menc => Sys2Proof.Machine.execProfileTick enc z menc s
  | .switchInputFiltered n i1 active glitches => Sys2Proof.Machine.execSwitchInputFiltered n i1 active glitches s
  | .inputUnstable n i1 => Sys2Proof.Machine.execInputUnstable n i1 s
  | .inputStable n i1 => Sys2Proof.Machine.execInputStable n i1 s
  | .encoderIllegalTransition n => Sys2Proof.Machine.execEncoderIllegalTransition n s
  | .stallDetect n => Sys2Proof.Machine.execStallDetect n s
  | .serviceModeWrite role n v => Sys2Proof.Machine.execServiceModeWrite role n v s
  | .sampleEdge enc menc late => Sys2Proof.Machine.execSampleEdge enc menc late s
  | .coefficientCommit role n => Sys2Proof.Machine.execCoefficientCommit role n s
  | .injStart role => Sys2Proof.Machine.execInjStart role s
  | .injStop role => Sys2Proof.Machine.execInjStop role s
  | .captureArm role => Sys2Proof.Machine.execCaptureArm role s
  | .captureAbort role => Sys2Proof.Machine.execCaptureAbort role s
  | .jdxSubmit core monitor d => Sys2Proof.Machine.execJdxSubmit core monitor d s
  | .jdxTrysub core monitor d => Sys2Proof.Machine.execJdxTrysub core monitor d s
  | .submitStallRelease core => Sys2Proof.Machine.execSubmitStallRelease core s
  | .jobDelivery core => Sys2Proof.Machine.execJobDelivery core s
  | .jdxGet core => Sys2Proof.Machine.execJdxGet core s
  | .jdxDone core => Sys2Proof.Machine.execJdxDone core s
  | .affinityWaitExpiry flow => Sys2Proof.Machine.execAffinityWaitExpiry flow s
  | .jobDue flow => Sys2Proof.Machine.execJobDue flow s
  | .jobTimeLimit core => Sys2Proof.Machine.execJobTimeLimit core s
  | .intAck b i1 mask same => Sys2Proof.Machine.execIntAck b i1 mask same s
  | .accessViolation b addr kind => Sys2Proof.Machine.execAccessViolation b addr kind s
  | .monitorTrap core => Sys2Proof.Machine.execMonitorTrap core s
  | .scrubInterval errs => Sys2Proof.Machine.execScrubInterval errs s
  | .portBRetry bank addr word again => Sys2Proof.Machine.execPortBRetry bank addr word again s
  | .bankPowerWrite b bank pwr => Sys2Proof.Machine.execBankPowerWrite b bank pwr s
  | .bankFillComplete bank => Sys2Proof.Machine.execBankFillComplete bank s
  | .secureWipeComplete => Sys2Proof.Machine.execSecureWipeComplete s
  | .queueWrite b q hi => Sys2Proof.Machine.execQueueWrite b q hi s
  | .queueRead b q => Sys2Proof.Machine.execQueueRead b q s
  | .tryRead b q => Sys2Proof.Machine.execTryRead b q s
  | .tryWrite b q hi => Sys2Proof.Machine.execTryWrite b q hi s
  | .queueHandover q => Sys2Proof.Machine.execQueueHandover q s
  | .stalledAccessComplete q => Sys2Proof.Machine.execStalledAccessComplete q s
  | .engineRecordWrite q ws => Sys2Proof.Machine.execEngineRecordWrite q ws s
  | .crcPolyWrite b c poly => Sys2Proof.Machine.execCrcPolyWrite b c poly s
  | .crcReset b c => Sys2Proof.Machine.execCrcReset b c s
  | .crcData b c width d => Sys2Proof.Machine.execCrcData b c width d s
  | .crcStart b c => Sys2Proof.Machine.execCrcStart b c s
  | .crcAbort b c pos => Sys2Proof.Machine.execCrcAbort b c pos s
  | .crcScanDone c busError => Sys2Proof.Machine.execCrcScanDone c busError s
  | .sdoInitiateDownload n cs idx sub d x => Sys2Proof.Machine.execSdoInitiateDownload n cs idx sub d x s
  | .sdoDownloadSegment n cs d x => Sys2Proof.Machine.execSdoDownloadSegment n cs d x s
  | .sdoInitiateUpload n cs idx sub x => Sys2Proof.Machine.execSdoInitiateUpload n cs idx sub x s
  | .sdoUploadSegment n cs => Sys2Proof.Machine.execSdoUploadSegment n cs s
  | .sdoSegmentTimeout n => Sys2Proof.Machine.execSdoSegmentTimeout n s
  | .openSession q => Sys2Proof.Machine.execOpenSession q s
  | .closeSession q => Sys2Proof.Machine.execCloseSession q s
  | .nzRead q x => Sys2Proof.Machine.execNzRead q x s
  | .nzWrite q x => Sys2Proof.Machine.execNzWrite q x s
  | .domainBegin q => Sys2Proof.Machine.execDomainBegin q s
  | .domainData q => Sys2Proof.Machine.execDomainData q s
  | .domainEnd q => Sys2Proof.Machine.execDomainEnd q s
  | .keepalive q => Sys2Proof.Machine.execKeepalive q s
  | .domainTransferTimeout slot => Sys2Proof.Machine.execDomainTransferTimeout slot s
  | .loginChallenge slot => Sys2Proof.Machine.execLoginChallenge slot s
  | .loginResponse slot v => Sys2Proof.Machine.execLoginResponse slot v s
  | .logout slot v => Sys2Proof.Machine.execLogout slot v s
  | .sessionIdleTimeout slot => Sys2Proof.Machine.execSessionIdleTimeout slot s
  | .nmtStartRemoteNode n node => Sys2Proof.Machine.execNmtStartRemoteNode n node s
  | .nmtStopRemoteNode n node => Sys2Proof.Machine.execNmtStopRemoteNode n node s
  | .nmtEnterPreOperational n node => Sys2Proof.Machine.execNmtEnterPreOperational n node s
  | .nmtResetCommunication n node => Sys2Proof.Machine.execNmtResetCommunication n node s
  | .nmtResetNode n node => Sys2Proof.Machine.execNmtResetNode n node s
  | .canHeartbeatProduce n => Sys2Proof.Machine.execCanHeartbeatProduce n s
  | .canHeartbeatLoss n i1 => Sys2Proof.Machine.execCanHeartbeatLoss n i1 s
  | .tpdoTransmit n i1 => Sys2Proof.Machine.execTpdoTransmit n i1 s
  | .rpdoReceived n i1 data x => Sys2Proof.Machine.execRpdoReceived n i1 data x s
  | .canErrorStateChange n tec rec => Sys2Proof.Machine.execCanErrorStateChange n tec rec s
  | .restoreDefaults role v => Sys2Proof.Machine.execRestoreDefaults role v s
  | .keyLoad b slot dst aux => Sys2Proof.Machine.execKeyLoad b slot dst aux s
  | .keyClear b slot dst aux => Sys2Proof.Machine.execKeyClear b slot dst aux s
  | .keyDerive b slot dst aux => Sys2Proof.Machine.execKeyDerive b slot dst aux s
  | .keyEnc b slot dst aux => Sys2Proof.Machine.execKeyEnc b slot dst aux s
  | .keyDec b slot dst aux => Sys2Proof.Machine.execKeyDec b slot dst aux s
  | .keyMac b slot dst aux => Sys2Proof.Machine.execKeyMac b slot dst aux s
  | .keySign b slot dst aux => Sys2Proof.Machine.execKeySign b slot dst aux s
  | .keyEcdh b slot dst aux => Sys2Proof.Machine.execKeyEcdh b slot dst aux s
  | .keyWrap b slot dst aux => Sys2Proof.Machine.execKeyWrap b slot dst aux s
  | .keyOperationDone => Sys2Proof.Machine.execKeyOperationDone s
  | .keyWipe b => Sys2Proof.Machine.execKeyWipe b s
  | .keyImport role msg => Sys2Proof.Machine.execKeyImport role msg s
  | .siteKeyBlobWrite role blob => Sys2Proof.Machine.execSiteKeyBlobWrite role blob s
  | .groupKeyRenewal role => Sys2Proof.Machine.execGroupKeyRenewal role s
  | .enrolMember role v => Sys2Proof.Machine.execEnrolMember role v s
  | .enrolNode role v => Sys2Proof.Machine.execEnrolNode role v s
  | .removeEnrolment role v => Sys2Proof.Machine.execRemoveEnrolment role v s
  | .certificateWrite role sub v => Sys2Proof.Machine.execCertificateWrite role sub v s
  | .lifeCycleCommand role v x => Sys2Proof.Machine.execLifeCycleCommand role v x s
  | .tamperFire source => Sys2Proof.Machine.execTamperFire source s
  | .tamperClear role v active => Sys2Proof.Machine.execTamperClear role v active s
  | .recordCommit b => Sys2Proof.Machine.execRecordCommit b s
  | .flush from' => Sys2Proof.Machine.execFlush from' s
  | .flushPeriodExpiry => Sys2Proof.Machine.execFlushPeriodExpiry s
  | .flushComplete fail => Sys2Proof.Machine.execFlushComplete fail s
  | .powerFail mv => Sys2Proof.Machine.execPowerFail mv s
  | .logTest role passes => Sys2Proof.Machine.execLogTest role passes s
  | .logRecordRead slot ecc => Sys2Proof.Machine.execLogRecordRead slot ecc s
  | .serviceFrame uart frame x => Sys2Proof.Machine.execServiceFrame uart frame x s
  | .imageCheckComplete norOk => Sys2Proof.Machine.execImageCheckComplete norOk s
  | .discardStoredImage role => Sys2Proof.Machine.execDiscardStoredImage role s
  | .activateMain role x => Sys2Proof.Machine.execActivateMain role x s
  | .activateGbb role => Sys2Proof.Machine.execActivateGbb role s
  | .activateRadio role => Sys2Proof.Machine.execActivateRadio role s
  | .activateCle role => Sys2Proof.Machine.execActivateCle role s
  | .microcodePauseStart => Sys2Proof.Machine.execMicrocodePauseStart s
  | .microcodePauseEnd => Sys2Proof.Machine.execMicrocodePauseEnd s
  | .confirm role v => Sys2Proof.Machine.execConfirm role v s
  | .confirmationWindowExpiry x => Sys2Proof.Machine.execConfirmationWindowExpiry x s
  | .pllLockTimeout x => Sys2Proof.Machine.execPllLockTimeout x s
  | .startUpRetry x => Sys2Proof.Machine.execStartUpRetry x s
  | .calibrationClear role v => Sys2Proof.Machine.execCalibrationClear role v s
  | .brownOut vbat => Sys2Proof.Machine.execBrownOut vbat s
  | .vstopLow mv => Sys2Proof.Machine.execVstopLow mv s
  | .voutOverload v18 => Sys2Proof.Machine.execVoutOverload v18 s
  | .powerDomainRequest b req => Sys2Proof.Machine.execPowerDomainRequest b req s
  | .powerDomainOn d => Sys2Proof.Machine.execPowerDomainOn d s
  | .ref10Qualified ppb => Sys2Proof.Machine.execRef10Qualified ppb s
  | .ref10Lost => Sys2Proof.Machine.execRef10Lost s
  | .ref10ReturnTimeout => Sys2Proof.Machine.execRef10ReturnTimeout s
  | .temperatureWarning t => Sys2Proof.Machine.execTemperatureWarning t s
  | .tapReset => Sys2Proof.Machine.execTapReset s
  | .extest cells => Sys2Proof.Machine.execExtest cells s
  | .idcode => Sys2Proof.Machine.execIdcode s
  | .samplePreload cells => Sys2Proof.Machine.execSamplePreload cells s
  | .clamp => Sys2Proof.Machine.execClamp s
  | .highz => Sys2Proof.Machine.execHighz s
  | .dtmcs reset hardReset => Sys2Proof.Machine.execDtmcs reset hardReset s
  | .dmi op addr data => Sys2Proof.Machine.execDmi op addr data s
  | .dbgChal => Sys2Proof.Machine.execDbgChal s
  | .dbgToken t tamper => Sys2Proof.Machine.execDbgToken t tamper s
  | .bypass => Sys2Proof.Machine.execBypass s
  | .hartHalt hart => Sys2Proof.Machine.execHartHalt hart s
  | .hartResume hart => Sys2Proof.Machine.execHartResume hart s
  | .singleStep hart => Sys2Proof.Machine.execSingleStep hart s
  | .abstractCommand hart transfer write postexec reg v => Sys2Proof.Machine.execAbstractCommand hart transfer write postexec reg v s
  | .systemBusAccess write addr v => Sys2Proof.Machine.execSystemBusAccess write addr v s
  | .triggerHit core addr kind => Sys2Proof.Machine.execTriggerHit core addr kind s
  | .debugArm role v => Sys2Proof.Machine.execDebugArm role v s
  | .debugArmExpiry => Sys2Proof.Machine.execDebugArmExpiry s
  | .servicePortConnectionOpen usb => Sys2Proof.Machine.execServicePortConnectionOpen usb s
  | .servicePortConnectionClose => Sys2Proof.Machine.execServicePortConnectionClose s
  | .canHeartbeatReceived n node => Sys2Proof.Machine.execCanHeartbeatReceived n node s
  | .powerFailCleared mv => Sys2Proof.Machine.execPowerFailCleared mv s
  | .vstopRestored mv => Sys2Proof.Machine.execVstopRestored mv s
  | .vbatLoss vbat => Sys2Proof.Machine.execVbatLoss vbat s
  | .pllSlewComplete => Sys2Proof.Machine.execPllSlewComplete s
  | .slewComplete n => Sys2Proof.Machine.execSlewComplete n s
  | .ptpDelayReqInterval d => Sys2Proof.Machine.execPtpDelayReqInterval d s
  | .rxFrameFcsFailed port => Sys2Proof.Machine.execRxFrameFcsFailed port s
  | .mrxRetune us => Sys2Proof.Machine.execMrxRetune us s

end Sys2Proof.Machine
end

