-- ==== Sys2Proof/Safety.lean ====
section
/-!
DEFINITION. The terms claims use: that a command completes, the conditions on a state that several claims share, the parts
of the state with those each command may change, and the state outside some of them.
-/
namespace Sys2Proof.Machine

/-- The command completes: it answers a next state, of which `P` holds. -/
def Runs (c : Instr) (s : State) (P : State → Prop) : Prop := ∃ t, exec c s = .next t ∧ P t

/-- State commands are taken: the dictionary answers, an Engineer asks, no transition is in progress, and Start-up is over
(R24, R30, R36). -/
def State.takesCommands (s : State) (role : Role) : Prop :=
  s.start.answers = true ∧ s.start.loader = false ∧ Role.engineer.rank ≤ role.rank ∧ s.dev.target = none ∧
    s.dev.dstate ≠ .startUp

/-- The CRE takes an operation: it is ON, fewer than 1,024 operations are in flight, and the header word has a valid MARK
(R168, R169, R171). -/
def State.creTakes (s : State) (w : Dword) : Prop :=
  s.blk.cre.st = .on ∧ s.cre.results.length < 1024 ∧ (VHeader.ofWord w).mark = 0x29

/-- A frame that arrives at a CAN channel reaches the node (R510, R513, R516). -/
def State.canTakes (s : State) (n : Fin 2) : Bool :=
  s.canUp n && !s.start.loader && !s.canFull n && s.start.answers

/-- A datagram reaches the dictionary, which answers on a MAC that is ON (R517, R518, R604). -/
def State.nzReaches (s : State) (q : NzReq) : Bool :=
  s.served && !s.start.loader && decide ((if q.eth1 then s.blk.eth1.st else s.blk.eth0.st) = .on) && decide (q.version = 1)

/-- While debug is not enabled the debug module holds no hart halted and no trigger is armed (R654). -/
def State.debugQuiet (s : State) : Prop :=
  s.dbg.enabled = false → ∀ n : Fin 17, s.dbg.hart[n].halted = false ∧ ∀ i : Fin 12, s.dbg.hart[n].trig[i] = {}

/-- The job is ready and waits for the core that last served its flow (R460). -/
def JobPlace.waits : JobPlace → Bool
  | .ready _ true _ => true
  | _ => false

/-- The parts of the state: one for each field of `State`. -/
inductive Part where
  | pending | dev | blk | grf | gbb | corr | tsl | cre | fleet | saf | fra | frb | frames | tim | pair | mot | cores | mem | ques | dict | sec | evr | upd | start | pwr | dbg | out | ans | free
  deriving DecidableEq, Repr

/-- The parts of `V` are all among those of `W`. -/
def Part.within (V W : List Part) : Bool := V.all fun p => W.contains p

/-- The state with every part named by `W` put back to its value at reset. Two states with the same outside differ, if at
all, in parts named by `W`. -/
def State.outside (W : List Part) (s : State) : State where
  pending := if W.contains .pending then [] else s.pending
  dev := if W.contains .dev then {} else s.dev
  blk := if W.contains .blk then {} else s.blk
  grf := if W.contains .grf then {} else s.grf
  gbb := if W.contains .gbb then {} else s.gbb
  corr := if W.contains .corr then {} else s.corr
  tsl := if W.contains .tsl then {} else s.tsl
  cre := if W.contains .cre then {} else s.cre
  fleet := if W.contains .fleet then {} else s.fleet
  saf := if W.contains .saf then {} else s.saf
  fra := if W.contains .fra then {} else s.fra
  frb := if W.contains .frb then {} else s.frb
  frames := if W.contains .frames then {} else s.frames
  tim := if W.contains .tim then {} else s.tim
  pair := if W.contains .pair then {} else s.pair
  mot := if W.contains .mot then {} else s.mot
  cores := if W.contains .cores then {} else s.cores
  mem := if W.contains .mem then {} else s.mem
  ques := if W.contains .ques then {} else s.ques
  dict := if W.contains .dict then {} else s.dict
  sec := if W.contains .sec then {} else s.sec
  evr := if W.contains .evr then {} else s.evr
  upd := if W.contains .upd then {} else s.upd
  start := if W.contains .start then {} else s.start
  pwr := if W.contains .pwr then {} else s.pwr
  dbg := if W.contains .dbg then {} else s.dbg
  out := if W.contains .out then [] else s.out
  ans := if W.contains .ans then {} else s.ans
  free := if W.contains .free then 0 else s.free

/-- Every part but the queue of waiting commands. -/
def Part.block : List Part :=
  [.dev, .blk, .grf, .gbb, .corr, .tsl, .cre, .fleet, .saf, .fra, .frb, .frames, .tim, .pair, .mot, .cores, .mem, .ques,
   .dict, .sec, .evr, .upd, .start, .pwr, .dbg, .out, .ans, .free]

/-- The parts of the state that a command may change. -/
def touches : Instr → List Part
  | .biasRetry .. | .chainReady .. | .burstChainPowerUp => [.grf]
  | .ntripConnectionLost => [.corr]
  | .mapStoreCopyComplete | .agedScan => [.cre]
  | .keepaliveTimeout | .estopFilterExpiry .. | .estopStable .. => [.saf]
  | .requestSegmentTimeout .. | .itemRepeat => [.frames]
  | .stepArm .. | .slewWrite .. => [.tim]
  | .snapshotRequest => [.out]
  | .encoderIllegalTransition .. | .stallDetect .. => [.mot]
  | .jdxSubmit .. | .jdxTrysub .. | .submitStallRelease .. | .jobDelivery .. | .jdxGet .. | .jdxDone .. => [.cores]
  | .portBRetry .. | .bankFillComplete .. | .secureWipeComplete => [.mem]
  | .imageCheckComplete .. => [.upd]
  | .ref10Qualified .. | .vstopRestored .. | .pllSlewComplete => [.pwr]
  | .tapReset | .extest .. | .idcode | .samplePreload .. | .clamp | .highz | .dtmcs .. | .bypass | .singleStep .. =>
    [.dbg]
  | .selfSurveyStart .. | .selfSurveyAbort .. | .mismatchAcknowledge .. | .tcpClientConnect .. => [.corr, .ans]
  | .baselineSurveyStart .. | .baselineSurveyAbort .. => [.tsl, .ans]
  | .sourceLost .. => [.tim, .cores]
  | .timeValidityChange .. | .leapSecondApply | .fbcLoad .. | .flushPeriodExpiry | .slewComplete .. => [.tim, .evr]
  | .ptpSyncInterval .. | .ptpAnnounceInterval .. | .ptpDelayReqInterval .. => [.tim, .out]
  | .axisMove .. | .axisVel .. | .axisStop .. | .axisGear .. | .gearArm .. | .axisHome .. | .axisLock .. |
    .axisUnlock .. | .clrflt .. | .serviceModeWrite .. | .coefficientCommit .. | .injStart .. | .injStop .. |
    .captureArm .. | .captureAbort .. => [.mot, .ans]
  | .crcScanDone .. => [.cores, .ques]
  | .logout .. | .restoreDefaults .. => [.dict, .ans]
  | .nmtStartRemoteNode .. | .nmtStopRemoteNode .. | .nmtEnterPreOperational .. | .canHeartbeatReceived .. =>
    [.dict, .out]
  | .flushComplete .. => [.cores, .evr]
  | .discardStoredImage .. | .activateGbb .. | .activateRadio .. | .activateCle .. => [.upd, .ans]
  | .dbgChal | .debugArm .. => [.dbg, .ans]
  | .hartHalt .. | .hartResume .. | .triggerHit .. => [.cores, .dbg]
  | .servicePortConnectionOpen .. | .servicePortConnectionClose => [.dict, .upd]
  | .powerFailCleared .. => [.evr, .pwr]
  | .rxFrameFcsFailed .. => [.fra, .frb]
  | .channelStart .. | .acqSnapshotEnd | .burstStart | .stepApply .. => [.gbb, .tim, .evr]
  | .acqProcessingEnd .. | .acqResultWrite => [.gbb, .cores, .ques]
  | .ntripResponse .. => [.corr, .evr, .out]
  | .vetchResultWrite .. => [.cre, .cores, .ques]
  | .roleChangeRequest .. => [.fleet, .frames, .ans]
  | .resyncEvent => [.fleet, .cores, .ques]
  | .tfcExecuteTime .. | .tfcRevertTime .. | .tfcFreeTimeout .. => [.fleet, .tim, .evr]
  | .estopTestPulse .. | .estopUnstable .. => [.saf, .evr, .out]
  | .sf1Stop .. | .sf1Reset .. | .zoneStop .. | .zoneReset .. | .sf4Reset .. => [.saf, .out, .ans]
  | .nodeRendezvous .. => [.fra, .frb, .frames]
  | .nodeRecoveryTimeout .. => [.frames, .evr, .out]
  | .nodeScheduleWrite .. => [.frames, .dict, .ans]
  | .standbyHeardPermit .. => [.saf, .frames, .pair]
  | .stepCommand .. => [.tim, .cores, .ans]
  | .ppsPulse .. => [.tim, .evr, .out]
  | .evtCapture .. => [.tim, .cores, .ques]
  | .claimAssert => [.tim, .pair, .evr]
  | .inputUnstable .. | .inputStable .. => [.mot, .evr, .out]
  | .affinityWaitExpiry .. | .jobDue .. => [.tim, .cores, .evr]
  | .stalledAccessComplete .. | .engineRecordWrite .. => [.cores, .ques, .ans]
  | .openSession .. => [.dict, .out, .ans]
  | .loginChallenge .. => [.dict, .ans, .free]
  | .nmtResetCommunication .. | .nmtResetNode .. => [.dict, .upd, .out]
  | .canErrorStateChange .. => [.dict, .evr, .out]
  | .siteKeyBlobWrite .. => [.dev, .sec, .ans]
  | .logTest .. => [.evr, .out, .ans]
  | .confirm .. => [.dict, .upd, .ans]
  | .voutOverload .. | .ref10Lost => [.evr, .pwr, .out]
  | .ref10ReturnTimeout => [.tim, .evr, .pwr]
  | .temperatureWarning .. => [.sec, .evr, .out]
  | .abstractCommand .. => [.dbg, .ans, .free]
  | .debugArmExpiry => [.tim, .evr, .dbg]
  | .mrxRetune .. => [.frb, .tim, .evr]
  | .biasShort .. | .biasOpen .. => [.grf, .cores, .evr, .out]
  | .latchEdge => [.gbb, .tim, .evr, .free]
  | .latchTableComplete => [.gbb, .corr, .cores, .mem]
  | .ntripBackoffExpiry => [.corr, .tim, .evr, .out]
  | .reinstate .. | .create .. | .tfcSubmit .. => [.fleet, .cores, .ques, .ans]
  | .allotmentTick => [.fleet, .frames, .cores, .ques]
  | .permitGateClose => [.saf, .fra, .tim, .evr]
  | .discrepancyTimeout => [.saf, .tim, .evr, .out]
  | .safCfgCommit .. => [.saf, .cores, .evr, .out]
  | .nodeAck .. => [.fleet, .frames, .evr, .out]
  | .sourceMeasurement .. | .ptpMessageReceived .. => [.tim, .cores, .evr, .out]
  | .heartbeatSend | .holdConflict => [.tim, .pair, .evr, .out]
  | .linkUp .. => [.dev, .pair, .evr, .out]
  | .switchInputFiltered .. => [.mot, .cores, .evr, .out]
  | .intAck .. | .recordCommit .. | .flush .. => [.cores, .evr, .out, .ans]
  | .monitorTrap .. => [.cores, .dict, .evr, .out]
  | .scrubInterval .. => [.tim, .mem, .evr, .out]
  | .queueHandover .. => [.tim, .cores, .ques, .evr]
  | .domainTransferTimeout .. | .sessionIdleTimeout .. => [.tim, .dict, .evr, .upd]
  | .loginResponse .. => [.dict, .evr, .out, .ans]
  | .canHeartbeatProduce .. | .canHeartbeatLoss .. | .tpdoTransmit .. => [.tim, .dict, .evr, .out]
  | .powerFail .. => [.cores, .evr, .pwr, .out]
  | .logRecordRead .. => [.cores, .dict, .evr, .ans]
  | .vstopLow .. => [.saf, .evr, .pwr, .out]
  | .channelEnable .. | .channelDisable .. | .stagedWordWrite .. | .channelLockWrite .. | .slip .. | .cycAdj .. |
    .locktPreset .. | .acqSubmit .. | .latchRelease .. => [.gbb, .cores, .evr, .out, .ans]
  | .baseBoundary .. => [.gbb, .tim, .cores, .ques, .evr]
  | .selfSurveyAdopt .. | .stationPositionWrite .. => [.corr, .dict, .evr, .out, .ans]
  | .staleVerdict => [.tsl, .tim, .dict, .evr, .out]
  | .baselineWrite .. | .baselineSurveyAdopt .. | .teaselModeWrite .. => [.tsl, .dict, .evr, .out, .ans]
  | .mapValidationEnd => [.dev, .cre, .mem, .evr, .out]
  | .overdueScan => [.cre, .tim, .cores, .evr, .out]
  | .tabIdxLatch .. => [.cre, .cores, .evr, .out, .ans]
  | .setRole .. => [.fleet, .frames, .cores, .ques, .ans]
  | .tbNsRead .. => [.tim, .cores, .evr, .out, .ans]
  | .pairKaWrite .. => [.pair, .cores, .evr, .out, .ans]
  | .linkDown .. | .hello .. => [.dev, .cre, .pair, .evr, .out]
  | .phaseStream .. => [.dev, .gbb, .pair, .evr, .out]
  | .swapClaimTimeout => [.dev, .tim, .pair, .evr, .out]
  | .jobTimeLimit .. => [.tim, .cores, .dict, .evr, .out]
  | .accessViolation .. => [.cores, .dict, .evr, .out, .ans]
  | .bankPowerWrite .. => [.cores, .mem, .evr, .out, .ans]
  | .queueWrite .. | .queueRead .. | .tryRead .. | .tryWrite .. | .crcPolyWrite .. | .crcReset .. | .crcData .. |
    .crcStart .. | .crcAbort .. => [.cores, .ques, .evr, .out, .ans]
  | .keyLoad .. | .keyClear .. | .keyDerive .. | .keyEnc .. | .keyDec .. | .keyMac .. | .keySign .. | .keyEcdh .. |
    .keyWrap .. | .keyWipe .. => [.cores, .sec, .evr, .out, .ans]
  | .enrolNode .. => [.frames, .sec, .evr, .out, .ans]
  | .certificateWrite .. | .tamperClear .. => [.dev, .sec, .evr, .out, .ans]
  | .burstEnd => [.grf, .gbb, .tim, .cores, .ques, .evr]
  | .markResyncDiscard .. => [.cre, .cores, .ques, .evr, .out, .ans]
  | .joiningTimeout .. => [.cre, .fleet, .tim, .cores, .ques, .evr]
  | .roleChangeTimeout .. | .taskDeadline .. | .silentWithdrawTimeout .. | .tfcAckDeadline .. =>
    [.fleet, .frames, .tim, .cores, .ques, .evr]
  | .delete .. | .setPrio .. => [.fleet, .cores, .ques, .evr, .out, .ans]
  | .cowslipWindowStart => [.fra, .frb, .frames, .tim, .evr, .out]
  | .mirrorWrite .. => [.cre, .pair, .cores, .evr, .out, .ans]
  | .sampleEdge .. => [.tim, .mot, .cores, .mem, .evr, .free]
  | .sdoSegmentTimeout .. => [.tim, .dict, .evr, .upd, .out, .ans]
  | .keyOperationDone => [.mem, .sec, .evr, .out, .ans, .free]
  | .keyImport .. => [.dev, .sec, .evr, .out, .ans, .free]
  | .removeEnrolment .. => [.fleet, .frames, .sec, .evr, .out, .ans]
  | .tamperFire .. => [.dev, .mem, .sec, .evr, .pwr, .out]
  | .microcodePauseStart => [.gbb, .fra, .frb, .tim, .evr, .upd]
  | .calibrationClear .. => [.corr, .tim, .dict, .evr, .out, .ans]
  | .vbatLoss .. => [.tim, .sec, .evr, .upd, .start, .pwr]
  | .teaselVerdict .. | .verdictDeadline => [.corr, .tsl, .saf, .tim, .dict, .evr, .out]
  | .request .. | .releaseCells .. | .release .. | .freeze .. | .thaw .. | .releaseMember .. | .restore .. =>
    [.cre, .frames, .cores, .ques, .evr, .out, .ans]
  | .releaseFrozen .. => [.cre, .fleet, .cores, .ques, .evr, .out, .ans]
  | .allot .. | .withdraw .. | .cancel .. => [.fleet, .frames, .cores, .ques, .evr, .out, .ans]
  | .groupKeyRenewal .. => [.frames, .tim, .sec, .evr, .out, .ans, .free]
  | .enrolMember .. => [.cre, .fleet, .frames, .sec, .evr, .out, .ans]
  | .powerDomainOn .. => [.grf, .gbb, .cre, .fra, .frb, .mot, .pwr]
  | .tb0SecondBoundary .. => [.gbb, .corr, .tsl, .tim, .cores, .evr, .start, .out]
  | .minislotEnd .. => [.cre, .fleet, .tim, .cores, .ques, .evr, .out, .ans]
  | .retire .. | .uplinkReleaseItem .. => [.cre, .fleet, .frames, .cores, .ques, .evr, .out, .ans]
  | .txDescriptor .. => [.fleet, .fra, .frb, .frames, .cores, .ques, .evr, .out]
  | .pairKaTimeout => [.saf, .fra, .frb, .frames, .tim, .pair, .evr, .out]
  | .profileTick .. => [.cre, .tim, .mot, .cores, .dict, .evr, .out, .ans]
  | .microcodePauseEnd => [.saf, .fra, .frb, .frames, .tim, .evr, .upd, .out]
  | .join .. => [.cre, .fleet, .frb, .frames, .cores, .ques, .evr, .out, .ans]
  | .stopOutTestPulse .. => [.dev, .saf, .fra, .frb, .frames, .pair, .dict, .evr, .out]
  | .listenRetry | .launchTime .. => [.fleet, .fra, .frb, .frames, .tim, .cores, .ques, .evr, .out]
  | .uplinkRequestItem .. | .uplinkRestoreItem .. | .roleAck .. =>
    [.cre, .fleet, .frames, .pair, .cores, .ques, .evr, .out, .ans]
  | .holdRelease .. => [.saf, .fra, .frb, .frames, .pair, .cores, .evr, .out, .ans]
  | .deltaAckReceived .. => [.fleet, .fra, .frb, .frames, .pair, .cores, .ques, .evr, .out]
  | .report .. => [.cre, .fleet, .frames, .pair, .cores, .ques, .sec, .evr, .out, .ans]
  | .degradedTimeLimit | .permitWindowStart .. => [.dev, .saf, .fra, .frb, .frames, .tim, .pair, .dict, .evr, .out]
  | .permitLoopback .. => [.dev, .tsl, .saf, .fra, .frb, .frames, .pair, .dict, .evr, .out]
  | .dataSlotStart .. => [.corr, .fleet, .fra, .frb, .frames, .tim, .cores, .ques, .evr, .out]
  | .standbyModeWrite .. => [.dev, .gbb, .corr, .tsl, .pair, .cores, .dict, .evr, .pwr, .out, .ans]
  | .heartbeatMissed => [.dev, .fleet, .fra, .frb, .frames, .tim, .pair, .cores, .ques, .evr, .out]
  | .blockStartComplete .. => [.blk, .corr, .tsl, .cre, .frb, .mot, .cores, .ques, .dict, .evr, .start, .out]
  | .powerDomainRequest .. => [.grf, .gbb, .cre, .fra, .frb, .mot, .cores, .mem, .evr, .pwr, .out, .ans]
  | .quiesceComplete .. => [.dev, .blk, .grf, .cre, .fra, .frb, .mot, .cores, .ques, .dict, .evr, .out, .ans]
  | .listenEnd .. => [.dev, .fleet, .saf, .fra, .frb, .frames, .tim, .pair, .cores, .ques, .dict, .evr, .out]
  | .dbgToken .. => [.dev, .gbb, .corr, .tsl, .cores, .mem, .dict, .sec, .evr, .pwr, .dbg, .out, .free]
  | .stopFrameEnd .. => [.dev, .saf, .fra, .frb, .frames, .tim, .pair, .cores, .ques, .dict, .evr, .upd, .start, .out]
  | .snapshotPartReceived .. =>
    [.dev, .cre, .fleet, .saf, .frames, .pair, .mot, .cores, .ques, .sec, .evr, .out, .ans, .free]
  | .frameTxEnd .. =>
    [.dev, .fleet, .saf, .fra, .frb, .frames, .tim, .pair, .cores, .ques, .dict, .evr, .upd, .start, .out]
  | .cycleBoundary =>
    [.dev, .cre, .fleet, .saf, .fra, .frb, .frames, .tim, .pair, .mot, .cores, .ques, .sec, .evr, .out, .ans, .free]
  | .claimComplete =>
    [.dev, .blk, .gbb, .corr, .tsl, .cre, .fleet, .frames, .tim, .pair, .mot, .cores, .ques, .dict, .evr, .pwr, .out]
  | .enableWrite .. | .radioConfigWrite .. =>
    [.dev, .blk, .gbb, .corr, .tsl, .cre, .saf, .fra, .frb, .frames, .pair, .mot, .cores, .ques, .dict, .evr, .out,
    .ans]
  | .pairHoldInChange .. =>
    [.dev, .blk, .gbb, .corr, .tsl, .cre, .fleet, .saf, .fra, .frb, .frames, .pair, .mot, .cores, .ques, .dict, .evr,
    .pwr, .out]
  | .registerWrite .. =>
    [.dev, .blk, .grf, .gbb, .corr, .tsl, .cre, .saf, .fra, .frb, .frames, .tim, .pair, .mot, .cores, .mem, .ques,
    .dict, .sec, .evr, .upd, .pwr, .out, .ans]
  | .brownOut .. =>
    [.dev, .blk, .grf, .gbb, .corr, .tsl, .cre, .fleet, .saf, .fra, .frb, .frames, .tim, .pair, .mot, .cores, .mem,
    .ques, .dict, .sec, .evr, .upd, .start, .pwr, .dbg]
  | .systemBusAccess .. =>
    [.dev, .blk, .grf, .gbb, .corr, .tsl, .cre, .saf, .fra, .frb, .frames, .tim, .pair, .mot, .cores, .mem, .ques,
    .dict, .sec, .evr, .upd, .pwr, .dbg, .out, .ans]
  | .dmi .. =>
    [.dev, .blk, .grf, .gbb, .corr, .tsl, .cre, .saf, .fra, .frb, .frames, .tim, .pair, .mot, .cores, .mem, .ques,
    .dict, .sec, .evr, .upd, .pwr, .dbg, .out, .ans, .free]
  | .vinValid .. | .dormantWakeDelayExpiry .. | .wakeUpCall .. | .clockFailure .. | .pllLockTimeout .. |
    .startUpRetry .. =>
    [.dev, .blk, .grf, .gbb, .corr, .tsl, .cre, .fleet, .saf, .fra, .frb, .frames, .tim, .pair, .mot, .cores, .mem,
    .ques, .dict, .sec, .evr, .upd, .start, .pwr, .dbg, .out, .free]
  | .managementTick | .run .. | .listen .. | .dormant .. | .swap .. | .restart .. | .watchdogExpiry .. |
    .lanePeriod .. | .heartbeatReceived .. | .deltaReceived .. | .roleStaleReceived | .sdoInitiateDownload .. |
    .sdoDownloadSegment .. | .sdoInitiateUpload .. | .sdoUploadSegment .. | .closeSession .. | .nzRead .. |
    .nzWrite .. | .domainBegin .. | .domainData .. | .domainEnd .. | .keepalive .. | .rpdoReceived .. |
    .lifeCycleCommand .. | .serviceFrame .. | .activateMain .. | .confirmationWindowExpiry .. => Part.block

/-- The command completes, and changes nothing but the parts named by `W`. -/
def ChangesOnly (c : Instr) (s : State) (W : List Part) : Prop := Runs c s fun t => t.outside W = s.outside W

end Sys2Proof.Machine
end

