-- ==== Sys2Proof/Certificates/Slice0/Obligations.lean ====
section
/-!
DEFINITION. Statements for the provers. `Runs c s P` says that exec of c on s answers a next state of which P holds;
`t.outside W = s.outside W` says that t differs from s in no part of the state but those named in W.
-/
open Sys2Proof Sys2Proof.Machine

/-! ### The machine as a whole -/

/-- A step takes the command at the front of the queue and runs it with the queue's rest. -/
def Obligations.StepRunsFront : Prop :=
  ∀ (c : Instr) (s : State), step { s with pending := c :: s.pending } = exec c s

/-- On an empty queue the block idles (the model's choice, log entry 1). -/
def Obligations.StepIdles : Prop :=
  ∀ s : State, s.pending = [] → step s = .next s

/-- No command touches the queue of waiting commands. -/
def Obligations.QueueUntouched : Prop :=
  ∀ (c : Instr) (s t : State), exec c s = .next t → t.pending = s.pending

/-- No command faults and none is refused: each answers a next state in every state. -/
def Obligations.EveryCommandCompletes : Prop :=
  ∀ (c : Instr) (s : State), Runs c s fun _ => True

/-- Every step keeps the canonical form of the byte memory: addresses rise strictly and no listed octet is 0. -/
def Obligations.StepKeepsMemoryForm : Prop :=
  ∀ s t : State, s.mem.wf = true → step s = .next t → t.mem.wf = true

/-- Reset has the canonical form, in Start-up, with cycle 0, no cause and nothing waiting. -/
def Obligations.ResetState : Prop :=
  State.reset.mem.wf = true ∧ State.reset.dev.dstate = .startUp ∧ State.reset.dev.cause = 0 ∧
    State.reset.dev.cycle = 0 ∧ State.reset.mtick = 0 ∧ State.reset.pending = [] ∧
    State.reset.blk = {} ∧ State.reset.saf.safe = false

/-- The life-cycle fuses (R547): every step leaves them alone, or blows the fuses of one row of the table, in *Listening*.
From Manufacturing DEPLOY; from Deployed, or from Service-Return with no debug since start-up, one return fuse while
fewer than 32 are blown; from any state but Decommissioned DECOM. -/
def Obligations.StepKeepsLifeCycleTable : Prop :=
  ∀ s t : State, step s = .next t →
    (t.sec.deploy = s.sec.deploy ∧ t.sec.decom = s.sec.decom ∧ t.sec.returns = s.sec.returns) ∨
    (s.dev.dstate = .listening ∧
      ((s.sec.lifeCycle = .manufacturing ∧
          t.sec.deploy = true ∧ t.sec.decom = s.sec.decom ∧ t.sec.returns = s.sec.returns) ∨
       ((s.sec.lifeCycle = .deployed ∨ (s.sec.lifeCycle = .serviceReturn ∧ s.sec.debugSeen = false)) ∧
          s.sec.returns < 32 ∧
          t.sec.deploy = s.sec.deploy ∧ t.sec.decom = s.sec.decom ∧ t.sec.returns = s.sec.returns + 1) ∨
       (s.sec.lifeCycle ≠ .decommissioned ∧
          t.sec.deploy = s.sec.deploy ∧ t.sec.decom = true ∧ t.sec.returns = s.sec.returns)))

/-- What a command that touches at most four parts of the state leaves unchanged: every other part. -/
def Obligations.FramesNarrow : Prop :=
  ∀ (c : Instr) (s : State), (touches c).length ≤ 4 → ChangesOnly c s (touches c)

/-- What a command that touches more than four parts of the state leaves unchanged: every other part, and the queue always. -/
def Obligations.FramesWide : Prop :=
  ∀ (c : Instr) (s : State), 4 < (touches c).length → ChangesOnly c s (touches c)

/-- R76, R160, R443: the commands that store a block of octets store it where their registers say, and no octet elsewhere: a latch table
at its place from the latch base on, a map that passes at the map base, a capture's sample at its next record of the bank. -/
def Obligations.StoredOctets : Prop :=
  ∀ s : State,
    (Runs .latchTableComplete s fun t => ∀ l, s.gbb.latched = some l →
      let a := s.gbb.latchBase.toNat + (if l.table then 0x5440 else 0)
      let d := l.tableBytes s.gbb.chans
      t.mem.read a d.length = d ∧ ∀ x, x < a ∨ a + d.length ≤ x → t.mem.get x = s.mem.get x) ∧
    (Runs .mapValidationEnd s fun t =>
      (∀ img, s.cre.store.validating = some img → mapCheck img = 0 →
        t.mem.read s.cre.mapBase.toNat img.length = img ∧
        ∀ x, x < s.cre.mapBase.toNat ∨ s.cre.mapBase.toNat + img.length ≤ x → t.mem.get x = s.mem.get x) ∧
      (∀ img, s.cre.store.validating = some img → mapCheck img ≠ 0 → t.mem = s.mem) ∧
      (s.cre.store.validating = none → t = s)) ∧
    (∀ enc menc late, Runs (.sampleEdge enc menc late) s fun t =>
      let a := State.captureSample.bankBase s.mot.cap.bank + 32 * s.mot.cap.next
      (s.blk.cle.st ≠ .on ∨ s.mot.cap.armed = false → t.mem = s.mem) ∧
      (∀ x, x < a ∨ a + 4 * s.mot.cap.sel.toList.length ≤ x → t.mem.get x = s.mem.get x))

/-! ### The device, its blocks and registers -/

/-- R17: the boundary that comes next lies at a multiple of 50 ms of full TB4, and the cycle that begins there has the
number of that multiple, modulo 2^32. Without running clocks nothing happens.

R23, R24: a management tick takes the clocks to the next multiple of 2.5 ms of TB4. In *Listening*, with no transition
in progress, the device state and its causes stay. -/
def Obligations.CycleAndTick : Prop :=
  (∀ s : State, Runs .cycleBoundary s fun t =>
     (s.runsClocks = true →
       s.boundaryMs % 50 = 0 ∧ t.dev.cycle = BitVec.ofNat 32 (s.boundaryMs / 50) ∧ t.dev.lastBoundary = s.boundaryMs ∧
       t.dev.dstate = s.dev.dstate ∧ t.dev.cause = s.dev.cause ∧ t.dev.target = s.dev.target) ∧
     (s.runsClocks = false → t = s)) ∧
  (∀ s : State, Runs .managementTick s fun t =>
     (s.runsClocks = false → t = s) ∧
     (s.runsClocks = true → s.start.input = none → s.pair.swapAsk = false → s.pair.swap = none → s.dev.target = none →
       s.dev.dstate = .listening →
       t.dev = s.dev ∧ t.tim = (s.reachTb4 ((s.tb4ns / 2500000 + 1) * 2500000)).tim))

/-- State commands that the table of R30 allows. RUN with COMMANDED the only cause, of a unit that is no member of a pair,
leads to *Run*; LISTEN and DORMANT start the way to their state, LISTEN with the cause COMMANDED; SWAP with an eligible
partner starts the way to the standby mode; RESTART, from any state but *Run*, starts the unit with cause RESTART.

R30: a state command that the table does not allow in the present state is answered DENIED and changes nothing else; one
received while a transition is in progress is answered BUSY; R13: a role below Engineer is answered DENIED.

R30: the standby mode set to Warm moves *Hot standby* to *Warm standby*, still eligible if eligible before; set to Hot it
moves *Warm standby* to *Hot standby*, not eligible. A value above 1 is out of range. -/
def Obligations.StateCommands : Prop :=
  (∀ (s : State) (role : Role), s.takesCommands role →
     (Runs (.run role) s fun t => s.dev.dstate = .listening → s.dev.cause &&& 0xBF = 0 → s.dev.paired = false →
       t.dev.dstate = .run ∧ t.dev.cause = 0 ∧ t.dev.target = none ∧ t.ans.status = .ok ∧ t.cre.recon = false) ∧
     (Runs (.listen role) s fun t =>
       s.dev.dstate = .run ∨ s.dev.dstate = .hotStandby ∨ s.dev.dstate = .warmStandby →
       (t.dev.target = some .listening ∨ t.dev.dstate = .listening) ∧ t.dev.cause = s.dev.cause ||| 0x40) ∧
     (Runs (.dormant role) s fun t =>
       s.dev.dstate = .listening ∨ s.dev.dstate = .hotStandby ∨ s.dev.dstate = .warmStandby ∨ s.dev.dstate = .run →
       t.dev.target = some .dormant ∨ t.dev.dstate = .dormant) ∧
     (Runs (.swap role) s fun t =>
       s.dev.dstate = .run → s.pair.paired = true → s.pair.link = true → s.pair.partner.eligible = true →
       t.dev.target = some s.standbyMode ∧ t.dev.dstate = .run ∧ t.cre.recon = true ∧ t.pair.swapAsk = true ∧
         t.ans.status = .ok) ∧
     (∀ x, Runs (.restart role x) s fun t => s.dev.dstate ≠ .run → t.start.cause = .restart)) ∧
  (∀ (s : State) (role : Role), s.start.answers = true → s.start.loader = false →
     (role.rank < Role.engineer.rank → ∀ c ∈ [Instr.run role, .listen role, .dormant role, .swap role],
       exec c s = .next (s.deny .role)) ∧
     (Role.engineer.rank ≤ role.rank → s.dev.target ≠ none →
       ∀ c ∈ [Instr.run role, .listen role, .dormant role, .swap role], exec c s = .next (s.answer .busy)) ∧
     (s.takesCommands role →
       (s.dev.dstate ≠ .listening ∨ s.dev.cause &&& 0xBF ≠ 0 → exec (.run role) s = .next (s.deny .state)) ∧
       (s.dev.dstate = .listening ∨ s.dev.dstate = .debugSession ∨ s.dev.dstate = .dormant →
         exec (.listen role) s = .next (s.deny .state)) ∧
       (s.dev.dstate = .debugSession ∨ s.dev.dstate = .dormant → exec (.dormant role) s = .next (s.deny .state)) ∧
       (s.dev.dstate ≠ .run ∨ s.pair.partner.eligible = false → exec (.swap role) s = .next (s.deny .state)))) ∧
  (∀ (s : State) (role : Role), Role.engineer.rank ≤ role.rank →
     (Runs (.standbyModeWrite role 1) s fun t => t.ans.status = .ok ∧ (s.dev.dstate = .hotStandby →
       t.dev.dstate = .warmStandby ∧ t.dev.eligible = s.dev.eligible)) ∧
     (Runs (.standbyModeWrite role 0) s fun t => t.ans.status = .ok ∧ (s.dev.dstate = .warmStandby →
       t.dev.dstate = .hotStandby ∧ t.dev.eligible = false)) ∧
     (∀ v, 1 < v → exec (.standbyModeWrite role v) s = .next (s.deny .range)))

/-- R594: each start has its cause. VIN valid on a unit without power: cause VIN; in *Dormant* the end of the wake delay, or a
call with the unit's address and a valid CRC: cause *Dormant* wake; a watchdog that stops the security core: its own cause.
An event that is none of these changes nothing.

R608, R614, R616, R626: start-up and the loss of power. A ramp without lock is repeated under the cause of the start that
failed, and after the third only the retry starts again. A clear of calibration is taken in *Listening* and puts the named objects back
to their defaults. A brown-out leaves PD_AON alone with power, and a VBAT below 1.8 V takes that too. -/
def Obligations.StartAndSupply : Prop :=
  (∀ (s : State) (x : StartInput),
     (∀ mv vbat, Runs (.vinValid mv vbat x) s fun t =>
       (s.dev.powered = false → t.start.cause = .vin ∧ t.dev.powered = true) ∧ (s.dev.powered = true → t = s)) ∧
     (Runs (.dormantWakeDelayExpiry x) s fun t =>
       (s.dev.dstate = .dormant → s.dev.wakeAt ≠ none → t.start.cause = .dormantWake) ∧
       (s.dev.dstate ≠ .dormant ∨ s.dev.wakeAt = none → t = s)) ∧
     (∀ addr ok, Runs (.wakeUpCall addr ok x) s fun t =>
       if s.dev.dstate = .dormant ∧ ok = true ∧ addr = s.dev.wakeAddr then t.start.cause = .dormantWake else t = s) ∧
     (∀ core, Runs (.watchdogExpiry core x) s fun t =>
       (s.dev.powered = false ∨ s.dev.dstate = .dormant ∨ s.pwr.pllLock = false ∨ s.vendorHalted = true → t = s) ∧
       (s.dev.powered = true → s.dev.dstate ≠ .dormant → s.pwr.pllLock = true → s.vendorHalted = false →
         s.dev.dstate ≠ .run ∨ core = true → t.start.cause = .watchdog))) ∧
  (∀ s : State,
     (∀ x, Runs (.pllLockTimeout x) s fun t =>
       if s.dev.powered = true ∧ s.dev.dstate = .startUp ∧ s.pwr.pllLock = false ∧ s.start.retry = false then
         t.start.cause = s.start.cause ∧
         (x.lock = false → t.pwr.pllLock = false ∧ t.start.ramps = s.start.ramps + 1)
       else t = s) ∧
     (∀ x, Runs (.startUpRetry x) s fun t =>
       if s.start.retry = true then
         t.start.cause = s.start.cause ∧ (x.lock = false → t.pwr.pllLock = false ∧ t.start.ramps = 1)
       else t = s) ∧
     (∀ (role : Role) (v : Word), Role.engineer.rank ≤ role.rank → Runs (.calibrationClear role v) s fun t =>
       (s.dev.dstate ≠ .listening → t = s.deny .state) ∧
       (s.dev.dstate = .listening → clearKeys v.toNat = [] → t = s.deny .other) ∧
       (s.dev.dstate = .listening → clearKeys v.toNat ≠ [] → t.ans.status = .ok ∧
         t.outside [.corr, .tim, .dict, .evr, .out, .ans] = s.outside [.corr, .tim, .dict, .evr, .out, .ans])) ∧
     (∀ vbat, Runs (.brownOut vbat) s fun t =>
       (s.dev.powered = false → t = s) ∧
       (s.dev.powered = true →
         t.dev.powered = false ∧ t.pwr.vinOk = false ∧ t.pwr.pllLock = false ∧ t.pwr.pdStat = 1 ∧ t.pwr.vbatMv = vbat ∧
         t.mem = s.mem.kept ∧ t.pending = s.pending ∧
         (vbat.toNat < 1800 → t.sec.tmp = {} ∧ t.sec.kwk = none ∧ t.evr.buffer = []))) ∧
     (∀ vbat, Runs (.vbatLoss vbat) s fun t =>
       (s.dev.powered = true → t = s) ∧
       (s.dev.powered = false → t.pwr.vbatOk = false ∧ t.pwr.vbatMv = vbat ∧ t.tim.fbc = {} ∧ t.sec.tmp = {} ∧
         t.sec.kwk = none ∧ t.evr.buffer = [])))

/-- R39, R40: a write of ENABLE by a master that the firewall passes. In QUIESCING an enable is remembered and answered
ENABLE_PENDING, and taken back by a write of 0; in OFF a write of 0, in STARTING or ON a write of 1 is answered OK and changes no
STATE; in STARTING, or in ON where R42 does not refuse it, a write of 0 shuts the block down.

R39 for the ports of the dictionary: Ethernet ports and the field network's, whose ENABLE a register write reaches. OFF
becomes STARTING, and STARTING or ON becomes QUIESCING.

R42: ENABLE = 0 is refused while the axis holds a gate lock (BUSY), while an axis whose loop the CLE closes is not OFF
(BUSY), and in the active unit of a pair (DENIED): STATE stays ON, REFUSED is set and ENABLE keeps its value.

R39, R40: a block in STARTING reads ON when its start completes, and one in QUIESCING whose outputs are safe reads OFF, or
STARTING again where an enable waits; a block in another state is left alone. -/
def Obligations.BlockEnables : Prop :=
  (∀ (s : State) (b : Bus) (k : BlockId), s.allows b (BlockId.addr k) .write = true →
     (Runs (.enableWrite (.reg b) k true) s fun t =>
       ((s.ctl k).st = .quiescing →
         (t.ctl k).st = .quiescing ∧ (t.ctl k).enPend = true ∧ t.ans.status = .enablePending) ∧
       ((s.ctl k).st = .starting ∨ (s.ctl k).st = .on → (t.ctl k).st = (s.ctl k).st ∧ t.ans.status = .ok)) ∧
     (Runs (.enableWrite (.reg b) k false) s fun t =>
       ((s.ctl k).st = .quiescing → (t.ctl k).st = .quiescing ∧ (t.ctl k).enPend = false ∧ t.ans.status = .ok) ∧
       ((s.ctl k).st = .off → (t.ctl k).st = .off ∧ (t.ctl k).enable = false ∧ t.ans.status = .ok) ∧
       ((s.ctl k).st = .starting ∨ (s.ctl k).st = .on ∧ s.offRefused k = none →
         t.ans.status = .ok ∧ t.outside [.dev, .blk, .gbb, .corr, .tsl, .cre, .saf, .fra, .frb, .frames, .pair, .mot, .cores,
           .ques, .dict, .evr, .out, .ans] = s.outside [.dev, .blk, .gbb, .corr, .tsl, .cre, .saf, .fra, .frb, .frames, .pair,
           .mot, .cores, .ques, .dict, .evr, .out, .ans]))) ∧
  (∀ (s : State) (b : Bus) (k : BlockId), k = .eth0 ∨ k = .eth1 ∨ k = .can0 ∨ k = .can1 ∨ k = .gbb →
     s.allows b (BlockId.addr k) .write = true → s.heldOff k = false →
     (Runs (.enableWrite (.reg b) k true) s fun t => (s.ctl k).st = .off →
       (t.ctl k).st = .starting ∧ (t.ctl k).enable = true ∧ t.ans.status = .ok) ∧
     (Runs (.enableWrite (.reg b) k false) s fun t => (s.ctl k).st = .starting ∨ (s.ctl k).st = .on →
       (t.ctl k).st = .quiescing ∧ (t.ctl k).enable = false ∧ t.ans.status = .ok)) ∧
  (∀ (s : State) (b : Bus) (k : BlockId) (st : Status), s.allows b (BlockId.addr k) .write = true →
     (s.ctl k).st = .on → s.offRefused k = some st →
     (Runs (.enableWrite (.reg b) k false) s fun t =>
       t.ans.status = st ∧ (t.ctl k).st = .on ∧ (t.ctl k).refused = true ∧ (t.ctl k).enable = (s.ctl k).enable) ∧
     (st = .busy ∧ (∃ n, (k = .mot n ∧ 0 < s.cre.holds n) ∨ (k = .cle ∧ s.closes n = true)) ∨
       st = .denied ∧ k = .pair ∧ s.pair.paired = true ∧ s.dev.dstate = .run)) ∧
  (∀ (s : State) (k : BlockId),
     (Runs (.blockStartComplete k) s fun t =>
       if (s.ctl k).st = .starting ∧ s.mayStart k = true then (t.ctl k).st = .on else t = s) ∧
     (Runs (.quiesceComplete k) s fun t =>
       if (s.ctl k).st = .quiescing ∧ s.mayEnd k = true then
         (if (s.ctl k).enPend = true then (t.ctl k).st = .starting ∧ (t.ctl k).enPend = false
          else s.dev.radioCfg = none → (t.ctl k).st = .off)
       else t = s))

/-- R454: a register write that the checks of R450 do not pass has no effect on the registers or on memory: it is answered
DENIED, and only the firewall's record and its counters change. R6: one that they pass to a word of memory stores its four
octets, the lowest at the lowest address, and no octet elsewhere. -/
def Obligations.RegisterWriteChecked : Prop :=
  ∀ (s : State) (b : Bus) (addr : Nat) (v : Word), Runs (.registerWrite b addr v) s fun t =>
    (s.allows b addr .write = false →
      t.ans.status = .denied ∧ t.outside [.cores, .evr, .out, .ans] = s.outside [.cores, .evr, .out, .ans]) ∧
    (s.allows b addr .write = true → 0x89000000 ≤ addr → addr < 0xA0000000 → addr % 4 = 0 →
      s.pwr.pdStat.getLsbD 11 = true →
      (∀ i < 4, t.mem.get (addr + i) = BitVec.ofNat 8 (v.toNat / 256 ^ i)) ∧
      (∀ a, a < addr ∨ addr + 4 ≤ a → t.mem.get a = s.mem.get a) ∧
      t.outside [.mem] = s.outside [.mem])

/-! ### GNSS -/

/-- R47, R52: a short takes the bias off and reports SHORT with the limit's current; an open line reports OPEN and leaves the
bias applied; a retry after a SHORT applies it again. A chain whose enable bit is set becomes ready while the GRF is ON. Each of
them changes its own source or bit, and nothing where its condition does not hold. -/
def Obligations.BiasAndChains : Prop :=
  ∀ (s : State) (mon : Bool),
    (Runs (.biasShort mon) s fun t =>
      if (s.bias mon).applied = true then
        t.bias mon = { s.bias mon with isShort := true, isOpen := false, applied := false, ma := 100 } ∧
        t.bias (!mon) = s.bias (!mon) ∧ t.grf.chainRdy = s.grf.chainRdy
      else t = s) ∧
    (∀ ma, Runs (.biasOpen mon ma) s fun t =>
      if (s.bias mon).applied = true then
        t.bias mon = { s.bias mon with isOpen := true, ma := ma.setWidth 8 } ∧ t.bias (!mon) = s.bias (!mon) ∧
        t.grf.chainRdy = s.grf.chainRdy
      else t = s) ∧
    (Runs (.biasRetry mon) s fun t =>
      if (s.bias mon).isShort = true ∧ (s.bias mon).on = true ∧ s.biasPowered = true then
        t.bias mon = { s.bias mon with isShort := false, applied := true } ∧ t.bias (!mon) = s.bias (!mon) ∧
        t.outside [.grf] = s.outside [.grf]
      else t = s) ∧
    (∀ q : Fin 6, Runs (.chainReady q) s fun t =>
      if s.blk.grf.st = .on ∧ s.grf.chainEn.getLsbD q.val = true then
        t.grf.chainRdy.getLsbD q.val = true ∧
        (∀ p : Fin 6, p ≠ q → t.grf.chainRdy.getLsbD p.val = s.grf.chainRdy.getLsbD p.val) ∧
        t.outside [.grf] = s.outside [.grf]
      else t = s)

/-- R61, R62: what a Vendor-world write of a channel's CFG does. A signal and PRN with no row, or another chain than the
row's, or an accumulation outside 1 to 20, sets CFG_ERR and changes no channel; so does a change of CHAIN, SIG, PRN or PILOT_EN
while EN = 1. Otherwise EN is taken over, and where it changes the channel stands stopped with its accumulation discarded.

R60, R63: Vendor-world writes of a channel's other registers. CARR_FW, and CODE_FW up to 2^30, are staged and the words in
force stay; a CODE_FW above it sets CFG_ERR. SLIP sets LLI and the lock time starts at 0; so does LOCK taken back. A cycle
adjustment is added to the one staged. LOCKT is preset at once. No other channel changes.

R58, R61: an enabled channel that waits starts at its instant with the preset chip index, zero carrier phase and the words
staged while it was disabled; a base boundary takes over staged carrier and code words. Neither acts on a channel that may not,
or while the GBB is not ON. -/
def Obligations.GnssChannels : Prop :=
  (∀ (s : State) (b : Bus) (c : Fin 672) (w : Word), s.allows b (chanAddr c 0) .write = true →
     (Runs (.channelEnable b c w) s fun t =>
       (sigRow (w.extractLsb' 4 8).toNat (w.extractLsb' 12 8).toNat = none → t.gbb.cfgErr = true ∧ t.gbb.chans = s.gbb.chans) ∧
       (∀ r, sigRow (w.extractLsb' 4 8).toNat (w.extractLsb' 12 8).toNat = some r →
         ((w.extractLsb' 1 2).toNat ≠ r.chain → t.gbb.cfgErr = true ∧ t.gbb.chans = s.gbb.chans) ∧
         ((w.extractLsb' 1 2).toNat = r.chain → 1 ≤ (w.extractLsb' 20 5).toNat → (w.extractLsb' 20 5).toNat ≤ 20 →
           (s.chan c).en = false →
           (t.chan c).en = true ∧ (t.chan c).started = false ∧ (t.chan c).accDone = 0 ∧
           (t.chan c).sig = w.extractLsb' 4 8 ∧ (t.chan c).prn = w.extractLsb' 12 8 ∧
           (∀ d, d ≠ c → t.chan d = s.chan d)))) ∧
     (Runs (.channelDisable b c w) s fun t =>
       ∀ r, sigRow (w.extractLsb' 4 8).toNat (w.extractLsb' 12 8).toNat = some r →
         (w.extractLsb' 1 2).toNat = r.chain → 1 ≤ (w.extractLsb' 20 5).toNat → (w.extractLsb' 20 5).toNat ≤ 20 →
         (s.chan c).en = true → (s.chan c).chain = w.extractLsb' 1 2 → (s.chan c).sig = w.extractLsb' 4 8 →
         (s.chan c).prn = w.extractLsb' 12 8 → (s.chan c).pilotEn = (w.getLsbD 3 && r.pilot) →
         (t.chan c).en = false ∧ (t.chan c).started = false ∧ (t.chan c).accDone = 0 ∧ (∀ d, d ≠ c → t.chan d = s.chan d))) ∧
  (∀ (s : State) (b : Bus) (c : Fin 672) (w : Word), (∀ reg < 8, s.allows b (chanAddr c reg) .write = true) →
     (Runs (.stagedWordWrite b c .carr w) s fun t =>
       t.chan c = { s.chan c with stCarr := some w } ∧ (∀ d, d ≠ c → t.chan d = s.chan d)) ∧
     (Runs (.stagedWordWrite b c .code w) s fun t =>
       if w.toNat ≤ 2 ^ 30 then t.chan c = { s.chan c with stCode := some w } ∧ (∀ d, d ≠ c → t.chan d = s.chan d)
       else t.gbb.cfgErr = true ∧ t.gbb.chans = s.gbb.chans) ∧
     (∀ half, Runs (.channelLockWrite b c false half) s fun t =>
       (t.chan c).lock = false ∧ (t.chan c).half = half ∧
       ((s.chan c).lock = true → (t.chan c).lli = true ∧ (t.chan c).lockt = 0) ∧ (∀ d, d ≠ c → t.chan d = s.chan d)) ∧
     (Runs (.slip b c) s fun t =>
       (t.chan c).lli = true ∧ (t.chan c).lockt = 0 ∧ (t.chan c).locktFrom = s.tb0ms ∧
       (∀ d, d ≠ c → t.chan d = s.chan d)) ∧
     (∀ n, Runs (.cycAdj b c n) s fun t =>
       (t.chan c).stCyc = (s.chan c).stCyc + n.toInt ∧ (∀ d, d ≠ c → t.chan d = s.chan d)) ∧
     (Runs (.locktPreset b c w) s fun t =>
       t.chan c = { s.chan c with lockt := w, locktFrom := s.tb0ms } ∧ (∀ d, d ≠ c → t.chan d = s.chan d))) ∧
  (∀ (s : State) (c : Fin 672),
     (Runs (.channelStart c) s fun t =>
       if (s.chan c).en = true ∧ (s.chan c).started = false ∧ s.blk.gbb.st = .on then
         (t.chan c).started = true ∧ (t.chan c).phase = 0 ∧ (t.chan c).period = 0 ∧ (t.chan c).accDone = 0 ∧
         (t.chan c).carrFw = (s.chan c).stCarr.getD (s.chan c).carrFw ∧
         (t.chan c).codeFw = (s.chan c).stCode.getD (s.chan c).codeFw ∧ (t.chan c).stCarr = none ∧
         (t.chan c).stCode = none ∧ (∀ d, d ≠ c → t.chan d = s.chan d)
       else t = s) ∧
     (∀ sums, Runs (.baseBoundary c sums) s fun t =>
       ((s.chan c).row = none ∨ (s.chan c).started = false ∨ s.blk.gbb.st ≠ .on → t = s) ∧
       (∀ d, d ≠ c → t.chan d = s.chan d)))

/-- R69: the write of GBB_ACQ_CMD2 submits the request. With 64 pending it is discarded and LAST reads FULL; with parameters
outside R70 it is discarded and LAST reads DENIED; otherwise it joins the queue at its end and LAST reads OK.

R71, R586: the request in service goes from snapshot to processing and then to a result, which is written once its queue
has room; then the next request may enter service. -/
def Obligations.Acquisition : Prop :=
  (∀ (s : State) (b : Bus) (w : Word), s.allows b 0x4005010C .write = true →
     Runs (.acqSubmit b w) s fun t =>
       (64 ≤ s.gbb.acq.queue.length →
         t.gbb.acq.queue = s.gbb.acq.queue ∧ t.gbb.acq.last = Status.full.code ∧ t.ans.status = .full) ∧
       (s.gbb.acq.queue.length < 64 → (AcqReq.mk s.gbb.acq.cmd0 s.gbb.acq.cmd1 w).ok = false →
         t.gbb.acq.queue = s.gbb.acq.queue ∧ t.gbb.acq.last = Status.denied.code ∧ t.ans.status = .denied) ∧
       (s.gbb.acq.queue.length < 64 → (AcqReq.mk s.gbb.acq.cmd0 s.gbb.acq.cmd1 w).ok = true →
         t.gbb.acq.queue = s.gbb.acq.queue ++ [⟨s.gbb.acq.cmd0, s.gbb.acq.cmd1, w⟩] ∧
         t.gbb.acq.last = Status.ok.code ∧ t.ans.status = .ok)) ∧
  (∀ s : State,
     (Runs .acqSnapshotEnd s fun t =>
       (s.gbb.acq.phase = some .snapshot → s.gbb.acq.queue ≠ [] → s.upd.paused ≠ some .gbb →
         t.gbb.acq.phase = some .processing ∧ t.gbb.acq.queue = s.gbb.acq.queue) ∧
       (s.gbb.acq.phase ≠ some .snapshot ∨ s.gbb.acq.queue = [] ∨ s.upd.paused = some .gbb → t = s)) ∧
     (∀ p, Runs (.acqProcessingEnd p) s fun t =>
       (s.gbb.acq.phase = some .processing → s.upd.paused ≠ some .gbb → ∀ q l, s.gbb.acq.queue = q :: l →
         (s.enginePush (queueOf s.gbb.acq.rqueue) (acqRecord q s.gbb.acq.snapNs s.gbb.acq.thresh p) = none →
           t.gbb.acq.phase = some .result ∧ t.gbb.acq.queue = q :: l)) ∧
       (s.gbb.acq.phase ≠ some .processing ∨ s.gbb.acq.queue = [] ∨ s.upd.paused = some .gbb → t = s)) ∧
     (Runs .acqResultWrite s fun t =>
       (s.gbb.acq.phase = some .result → ∀ q l u, s.gbb.acq.queue = q :: l →
         s.enginePush (queueOf s.gbb.acq.rqueue) s.gbb.acq.result = some u →
         t.gbb.acq.queue = l ∧ t.ques = u.ques ∧
         t.gbb.acq.phase = (if l ≠ [] ∧ s.blk.gbb.st = .on then some .snapshot else none)) ∧
       (s.gbb.acq.phase ≠ some .result → t = s)))

/-- R75 to R78: a latch edge with the GBB ON and its table free numbers the epoch and holds the table; with the table held the
epoch is skipped and counted. A complete table stands in the scratchpad, becomes the table written last and goes to the
reference solution. GBB_LATCH_REL clears the HELD bits it names.

R73, R80, R81: a TB0 second boundary puts the epoch rate and burst tracking in force; a burst starts at its offset and
discards the accumulations in progress, and ends with its chains down; outside burst tracking none of the three acts. -/
def Obligations.LatchedTables : Prop :=
  (∀ s : State,
     (Runs .latchEdge s fun t =>
       (s.blk.gbb.st ≠ .on → t = s) ∧
       (s.blk.gbb.st = .on → s.gbb.burstNow = false → s.upd.paused ≠ some .gbb → t.gbb.seq = s.gbb.seq + 1 ∧
         t.gbb.lastEpoch = some s.nextEpoch ∧
         (s.gbb.last = true → s.gbb.held0 = false → t.gbb.held0 = true ∧ t.gbb.held1 = s.gbb.held1) ∧
         (s.gbb.last = false → s.gbb.held1 = false → t.gbb.held1 = true ∧ t.gbb.held0 = s.gbb.held0) ∧
         (s.gbb.last = true ∧ s.gbb.held0 = true ∨ s.gbb.last = false ∧ s.gbb.held1 = true →
           t.gbb.latched = s.gbb.latched ∧ t.gbb.chans = s.gbb.chans))) ∧
     (Runs .latchTableComplete s fun t =>
       (s.gbb.latched = none → t = s) ∧
       (∀ l, s.gbb.latched = some l → t.gbb.latched = none ∧ t.gbb.last = l.table ∧ t.corr.epoch = some l)) ∧
     (∀ b w, s.allows b 0x40050028 .write = true → Runs (.latchRelease b w) s fun t =>
       t.gbb.held0 = (s.gbb.held0 && !w.getLsbD 0) ∧ t.gbb.held1 = (s.gbb.held1 && !w.getLsbD 1) ∧
       t.outside [.gbb] = s.outside [.gbb])) ∧
  (∀ s : State,
     (∀ sol rtk nav, Runs (.tb0SecondBoundary sol rtk nav) s fun t =>
       t.gbb.rateNow = s.gbb.rate ∧ t.gbb.burstNow = s.gbb.burst) ∧
     (Runs .burstChainPowerUp s fun t =>
       if s.gbb.burstNow = true ∧ s.gbb.inBurst = false then t.grf.chainRdy = 0 ∧ t.outside [.grf] = s.outside [.grf]
       else t = s) ∧
     (Runs .burstStart s fun t =>
       if s.gbb.burstNow = true ∧ s.gbb.inBurst = false ∧ s.blk.gbb.st = .on then t.gbb.inBurst = true
       else t = s) ∧
     (Runs .burstEnd s fun t =>
       if s.gbb.inBurst = true then t.gbb.inBurst = false ∧ t.grf.chainRdy = 0 else t = s))

/-- R93 to R95: a self-survey starts only in *Listening* with the GBB ON; writing 2 aborts one that runs; a completed one is
adopted in *Listening*, which makes the source 2 and clears the position mismatch. In any other case the write is answered
DENIED and changes nothing else.

R92, R97: outside *Listening* a write to the station's objects is answered DENIED and changes nothing else; in *Listening* a
write of X, Y or Z that changes it makes the source 1 and clears the position mismatch. Writing 1 to OD 0x3000:07 clears it in
any state. -/
def Obligations.StationPosition : Prop :=
  (∀ (s : State) (role : Role), Role.engineer.rank ≤ role.rank →
     (Runs (.selfSurveyStart role) s fun t =>
       if s.dev.dstate = .listening ∧ s.blk.gbb.st = .on then
         t.corr.survey.st = .running ∧ t.corr.survey.count = 0 ∧ t.ans.status = .ok ∧
         t.outside [.corr, .ans] = s.outside [.corr, .ans]
       else t = s.deny .state) ∧
     (Runs (.selfSurveyAbort role) s fun t =>
       (s.corr.survey.st = .running → t.corr.survey.st = .aborted) ∧
       (s.corr.survey.st ≠ .running → t.corr = s.corr) ∧ t.ans.status = .ok ∧
       t.outside [.corr, .ans] = s.outside [.corr, .ans]) ∧
     (Runs (.selfSurveyAdopt role) s fun t =>
       if s.dev.dstate = .listening ∧ s.corr.survey.st = .complete then
         t.corr.source = 2 ∧ t.corr.mismatch = false ∧ t.ans.status = .ok ∧
         t.odHeld (odKey 0xA810 1) (leBytes 8 0) = leBytesInt 8 s.corr.survey.rx ∧
         t.odHeld (odKey 0xA810 2) (leBytes 8 0) = leBytesInt 8 s.corr.survey.ry ∧
         t.odHeld (odKey 0xA810 3) (leBytes 8 0) = leBytesInt 8 s.corr.survey.rz
       else t = s.deny .state)) ∧
  (∀ (s : State) (role : Role), Role.engineer.rank ≤ role.rank →
     (∀ (sub : Fin 8) (v : List Byte), Runs (.stationPositionWrite role sub v) s fun t =>
       (1 ≤ sub.val → s.dev.dstate ≠ .listening → t = s.deny .state) ∧
       (1 ≤ sub.val → sub.val ≤ 3 → s.dev.dstate = .listening → v.length = 8 →
         t.ans.status = .ok ∧ t.odHeld (odKey 0xA810 sub.val) (leBytes 8 0) = v ∧
         (s.odHeld (odKey 0xA810 sub.val) (leBytes 8 0) ≠ v → t.corr.source = 1 ∧ t.corr.mismatch = false) ∧
         (s.odHeld (odKey 0xA810 sub.val) (leBytes 8 0) = v → t.corr = s.corr))) ∧
     (Runs (.mismatchAcknowledge role) s fun t =>
       t.corr = { s.corr with mismatch := false } ∧ t.ans.status = .ok ∧
       t.outside [.corr, .ans] = s.outside [.corr, .ans]))

/-- R122, R124, R133, R142: the epoch that waits for a verdict gets one and waits no more. A deadline that passes withholds it,
which is integrity lost, and is counted under LATE while a position is in force and agrees; a verdict in verified mode with no
position in force withholds it under NOPOS; an epoch off the correction grid gets no verdict. A silence as long as two grid
periods is STALE and integrity lost.

R115, R116: the NTRIP session streams on 200 and its wait is reset; 401 and 403 refuse it; any other response, no response,
or a lost connection puts it into back-off with its wait doubled, up to 64 s; at the end of the wait it connects again. A fifth
raw TCP client is turned away, and a unit that does not transmit serves none. -/
def Obligations.CorrectionSources : Prop :=
  (∀ s : State,
     (∀ e, Runs (.teaselVerdict e) s fun t => t.corr.epoch = none ∧
       (s.corr.epoch = none → t = s) ∧
       (∀ l, s.corr.epoch = some l → l.corr = true → s.verifies = true → s.verified = true → s.posInForce = false →
         t.tsl.lost = true ∧ t.corr.withheld = s.corr.withheld + 1 ∧ t.corr.nNoPos = s.corr.nNoPos + 1 ∧
         t.tsl.verdictSeq = l.seq ∧ t.corr.released = s.corr.released) ∧
       (∀ l, s.corr.epoch = some l → l.corr = false → t.tsl = s.tsl ∧ t.corr.released = s.corr.released)) ∧
     (Runs .verdictDeadline s fun t =>
       (s.corr.epoch = none ∨ s.verifies = false → t = s) ∧
       (∀ l, s.corr.epoch = some l → l.corr = true → s.verifies = true →
         t.corr.epoch = none ∧ t.tsl.lost = true ∧ t.corr.withheld = s.corr.withheld + 1 ∧
         t.corr.released = s.corr.released ∧ t.tsl.verdictSeq = l.seq ∧
         (s.posInForce = true → s.corr.mismatch = false →
           t.corr.nLate = s.corr.nLate + 1 ∧ t.tsl.verdict = some .withheldOther))) ∧
     (Runs .staleVerdict s fun t =>
       (∀ f, s.tsl.staleFrom = some f → s.verified = true → s.verifies = true →
         t.tsl.verdict = some .stale ∧ t.tsl.lost = true ∧ t.tsl.stales = s.tsl.stales + 1 ∧
         t.tsl.staleFrom = some (f + 2000000000 / gridRate s.gbb.rateNow)) ∧
       (∀ f, s.tsl.staleFrom = some f → s.verifies = false → t = s))) ∧
  (∀ s : State,
     (∀ code, Runs (.ntripResponse code) s fun t =>
       (s.corr.ntrip ≠ .connecting → t = s) ∧
       (s.corr.ntrip = .connecting →
         (code = some 200 → t.corr.ntrip = .streaming ∧ t.corr.ntripWait = 1) ∧
         (code = some 401 ∨ code = some 403 → t.corr.ntrip = .refused) ∧
         (code ≠ some 200 → code ≠ some 401 → code ≠ some 403 →
           t.corr.ntrip = .backoff ∧ t.corr.ntripAt = s.tb5ms + s.corr.ntripWait * 1000 ∧
           t.corr.ntripWait = min 64 (2 * s.corr.ntripWait)))) ∧
     (Runs .ntripConnectionLost s fun t =>
       if s.corr.ntrip = .connecting ∨ s.corr.ntrip = .streaming then
         t.corr.ntrip = .backoff ∧ t.corr.ntripWait = min 64 (2 * s.corr.ntripWait) ∧
         t.outside [.corr] = s.outside [.corr]
       else t = s) ∧
     (Runs .ntripBackoffExpiry s fun t =>
       if s.corr.ntrip = .backoff then t.corr.ntrip = .connecting ∧ t.corr.ntripWait = s.corr.ntripWait else t = s) ∧
     (∀ id, Runs (.tcpClientConnect id) s fun t =>
       (s.od 0x3030 9 1 = 1 → s.ethUp = true → s.transmits = true →
         (s.corr.tcp.length < 4 → t.corr.tcp = s.corr.tcp ++ [⟨id, 0⟩] ∧ t.ans.status = .ok) ∧
         (4 ≤ s.corr.tcp.length → t = s.answer .full)) ∧
       (s.od 0x3030 9 1 ≠ 1 ∨ s.ethUp = false ∨ s.transmits = false → t = s.deny .state)))

/-- R129 to R131: a baseline survey starts only in *Listening*, with the GBB ON and Teasel in verified mode; writing 2 aborts one
that runs. A baseline written, or adopted from a completed survey, drops every held ambiguity and sets integrity lost. Outside
*Listening* these writes are answered DENIED and change nothing else.

R148, R150: outside *Listening* a write of the Teasel mode is answered DENIED and changes nothing else, and so is one that
selects unverified mode while SF4 is enabled. An accepted write that changes the mode starts Teasel: no ambiguity is held and
integrity is lost. -/
def Obligations.BaselineAndTeasel : Prop :=
  (∀ (s : State) (role : Role), Role.engineer.rank ≤ role.rank →
     (∀ (i : Fin 3) (v : Int), Runs (.baselineWrite role i v) s fun t =>
       (-2147483648 ≤ v → v ≤ 2147483647 → s.dev.dstate ≠ .listening → t = s.deny .state) ∧
       (s.dev.dstate = .listening → t.ans.status = .ok → t.tsl.amb = [] ∧ t.tsl.lost = true ∧ t.tsl.baseSet = true) ∧
       (s.dev.dstate = .listening → i = 0 → -2147483648 ≤ v → v ≤ 2147483647 →
         baselineOk (v, s.baseline.2.1, s.baseline.2.2) = true → t.ans.status = .ok)) ∧
     (Runs (.baselineSurveyStart role) s fun t =>
       if s.dev.dstate = .listening ∧ s.blk.gbb.st = .on ∧ s.verified = true then
         t.tsl.survey.st = .running ∧ t.tsl.survey.count = 0 ∧ t.ans.status = .ok ∧
         t.outside [.tsl, .ans] = s.outside [.tsl, .ans]
       else t = s.deny .state) ∧
     (Runs (.baselineSurveyAbort role) s fun t =>
       (s.tsl.survey.st = .running → t.tsl.survey.st = .aborted) ∧ t.ans.status = .ok ∧
       t.outside [.tsl, .ans] = s.outside [.tsl, .ans]) ∧
     (Runs (.baselineSurveyAdopt role) s fun t =>
       if s.dev.dstate = .listening ∧ s.tsl.survey.st = .complete ∧
           baselineOk (s.tsl.survey.rx, s.tsl.survey.ry, s.tsl.survey.rz) = true then
         t.tsl.amb = [] ∧ t.tsl.lost = true ∧ t.tsl.baseSet = true ∧ t.ans.status = .ok
       else t = s.deny .state)) ∧
  (∀ (s : State) (role : Role) (v : Nat), Role.engineer.rank ≤ role.rank → v ≤ 1 →
     Runs (.teaselModeWrite role v) s fun t =>
       (s.dev.dstate ≠ .listening → t = s.deny .state) ∧
       (s.dev.dstate = .listening → v = 1 → s.sf4On = true → t = s.deny .other) ∧
       (s.dev.dstate = .listening → v = 0 ∨ s.sf4On = false →
         t.ans.status = .ok ∧ t.odHeld (odKey 0x3800 1) [0] = leBytes 1 v ∧
         (s.od 0x3800 1 0 ≠ v → t.tsl.amb = [] ∧ t.tsl.lost = true)))

/-! ### Zones and tasks -/

/-- R158, R160: validation of an image ends with it in force, every reservation and corridor gone, and a copy on its way into
the store where it fits; or with the code of the check that failed, and the map in force as before. The copy that ends stands in
the store.

R172, R174, R177: each operation that the CRE takes is answered with the status of its verdict. One that is OK adds one to
the commit number; any other leaves reservations, corridors, members, the next ID and the commit number as they are.

R181, R182: RELEASE_CELLS frees the cells before the count, RELEASE the whole corridor, RELEASE_MEMBER every corridor of the
member, whose FROZEN clears; FREEZE marks the member and each of its reservations, and THAW takes the marks back.

R167, R169, R171, R180, R192: once a ms every reservation whose exit time fleet time no longer precedes is OVERDUE, and an entry
time more than 2^30 ms old moves forward and is marked AGED; a header word without a valid MARK is discarded and counted; a held result
is written once its queue has room; and a write of CRE_TAB_IDX latches an entry, all zero where none is live. -/
def Obligations.ReservationEngine : Prop :=
  (∀ s : State,
     (Runs .mapValidationEnd s fun t =>
       (s.cre.store.validating = none → t = s) ∧
       (∀ img, s.cre.store.validating = some img → t.cre.store.validating = none ∧
         (mapCheck img = 0 →
           t.cre.map = some (mapOf img) ∧ t.cre.resv = [] ∧ t.cre.corrs = [] ∧ t.cre.store.result = 0 ∧
           t.cre.store.copying = (if img.length ≤ 12582912 then some img else none)) ∧
         (mapCheck img ≠ 0 →
           t.cre.map = s.cre.map ∧ t.cre.resv = s.cre.resv ∧ t.cre.corrs = s.cre.corrs ∧
           t.cre.store.result = BitVec.ofNat 8 (mapCheck img)))) ∧
     (Runs .mapStoreCopyComplete s fun t =>
       (s.cre.store.copying = none → t = s) ∧
       (∀ img, s.cre.store.copying = some img →
         t.cre.store.stored = some img ∧ t.cre.store.inStore = true ∧ t.cre.store.copying = none ∧ t.cre.map = s.cre.map ∧
         t.outside [.cre] = s.outside [.cre]))) ∧
  (∀ (s : State) (vendor : Bool) (w : Dword) (cells : List (Dword × Dword)),
     ∀ p ∈ [(1, Instr.request vendor w cells), (2, .releaseCells vendor w), (3, .release vendor w), (4, .freeze vendor w),
       (5, .thaw vendor w), (6, .releaseMember vendor w), (7, .restore vendor w cells)],
     s.creTakes (withOp w p.1) → Runs p.2 s fun t =>
       let h := VHeader.ofWord (withOp w p.1)
       let v := s.vetchVerdict vendor h (if p.1 = 1 ∨ p.1 = 7 then (cells.take h.ncells).map CellAsk.ofWords else [])
       t.ans.status = v.status ∧ (v = .ok → t.cre.seq = s.cre.seq + 1) ∧
       (v ≠ .ok → t.cre.resv = s.cre.resv ∧ t.cre.corrs = s.cre.corrs ∧ t.cre.members = s.cre.members ∧
         t.cre.nextId = s.cre.nextId ∧ t.cre.seq = s.cre.seq)) ∧
  (∀ (s : State) (vendor : Bool) (w : Dword),
     (Runs (.releaseCells vendor w) s fun t => let h := VHeader.ofWord (withOp w 2)
       s.creTakes (withOp w 2) → s.vetchVerdict vendor h [] = .ok →
         ∀ p ∈ t.cre.resv, ¬(p.2.corr = h.corr ∧ p.2.idx < h.ncells)) ∧
     (Runs (.release vendor w) s fun t => let h := VHeader.ofWord (withOp w 3)
       s.creTakes (withOp w 3) → s.vetchVerdict vendor h [] = .ok → ∀ p ∈ t.cre.resv, p.2.corr ≠ h.corr) ∧
     (Runs (.releaseMember vendor w) s fun t => let h := VHeader.ofWord (withOp w 6)
       s.creTakes (withOp w 6) → s.vetchVerdict vendor h [] = .ok →
         (t.cre.member h.member).frozen = false ∧ ∀ p ∈ t.cre.resv, p.2.holder ≠ h.member) ∧
     (Runs (.freeze vendor w) s fun t => let h := VHeader.ofWord (withOp w 4)
       s.creTakes (withOp w 4) → s.vetchVerdict vendor h [] = .ok →
         (t.cre.member h.member).frozen = true ∧ ∀ p ∈ t.cre.resv, p.2.holder = h.member → p.2.frozen = true) ∧
     (Runs (.thaw vendor w) s fun t => let h := VHeader.ofWord (withOp w 5)
       s.creTakes (withOp w 5) → s.vetchVerdict vendor h [] = .ok →
         (t.cre.member h.member).frozen = false ∧ ∀ p ∈ t.cre.resv, p.2.holder = h.member → p.2.frozen = false)) ∧
  (∀ s : State,
     (Runs .overdueScan s fun t =>
       let u := s.reachTb4 ((s.tb4ns / 1000000 + 1) * 1000000)
       t.tim = u.tim ∧ (s.blk.cre.st = .on →
         t.cre.resv.map (fun p => (p.1, p.2.overdue)) =
           s.cre.resv.map fun p => (p.1, p.2.overdue || !precedes u.fleetMs p.2.exit)) ∧
       (s.blk.cre.st ≠ .on → t.cre = s.cre)) ∧
     (Runs .agedScan s fun t =>
       (s.blk.cre.st = .on →
         t.cre.resv.map (fun p => (p.1, p.2.entry)) = s.cre.resv.map fun p =>
           (p.1, if 2 ^ 30 < (s.fleetMs - p.2.entry).toNat ∧ (s.fleetMs - p.2.entry).toNat ≤ 2 ^ 31 then
             s.fleetMs - 0x40000000 else p.2.entry)) ∧
       (s.blk.cre.st ≠ .on → t = s) ∧ t.outside [.cre] = s.outside [.cre]) ∧
     (∀ vendor w, Runs (.markResyncDiscard vendor w) s fun t =>
       s.blk.cre.st = .on → s.cre.results.length < 1024 → (VHeader.ofWord w).mark ≠ 0x29 →
         t.cre.resync = s.cre.resync + 1 ∧ t.cre.resv = s.cre.resv ∧ t.cre.corrs = s.cre.corrs) ∧
     (∀ vendor, Runs (.vetchResultWrite vendor) s fun t =>
       ((∀ r ∈ s.cre.results, r.vendor ≠ vendor) → t = s) ∧
       (∀ r u, s.cre.results.find? (fun r => r.vendor = vendor) = some r →
         s.enginePush (s.resultQueue vendor) [r.w0, r.w1] = some u →
         t.cre.results = s.cre.results.erase r ∧ t.ques = u.ques)) ∧
     (∀ b idx, s.allows b 0x40040030 .write = true → Runs (.tabIdxLatch b idx) s fun t =>
       t.cre.tabIdx = idx ∧ (tabGet s.cre.resv idx.toNat = none → t.cre.tabD = #v[0, 0, 0, 0]) ∧
       (∀ r, tabGet s.cre.resv idx.toNat = some r → t.cre.tabD[1] = r.entry ∧ t.cre.tabD[2] = r.exit) ∧
       t.outside [.cre] = s.outside [.cre]))

/-- R197, R199, R201: with FRB ON a JOIN that is authentic and new, of an enrolled member that is not *Retired*, in *Run*, takes a
member without live corridors to *Joining* with a new pairwise link, and queues its answer. Any other JOIN is counted and
leaves the members as they are.

R198, R201, R203, R205: a report outside the member's minislot is discarded and counted. One that is accepted records the
counter, where the robot is and its charge; in *Run* a member in *Joining* takes the state it reports. At the end of a member's
minislot a member heard has miss count 0, one not heard has one more, and the third takes it to *Silent*. -/
def Obligations.Membership : Prop :=
  (∀ (s : State) (f : RxFrame) (nonce : BitVec 64) (mapId : Word), Runs (.join f nonce mapId) s fun t =>
     (s.blk.frb.st ≠ .on → t = s) ∧
     (s.blk.frb.st = .on → f.form = true → s.memberOk f.member = true → fresher (s.link f.member).rxEnrol f.fcnt = true →
       f.mic = true → s.dev.dstate = .run → (s.member f.member).st ≠ .retired → s.cre.ncorr f.member = 0 →
       (t.member f.member).st = .joining ∧ (t.link f.member).paired = true ∧ (t.link f.member).rx = none ∧
       (t.link f.member).tx = 0 ∧ (t.link f.member).rxEnrol = some f.fcnt ∧
       t.frb.queue.length = s.frb.queue.length + 1 ∧ t.fleet.joinIgnored = s.fleet.joinIgnored) ∧
     (s.blk.frb.st = .on → f.form = false ∨ s.memberOk f.member = false ∨
         fresher (s.link f.member).rxEnrol f.fcnt = false ∨ f.mic = false ∨ s.dev.dstate ≠ .run ∨
         (s.member f.member).st = .retired →
       t.fleet.joinIgnored = s.fleet.joinIgnored + 1 ∧ t.fleet.members = s.fleet.members ∧ t.frb.queue = s.frb.queue)) ∧
  (∀ s : State,
     (∀ f slot r, Runs (.report f slot r) s fun t =>
       (s.blk.frb.st ≠ .on → t = s) ∧
       (s.blk.frb.st = .on →
         (s.memberOk f.member = false ∨ s.dev.cycle.toNat % 8 ≠ (f.member - 1) % 8 ∨ slot ≠ (f.member - 1) / 8 →
           t = s.countMic) ∧
         (s.memberOk f.member = true → s.dev.cycle.toNat % 8 = (f.member - 1) % 8 → slot = (f.member - 1) / 8 →
           f.form = true → (s.link f.member).paired = true → fresher (s.link f.member).rx f.fcnt = true → f.mic = true →
           (t.link f.member).rx = some f.fcnt ∧
           (s.dev.dstate = .listening →
             (t.member f.member).cell = r.cell.toNat ∧ (t.member f.member).battery = r.battery ∧
             (t.member f.member).lastHeard = s.fleetMs ∧ (t.member f.member).st = (s.member f.member).st) ∧
           (s.dev.dstate = .run → s.reportStale r = false → (s.member f.member).st = .joining →
             (t.member f.member).st = reportState r.state ∧ (t.member f.member).heard = true)))) ∧
     (∀ m, Runs (.minislotEnd m) s fun t =>
       (s.memberOk m = false ∨ s.dev.dstate ≠ .run ∨ s.blk.frb.st ≠ .on ∨ s.dev.cycle.toNat % 8 ≠ (m - 1) % 8 → t = s) ∧
       (s.memberOk m = true → s.dev.dstate = .run → s.blk.frb.st = .on → s.upd.paused ≠ some .radio →
         s.dev.cycle.toNat % 8 = (m - 1) % 8 →
         ((s.member m).heard = true → (t.member m).miss = 0 ∧ (t.member m).heard = false ∧
           (t.member m).st = (s.member m).st) ∧
         ((s.member m).heard = false → (s.member m).st.watched = true →
           (t.member m).miss = min 3 ((s.member m).miss + 1) ∧
           (2 ≤ (s.member m).miss → (t.member m).st = .silent) ∧
           ((s.member m).miss < 2 → (t.member m).st = (s.member m).st)))) ∧
     (∀ m d, (s.member m).joinDeadline = some d → d ≤ (s.reachTb4 (d * 1000000)).tb4ms → Runs (.joiningTimeout m) s fun t =>
       s.dev.dstate = .run → (s.member m).st = .joining → (t.member m).st = .unknown) ∧
     (∀ m, Runs (.joiningTimeout m) s fun t =>
       s.dev.dstate ≠ .run ∨ (s.member m).st ≠ .joining ∨ (s.member m).joinDeadline = none → t = s))

/-- R202, R206, R387: a member command of an Operator, outside a standby, on an enrolled member in a state that allows it, is
answered OK and has its effect; in another state it is BUSY, and in a standby DENIED, with no effect. A role change is asked for
where the checks pass, and given up when its time ends without an acknowledgement. -/
def Obligations.MemberCommands : Prop :=
  ∀ (s : State) (role : Role) (m : Nat), Role.operator.rank ≤ role.rank →
    (∀ c ∈ [Instr.retire role m, .reinstate role m, .releaseFrozen role m], s.standby = true →
      exec c s = .next (s.deny .state)) ∧
    (s.standby = false → s.memberOk m = true →
      (Runs (.retire role m) s fun t =>
        if (s.member m).st = .unknown ∨ (s.member m).st = .silent ∨ (s.member m).st = .stopped then
          (t.member m).st = .retired ∧ (t.member m).held = false ∧ t.ans.status = .ok
        else t = s.answer .busy) ∧
      (Runs (.reinstate role m) s fun t =>
        if (s.member m).st = .retired then (t.member m).st = .unknown ∧ t.ans.status = .ok else t = s.answer .busy) ∧
      (Runs (.releaseFrozen role m) s fun t =>
        if (s.member m).st = .silent ∨ (s.member m).st = .stopped then
          (t.member m).st = (s.member m).st ∧ (t.member m).held = false ∧ t.ans.status = .ok
        else t = s.answer .busy)) ∧
    (∀ v, Runs (.roleChangeRequest role m v) s fun t =>
      if s.standby = true then t = s.deny .state
      else if s.roleCheck m v = .ok then
        (t.member m).change = some ⟨BitVec.ofNat 5 v, s.tb4ms + 2000, false⟩ ∧ t.ans.status = .ok
      else t = s.answer (s.roleCheck m v)) ∧
    (Runs (.roleChangeTimeout m) s fun t =>
      ((s.member m).change = none ∨ s.standby = true → t = s) ∧
      (∀ c, (s.member m).change = some c → c.acked = false → s.standby = false →
        (t.member m).change = none ∧ (t.member m).role = (s.member m).role) ∧
      (∀ c, (s.member m).change = some c → c.acked = true → t = s))

/-- R208 to R210: task calls of a caller who may call, where the checks of the call pass. CREATE makes the lowest *Free* entry *Open*
at epoch 0; ALLOT, WITHDRAW and CANCEL take the task to *Allotted*, *Open* and *Cancelled* with the next epoch; DELETE frees the
entry; SET_PRIO writes the priority; SET_ROLE asks for the member's role.

R15, R210, R211, R387: a task call that may not be made, as from a standby or a lower role, or that a check refuses, leaves every
task, timed command and member as it is. -/
def Obligations.TaskCalls : Prop :=
  (∀ (s : State) (c : CallIn), s.callAllowed c = true →
     (Runs (.create c) s fun t =>
       let l := s.argOctets c.arg 128
       s.createDenied l = false → s.fleet.tasks.length < 65536 →
         t.task (lowestFree s.fleet.tasks 0 65536) = taskOf l s.fleetMs) ∧
     (Runs (.allot c) s fun t =>
       s.allotCheck c.task.toNat c.member.toNat c.epoch = .ok →
         (t.task c.task.toNat).st = .allotted ∧ (t.task c.task.toNat).member = c.member.toNat ∧
         (t.task c.task.toNat).epoch = (s.task c.task.toNat).epoch + 1) ∧
     (Runs (.withdraw c) s fun t =>
       s.taskCheck c TaskState.holding = .ok →
         (t.task c.task.toNat).st = .opened ∧ (t.task c.task.toNat).member = 0 ∧
         (t.task c.task.toNat).epoch = (s.task c.task.toNat).epoch + 1) ∧
     (Runs (.cancel c) s fun t =>
       s.taskCheck c (fun k => k = .opened || k.holding) = .ok →
         (t.task c.task.toNat).st = .cancelled ∧ (t.task c.task.toNat).result = 4 ∧
         (t.task c.task.toNat).epoch = (s.task c.task.toNat).epoch + 1) ∧
     (Runs (.delete c) s fun t => s.taskCheck c TaskState.finished = .ok → t.task c.task.toNat = {}) ∧
     (Runs (.setPrio c) s fun t =>
       s.taskCheck c (fun k => k ≠ .free) = .ok →
         t.task c.task.toNat = { s.task c.task.toNat with prio := c.arg.setWidth 3 }) ∧
     (Runs (.setRole c) s fun t =>
       s.roleCheck c.member.toNat (c.arg.toNat % 32) = .ok →
         (t.member c.member.toNat).change = some ⟨BitVec.ofNat 5 (c.arg.toNat % 32), s.tb4ms + 2000, false⟩)) ∧
  (∀ (s : State) (c : CallIn),
     (s.callAllowed c = false → ∀ i ∈ [Instr.create c, .allot c, .withdraw c, .cancel c, .delete c, .setPrio c, .setRole c,
         .tfcSubmit c none], Runs i s fun t =>
       t.fleet.tasks = s.fleet.tasks ∧ t.fleet.tfcs = s.fleet.tfcs ∧ t.fleet.members = s.fleet.members ∧
       (∀ r, c.from' = .dict r → t.ans.status = .denied)) ∧
     (epochCheck (s.task c.task.toNat).epoch c.epoch ≠ .ok → ∀ i ∈ [Instr.allot c, .withdraw c, .cancel c, .delete c,
         .setPrio c], Runs i s fun t =>
       t.fleet.tasks = s.fleet.tasks ∧ t.fleet.tfcs = s.fleet.tfcs ∧ t.fleet.members = s.fleet.members))

/-- R209, R212: a deadline takes an *Open* or *Allotted* task to *Failed* with result 3 and is told once of an *Active* one; the
allotment period starts again when it ends; a long silence takes a member's tasks back to *Open*; RESYNC goes out once its queue
has room. In a standby none of the first three acts.

R213, R214: a timed command whose checks pass is *Pending* in the lowest free record; one that is not acknowledged in time is
*Failed*; an *Acked* one without revert, and one being cancelled, ends at its execute time; an *Acked* one with revert ends at its
revert time; one without owner is freed 60 s after it ended. In a standby none of the four acts. -/
def Obligations.TaskEvents : Prop :=
  (∀ s : State,
     (∀ id, Runs (.taskDeadline id) s fun t =>
       (s.standby = true → t = s) ∧
       (s.standby = false → (s.task id).st = .opened ∨ (s.task id).st = .allotted →
         (t.task id).st = .failed ∧ (t.task id).result = 3 ∧ (t.task id).epoch = (s.task id).epoch + 1) ∧
       (s.standby = false → (s.task id).st = .active → (s.task id).deadlineTold = false →
         t.task id = { s.task id with deadlineTold := true })) ∧
     (Runs .allotmentTick s fun t =>
       (s.standby = true ∨ s.fleet.tickCount < s.od 0x6600 3 10 → t = s) ∧
       (s.standby = false → s.od 0x6600 3 10 ≤ s.fleet.tickCount → t.fleet.tickCount = 0)) ∧
     (Runs .resyncEvent s fun t =>
       (s.fleet.evOverflow = false → t = s) ∧
       (∀ u, s.fleet.evOverflow = true → s.enginePush (s.fleetQueue 16) [9, 0] = some u →
         t.fleet.evOverflow = false ∧ t.ques = u.ques)) ∧
     (∀ m, Runs (.silentWithdrawTimeout m) s fun t =>
       ((s.member m).silentSince = none ∨ s.standby = true ∨ (s.member m).st ≠ .silent → t = s) ∧
       ((s.member m).silentSince ≠ none → s.standby = false → s.od 0x6600 1 0 ≠ 1 → s.od 0x6600 2 30 ≠ 0 →
         (s.member m).st = .silent → ∀ id, (s.task id).member = m → (s.task id).st = .allotted ∨ (s.task id).st = .active →
         (t.task id).st = .opened))) ∧
  (∀ s : State,
     (∀ c l, Runs (.tfcSubmit c (some l)) s fun t =>
       (s.callAllowed c = true → s.tfcCheck l = .ok → t.tfc (lowestFree s.fleet.tfcs 0 4096) = s.tfcOf l) ∧
       (s.tfcCheck l ≠ .ok → t.fleet.tfcs = s.fleet.tfcs)) ∧
     (∀ i, Runs (.tfcAckDeadline i) s fun t =>
       if s.standby = false ∧ (s.tfc i).st = .pending then (t.tfc i).st = .failed else t = s) ∧
     (∀ i, Runs (.tfcExecuteTime i) s fun t =>
       if s.standby = false ∧ ((s.tfc i).st = .acked ∧ (s.tfc i).revCode = 0 ∨ (s.tfc i).st = .cancelling) then
         (t.tfc i).st = .ended
       else t = s) ∧
     (∀ i, Runs (.tfcRevertTime i) s fun t =>
       if s.standby = false ∧ (s.tfc i).st = .acked ∧ (s.tfc i).revCode ≠ 0 then (t.tfc i).st = .ended else t = s) ∧
     (∀ i, Runs (.tfcFreeTimeout i) s fun t =>
       if s.standby = false ∧ (s.tfc i).st.terminal = true ∧ (s.tfc i).owner = none then t.tfc i = {} else t = s))

/-! ### Safety -/

/-- R218, R219, R222 to R224, R244: a lane period without a voted record ends in the safe state, with every safety command answered. With
one, an SF1_STOP among the commands makes SF1 active whatever reset stands beside it, and an included lane that disagrees in a
second period in a row is excluded, which sets DEGRADED. In *Start-up* and *Dormant* no lane runs. -/
def Obligations.LanePeriod : Prop :=
  ∀ (s : State) (outs : Vector LaneOut 3) (badWords : BitVec 8) (stuck : BitVec 2) (e : EstopIn),
    Runs (.lanePeriod outs badWords stuck e) s fun t =>
      (s.dev.dstate = .startUp ∨ s.dev.dstate = .dormant → t = s) ∧
      (s.dev.dstate ≠ .startUp → s.dev.dstate ≠ .dormant →
        (s.saf.voted outs = false → t.saf.safe = true ∧ t.saf.cmds = []) ∧
        (s.saf.voted outs = true →
          ((∃ m ∈ s.saf.cmds, m.code = 1) → t.saf.sf1 = .active) ∧
          (∀ i : Fin 3, s.saf.lanes[i].included = true → s.saf.lanes[i].disagreed = true → outs[i] ≠ .good →
            t.saf.lanes[i].included = false ∧ t.saf.degraded = true)))

/-- R223 to R225: degraded operation has a limit, after which the safe state holds; a stage without keep-alive loses both outputs; an
output that fails its test pulse is latched as a fault, with the safe state.

R239 to R243: what the events of the ESTOP inputs do to their channel and to the other; a discrepancy that stands for its
time latches its fault and is counted. -/
def Obligations.StopOutputs : Prop :=
  (∀ s : State,
     (Runs .degradedTimeLimit s fun t =>
       (s.saf.degradedAt = none → t = s) ∧ (s.saf.degradedAt ≠ none → t.saf.safe = true)) ∧
     (Runs .keepaliveTimeout s fun t =>
       if s.saf.keepAlive = true then t = s
       else t.saf = { s.saf with outA := false, outB := false } ∧ t.outside [.saf] = s.outside [.saf]) ∧
     (∀ ok, Runs (.stopOutTestPulse false ok) s fun t =>
       if s.saf.outA = true ∧ ok = false then t.saf.fltA = true ∧ t.saf.fltB = s.saf.fltB ∧ t.saf.safe = true else t = s) ∧
     (∀ ok, Runs (.stopOutTestPulse true ok) s fun t =>
       if s.saf.outB = true ∧ ok = false then t.saf.fltB = true ∧ t.saf.fltA = s.saf.fltA ∧ t.saf.safe = true else t = s)) ∧
  (∀ (s : State) (b : Bool),
     (∀ run, Runs (.estopFilterExpiry b run) s fun t =>
       t.estop b = { s.estop b with raw := run, filt := !run } ∧ t.estop (!b) = s.estop (!b) ∧
       t.outside [.saf] = s.outside [.saf]) ∧
     (Runs (.estopUnstable b) s fun t =>
       t.estop b = { s.estop b with unst := true, unstableNow := true } ∧ t.estop (!b) = s.estop (!b) ∧
       t.saf.nEstopFlt = (if (s.estop b).unst then s.saf.nEstopFlt else s.saf.nEstopFlt + 1)) ∧
     (Runs (.estopStable b) s fun t =>
       if (s.estop b).unstableNow = true then
         t.estop b = { s.estop b with unstableNow := false, raw := true, filt := false } ∧ t.estop (!b) = s.estop (!b)
       else t = s) ∧
     (∀ high low followed, Runs (.estopTestPulse b high low followed) s fun t =>
       if s.saf.cfg.mode ≠ 0 then t = s
       else (t.estop b).tpf = ((s.estop b).tpf || (high || low)) ∧
         (t.estop b).followed = (if followed = true ∧ high = false ∧ low = false then min 10 ((s.estop b).followed + 1) else 0) ∧
         t.estop (!b) = s.estop (!b)) ∧
     (Runs .discrepancyTimeout s fun t =>
       (s.saf.discSince = none → t = s) ∧
       (s.saf.discSince ≠ none → t.saf.disc = true ∧ t.saf.discSince = none ∧ t.saf.nEstopFlt = s.saf.nEstopFlt + 1)))

/-- R228, R230: the gate closes 10 ms after the boundary, and a permit that has not begun is not sent. A loopback awaited that
matches has passed; one that does not arrive or verify is counted, the third in a row with the safe state; one that differs from
the voted word forces the safe state at once. -/
def Obligations.PermitLoopback : Prop :=
  ∀ s : State,
    (Runs .permitGateClose s fun t => t.saf.gate = false ∧
      (s.fra.permitDue = true →
        t.fra.permitDue = false ∧ t.fra.nPermitUnsent = s.fra.nPermitUnsent + 1 ∧ t.saf.loopback = .notSent) ∧
      (s.fra.permitDue = false → t.saf.loopback = s.saf.loopback)) ∧
    (∀ arrives mic same, Runs (.permitLoopback arrives mic same) s fun t =>
      (s.saf.loopback ≠ .awaited → t = s) ∧
      (s.saf.loopback = .awaited →
        (arrives = true → mic = true → same = true →
          t.saf = { s.saf with loopback := .passed, loopConsec := 0 } ∧ t.outside [.saf] = s.outside [.saf]) ∧
        (arrives = false ∨ mic = false → t.saf.loopMiss = s.saf.loopMiss + 1 ∧
          (s.saf.loopConsec = 2 → t.saf.safe = true)) ∧
        (arrives = true → mic = true → same = false → t.saf.safe = true ∧ t.saf.loopFlt = true)))

/-- R13, R244, R387: a safety command of an Operator waits for the lanes under the next sequence number. A standby passes stops to
the active unit and answers with its reply, or DENIED while the link is down, and denies resets; a lower role is DENIED.

R254, R454: the lanes take the configuration buffer when all three compute the same CRC over it, and keep the one in force
otherwise. With the run line up nothing changes, and an access that the firewall stops changes nothing but its record. -/
def Obligations.SafetyCommands : Prop :=
  (∀ (s : State) (role : Role) (zone : Nat) (reply : Status), zone ≤ 15 →
     ∀ p ∈ [(1, 0, Instr.sf1Stop role reply), (2, 0, .sf1Reset role), (3, zone, .zoneStop role zone reply),
         (4, zone, .zoneReset role zone), (5, 0, .sf4Reset role)],
       Runs p.2.2 s fun t =>
         (role.rank < Role.operator.rank → t = s.deny .role) ∧
         (Role.operator.rank ≤ role.rank → s.standby = false →
           t.saf.cmds = s.saf.cmds ++ [⟨BitVec.ofNat 8 p.1, BitVec.ofNat 4 p.2.1, s.saf.cmdSeq + 1⟩] ∧
           t.saf.cmdSeq = s.saf.cmdSeq + 1 ∧ t.outside [.saf] = s.outside [.saf]) ∧
         (Role.operator.rank ≤ role.rank → s.standby = true →
           ((p.1 = 1 ∨ p.1 = 3) ∧ s.pair.link = true → t.ans.status = reply ∧ t.saf = s.saf) ∧
           ((p.1 ≠ 1 ∧ p.1 ≠ 3) ∨ s.pair.link = false → t = s.deny .state))) ∧
  (∀ (s : State) (b : Bus) (agree : Bool), Runs (.safCfgCommit b agree) s fun t =>
     (s.allows b 0x400F0180 .write = true → s.runLine = true → t = s) ∧
     (s.allows b 0x400F0180 .write = true → s.runLine = false →
       (agree = true → t.saf.cfgOk = true ∧ t.saf.cfg = SafCfg.ofOctets s.saf.cfgBuf.toList ∧
         t.saf.cfgCrc = crc32c s.saf.cfgBuf.toList) ∧
       (agree = false → t.saf.cfgOk = false ∧ t.saf.cfg = s.saf.cfg ∧ t.saf.cfgCrc = s.saf.cfgCrc)) ∧
     (s.allows b 0x400F0180 .write = false → t.saf = s.saf))

/-! ### Radio -/

/-- R586: in the pause of a radio microcode load nothing starts or ends on air.

R267, R272: in EU a permit that may begin is preceded in each window by a listen of FRA; a busy listen before the last window leaves the
permit due for the next. In NA only the first window begins one. A listen of FRB found busy waits, and is tried again.

R271, R275, R276: a data slot that exists opens while FRB transmits, and the one before it is closed. In the Cowslip window FRA begins a
segment, or leaves it due while it is not idle; a unit that does not transmit begins none. -/
def Obligations.ChannelAccess : Prop :=
  (∀ s : State, s.upd.paused = some .radio → ∀ (w : Fin 3) (ok frb : Bool) (rnd : Nat) (level mean : Int) (slot : FrbSlot)
     (us : Nat), ∀ c ∈ [Instr.permitWindowStart w ok, .listenEnd frb rnd level mean ok, .listenRetry, .dataSlotStart slot,
       .frameTxEnd frb, .cowslipWindowStart, .launchTime frb, .stopFrameEnd ok, .mrxRetune us], exec c s = .next s) ∧
  (∀ s : State, s.upd.paused ≠ some .radio →
     (∀ (w : Fin 3) ok, Runs (.permitWindowStart w ok) s fun t => let u := s.reachOffset (1200 * w.val)
       (s.na = true → w ≠ 0 → t = s) ∧
       (s.na = false → ((u.permitReady || u.permitPending) && u.fraIdle) = true →
         t.fra.listen = some (.permit w.val) ∧ t.fra.listenFrom = u.tb4ns ∧ t.fra.permitDue = s.fra.permitDue) ∧
       (s.na = false → ((u.permitReady || u.permitPending) && u.fraIdle) = false → t = u)) ∧
     (∀ rnd level mean ok, Runs (.listenEnd false rnd level mean ok) s fun t =>
       (s.fra.listen = none → t = s) ∧
       (∀ w, w < 2 → s.fra.listen = some (.permit w) → s.na = false → s.fra.regs.busy level = true →
         t.fra.listen = none ∧ t.fra.permitDue = s.fra.permitDue ∧ t.fra.onAir = s.fra.onAir ∧
         t.fra.regs.cntBusy = s.fra.regs.cntBusy + 1)) ∧
     (∀ rnd level mean ok, Runs (.listenEnd true rnd level mean ok) s fun t =>
       (s.frb.listening = false → t = s) ∧
       (s.frb.listening = true → s.frb.regs.busy level = true →
         t.frb.listening = false ∧ t.frb.busyAt ≠ none ∧ t.frb.onAir = s.frb.onAir ∧
         t.frb.regs.cntBusy = s.frb.regs.cntBusy + 1)) ∧
     (Runs .listenRetry s fun t =>
       (s.frb.busyAt = none → t = s) ∧
       (s.frb.busyAt ≠ none → s.frb.slot = none → t.frb = { s.frb with busyAt := none }))) ∧
  (∀ s : State, s.upd.paused ≠ some .radio →
     (∀ slot, Runs (.dataSlotStart slot) s fun t =>
       t.frb.slot = if s.slotExists slot = true ∧ s.frbMay = true then some slot else none) ∧
     (Runs .cowslipWindowStart s fun t =>
       (s.transmits = false → t = s) ∧
       (s.transmits = true → s.nextSegment = none ∨ s.blk.fra.st ≠ .on →
         t.fra = { s.fra with segDue := false } ∧ t.frb = s.frb) ∧
       (s.transmits = true → s.nextSegment ≠ none → s.blk.fra.st = .on → s.fraIdle = false →
         t.fra = { s.fra with segDue := true } ∧ t.frb = s.frb)))

/-- R259, R277, R279 to R281: a frame that ends is on air no more and is counted; with nothing on air nothing ends. A descriptor is taken
only by a radio that is ON; one that breaks its table is answered DENIED and queues nothing, and another without a launch time joins FRA's queue
at its end. With no frame waiting for its launch time nothing is launched. A frame with a wrong FCS is counted at its
receiver. -/
def Obligations.FramesOnAir : Prop :=
  ∀ s : State,
    (s.upd.paused ≠ some .radio →
      (Runs (.frameTxEnd true) s fun t =>
        (s.frb.onAir = none → t = s) ∧
        (s.frb.onAir ≠ none → s.frb.slot = none → t.frb.onAir = none ∧ t.frb.regs.cntTx = s.frb.regs.cntTx + 1)) ∧
      (Runs (.frameTxEnd false) s fun t =>
        (s.fra.onAir = none → t = s) ∧
        (∀ q, s.fra.onAir = some (.segment q) → t.fra.onAir = none ∧ t.fra.regs.cntTx = s.fra.regs.cntTx + 1 ∧
          t.fra.queue = takeFrame q s.fra.queue)) ∧
      (∀ ok, Runs (.stopFrameEnd ok) s fun t => s.fra.onAir = none → t = s) ∧
      (Runs (.launchTime true) s fun t => (∀ f ∈ s.frb.queue, f.ripe = true) → t = s) ∧
      (Runs (.launchTime false) s fun t => (∀ f ∈ s.fra.queue, f.ripe = true) → t = s) ∧
      (∀ us, Runs (.mrxRetune us) s fun t =>
        (s.blk.frb.st ≠ .on → t = s) ∧ (∀ c, (s.reachOffset us).mrxAt (s.reachOffset us).cycleUs = some c →
          s.blk.frb.st = .on → t.frb = { s.frb with mrxCh := c }))) ∧
    (∀ w0 w1, Runs (.txDescriptor false w0 w1) s fun t =>
      (s.blk.fra.st ≠ .on → t = s) ∧
      (s.blk.fra.st = .on → descBad false w0 w1 = true → t.fra = s.fra) ∧
      (s.blk.fra.st = .on → descBad false w0 w1 = false → w0.getLsbD 5 = false →
        ∃ f, f.tag = some (w1.extractLsb' 32 16) ∧ f.launch = none ∧ t.fra.queue = s.fra.queue ++ [f])) ∧
    (∀ w0 w1, Runs (.txDescriptor true w0 w1) s fun t =>
      (s.blk.frb.st ≠ .on → t = s) ∧ (s.blk.frb.st = .on → descBad true w0 w1 = true → t.frb = s.frb)) ∧
    (∀ port, Runs (.rxFrameFcsFailed port) s fun t =>
      if port = .fra then t.fra.regs.cntRxErr = s.fra.regs.cntRxErr + 1 ∧ t.outside [.fra] = s.outside [.fra]
      else t.frb.regs.cntRxErr = s.frb.regs.cntRxErr + 1 ∧ t.outside [.frb] = s.outside [.frb])

/-- R13, R264, R284: a radio setting that no object has is answered DENIED; a value of the object's range is DENIED outside *Listening* and
where it breaks the rules of the profile, with nothing changed, and OK otherwise.

R206, R290, R300 to R302: an item of an UPLINK frame that is not accepted changes nothing but a count. Of one that is, a segment joins its
assembly while that is not complete, a release goes to Vetch and its status falls due, and an acknowledged role is marked so.
An assembly that stays open too long is dropped and counted, and an item whose repetition has come falls due again. -/
def Obligations.RadioSettings : Prop :=
  (∀ (s : State) (role : Role) (idx sub : Nat) (v : Int), Role.engineer.rank ≤ role.rank →
     Runs (.radioConfigWrite role idx sub v) s fun t =>
       (s.radioObj idx sub = none → t = s.deny .noIndex) ∧
       (∀ o, s.radioObj idx sub = some o → o.ty.get (o.ty.put v) = v → o.inRange (o.ty.put v) = true →
         (s.dev.dstate ≠ .listening → t = s.deny .state) ∧
         (s.dev.dstate = .listening →
           ((s.odStore (odKey idx sub) (o.ty.put v) o.default).radioOk = false → t = s.deny .range) ∧
           ((s.odStore (odKey idx sub) (o.ty.put v) o.default).radioOk = true → t.ans.status = .ok)))) ∧
  (∀ s : State,
     (∀ f first seg corr role, s.blk.frb.st ≠ .on → ∀ c ∈ [Instr.uplinkRequestItem f first seg,
       .uplinkRestoreItem f first seg, .uplinkReleaseItem f first corr, .roleAck f first role], exec c s = .next s) ∧
     (∀ f, s.blk.frb.st = .on → s.transmits = true → f.form = true → f.mic = true →
       (s.link f.member).rx = some f.fcnt →
       (∀ seg, Runs (.uplinkRequestItem f false seg) s fun t =>
         (s.segmentIn f.member none seg).2.complete = none → (s.segmentIn f.member none seg).2 ∈ t.frames.asm) ∧
       (∀ seg, Runs (.uplinkRestoreItem f false seg) s fun t =>
         (s.segmentIn f.member (some seg.corridor) seg).2.complete = none →
           (s.segmentIn f.member (some seg.corridor) seg).2 ∈ t.frames.asm) ∧
       (∀ corr, Runs (.uplinkReleaseItem f false corr) s fun t =>
         let r := s.vetchSend (vetchHeader 3 0 f.member false 0 corr) []
         t.cre = r.1.cre ∧ (r.2 ≠ none → ∃ st, ∃ d ∈ t.frames.due, d.member = f.member ∧ d.item = .status f.fcnt st)) ∧
       (∀ role c, (s.member f.member).change = some c → c.role.setWidth 8 = role → Runs (.roleAck f false role) s fun t =>
         (t.member f.member).change = some { c with acked := true })) ∧
     (∀ m tag, Runs (.requestSegmentTimeout m tag) s fun t =>
       (s.frames.asm.find? (fun a => a.member = m && a.tag = tag) = none → t = s) ∧
       (∀ a, s.frames.asm.find? (fun a => a.member = m && a.tag = tag) = some a →
         (cycleReached s.dev.cycle (a.since + 8) = false → t = s) ∧
         (cycleReached s.dev.cycle (a.since + 8) = true →
           a ∉ t.frames.asm ∧ t.frames.nIncomplete = s.frames.nIncomplete + 1))) ∧
     (Runs .itemRepeat s fun t =>
       (s.standby = true → t = s) ∧
       (s.standby = false → ∀ d ∈ t.frames.due, ∀ c, d.after = some c → cycleReached s.dev.cycle c = false)))

/-- R305 to R314: at a rendezvous a unit that transmits owes the node a frame and, while FRB may, queues it; an acknowledgement that is valid and
awaited puts the node in step with no miss, and what is not valid is counted; a recovery that ends without it is a failed call, the
third in a row with the node UNREACHABLE. A new schedule waits until the node has it.

R290, R371: a standby that hears a valid permit of its partner keeps the counter and takes the stops into its lanes; one of another unit,
one that repeats a counter or one with a wrong MIC is counted; a unit that is no standby does nothing. -/
def Obligations.FieldNodes : Prop :=
  (∀ (s : State) (n : Nat),
     (Runs (.nodeRendezvous n) s fun t =>
       (s.transmits = false ∨ (s.node n).meets s.dev.cycle = false ∨ (s.node n).owed = some s.dev.cycle → t = s) ∧
       (s.transmits = true → (s.node n).meets s.dev.cycle = true → (s.node n).owed ≠ some s.dev.cycle →
         (t.node n).owed = some s.dev.cycle ∧
         t.frb.queue.length = (if s.blk.frb.st = .on then s.frb.queue.length + 1 else s.frb.queue.length))) ∧
     (∀ fcnt form mic status nclk, Runs (.nodeAck n fcnt form mic status nclk) s fun t =>
       (s.blk.frb.st ≠ .on → t = s) ∧
       (s.blk.frb.st = .on → form = false ∨ (s.node n).enrolled = false → t = s.countMic) ∧
       (s.blk.frb.st = .on → form = true → (s.node n).enrolled = true → fresher (s.node n).rx fcnt = false →
         t = s.countReplay) ∧
       (∀ a sfd dl, s.blk.frb.st = .on → form = true → (s.node n).enrolled = true → fresher (s.node n).rx fcnt = true →
         (s.node n).await = some (a, fcnt, sfd) → (s.node n).awaitDl = some dl → mic = true →
         (t.node n).st = .inStep ∧ (t.node n).miss = 0 ∧ (t.node n).rx = some fcnt ∧ (t.node n).await = none)) ∧
     (Runs (.nodeRecoveryTimeout n) s fun t =>
       ((s.node n).recoverUntil = none → t = s) ∧
       (∀ c, (s.node n).recoverUntil = some c →
         (cycleReached s.dev.cycle c = false → t = s) ∧
         (cycleReached s.dev.cycle c = true →
           (t.node n).callFails = (s.node n).callFails + 1 ∧ (t.node n).recoverUntil = none ∧
           (2 ≤ (s.node n).callFails → (t.node n).st = .unreachable)))) ∧
     (∀ role v, Role.engineer.rank ≤ role.rank → Runs (.nodeScheduleWrite role n 1 v) s fun t =>
       ((s.node n).enrolled = false ∨ v < 5 ∨ 16 < v → t = s.deny .range) ∧
       ((s.node n).enrolled = true → 5 ≤ v → v ≤ 16 → t.ans.status = .ok ∨ t = s.answer .full) ∧
       (t.node n).e = (s.node n).e ∧ (t.node n).phase = (s.node n).phase)) ∧
  (∀ (s : State) (unit : BitVec 8) (fcnt : BitVec 32) (mic stop : Bool) (w : PermitWord) (repoch : BitVec 32),
     Runs (.standbyHeardPermit unit fcnt mic stop w repoch) s fun t =>
       (s.standby = false ∨ s.blk.frb.st ≠ .on → t = s) ∧
       (s.standby = true → s.blk.frb.st = .on →
         (unit ≠ s.pair.partner.unit → t = s.countMic) ∧
         (unit = s.pair.partner.unit → fresher s.pair.rxPartner fcnt = false → t = s.countReplay) ∧
         (unit = s.pair.partner.unit → fresher s.pair.rxPartner fcnt = true → mic = false → t = s.countMic) ∧
         (unit = s.pair.partner.unit → fresher s.pair.rxPartner fcnt = true → mic = true →
           t.pair.rxPartner = some fcnt ∧ t.saf.sf2 = s.saf.sf2 ||| w.zstop ∧
           (w.stop = true → t.saf.sf1 ≠ .clear))))

/-! ### Time and the pair -/

/-- R327, R330: a measurement of a base that copies another changes nothing. One that failed breaks the run of valid ones. A valid
one of a base that is FREE locks it, with a step by the offset, once the run is long enough; of a LOCKED one with an offset
within the jump threshold it keeps it LOCKED and slews. A source that is lost leaves the base FREE where it was FREE and in
HOLDOVER otherwise. R331: a step command with the value 1 is obeyed only for TB0 or a slave domain that is REFUSED or CATCHUP.

R323, R324, R329, R350: a Vendor-world write of SLEW replaces any slew in progress, and one of STEPH arms a step of the signed
64-bit value, replacing an earlier one; TB5 takes neither, nor TB4 a step once in service, and each sets CFG_ERR instead; another
world's write changes nothing. A step that is applied is armed no more, ends a slew and increments STEPSEQ. R320: a read of NS
latches SUB, SECL, SECH and STEPSEQ of the same edge. -/
def Obligations.TimeSources : Prop :=
  (∀ (s : State) (n : Fin 5),
     (∀ delta acc, (s.tb n).track = true → Runs (.sourceMeasurement n delta acc) s fun t => t = s) ∧
     (∀ acc, (s.tb n).track = false → Runs (.sourceMeasurement n none acc) s fun t =>
       (t.tb n).good = 0 ∧ (t.tb n).st = (s.tb n).st ∧ t.outside [.tim] = s.outside [.tim]) ∧
     (∀ d acc, (s.tb n).track = false → n.val ≠ 4 → Runs (.sourceMeasurement n (some d) acc) s fun t =>
       (t.tb n).delta = d ∧ (t.tb n).present = true ∧ (t.tb n).good = (s.tb n).good + 1 ∧
       ((s.tb n).st = .free → s.needed n ≤ (s.tb n).good + 1 →
         (t.tb n).st = .locked ∧ (t.tb n).service = true ∧ (t.tb n).step = some d) ∧
       ((s.tb n).st = .free → ¬ s.needed n ≤ (s.tb n).good + 1 → (t.tb n).st = .free) ∧
       ((s.tb n).st = .locked → d.natAbs ≤ s.jumpThreshold n →
         (t.tb n).st = .locked ∧ (t.tb n).slew = d * nsUnit)) ∧
     ((s.tb n).track = false → n.val ≠ 4 → Runs (.sourceLost n) s fun t =>
       (t.tb n).present = false ∧ (t.tb n).qualified = false ∧ (t.tb n).good = 0 ∧ (t.tb n).slew = 0 ∧
       (t.tb n).st = if (s.tb n).st = .free then .free else .holdover) ∧
     (∀ (role : Role) (v : Nat), Role.engineer.rank ≤ role.rank → Runs (.stepCommand role n v) s fun t =>
       if v ≠ 1 then t = s.deny .range
       else if (n.val = 0 ∨ s.slaveDomain n = true) ∧ ((s.tb n).st = .refused ∨ (s.tb n).st = .catchup) then
         (t.tb n).st = .locked ∧ (t.tb n).step = some (s.tb n).delta ∧ t.ans.status = .ok
       else t = s.deny .other)) ∧
  (∀ s : State,
     (∀ (b : Bus) (k : Fin 5) (n : Fin 6) (v : Word), n.val = k.val → Runs (.slewWrite b n v) s fun t =>
       if b.world = 0 then t = s.setTb k fun x => { x with slew := v.toInt * nsUnit, slewFrac := 0 } else t = s) ∧
     (∀ (b : Bus) (v : Word), b.world = 0 → Runs (.slewWrite b 5 v) s fun t =>
       t.tim = { s.tim with tb5Err := true } ∧ t.outside [.tim] = s.outside [.tim]) ∧
     (∀ (b : Bus) (k : Fin 5) (n : Fin 6) (v : Word), n.val = k.val → Runs (.stepArm b n v) s fun t =>
       if b.world ≠ 0 then t = s
       else if k.val = 4 ∧ (s.tb 4).service = true then t = s.setTb k fun x => { x with cfgErr := true }
       else t = s.setTb k fun x => { x with step := some (v ++ x.stepL).toInt }) ∧
     (∀ (b : Bus) (v : Word), b.world = 0 → Runs (.stepArm b 5 v) s fun t =>
       t.tim = { s.tim with tb5Err := true } ∧ t.outside [.tim] = s.outside [.tim]) ∧
     (∀ n : Fin 5, Runs (.stepApply n) s fun t =>
       ((s.tb n).step = none → t = s) ∧
       (∀ d, (s.tb n).step = some d →
         (t.tb n).step = none ∧ (t.tb n).slew = 0 ∧ t.outside [.gbb, .tim, .evr] = s.outside [.gbb, .tim, .evr] ∧
         ((s.tb n).track = false → (t.tb n).stepSeq = (s.tb n).stepSeq + 1))) ∧
     (∀ n : Fin 5, Runs (.slewComplete n) s fun t =>
       ((s.tb n).slew = 0 ∨ (s.tb n).slewRt = 0 → t = s) ∧
       ((s.tb n).track = false → (t.tb n).slew.natAbs ≤ (s.tb n).slew.natAbs) ∧
       t.outside [.tim, .evr] = s.outside [.tim, .evr]) ∧
     (∀ (b : Bus) (k : Fin 5) (n : Fin 6), n.val = k.val → s.allows b (0x40070100 + 0x40 * n.val) .read = true →
       Runs (.tbNsRead b n) s fun t =>
         t.ans.status = .ok ∧ t.ans.value = leBytes 4 (s.tb k).ns ∧
         t.tb k = { s.tb k with
           shSub := BitVec.ofNat 30 (s.tb k).sub, shSecL := BitVec.ofNat 32 (s.tb k).sec,
           shSecH := BitVec.ofNat 16 ((s.tb k).sec / 2 ^ 32), shSeq := (s.tb k).stepSeq } ∧
         t.outside [.tim, .ans] = s.outside [.tim, .ans]))

/-- R332, R333, R335, R337, R339, R341, R625: what the time outputs and event inputs do. The outputs of a base follow a change of
its validity at its next second. An enabled pulse is sent and counted, but for the one after a displacement, which is omitted
and sets SKIP, and while its gate is shut, which sets SUPPR. An edge that is not enabled is not captured; one within 100 ns of the
last is lost; any other gives the record's time, and the next sequence number. A pending leap second is counted once. A load of
the fall-back counter is done at the next crystal edge and makes it valid, and a clock failure sets CLKFAIL.

R345, R346: a domain that is enabled as a master, on a MAC that is ON and not suppressed, sends Sync with Follow_Up and
Announce, each under its own next sequence number. A slave follows at most four masters. A Delay_Req is answered while fewer
than 1,000 were in the second, and counted as dropped otherwise. Nothing is sent and nothing changes where the domain is not
so enabled. -/
def Obligations.TimeEvents : Prop :=
  (∀ s : State,
     (∀ n : Fin 5, Runs (.timeValidityChange n) s fun t =>
       ((s.tb n).validNow = s.timeValid n → t = s) ∧
       ((s.tb n).validNow ≠ s.timeValid n → (t.tb n).validNow = t.timeValid n) ∧
       t.outside [.tim, .evr] = s.outside [.tim, .evr]) ∧
     (∀ p : Fin 2, Runs (.ppsPulse p) s fun t =>
       (baseOf s.tim.pps[p].src = none → t = s) ∧
       (∀ n, baseOf s.tim.pps[p].src = some n → s.tim.pps[p].odPend = false →
         (s.tim.pps[p].en = false → t.tim.pps[p] = s.tim.pps[p] ∧ t.out = s.out) ∧
         (s.tim.pps[p].en = true → s.tim.pps[p].omit' = true →
           t.tim.pps[p] = { s.tim.pps[p] with omit' := false, skip := true } ∧ t.out = s.out) ∧
         (s.tim.pps[p].en = true → s.tim.pps[p].omit' = false → s.tim.pps[p].gate = false →
           t.tim.pps[p] = { s.tim.pps[p] with suppr := true } ∧ t.out = s.out) ∧
         (s.tim.pps[p].en = true → s.tim.pps[p].omit' = false → s.tim.pps[p].gate = true →
           t.tim.pps[p].count = s.tim.pps[p].count + 1 ∧ t.tim.pps[p].suppr = false ∧
           t.out = .pps p t.tim.pps[p].lastWidth :: s.out))) ∧
     (∀ (i : Fin 4) (rising : Bool), Runs (.evtCapture i rising) s fun t =>
       (s.tim.evt[i].en = false → t = s) ∧
       (s.tim.evt[i].en = true → s.tim.evt[i].edge.getLsbD (if rising then 0 else 1) = true →
         t.tim.evt[i].seq = s.tim.evt[i].seq + 1 ∧
         (∀ p, s.tim.evt[i].prev = some p → s.tb5ns < p + 100 →
           t.tim.evt[i].lost = true ∧ t.outside [.tim] = s.outside [.tim]) ∧
         (s.tim.evt[i].prev = none →
           t.tim.evt[i].last = s.nsOf s.tim.evt[i].src ∧ t.tim.evt[i].prev = some s.tb5ns))) ∧
     (Runs .leapSecondApply s fun t =>
       (s.tim.leapPend = 0 → t = s) ∧
       (s.tim.leapPend ≠ 0 → t.tim.leapPend = 0 ∧
         t.tim.leap = if s.tim.leapPend = 1 then s.tim.leap + 1 else s.tim.leap - 1)) ∧
     (∀ b : Bus, Runs (.fbcLoad b) s fun t =>
       (b.world ≠ 0 → t = s) ∧ (b.world = 0 → t.tim.fbc.loadReq = false ∧ t.tim.fbc.valid = true) ∧
       t.outside [.tim, .evr] = s.outside [.tim, .evr]) ∧
     (∀ x, Runs (.clockFailure false x) s fun t =>
       (s.alive = false → t = s) ∧ (s.alive = true → t.tim.fbc.clkFail = true ∧ t.saf.safe = true))) ∧
  (∀ (s : State) (d : Fin 3),
     (Runs (.ptpSyncInterval d) s fun t =>
       if s.domainOn d false = true ∧ s.domainQuiet d = false then
         t.out = .ptp d 0x8 s.tim.ptp[d].syncSeq :: .ptp d 0x0 s.tim.ptp[d].syncSeq :: s.out ∧
         t.tim.ptp[d] = { s.tim.ptp[d] with syncSeq := s.tim.ptp[d].syncSeq + 1 }
       else t = s) ∧
     (Runs (.ptpAnnounceInterval d) s fun t =>
       if s.domainOn d false = true ∧ s.domainQuiet d = false then
         t.out.length = s.out.length + 1 ∧ t.tim.ptp[d] = { s.tim.ptp[d] with annSeq := s.tim.ptp[d].annSeq + 1 }
       else t = s) ∧
     (∀ i r a, Runs (.ptpMessageReceived d (.announce i r a)) s fun t =>
       t.outside [.tim] = s.outside [.tim] ∧ (s.domainOn d true = false → t = s) ∧
       (s.tim.ptp[d].foreign.length ≤ 4 → t.tim.ptp[d].foreign.length ≤ 4)) ∧
     (∀ m r, s.domainOn d true = false → Runs (.ptpMessageReceived d (.sync m r)) s fun t => t = s) ∧
     (∀ k, Runs (.ptpMessageReceived d (.delayResp k)) s fun t =>
       if s.domainOn d true = true ∨ s.odDom d 6 0 = 1 then t.tim.ptp[d] = { s.tim.ptp[d] with mpd := k } else t = s) ∧
     (∀ q, Runs (.ptpMessageReceived d (.delayReq q)) s fun t =>
       (s.domainOn d false = false → s.odDom d 6 0 ≠ 1 → t = s) ∧
       (s.domainOn d false = true → s.tim.ptp[d].answeredSec = s.tb5s → s.tim.ptp[d].answered < 1000 →
         t.tim.ptp[d].answered = s.tim.ptp[d].answered + 1 ∧ t.tim.ptp[d].dropped = s.tim.ptp[d].dropped ∧
         t.out.length = s.out.length + 1) ∧
       (s.domainOn d false = true → s.tim.ptp[d].answeredSec = s.tb5s → 1000 ≤ s.tim.ptp[d].answered →
         t.tim.ptp[d] = { s.tim.ptp[d] with dropped := s.tim.ptp[d].dropped + 1 } ∧ t.out = s.out)) ∧
     (Runs (.ptpMessageReceived d .unsupported) s fun t => t = s) ∧
     (Runs (.ptpDelayReqInterval d) s fun t =>
       if s.domainOn d true = true ∨ (s.odDom d 6 0 = 1 ∧ s.domainOn d false = true) then
         t.out = .ptp d (if s.odDom d 6 0 = 1 then 0x2 else 0x1) s.tim.ptp[d].reqSeq :: s.out ∧
         t.tim.ptp[d] = { s.tim.ptp[d] with reqSeq := s.tim.ptp[d].reqSeq + 1 }
       else t = s))

/-- R359, R360, R362, R388: the hold. A claim is asserted only while PAIR is ON, armed, not held, with PAIR_HOLD_IN deasserted and
out of the safe state; a race in its sample is lost at position 1 and outlasted at position 0; a claim that completes sets
CLAIMED. PAIR_KA takes 0x4B41 alone; 15 ms without it, and PAIR_CTRL.RELEASE, release the hold. A hold with PAIR_HOLD_IN asserted
after its claim is in conflict. A swap that the partner does not claim makes the unit eligible again.

R342, R363, R364: heartbeats and the link. A heartbeat is sent only while PAIR is ON, with the unit's role epoch, device state,
position, eligibility and sequence numbers. One that arrives clears the miss count; each that is missed is counted, and the third
in a row clears HB_OK. The link comes up only for a partner that authenticated and is known at the site; a unit of the same
position takes it down.

R366 to R370, R378, R385: the stream. A message with a bad tag, or over no link, changes nothing; one of an older role epoch is
answered ROLE_STALE and counted. A standby that awaits a snapshot buffers deltas; otherwise it applies the next in sequence and
counts a gap. An acknowledgement moves ACKSEQ forward only up to what was sent. A mirror write takes effect only in a standby with
RECON = 1. A unit in *Run* that is told it is stale leaves for *Listening*. -/
def Obligations.Pair : Prop :=
  (∀ s : State,
     (∀ a, Runs (.pairHoldInChange a) s fun t =>
       (a = s.pair.holdIn → t = s) ∧
       (a = true → s.pair.holdIn = false → s.pair.sampling = true → s.pair.pos = true →
         t.pair.race = true ∧ t.pair.holding = false ∧ t.pair.holdIn = true) ∧
       (a = true → s.pair.holdIn = false → s.pair.sampling = true → s.pair.pos = false →
         t.pair.holding = s.pair.holding ∧ t.pair.sampling = false ∧ t.pair.holdIn = true)) ∧
     (Runs .claimAssert s fun t =>
       if s.pairOn = true ∧ s.pair.arm = true ∧ s.pair.holding = false ∧ s.pair.holdIn = false ∧ s.saf.safe = false then
         t.pair.holding = true ∧ t.pair.sampling = true ∧ t.pair.claimDone = false ∧
         t.outside [.tim, .pair, .evr] = s.outside [.tim, .pair, .evr]
       else t = s) ∧
     (Runs .claimComplete s fun t =>
       (¬ (s.pair.holding = true ∧ s.pair.sampling = true) → t = s) ∧
       (s.pair.holding = true → s.pair.sampling = true → s.standby = false → s.dev.target = none →
         t.pair.holding = true ∧ t.pair.sampling = false ∧ t.pair.claimDone = true ∧ t.pair.claimed = true)) ∧
     (∀ b key, s.allows b 0x40100014 .write = true → Runs (.pairKaWrite b key) s fun t =>
       if key = 0x4B41 then t = s.setPair fun p => { p with kaAt := s.tb5ns } else t = s) ∧
     (Runs .pairKaTimeout s fun t =>
       if s.pair.holding = true then t.pair.holding = false ∧ t.pair.claimDone = false ∧ t.pair.kaLost = true else t = s) ∧
     (∀ b, s.allows b 0x40100000 .write = true → Runs (.holdRelease b) s fun t =>
       t.pair = { s.pair with holding := false, sampling := false, claimDone := false, conflict := false }) ∧
     (Runs .holdConflict s fun t =>
       if s.pair.holding = true ∧ s.pair.claimDone = true ∧ s.pair.holdIn = true ∧ s.pair.conflict = false then
         t.pair = { s.pair with conflict := true } ∧
         t.outside [.tim, .pair, .evr, .out] = s.outside [.tim, .pair, .evr, .out]
       else t = s) ∧
     (Runs .swapClaimTimeout s fun t =>
       (s.pair.swapRel = none → t = s) ∧
       (s.pair.swapRel ≠ none → t.pair.swapRel = none ∧
         (s.standby = true → s.pair.holdIn = false → t.dev.eligible = true ∧ t.pair.arm = true)))) ∧
  (∀ s : State,
     (Runs .heartbeatSend s fun t =>
       (s.blk.pair.st ≠ .on → t = s) ∧
       (s.blk.pair.st = .on → ∃ h : Heartbeat, t.out = .heartbeat h :: s.out ∧ t.pair = { s.pair with hbTx := h.tx } ∧
         h.repoch = s.fleet.roleEpoch ∧ h.dstate = s.dev.dstate ∧ h.pos = s.pair.pos ∧ h.eligible = s.dev.eligible ∧
         h.sent = s.pair.txSeq ∧ h.applied = s.pair.rxSeq)) ∧
     (∀ h, Runs (.heartbeatReceived h) s fun t =>
       (s.blk.pair.st ≠ .on → t = s) ∧
       (s.blk.pair.st = .on → s.dev.dstate ≠ .run →
         t.pair.hbOk = true ∧ t.pair.miss = 0 ∧ t.pair.hbDue = some (s.tb5ns + 12000000) ∧
         (∀ x, h = some x → t.pair.partner.repoch = x.repoch ∧ t.pair.partner.dstate = x.dstate ∧
           t.pair.partner.pos = x.pos ∧ t.pair.partner.eligible = x.eligible))) ∧
     (Runs .heartbeatMissed s fun t =>
       (s.pair.hbDue = none → t = s) ∧
       (∀ d, s.pair.hbDue = some d →
         t.pair.hbDue = some (d + 10000000) ∧ t.pair.missTotal = s.pair.missTotal + 1 ∧
         t.pair.miss = (if s.pair.miss = 3 then 3 else s.pair.miss + 1) ∧
         t.pair.hbOk = if s.pair.miss = 2 then false else s.pair.hbOk)) ∧
     (∀ unit auth, Runs (.linkUp unit auth) s fun t =>
       (s.blk.pair.st ≠ .on → t = s) ∧
       (s.blk.pair.st = .on → t.pair.l0 = true ∧ t.pair.l1 = true ∧
         (auth = true → s.sec.knowsUnit unit = true → t.pair.link = true ∧ t.pair.partner.unit = unit) ∧
         (auth = false ∨ s.sec.knowsUnit unit = false →
           t.pair = { s.pair with l0 := true, l1 := true } ∧ t.outside [.pair, .evr, .out] = s.outside [.pair, .evr, .out]))) ∧
     (∀ l0 l1 ce, Runs (.linkDown l0 l1 ce) s fun t =>
       t.pair.l0 = l0 ∧ t.pair.l1 = l1 ∧ t.pair.codeErr = s.pair.codeErr + ce ∧ t.pair.link = false ∧
       (s.pair.link = true → t.pair.fmt = false ∧ t.pair.snapAwait = false) ∧
       (s.pair.link = false → t.outside [.pair] = s.outside [.pair])) ∧
     (∀ readable pos, Runs (.hello readable pos) s fun t =>
       (s.pair.link = false → t = s) ∧
       (s.pair.link = true → pos = s.pair.pos → t.pair.link = false) ∧
       (s.pair.link = true → pos ≠ s.pair.pos →
         t.pair.link = true ∧ t.pair.fmt = readable ∧ t.pair.partner.pos = pos))) ∧
  (∀ s : State,
     (∀ d repoch tagOk, Runs (.deltaReceived d repoch tagOk) s fun t =>
       (s.pair.link = false ∨ tagOk = false → t = s) ∧
       (s.pair.link = true → tagOk = true → precedes repoch s.fleet.roleEpoch = true →
         t.pair = { s.pair with nStale := s.pair.nStale + 1 } ∧ t.out = .roleStale :: s.out ∧
         t.outside [.pair, .out] = s.outside [.pair, .out]) ∧
       (s.linkTakes repoch tagOk = true → s.standby = true → s.pair.fmt = true →
         (s.pair.snapAwait = true →
           t.pair = { s.pair with buffered := s.pair.buffered ++ [d] } ∧ t.outside [.pair] = s.outside [.pair]) ∧
         (s.pair.snapAwait = false → s.pair.snapDone = true → d.seq = s.pair.rxSeq + 1 → t.pair.rxSeq = d.seq) ∧
         (s.pair.snapAwait = false → d.seq ≠ s.pair.rxSeq + 1 →
           t.pair.nGap = s.pair.nGap + 1 ∧ t.pair.deltasOk = 0 ∧ t.pair.rxSeq = s.pair.rxSeq))) ∧
     (∀ seq, Runs (.deltaAckReceived seq) s fun t =>
       if s.pair.link = true ∧ precedes s.pair.ackSeq seq = true ∧ precEq seq s.pair.txSeq = true then
         t.pair = { s.pair with ackSeq := seq }
       else t = s) ∧
     (Runs .snapshotRequest s fun t =>
       if s.streams = true then t.out.length = s.out.length + 1 ∧ t.outside [.out] = s.outside [.out] else t = s) ∧
     (∀ requested last part seq recs repoch tagOk,
       Runs (.snapshotPartReceived requested last part seq recs repoch tagOk) s fun t =>
         (s.linkTakes repoch tagOk = false ∨ s.standby = false ∨ s.pair.fmt = false → t = s) ∧
         (requested = true → s.pair.snapAwait = false → t = s) ∧
         (requested = false → seq ≠ s.pair.rxSeq ∨ s.pair.snapDone = false → t = s) ∧
         (requested = true → last = true → recs = [] → part ≠ 0 → s.pair.snapAwait = true → s.pair.buffered = [] →
           s.linkTakes repoch tagOk = true → s.standby = true → s.pair.fmt = true →
           t.pair.snapAwait = false ∧ t.pair.snapDone = true ∧ t.pair.rxSeq = seq ∧ t.pair.deltasOk = 0)) ∧
     (∀ cells repoch tagOk, Runs (.phaseStream cells repoch tagOk) s fun t =>
       (s.linkTakes repoch tagOk = false ∨ s.dev.dstate ≠ .hotStandby → t = s) ∧
       (cells = [] → s.linkTakes repoch tagOk = true → s.dev.dstate = .hotStandby →
         t.pair.phase = [] ∧ t.pair.aligned = false) ∧
       t.outside [.dev, .gbb, .pair, .evr, .out] = s.outside [.dev, .gbb, .pair, .evr, .out]) ∧
     (∀ b idx, s.allows b 0x40100050 .write = true → Runs (.mirrorWrite b idx) s fun t =>
       if s.standby = true ∧ s.cre.recon = true then
         tabGet t.cre.resv idx.toNat = s.mirEntry ∧ (∀ j, j ≠ idx.toNat → tabGet t.cre.resv j = tabGet s.cre.resv j) ∧
         t.pair = { s.pair with mirCnt := s.pair.mirCnt + 1 } ∧ t.outside [.cre, .pair] = s.outside [.cre, .pair]
       else t = s) ∧
     (Runs .roleStaleReceived s fun t =>
       (s.pair.link = false ∨ s.dev.dstate ≠ .run → t = s) ∧
       (s.pair.link = true → s.dev.dstate = .run → s.dev.target = none →
         t.dev.target = some .listening ∨ t.dev.dstate = .listening)))

/-! ### Axes -/

/-- R403, R404: the nine axis commands. Each is taken as the one pending command of its axis, under the next sequence number, and
answered OK; while one is pending it is answered BUSY under the new number and the pending one stands. No other axis changes.

R404, R411, R415, R416: what a tick makes of the pending command. Its status is written under its number and nothing is
pending any more. A command that is not OK has no other effect. STOP is always OK; LOCK that is OK leaves the axis locked at its
position or where it was locked before, UNLOCK unlocked, CLRFLT with no fault and no cause. -/
def Obligations.AxisCommands : Prop :=
  (∀ (s : State) (role : Role) (n : Fin 8), s.axisRole.rank ≤ role.rank →
     ∀ (i : Instr) (c : AxisCmd),
       ((i = .axisMove role n c.tgt ∧ c.code = 1 ∧ c.param = 0) ∨ (i = .axisVel role n c.tgt ∧ c.code = 2 ∧ c.param = 0) ∨
        (i = .axisStop role n ∧ c.code = 3 ∧ c.param = 0 ∧ c.tgt = (s.axis n).tgt) ∨
        (i = .axisGear role n ∧ c.code = 4 ∧ c.param = 0 ∧ c.tgt = (s.axis n).tgt) ∨
        (i = .gearArm role n ∧ c.code = 5 ∧ c.param = 0 ∧ c.tgt = (s.axis n).tgt) ∨
        (∃ (m : BitVec 3) (neg : Bool), i = .axisHome role n m neg ∧ c.code = 6 ∧
           c.param.setWidth 3 = m ∧ c.param.getLsbD 3 = neg ∧ c.param.toNat < 16 ∧ c.tgt = (s.axis n).tgt) ∨
        (i = .axisLock role n ∧ c.code = 7 ∧ c.param = 0 ∧ c.tgt = (s.axis n).tgt) ∨
        (i = .axisUnlock role n ∧ c.code = 8 ∧ c.param = 0 ∧ c.tgt = (s.axis n).tgt) ∨
        (i = .clrflt role n ∧ c.code = 9 ∧ c.param = 0 ∧ c.tgt = (s.axis n).tgt)) →
       c.seq = s.mot.seq →
       Runs i s fun t =>
         t.mot.seq = s.mot.seq + 1 ∧ t.outside [.mot, .ans] = s.outside [.mot, .ans] ∧
         (∀ m, m ≠ n → t.axis m = s.axis m) ∧
         ((s.axis n).cmd = none →
           t.axis n = { s.axis n with tgt := c.tgt, cmd := some c } ∧ t.ans.status = .ok) ∧
         ((s.axis n).cmd ≠ none →
           t.axis n = { s.axis n with tgt := c.tgt, stat := Status.busy.code, statSeq := c.seq } ∧ t.ans.status = .busy)) ∧
  (∀ (a : Axis) (c : AxisCmd) (holds : Nat) (menc : Int), a.cmd = some c →
     let b := a.takeCmd holds menc
     b.cmd = none ∧ b.stat = (a.check c holds).code ∧ b.statSeq = c.seq ∧
     (a.check c holds ≠ .ok → b = { a with cmd := none, stat := (a.check c holds).code, statSeq := c.seq }) ∧
     (c.code = 3 → a.check c holds = .ok ∧ b.mo.homing = none) ∧
     (c.code = 7 → a.check c holds = .ok → b.locked = true ∧ b.lockPos = if a.locked then a.lockPos else a.mo.pos) ∧
     (c.code = 8 → a.check c holds = .ok → b.locked = false ∧ holds = 0) ∧
     (c.code = 9 → a.check c holds = .ok → b.fault = false ∧ b.cause = 0) ∧
     ((a.fault = true ∨ a.locked = true) → c.code = 1 ∨ c.code = 2 ∨ c.code = 4 ∨ c.code = 6 → b.mo = a.mo))

/-- R398 to R400, R403, R411, R414: a profile tick takes the master's counts and every pending command. A filtered input follows
its level and shorter ones are counted; an unstable one reads active until it is stable again; an illegal transition sets
ENCERR, or is counted for the master. A stall is acted on only in the stall phase of homing. A service mode above 3 is out of
range, one other than normal BUSY on a locked axis or one with holds.

R428, R430, R436, R442, R443: at a sample edge the CLE, while it is ON, takes the master's counts, and every loop stands closed
that closes its axis, and no other. A commit whose notches fail sets NOTCH_REJ and is DENIED; one that is taken waits for the next
edge. START is answered by R442's conditions and waits for the next edge only when OK. ARM is turned away while armed or while
the bank is not ON; ABORT ends a capture. -/
def Obligations.AxisEvents : Prop :=
  (∀ s : State,
     (∀ enc z menc, Runs (.profileTick enc z menc) s fun t =>
       if s.pwr.pdStat.getLsbD 9 = true then
         t.mot.menc = wrap32 (s.mot.menc + if s.mot.mencEdir then -menc else menc) ∧ ∀ n, (t.axis n).cmd = none
       else t.outside [.tim, .evr] = s.outside [.tim, .evr]) ∧
     (∀ (n : Fin 8) (i : Fin 4) (active : Bool) (g : Nat), Runs (.switchInputFiltered n i active g) s fun t =>
       ((t.axis n).inp i).active = active ∧ ((t.axis n).inp i).unstable = ((s.axis n).inp i).unstable ∧
       (t.axis n).glitch = (s.axis n).glitch + BitVec.ofNat 32 g ∧ ∀ m, m ≠ n → t.axis m = s.axis m) ∧
     (∀ (n : Fin 8) (i : Fin 4), Runs (.inputUnstable n i) s fun t =>
       (((s.axis n).inp i).unstable = true → t = s) ∧ ((t.axis n).inp i).unstable = true ∧
       ((t.axis n).inp i).reads = true ∧ ∀ m, m ≠ n → t.axis m = s.axis m) ∧
     (∀ (n : Fin 8) (i : Fin 4), Runs (.inputStable n i) s fun t =>
       (((s.axis n).inp i).unstable = false → t = s) ∧
       (((s.axis n).inp i).unstable = true → ((t.axis n).inp i).reads = false) ∧
       ((t.axis n).inp i).unstable = false ∧ ∀ m, m ≠ n → t.axis m = s.axis m) ∧
     (Runs (.encoderIllegalTransition none) s fun t =>
       t.mot = { s.mot with mencErr := s.mot.mencErr + 1 } ∧ t.outside [.mot] = s.outside [.mot]) ∧
     (∀ n, Runs (.encoderIllegalTransition (some n)) s fun t =>
       t.axis n = { s.axis n with encErr := true } ∧ (∀ m, m ≠ n → t.axis m = s.axis m) ∧
       t.outside [.mot] = s.outside [.mot]) ∧
     (∀ n, Runs (.stallDetect n) s fun t =>
       (∀ h, (s.axis n).mo.homing = some h → h.phase = .seekStall →
         (s.axis n).cfg.stallFe.toNat ≤ (s.axis n).ferr.natAbs → t = s.setAxis n ((s.axis n).stallBack h)) ∧
       (((s.axis n).mo.homing = none ∨ (s.axis n).ferr.natAbs < (s.axis n).cfg.stallFe.toNat) → t = s)) ∧
     (∀ (role : Role) (n : Fin 8) (v : Nat), Role.engineer.rank ≤ role.rank → Runs (.serviceModeWrite role n v) s fun t =>
       if 3 < v then t = s.deny .range
       else if v ≠ 0 ∧ ((s.axis n).locked = true ∨ 0 < s.holds n) then t = s.answer .busy
       else (t.axis n).cfg.svc = BitVec.ofNat 2 v ∧ (∀ m, m ≠ n → t.axis m = s.axis m) ∧ t.ans.status = .ok)) ∧
  (∀ (s : State) (role : Role), Role.engineer.rank ≤ role.rank →
     (∀ enc menc late, Runs (.sampleEdge enc menc late) s fun t =>
       if s.blk.cle.st = .on then
         t.mot.menc = wrap32 (s.mot.menc + if s.mot.mencEdir then -menc else menc) ∧
         ∀ n : Fin 8, t.mot.loop[n].closed = s.closes n
       else t.outside [.tim, .evr] = s.outside [.tim, .evr]) ∧
     (∀ n : Fin 8, Runs (.coefficientCommit role n) s fun t =>
       (notchStable s.mot.loop[n].staged.n1 = false ∨ notchStable s.mot.loop[n].staged.n2 = false →
         t.mot.loop[n] = { s.mot.loop[n] with notchRej := true } ∧ t.ans.status = .denied) ∧
       (notchStable s.mot.loop[n].staged.n1 = true → notchStable s.mot.loop[n].staged.n2 = true →
         (t.ans.status = .ok → t.mot.loop[n] = { s.mot.loop[n] with commit := some s.mot.loop[n].staged }) ∧
         (t.ans.status ≠ .ok → t.mot = { s.mot with cleErr := true } ∧ t.ans.status = .denied)) ∧
       (∀ m : Fin 8, m ≠ n → t.mot.loop[m] = s.mot.loop[m]) ∧ t.outside [.mot, .ans] = s.outside [.mot, .ans]) ∧
     (Runs (.injStart role) s fun t =>
       t.ans.status = s.injStatus ∧ t.mot.inj.status = s.injStatus.code ∧
       t.mot.inj.due = (if s.injStatus = .ok then true else s.mot.inj.due) ∧
       t.outside [.mot, .ans] = s.outside [.mot, .ans]) ∧
     (Runs (.injStop role) s fun t =>
       (s.mot.inj.run = false → s.mot.inj.due = false → t.mot = s.mot) ∧
       t.mot.inj.run = false ∧ t.mot.inj.due = false ∧ t.ans.status = .ok ∧ t.outside [.mot, .ans] = s.outside [.mot, .ans]) ∧
     (Runs (.captureArm role) s fun t =>
       (s.mot.cap.armed = true ∨ s.mem.bank[s.mot.cap.bank].st ≠ .on →
         t.mot = { s.mot with cleErr := true } ∧ t.ans.status = .denied) ∧
       (s.mot.cap.armed = false → s.mem.bank[s.mot.cap.bank].st = .on →
         t.mot.cap.armed = true ∧ t.mot.cap.done = false ∧ t.mot.cap.count = 0 ∧
         t.mot.cap.trigd = decide (s.mot.cap.trig = 0) ∧ t.ans.status = .ok) ∧
       t.outside [.mot, .ans] = s.outside [.mot, .ans]) ∧
     (Runs (.captureAbort role) s fun t =>
       t.mot.cap.armed = false ∧ t.mot.cap.count = s.mot.cap.count ∧ t.ans.status = .ok ∧
       t.outside [.mot, .ans] = s.outside [.mot, .ans]))

/-! ### Cores, memory, queues -/

/-- R458, R459, R462, R463: jobs. A submission is accepted while its world is below quota; at quota JDX_SUBMIT7 stalls the core and
JDX_TRYSUB discards with ACC = 0, and a stalled one is accepted later. A job goes to an idle core that is up and not halted, which
then remembers the flow. JDX_GET and JDX_DONE end the job in service on the core.

R460 to R462, R660: timed events of jobs. The affinity wait ends for a ready job, a due job is delayed no more, and a job over
its time limit is discarded with its core reset, but not while that core is halted. -/
def Obligations.Jobs : Prop :=
  (∀ (s : State) (core : Fin 16),
     (∀ m d, Runs (.jdxSubmit core m d) s fun t =>
       if s.cores.jobCount (s.stagedJob core m d).world < jobQuota (s.stagedJob core m d).world then
         t.cores.jobs.length = s.cores.jobs.length + 1 ∧ t.cores.core = s.cores.core ∧
         t.outside [.cores] = s.outside [.cores]
       else t = s.setCore core fun c => { c with stalled := some (s.stagedJob core m d) }) ∧
     (∀ m d, Runs (.jdxTrysub core m d) s fun t =>
       t.outside [.cores] = s.outside [.cores] ∧
       t.cores.core[core].acc =
         decide (s.cores.jobCount (s.stagedJob core m d).world < jobQuota (s.stagedJob core m d).world) ∧
       t.cores.jobs.length = s.cores.jobs.length + (if t.cores.core[core].acc then 1 else 0)) ∧
     (Runs (.submitStallRelease core) s fun t =>
       (s.cores.core[core].stalled = none → t = s) ∧
       (∀ j, s.cores.core[core].stalled = some j →
         if s.cores.jobCount j.world < jobQuota j.world then
           t.cores.core[core].stalled = none ∧ t.cores.jobs.length = s.cores.jobs.length + 1
         else t = s)) ∧
     (Runs (.jobDelivery core) s fun t =>
       (s.cores.core[core].idle = false ∨ s.cores.core[core].halted = true ∨ s.coreUp core = false ∨
         s.cores.pick core = none → t = s) ∧
       (∀ a, s.cores.core[core].idle = true → s.cores.core[core].halted = false → s.coreUp core = true →
         s.cores.pick core = some a →
         t.cores.core[core].idle = false ∧ t.cores.core[core].got = a.job.words ∧
         tabGet t.cores.served a.job.flow.toNat = some core ∧ t.cores.jobs.length = s.cores.jobs.length ∧
         ∀ b ∈ t.cores.jobs, b.seq = a.seq → b.place = .service core s.tb5u10)) ∧
     (Runs (.jdxGet core) s fun t =>
       t.cores.core[core].idle = true ∧ t.outside [.cores] = s.outside [.cores] ∧
       (s.cores.inService core = none → t.cores.jobs = s.cores.jobs) ∧
       (∀ a, s.cores.inService core = some a → ∀ b ∈ t.cores.jobs, b.seq ≠ a.1.seq)) ∧
     (Runs (.jdxDone core) s fun t =>
       t.cores.core = s.cores.core ∧ t.outside [.cores] = s.outside [.cores] ∧
       (s.cores.inService core = none → t = s) ∧
       (∀ a, s.cores.inService core = some a → ∀ b ∈ t.cores.jobs, b.seq ≠ a.1.seq))) ∧
  (∀ s : State,
     (∀ flow, Runs (.affinityWaitExpiry flow) s fun t =>
       t.outside [.tim, .evr, .cores] = s.outside [.tim, .evr, .cores] ∧ t.cores.jobs.length = s.cores.jobs.length ∧
       (∀ a o u, s.cores.flowJob flow (fun p => p.waits) = some a →
         a.place = .ready o true u → ∀ b ∈ t.cores.jobs, b.seq = a.seq → b.place = .ready o false u)) ∧
     (∀ flow, Runs (.jobDue flow) s fun t =>
       t.outside [.tim, .evr, .cores] = s.outside [.tim, .evr, .cores] ∧ t.cores.jobs.length = s.cores.jobs.length ∧
       (s.cores.flowJob flow (fun p => p = .delayed) = none → t = s) ∧
       (∀ a, s.cores.flowJob flow (fun p => p = .delayed) = some a → (∀ b ∈ s.cores.jobs, b.seq = a.seq → b = a) →
         ∀ b ∈ t.cores.jobs, b.seq = a.seq → b.place ≠ .delayed)) ∧
     (∀ core : Fin 16, Runs (.jobTimeLimit core) s fun t =>
       (s.cores.inService core = none ∨ s.cores.core[core].halted = true → t = s) ∧
       (∀ a, s.cores.inService core = some a → s.cores.core[core].halted = false →
         t.cores.core[core].idle = false ∧ t.cores.core[core].stalled = none ∧
         ∀ b ∈ t.cores.jobs, b.seq ≠ a.1.seq)))

/-- R454, R465, R469: an acknowledged source is pending no more unless its event falls on the same edge. An access that both checks
pass is no violation; one that fails reads as 0 and has no effect but its record, the reset of a core of Vendor code, and a
monitor event for a core of another world. A monitor event discards the job in service of a core of the Fleet or the Service
world, and is counted for the Fleet world. -/
def Obligations.InterruptsAndViolations : Prop :=
  ∀ s : State,
    (∀ b (i : Fin 4) mask same, s.allows b (0x40190400 + 4 * i.val) .write = true → Runs (.intAck b i mask same) s fun t =>
      t.outside [.cores] = s.outside [.cores] ∧
      (∀ k : Fin 32, same = 0 → mask.getLsbD k.val = true → (t.cores.src (32 * i.val + k.val)).pend = false) ∧
      (∀ k : Fin 32, same = 0 → mask.getLsbD k.val = false →
        t.cores.src (32 * i.val + k.val) = s.cores.src (32 * i.val + k.val)) ∧
      (∀ k : Fin 32, same.getLsbD k.val = true → (s.cores.src (32 * i.val + k.val)).en = true →
        (t.cores.src (32 * i.val + k.val)).pend = true)) ∧
    (∀ b a k, Runs (.accessViolation b a k) s fun t =>
      (s.allows b a k = true → t = s) ∧
      (s.allows b a k = false →
        t.ans.status = .ok ∧ t.ans.value = [] ∧ t.outside [.cores, .dict, .evr, .out, .ans] = s.outside [.cores, .dict, .evr, .out, .ans] ∧
        (∀ c, coreOf b.id = some c → b.world = 0 →
          t.cores.core[c].idle = false ∧ t.cores.core[c].stalled = none ∧ t.cores.jobs = s.cores.jobs))) ∧
    (∀ c, Runs (.monitorTrap c) s fun t =>
      (s.cores.worldOf c = 0 → t = s) ∧
      (s.cores.worldOf c ≠ 0 → ∀ a, s.cores.inService c = some a → ∀ b ∈ t.cores.jobs, b.seq ≠ a.1.seq) ∧
      (s.cores.worldOf c = 1 → t.cores.nMon = s.cores.nMon + 1) ∧
      (s.cores.worldOf c = 2 → t.cores.nMon = s.cores.nMon))

/-- R484: TRLO on a queue with no available word returns 0, removes nothing and sets EMPTY; TWHI on a full queue discards the
word, sets FULL and counts the discard. Otherwise they do what RLO and WHI do and clear the flag. Neither ever stalls. (A word or
a place that an access already waits for counts as none; `settle` is the hand-over of banks that is due.) -/
def Obligations.TryPorts : Prop :=
  ∀ (s : State) (b : Bus) (n : Fin 32), ((s.queue n).settle s.tb5c).ctl.st = .on →
    (s.allows b (queuePort n 0x10) .read = true → s.allows b (queuePort n 8) .read = true →
      let q := (s.queue n).settle s.tb5c
      Runs (.tryRead b n) s fun t =>
        ((t.queue n).stalled = q.stalled) ∧
        (q.avail = [] ∨ q.waiting false ≠ 0 →
          t.ans.status = .ok ∧ t.ans.value = leBytes 4 0 ∧ (t.queue n).avail = q.avail ∧
          ((t.queue n).port b.id).empty = true) ∧
        (q.avail ≠ [] → q.waiting false = 0 →
          exec (.queueRead b n) s = .next t ∧ ((t.queue n).port b.id).empty = false)) ∧
    (s.allows b (queuePort n 0x14) .write = true → s.allows b (queuePort n 4) .write = true →
      let q := (s.queue n).settle s.tb5c
      ∀ hi, Runs (.tryWrite b n hi) s fun t =>
        ((t.queue n).stalled = q.stalled) ∧
        (q.room = 0 ∨ q.waiting true ≠ 0 →
          (t.queue n).avail = q.avail ∧ (t.queue n).filling = q.filling ∧ ((t.queue n).port b.id).full = true ∧
          (t.queue n).twDrop = q.twDrop + 1) ∧
        (0 < q.room → q.waiting true = 0 →
          exec (.queueWrite b n hi) s = .next t ∧ ((t.queue n).port b.id).full = false))

/-- R480, R482, R483, R485, R487: queues. A queue that is OFF discards writes with FULL and reads 0 with EMPTY, and never stalls. One
that is ON takes a word at the end of its order where it has room, and gives the oldest; otherwise the access stalls. A hand-over
makes the filling bank's words available. An engine's record is taken whole or answered FULL. -/
def Obligations.QueuePorts : Prop :=
  ∀ (s : State) (n : Fin 32),
    (∀ b hi, s.allows b (queuePort n 4) .write = true →
      let q := (s.queue n).settle s.tb5c
      Runs (.queueWrite b n hi) s fun t =>
        (q.ctl.st ≠ .on → t.queue n = q.setPort { q.port b.id with full := true } ∧ t.outside [.ques] = s.outside [.ques]) ∧
        (q.ctl.st = .on → 0 < q.room → q.waiting true = 0 → q.pingPong = false →
          (t.queue n).avail = q.avail ++ [joinWord hi (q.port b.id).wlo] ∧ (t.queue n).stalled = q.stalled) ∧
        (q.ctl.st = .on → q.room = 0 →
          (t.queue n).stalled = q.stalled ++ [⟨b.id, some (joinWord hi (q.port b.id).wlo)⟩] ∧
          (t.queue n).avail = q.avail ∧ (t.queue n).bPress = q.bPress + 1)) ∧
    (∀ b, s.allows b (queuePort n 8) .read = true →
      let q := (s.queue n).settle s.tb5c
      Runs (.queueRead b n) s fun t =>
        (q.ctl.st ≠ .on → t.queue n = q.setPort { q.port b.id with empty := true } ∧ t.ans.value = leBytes 4 0) ∧
        (∀ w ws, q.ctl.st = .on → q.avail = w :: ws → q.waiting false = 0 →
          t.ans.value = leBytes 4 (w.toNat % 2 ^ 32) ∧ ((t.queue n).port b.id).rhi = (w >>> 32).setWidth 32 ∧
          (q.pingPong = false → (t.queue n).avail = ws)) ∧
        (q.ctl.st = .on → q.avail = [] → (t.queue n).stalled = q.stalled ++ [⟨b.id, none⟩])) ∧
    (Runs (.queueHandover n) s fun t =>
      if (s.queue n).ctl.st = .on ∧ (s.queue n).pingPong = true ∧ (s.queue n).avail = [] ∧ (s.queue n).filling ≠ [] then
        (t.queue n).avail = (s.queue n).filling ∧ (t.queue n).filling = [] ∧ (t.queue n).bank = !(s.queue n).bank
      else t = s) ∧
    (Runs (.stalledAccessComplete n) s fun t =>
      (((s.queue n).settle s.tb5c).nextStalled = none → t = s) ∧
      (∀ a, ((s.queue n).settle s.tb5c).nextStalled = some a →
        (t.queue n).stalled = ((s.queue n).settle s.tb5c).stalled.erase a)) ∧
    (∀ ws, Runs (.engineRecordWrite n ws) s fun t =>
      let q := (s.queue n).settle s.tb5c
      (q.ctl.st = .on → ws.length ≤ q.room →
        t.ans.status = .ok ∧ (q.pingPong = false → (t.queue n).avail = q.avail ++ ws)) ∧
      (q.ctl.st ≠ .on ∨ q.room < ws.length →
        t.ans.status = .full ∧ (t.queue n).avail = (s.queue n).avail ∧ (t.queue n).filling = (s.queue n).filling))

/-- R473, R475, R476, R478: banks. Code 0b11 of PWR, and a change of a held bank, are refused with CFG_ERR; turning OFF loses the
contents, RETENTION keeps them, and OFF to ON goes through the fill, at whose end every word reads 0. A repeated write of port B
is counted, and performed unless port A writes the word again. The scrub is off with interval 0. The secure scratchpad reads 0
after its wipe.

R492 to R496: the check-value channels. POLY takes codes 0 to 4 while the channel is OFF and loads INIT; RESET copies INIT into
VALUE; data run through the check value, lowest byte first, except during a scan. START scans a range the channel may read, and
sets BERR otherwise; ABORT and the end of the scan leave it idle with the value of the bytes processed. -/
def Obligations.MemoryAndCheckValues : Prop :=
  (∀ s : State,
     (∀ b (k : Fin 16) (p : BitVec 2), s.allows b (0x40150000 + 4 * k.val) .write = true → Runs (.bankPowerWrite b k p) s fun t =>
       t.outside [.mem] = s.outside [.mem] ∧
       (p = 3 → t.mem = { s.mem with cfgErr := true }) ∧
       (p ≠ 3 → p = s.mem.bank[k].pwr → t = s) ∧
       (p ≠ 3 → p ≠ s.mem.bank[k].pwr → s.bankHeld k = true → t.mem = { s.mem with cfgErr := true }) ∧
       (p ≠ 3 → p ≠ s.mem.bank[k].pwr → s.bankHeld k = false →
         t.mem.bank[k].pwr = p ∧ (∀ j : Fin 16, j ≠ k → t.mem.bank[j] = s.mem.bank[j]) ∧
         (p = 0 → t.mem.bank[k].st = .off ∧ ∀ a, bankAddr k 0 ≤ a → a < bankAddr k 0 + 0x40000 → t.mem.get a = 0) ∧
         (p = 1 → s.mem.bank[k].st = .on → t.mem.bank[k].st = .retention ∧ t.mem.bytes = s.mem.bytes) ∧
         (p = 2 → s.mem.bank[k].st = .off → t.mem.bank[k].st = .filling) ∧
         (p = 2 → s.mem.bank[k].st = .retention → t.mem.bank[k].st = .on ∧ t.mem.bytes = s.mem.bytes))) ∧
     (∀ k : Fin 16, Runs (.bankFillComplete k) s fun t =>
       if s.mem.bank[k].st = .filling then
         t.mem.bank[k].st = .on ∧ (∀ a, bankAddr k 0 ≤ a → a < bankAddr k 0 + 0x40000 → t.mem.get a = 0) ∧
         (∀ a, a < bankAddr k 0 ∨ bankAddr k 0 + 0x40000 ≤ a → t.mem.get a = s.mem.get a) ∧
         t.outside [.mem] = s.outside [.mem]
       else t = s) ∧
     (Runs .secureWipeComplete s fun t =>
       if s.mem.wiping = true then
         t.mem.wiping = false ∧ t.mem.wiped = true ∧ t.mem.wipes = s.mem.wipes + 1 ∧
         (∀ a, 0x0C000000 ≤ a → a < 0x0C040000 → t.mem.get a = 0) ∧
         (∀ a, a < 0x0C000000 ∨ 0x0C040000 ≤ a → t.mem.get a = s.mem.get a) ∧ t.outside [.mem] = s.outside [.mem]
       else t = s) ∧
     (∀ (k : Fin 16) a w again, Runs (.portBRetry k a w again) s fun t =>
       t.mem.bank[k].retry = s.mem.bank[k].retry + 1 ∧ t.mem.nRetry = s.mem.nRetry + 1 ∧
       t.outside [.mem] = s.outside [.mem] ∧ (∀ j : Fin 16, j ≠ k → t.mem.bank[j] = s.mem.bank[j]) ∧
       (s.mem.bank[k].portB = none → again = false →
         t.mem.bank[k].portB = none ∧ t.mem.read a 8 = leBytes 8 w.toNat ∧
         (∀ x, x < a ∨ a + 8 ≤ x → t.mem.get x = s.mem.get x)) ∧
       (s.mem.bank[k].portB = none → again = true →
         t.mem.bank[k].portB = some (a, w, 2) ∧ t.mem.bytes = s.mem.bytes)) ∧
     (∀ errs, Runs (.scrubInterval errs) s fun t =>
       (s.mem.scrub = 0 → t = s) ∧ t.mem.bytes = s.mem.bytes ∧
       (s.mem.scrub ≠ 0 → errs = [] → t.mem = { s.mem with scrubAt := t.tb5ms }) ∧
       t.outside [.tim, .mem, .evr, .out] = s.outside [.tim, .mem, .evr, .out])) ∧
  (∀ (s : State) (b : Bus) (c : Fin 4),
     (∀ p : BitVec 3, s.allows b (crcReg c 8) .write = true → Runs (.crcPolyWrite b c p) s fun t =>
       if 5 ≤ p.toNat ∨ s.ques.crc[c].ctl.st ≠ .off then t.ques = { s.ques with crcErr := true } ∧ t.outside [.ques] = s.outside [.ques]
       else t = s.setCrc c fun k => { k with poly := p, init := crcInit p }) ∧
     (s.allows b (crcReg c 0x2C) .write = true → Runs (.crcReset b c) s fun t =>
       if s.ques.crc[c].busy = true then t.ques = { s.ques with crcErr := true }
       else t = s.setCrc c fun k => { k with value := k.init }) ∧
     (∀ w d, s.allows b (crcReg c (Machine.DataWidth.offset w)) .write = true → Runs (.crcData b c w d) s fun t =>
       if s.ques.crc[c].busy = true then t.ques = { s.ques with crcErr := true }
       else t = s.setCrc c fun k => { k with value := crcRun k.poly k.value (leBytes (Machine.DataWidth.octets w) d.toNat) }) ∧
     (s.allows b (crcReg c 0x2C) .write = true → Runs (.crcStart b c) s fun t =>
       (s.ques.crc[c].busy = true ∨ s.ques.crc[c].ctl.st ≠ .on → t = s) ∧
       (s.ques.crc[c].busy = false → s.ques.crc[c].ctl.st = .on →
         if s.ques.crc[c].mayScan = true then t = s.setCrc c fun k => { k with busy := true, spos := 0 }
         else t = s.setCrc c fun k => { k with berr := true })) ∧
     (∀ pos, s.allows b (crcReg c 0x2C) .write = true → Runs (.crcAbort b c pos) s fun t =>
       if s.ques.crc[c].busy = true then
         t.ques.crc[c].busy = false ∧ t.ques.crc[c].aborted = true ∧ t.outside [.ques] = s.outside [.ques]
       else t = s) ∧
     (∀ e, Runs (.crcScanDone c e) s fun t =>
       (s.ques.crc[c].busy = false → t = s) ∧
       (s.ques.crc[c].busy = true → t.ques.crc[c].busy = false ∧
         (e = none → t.ques.crc[c].done = true ∧
           t.ques.crc[c].value = crcRun s.ques.crc[c].poly s.ques.crc[c].value
             (s.mem.read s.ques.crc[c].saddr.toNat s.ques.crc[c].slen.toNat)) ∧
         (e ≠ none → t.ques.crc[c].berr = true))))

/-! ### The wired network and the dictionary -/

/-- R510, R512, R516: SDO. A channel that is up loses a frame while its receive queue is full, and counts it; one that is not up takes
none. A download that is not expedited names its size or is aborted with 0x0504_0001; a segment without a transfer is aborted with
the same code, one with the wrong toggle bit with 0x0503_0000, and a transfer without a segment for 1,000 ms with 0x0504_0000. A
segment in order adds its octets. An upload of more than four octets opens a segmented transfer. -/
def Obligations.SdoTransfers : Prop :=
  ∀ (s : State) (n : Fin 2),
    (∀ (i : Instr), (∃ cs idx sub d x, i = .sdoInitiateDownload n cs idx sub d x) ∨ (∃ cs d x, i = .sdoDownloadSegment n cs d x) ∨
        (∃ cs idx sub x, i = .sdoInitiateUpload n cs idx sub x) ∨ (∃ cs, i = .sdoUploadSegment n cs) →
      Runs i s fun t =>
        (s.canUp n = false ∨ s.start.loader = true → t = s) ∧
        (s.canUp n = true → s.start.loader = false → s.canFull n = true →
          t.dict.can[n].lost = s.dict.can[n].lost + 1 ∧ t.outside [.dict, .out] = s.outside [.dict, .out]) ∧
        (s.canTakes n = true → s.canServes n = false → t = s)) ∧
    (s.canTakes n = true → s.canServes n = true →
      (∀ cs idx sub d x, cs.toNat / 32 = 1 → Runs (.sdoInitiateDownload n cs idx sub d x) s fun t =>
        (bitAt cs.toNat 1 = false → bitAt cs.toNat 0 = false →
          t.ans.status = .denied ∧ t.ans.detail = 0x05040001 ∧ t.dict.can[n].sdo = none) ∧
        (∀ e, bitAt cs.toNat 1 = false → bitAt cs.toNat 0 = true →
          ((s.touch (canSlot n)).sdoAbandon n).sdoChecks s.dict.sess[canSlot n].role idx.toNat sub.toNat (leNat d.toList) = .error e →
          t.ans.status = .denied ∧ t.ans.detail = e ∧ t.dict.can[n].sdo = none) ∧
        (∀ o, bitAt cs.toNat 1 = false → bitAt cs.toNat 0 = true →
          ((s.touch (canSlot n)).sdoAbandon n).sdoChecks s.dict.sess[canSlot n].role idx.toNat sub.toNat (leNat d.toList) = .ok o →
          o.ty ≠ .domain →
          t.ans.status = .ok ∧ t.dict.can[n].sdo = some {
            download := true, index := idx, sub := sub, data := [], size := leNat d.toList, toggle := false, lastMs := s.tb5ms }) ∧
        (bitAt cs.toNat 1 = true →
          t = ((s.touch (canSlot n)).sdoAbandon n).sdoWrite n 0x60 idx.toNat sub.toNat
            (expedited cs.toNat idx.toNat sub.toNat d.toList) x)) ∧
      (∀ cs d x, cs.toNat / 32 = 0 → Runs (.sdoDownloadSegment n cs d x) s fun t =>
        (s.dict.can[n].sdo = none → t.ans.status = .denied ∧ t.ans.detail = 0x05040001) ∧
        (∀ u, s.dict.can[n].sdo = some u → u.download = true →
          (bitAt cs.toNat 4 ≠ u.toggle → t.ans.status = .denied ∧ t.ans.detail = 0x05030000 ∧ t.dict.can[n].sdo = none) ∧
          (bitAt cs.toNat 4 = u.toggle → bitAt cs.toNat 0 = false →
            u.data.length + (d.toList.take (7 - bitsOf cs.toNat 3 1)).length ≤ u.size →
            t.ans.status = .ok ∧ t.dict.can[n].sdo = some { u with
              data := u.data ++ d.toList.take (7 - bitsOf cs.toNat 3 1), toggle := !u.toggle, lastMs := s.tb5ms }))) ∧
      (∀ cs idx sub x, cs.toNat / 32 = 2 → Runs (.sdoInitiateUpload n cs idx sub x) s fun t =>
        let r := ((s.touch (canSlot n)).sdoAbandon n).odRead (canSlot n) n idx.toNat sub.toNat x.ecc
        (r.ans.status ≠ .ok → t.ans.status = .denied ∧ t.ans.detail = r.ans.detail ∧ t.dict.can[n].sdo = none) ∧
        (r.ans.status = .ok → t.ans = r.ans) ∧
        (r.ans.status = .ok → 4 < r.ans.value.length →
          t.dict.can[n].sdo = some {
            download := false, index := idx, sub := sub, data := r.ans.value, size := r.ans.value.length, toggle := false, lastMs := s.tb5ms })) ∧
      (∀ cs, cs.toNat / 32 = 3 → Runs (.sdoUploadSegment n cs) s fun t =>
        (s.dict.can[n].sdo = none → t.ans.status = .denied ∧ t.ans.detail = 0x05040001) ∧
        (∀ u, s.dict.can[n].sdo = some u → u.download = false →
          (bitAt cs.toNat 4 ≠ u.toggle → t.ans.status = .denied ∧ t.ans.detail = 0x05030000 ∧ t.dict.can[n].sdo = none) ∧
          (bitAt cs.toNat 4 = u.toggle → t.ans.status = .ok ∧
            t.dict.can[n].sdo = if u.data.drop 7 = [] then none
              else some { u with data := u.data.drop 7, toggle := !u.toggle, lastMs := s.tb5ms })))) ∧
    (Runs (.sdoSegmentTimeout n) s fun t =>
      (s.dict.can[n].sdo = none → t = s) ∧
      (s.dict.can[n].sdo ≠ none → t.dict.can[n].sdo = none ∧
        (s.canServes n = true → t.ans.status = .denied ∧ t.ans.detail = 0x05040000)))

/-- R510, R511: an NMT command to this node, or to all, puts the channel in its state, and one to another node changes nothing; the
two resets end the channel's session, which begins anew as Observer. The heartbeat is produced while its time is not 0. A
heartbeat of a consumed node restarts its watch, and one that stays away is lost once.

R513, R514, R516, R529: PDOs, error states and defaults. A TPDO that is not in use is not sent; one whose values have not changed
is sent by its event timer alone. An RPDO of the wrong length, or while its writes are not allowed, is discarded and counted; so
is one that a write of it refuses, with no other effect. The error states follow the counters. The defaults are written only for
the one value and in *Listening*, to every object of the settings but the retained ones. -/
def Obligations.CanNetwork : Prop :=
  (∀ (s : State) (n : Fin 2),
     (s.canTakes n = true → ∀ node : BitVec 8,
       (∀ i : Instr, i = .nmtStartRemoteNode n node ∨ i = .nmtStopRemoteNode n node ∨ i = .nmtEnterPreOperational n node ∨
           i = .nmtResetCommunication n node ∨ i = .nmtResetNode n node →
         node ≠ 0 → node ≠ s.dict.can[n].nodeId → Runs i s fun t => t = s) ∧
       (node = 0 ∨ node = s.dict.can[n].nodeId →
         (Runs (.nmtStartRemoteNode n node) s fun t => t = s.setCan n fun x => { x with nmt := .operational }) ∧
         (Runs (.nmtStopRemoteNode n node) s fun t => t = s.setCan n fun x => { x with nmt := .stopped }) ∧
         (Runs (.nmtEnterPreOperational n node) s fun t => t = s.setCan n fun x => { x with nmt := .preOperational }) ∧
         (∀ i : Instr, i = .nmtResetCommunication n node ∨ i = .nmtResetNode n node → Runs i s fun t =>
           t.dict.can[n].nmt = (if s.od (0x1FF1 + n.val) 6 0 = 1 then .operational else .preOperational) ∧
           t.dict.can[n].sdo = none ∧ t.dict.sess[canSlot n].opened = true ∧ t.dict.sess[canSlot n].role = .observer ∧
           t.outside [.dict, .upd, .out] = s.outside [.dict, .upd, .out]))) ∧
     (Runs (.canHeartbeatProduce n) s fun t =>
       (s.odCan n 0x1017 0 0 = 0 ∨ s.canUp n = false ∨ s.start.answers = false ∨ s.dict.can[n].nmt = .initialisation → t = s) ∧
       (s.odCan n 0x1017 0 0 ≠ 0 → s.canUp n = true → s.start.answers = true → s.dict.can[n].nmt ≠ .initialisation →
         t.out = .can n (0x700 + s.dict.can[n].nodeId.toNat) (leBytes 1 s.dict.can[n].nmt.code) :: s.out ∧
         t.dict.can[n].hbSentMs = t.tb5ms)) ∧
     (∀ node : BitVec 8, s.canTakes n = true → Runs (.canHeartbeatReceived n node) s fun t =>
       ∀ i : Fin 4,
         (∀ e, s.hbEntry n i = some e → e.1 = node.toNat →
           t.dict.can[n].hb[i] = { heard := some s.tb5ms, lost := false }) ∧
         (s.hbEntry n i = none → t.dict.can[n].hb[i] = s.dict.can[n].hb[i])) ∧
     (∀ i : Fin 4, Runs (.canHeartbeatLoss n i) s fun t =>
       (s.canUp n = false ∨ s.dict.can[n].hb[i].lost = true ∨ s.hbEntry n i = none ∨ s.dict.can[n].hb[i].heard = none → t = s) ∧
       (∀ e u, s.canUp n = true → s.dict.can[n].hb[i].lost = false → s.hbEntry n i = some e →
         s.dict.can[n].hb[i].heard = some u → t.dict.can[n].hb[i] = { heard := some u, lost := true }))) ∧
  (∀ (s : State) (n : Fin 2),
     (∀ i : Fin 4, Runs (.tpdoTransmit n i) s fun t =>
       (s.served = false ∨ s.start.loader = true ∨ s.pdoEntries n (0x1800 + i.val) (0x1A00 + i.val) = none → t = s) ∧
       (∀ es, s.served = true → s.start.loader = false → s.pdoEntries n (0x1800 + i.val) (0x1A00 + i.val) = some es →
         (s.dict.can[n].tpdo[i].lastData ≠ some (s.pdoData n es) →
           t.out.length = s.out.length + 1 ∧ t.dict.can[n].tpdo[i].lastData ≠ none ∧
           t.outside [.tim, .evr, .dict, .out] = s.outside [.tim, .evr, .dict, .out]) ∧
         (s.dict.can[n].tpdo[i].lastData = some (s.pdoData n es) → s.commValue n (0x1800 + i.val) 5 = 0 → t = s))) ∧
     (∀ (i : Fin 4) (data : List Byte) (x : OdInput), s.canTakes n = true → Runs (.rpdoReceived n i data x) s fun t =>
       (s.pdoEntries n (0x1400 + i.val) (0x1600 + i.val) = none → t = s) ∧
       (∀ es, s.pdoEntries n (0x1400 + i.val) (0x1600 + i.val) = some es →
         (s.od (0x1FF1 + n.val) 5 0 ≠ 1 ∨ data.length ≠ (es.map fun e => e % 256 / 8).sum ∨ s.rpdoWrites n x es data = none →
           t = s.setCan n fun c => { c with discarded := c.discarded + 1 }) ∧
         (∀ u, s.od (0x1FF1 + n.val) 5 0 = 1 → data.length = (es.map fun e => e % 256 / 8).sum →
           s.rpdoWrites n x es data = some u → t = u))) ∧
     (∀ (tec : Nat) (r : BitVec 8), Runs (.canErrorStateChange n tec r) s fun t =>
       (s.alive = false ∨ (s.canCtl n).st ≠ .on → t = s) ∧
       (s.alive = true → (s.canCtl n).st = .on →
         t.dict.can[n].busOff = decide (256 ≤ tec) ∧ t.dict.can[n].errPass = (decide (128 ≤ tec) || decide (128 ≤ r.toNat)) ∧
         t.dict.can[n].errWarn = (decide (96 ≤ tec) || decide (96 ≤ r.toNat)) ∧ t.dict.can[n].rec' = r ∧
         t.dict.can[n].boffCnt = (if 256 ≤ tec ∧ s.dict.can[n].busOff = false then s.dict.can[n].boffCnt + 1
           else s.dict.can[n].boffCnt))) ∧
     (∀ (role : Role) (v : Word), Role.engineer.rank ≤ role.rank → Runs (.restoreDefaults role v) s fun t =>
       (v ≠ 0x64616F6C → t = s.deny .other) ∧
       (v = 0x64616F6C → s.dev.dstate ≠ .listening → t = s.deny .state) ∧
       (v = 0x64616F6C → s.dev.dstate = .listening →
         t.ans.status = .ok ∧ t.outside [.dict, .ans] = s.outside [.dict, .ans] ∧
         (∀ p ∈ s.dict.half[s.dict.halfUsed].latest, retainedKey p.1 = false →
           tabGet t.dict.later p.1 = some (defaultOf p.1)) ∧
         (∀ k, retainedKey k = true → tabGet t.dict.later k = tabGet s.dict.later k))))

/-- R517 to R523: NZ-OD. A datagram that the dictionary does not take changes nothing; one beyond what it can serve in the second is
counted as discarded. OPEN gives a session as Observer, or FULL. A request to a session that is not open is answered DENIED. Of a
session without a key, a request under a new SEQ is performed: KEEPALIVE keeps the session, CLOSE ends it, READ and WRITE answer
as the object does, DOMAIN_BEGIN opens a download, DOMAIN_DATA adds to it, asks again from the offset expected, or has no effect,
and DOMAIN_END hands it over only with the CRC and the size announced.

R505 to R507, R522: logins. Only an open session gets a challenge of 16 octets or a login. A login of another length, without a
challenge, after its time or in a lock-out is DENIED with the role unchanged; one that verifies takes the role, and one that does
not is counted. A logout and the idle timeout return to Observer, an NZ-OD session ends with the latter. A download that meets no
message for 10 s is abandoned. -/
def Obligations.DictionarySessions : Prop :=
  (∀ (s : State) (q : NzReq),
     (∀ i : Instr, i = .openSession q ∨ i = .closeSession q ∨ (∃ x, i = .nzRead q x) ∨ (∃ x, i = .nzWrite q x) ∨
         i = .domainBegin q ∨ i = .domainData q ∨ i = .domainEnd q ∨ i = .keepalive q →
       Runs i s fun t =>
         (s.nzReaches q = false → t = s) ∧
         (s.nzReaches q = true → s.nzRoom = false → t = s.nzDiscard) ∧
         (s.nzReaches q = true → s.nzRoom = true → i ≠ .openSession q → q.session.toNat = 0 ∨ 8 < q.session.toNat →
           t.ans.status = .denied ∧ t.ans.detail = Detail.session.code ∧
           t.outside [.dict, .out, .ans] = s.outside [.dict, .out, .ans])) ∧
     (s.nzReaches q = true → s.nzRoom = true →
       (Runs (.openSession q) s fun t =>
         (∀ i, s.freeSession = some i → t.ans.status = .ok ∧ t.dict.sess[i].opened = true ∧ t.dict.sess[i].role = .observer) ∧
         (s.freeSession = none → t.ans.status = .full ∧ t.dict.sess = s.dict.sess)) ∧
       (∀ i : Fin 11, i.val = q.session.toNat + 2 → 1 ≤ q.session.toNat → s.dict.sess[i].opened = true →
         s.dict.sess[i].key = none → (s.lastSeq i = none ∨ ∃ l, s.lastSeq i = some l ∧ precedes l q.seq = true) →
         let u := s.nzCount.touch i
         (Runs (.keepalive q) s fun t => t.ans.status = .ok ∧ t.dict.sess[i].opened = true ∧ t.dict.sess[i].lastMs = s.tb5ms) ∧
         (Runs (.closeSession q) s fun t => t.ans.status = .ok ∧ t.dict.sess[i].opened = false) ∧
         (∀ x, Runs (.nzRead q x) s fun t => t.ans = (u.nzRead i q x).ans) ∧
         (∀ x, Runs (.nzWrite q x) s fun t =>
           let r := u.odWrite i s.dict.sess[i].role (u.copyOf i) q.index.toNat q.sub.toNat q.data x
           (r.2 = none → t.ans = r.1.ans) ∧
           (∀ w, r.2 = some w → t.dict.waiting.length = r.1.dict.waiting.length + 1)) ∧
         (Runs (.domainBegin q) s fun t =>
           (∀ e, u.domainObject s.dict.sess[i].role q.index.toNat q.sub.toNat = .error e →
             t.ans.status = .denied ∧ t.dict.transfers = s.dict.transfers) ∧
           (∀ o, u.domainObject s.dict.sess[i].role q.index.toNat q.sub.toNat = .ok o →
             u.domainRefused i q.index.toNat q.sub.toNat = none →
             t.ans.status = .ok ∧ t.dict.transfers = s.dict.transfers ++ [{
               slot := i.val, index := q.index, sub := q.sub, total := q.arg.toNat, data := [], lastMs := s.tb5ms }])) ∧
         (Runs (.domainData q) s fun t =>
           (s.transferOf i q.index.toNat q.sub.toNat = none → t.ans.status = .denied) ∧
           (∀ v, s.transferOf i q.index.toNat q.sub.toNat = some v → q.data ≠ [] →
             (v.data.length < q.arg.toNat → t.ans.status = .busy ∧ t.ans.detail = BitVec.ofNat 32 v.data.length) ∧
             (q.arg.toNat = v.data.length → t.ans.status = .ok ∧
               t.transferOf i q.index.toNat q.sub.toNat = some { v with data := v.data ++ q.data, lastMs := s.tb5ms }) ∧
             (q.arg.toNat < v.data.length → t.ans.status = .ok ∧
               t.transferOf i q.index.toNat q.sub.toNat = some { v with lastMs := s.tb5ms }))) ∧
         (Runs (.domainEnd q) s fun t =>
           (s.transferOf i q.index.toNat q.sub.toNat = none → t.ans.status = .denied) ∧
           (∀ v, s.transferOf i q.index.toNat q.sub.toNat = some v →
             t.dict.transfers = s.dict.transfers.filter (fun w => w ≠ v) ∧
             (¬ (crc32c v.data = q.arg ∧ v.data.length = v.total) → t.ans.status = .denied) ∧
             (crc32c v.data = q.arg → v.data.length = v.total → q.index ≠ 0x6000 →
               t.ans.status = .ok ∧ t.upd.checking = some v.data) ∧
             (crc32c v.data = q.arg → v.data.length = v.total → q.index = 0x6000 → s.dev.dstate = .listening →
               t.ans.status = .ok ∧ t.cre.store.validating = some v.data)))))) ∧
  (∀ (s : State) (i : Fin 11),
     (Runs (.loginChallenge i) s fun t =>
       if s.served = true ∧ s.dict.sess[i].opened = true then
         t.ans.status = .ok ∧ t.ans.value.length = 16 ∧ t.dict.sess[i].challenge = some (t.ans.value, s.tb5ms + 30000) ∧
         t.dict.sess[i].role = s.dict.sess[i].role
       else t = s.deny .session) ∧
     (∀ v : List Byte, Runs (.loginResponse i v) s fun t =>
       (¬ (s.served = true ∧ s.dict.sess[i].opened = true) → t = s.deny .session) ∧
       (s.served = true → s.dict.sess[i].opened = true →
         (v.length ≠ 17 ∨ s.dict.sess[i].challenge = none →
           t.ans.status = .denied ∧ t.dict.sess[i].role = s.dict.sess[i].role ∧ t.dict.failedLogins = s.dict.failedLogins) ∧
         (∀ r c e, v.length = 17 → roleOf (leNat (v.take 1)) = some r → s.dict.sess[i].challenge = some (c, e) →
           (e < s.tb5ms ∨ s.dict.sess[i].lockout ≠ none ∨ (r = .vendor ∧ s.sec.lifeCycle ≠ .manufacturing) →
             t.ans.status = .denied ∧ t.dict.sess[i].role = s.dict.sess[i].role ∧ t.dict.sess[i].challenge = none ∧
             t.dict.failedLogins = s.dict.failedLogins) ∧
           (s.tb5ms ≤ e → s.dict.sess[i].lockout = none → (r = .vendor → s.sec.lifeCycle = .manufacturing) →
             t.dict.sess[i].challenge = none ∧
             (v.drop 1 = (Config.hmacSha256 (s.sec.roleKey r) (c ++ leBytes 1 (sessionId i) ++ v.take 1)).take 16 →
               t.ans.status = .ok ∧ t.dict.sess[i].role = r ∧ t.dict.sess[i].failures = 0) ∧
             (v.drop 1 ≠ (Config.hmacSha256 (s.sec.roleKey r) (c ++ leBytes 1 (sessionId i) ++ v.take 1)).take 16 →
               t.ans.status = .denied ∧ t.dict.sess[i].role = s.dict.sess[i].role ∧
               t.dict.sess[i].failures = s.dict.sess[i].failures + 1 ∧
               t.dict.failedLogins = s.dict.failedLogins + 1))))) ∧
     (∀ v : Nat, Runs (.logout i v) s fun t =>
       (¬ (s.served = true ∧ s.dict.sess[i].opened = true) → t = s.deny .session) ∧
       (s.served = true → s.dict.sess[i].opened = true →
         (v = 1 → t.ans.status = .ok ∧ t.dict.sess[i].role = .observer ∧ t.dict.sess[i].key = none) ∧
         (v ≠ 1 → t.ans.status = .denied ∧ t.dict.sess[i].role = s.dict.sess[i].role))) ∧
     (Runs (.sessionIdleTimeout i) s fun t =>
       (s.dict.sess[i].opened = false ∨ s.served = false → t = s) ∧
       (s.dict.sess[i].opened = true → s.served = true →
         t.dict.sess[i].role = .observer ∧ t.dict.sess[i].key = none ∧ t.dict.sess[i].opened = decide (i.val < 3))) ∧
     (Runs (.domainTransferTimeout i) s fun t =>
       (s.served = false ∨ (∀ v ∈ s.dict.transfers, v.slot ≠ i.val) → t = s) ∧
       (s.served = true → ∀ v ∈ s.dict.transfers, v.slot = i.val →
         t.dict.transfers.length < s.dict.transfers.length ∧
         t.outside [.tim, .evr, .dict, .upd] = s.outside [.tim, .evr, .dict, .upd])))

/-! ### Keys and life cycle -/

/-- R536, R537, R554: the KEY engine. While an operation is in progress a command is answered BUSY; one that the engine refuses is
DENIED, counted, and releases no output; any other waits for its completion with the source, destination and length of its start.
At its completion CLEAR empties the slot, DERIVE and ECDH fill a slot, ENC, DEC, MAC and SIGN write their output, and no other
operation but WRAP touches memory. KEY_WIPE empties every slot.

R539 to R543: installing and renewing keys. Outside *Listening* a site key is DENIED; in it, one that is taken is of a generation
above every committed one and is in force at once, and one that is not taken leaves the generation in force. The group key is
renewed in *Listening* or *Run*, BUSY while a renewal waits: the next generation is stored, with its activation cycle the lead ahead,
and frames still go under the old one. -/
def Obligations.KeyEngine : Prop :=
  (∀ s : State,
     (∀ (b : Bus) (slot dst : Fin 32) (aux : KeyAux) (op : KeyOp) (i : Instr),
       (op = .load ∧ i = .keyLoad b slot dst aux) ∨ (op = .clear ∧ i = .keyClear b slot dst aux) ∨
         (op = .derive ∧ i = .keyDerive b slot dst aux) ∨ (op = .enc ∧ i = .keyEnc b slot dst aux) ∨
         (op = .dec ∧ i = .keyDec b slot dst aux) ∨ (op = .mac ∧ i = .keyMac b slot dst aux) ∨
         (op = .sign ∧ i = .keySign b slot dst aux) ∨ (op = .ecdh ∧ i = .keyEcdh b slot dst aux) ∨
         (op = .wrap ∧ i = .keyWrap b slot dst aux) →
       s.allows b 0x40130000 .write = true → Runs i s fun t =>
         (s.sec.busy ≠ none → t = s.answer .busy) ∧
         (s.sec.busy = none → s.keyDenies op slot b.world = true →
           t.ans.status = .denied ∧ t.sec.status = Status.denied.code ∧ t.sec.refused = s.sec.refused + 1 ∧
           t.sec.busy = none ∧ t.sec.slots = s.sec.slots ∧ t.outside [.sec, .evr, .out, .ans] = s.outside [.sec, .evr, .out, .ans]) ∧
         (s.sec.busy = none → s.keyDenies op slot b.world = false →
           t.sec.busy = some ⟨op, slot, dst, s.sec.src, s.sec.dst, s.sec.len, aux⟩ ∧ t.sec.aborted = false ∧
           t.outside [.sec] = s.outside [.sec])) ∧
     (Runs .keyOperationDone s fun t =>
       (s.sec.busy = none → t = s) ∧
       (∀ x, s.sec.busy = some x →
         t.sec.busy = none ∧ t.outside [.mem, .sec, .evr, .out, .ans, .free] = s.outside [.mem, .sec, .evr, .out, .ans, .free] ∧
         (x.op = .load ∨ x.op = .clear ∨ x.op = .derive ∨ x.op = .ecdh → t.mem = s.mem) ∧
         (x.op = .clear → t.sec.slots[x.slot] = {} ∧ t.ans.status = .ok) ∧
         (x.op = .derive ∨ x.op = .ecdh → t.ans.status = .ok ∧ t.sec.slots[s.sec.demandSlot x.dst].valid = true ∧
           t.sec.slots[s.sec.demandSlot x.dst].attr.getLsbD 17 = s.sec.testRoot) ∧
         (x.op = .enc → t.ans.status = .ok ∧ t.mem = s.mem.write x.dstAddr.toNat
           (Config.aesEnc s.sec.slots[x.slot].key x.aux.iv (s.mem.read x.src.toNat x.len.toNat))) ∧
         (x.op = .dec → t.ans.status = .ok ∧ t.mem = s.mem.write x.dstAddr.toNat
           (Config.aesDec s.sec.slots[x.slot].key x.aux.iv (s.mem.read x.src.toNat x.len.toNat))) ∧
         (x.op = .mac → algOf s.sec.slots[x.slot].attr = 2 → t.mem = s.mem.write x.dstAddr.toNat
           (Config.hmacSha256 s.sec.slots[x.slot].key (s.mem.read x.src.toNat x.len.toNat))) ∧
         (x.op = .sign → t.mem = s.mem.write x.dstAddr.toNat
           (Config.ecdsaSign s.sec.slots[x.slot].key (Config.sha256 (s.mem.read x.src.toNat x.len.toNat)))))) ∧
     (∀ b, s.allows b 0x40130020 .write = true → Runs (.keyWipe b) s fun t =>
       (∀ i : Fin 32, t.sec.slots[i] = {}) ∧ t.outside [.sec] = s.outside [.sec])) ∧
  (∀ (s : State) (role : Role), Role.engineer.rank ≤ role.rank →
     (∀ msg : List Byte, Runs (.keyImport role msg) s fun t =>
       (s.dev.dstate ≠ .listening → t = s.deny .state) ∧
       (s.dev.dstate = .listening → msg.length ≠ 111 → t = s.deny .length) ∧
       (t.ans.status = .ok ∧ t.sec.siteGen = BitVec.ofNat 32 (leNat ((msg.drop 1).take 4)) ∧
           s.sec.committedGen 1 < t.sec.siteGen.toNat ∧ t.sec.slots[2].valid = true ∨
         t.ans.status = .denied ∧ t.sec.siteGen = s.sec.siteGen ∧ t.sec.slots = s.sec.slots)) ∧
     (∀ blob : List Byte, Runs (.siteKeyBlobWrite role blob) s fun t =>
       (blob.length ≠ 80 → t = s.deny .length) ∧
       (blob.length = 80 → s.dev.dstate ≠ .listening → t = s.deny .state) ∧
       (∀ k, blob.length = 80 → s.dev.dstate = .listening → s.sec.unwrap blob = some k →
         k.id ≠ 1 ∨ k.gen.toNat ≤ s.sec.committedGen k.id → t = s.deny .other) ∧
       (blob.length = 80 → s.dev.dstate = .listening → s.sec.unwrap blob = none →
         t.ans.status = .denied ∧ t.sec = { s.sec with blobFails := s.sec.blobFails + 1 }) ∧
       (t.ans.status = .ok ∧ s.sec.committedGen 1 < t.sec.siteGen.toNat ∨
         t.ans.status = .denied ∧ t.sec.siteGen = s.sec.siteGen ∧ t.sec.slots = s.sec.slots)) ∧
     (Runs (.groupKeyRenewal role) s fun t =>
       (s.dev.dstate ≠ .listening → s.dev.dstate ≠ .run → t = s.deny .state) ∧
       (s.dev.dstate = .listening ∨ s.dev.dstate = .run →
         (s.sec.renewing = true → t = s.answer .busy) ∧
         (s.sec.renewing = false → 0xFFFFFFFF ≤ s.sec.committedGen 2 → t = s.answer .denied) ∧
         (t.ans.status = .ok →
           t.sec.groupGen = BitVec.ofNat 32 (s.sec.committedGen 2 + 1) ∧ t.sec.groupTx = s.sec.groupTx ∧
           ∃ r, t.sec.renewal = some r ∧ r.gen = t.sec.groupGen ∧
             r.cycle = s.dev.cycle + BitVec.ofNat 32 (s.od 0x9010 5 200)))))

/-- R196, R544, R546: enrolment and certificates. A member or node is enrolled in *Listening* or *Run*, with its ID in range and
neither ID nor address taken; a node again only with a higher key generation. A member's enrolment is removed in *Listening* once it
is *Retired*. A certificate must be whole, verify under the site authority and, for the unit's own, name the unit. -/
def Obligations.Enrolment : Prop :=
  ∀ (s : State) (role : Role), Role.engineer.rank ≤ role.rank →
    (∀ v : List Byte, Runs (.enrolMember role v) s fun t =>
      (s.enrolOpen = false → t = s.deny .state) ∧
      (s.enrolOpen = true → v.length ≠ 12 → t = s.deny .length) ∧
      (s.enrolOpen = true → v.length = 12 →
        (leNat (v.take 2) = 0 ∨ 256 < leNat (v.take 2) ∨ 15 < (v.getD 10 0).toNat ∨ 31 < (v.getD 11 0).toNat →
          t = s.deny .range) ∧
        (1 ≤ leNat (v.take 2) → leNat (v.take 2) ≤ 256 → (v.getD 10 0).toNat ≤ 15 → (v.getD 11 0).toNat ≤ 31 →
          ((∃ m ∈ s.sec.members, m.id = leNat (v.take 2)) → t = s.answer .busy) ∧
          ((∀ m ∈ s.sec.members, m.id ≠ leNat (v.take 2)) →
            (s.sec.addrTaken (BitVec.ofNat 64 (leNat ((v.drop 2).take 8))) false (leNat (v.take 2)) = true → t = s.deny .other) ∧
            (s.sec.addrTaken (BitVec.ofNat 64 (leNat ((v.drop 2).take 8))) false (leNat (v.take 2)) = false →
              t.ans.status = .ok ∧ (t.member (leNat (v.take 2))).enrolled = true ∧
              (∃ m ∈ t.sec.members, m.id = leNat (v.take 2) ∧ m.addr = BitVec.ofNat 64 (leNat ((v.drop 2).take 8)))))))) ∧
    (∀ v : List Byte, Runs (.enrolNode role v) s fun t =>
      (s.enrolOpen = false → t = s.deny .state) ∧
      (s.enrolOpen = true → v.length ≠ 13 → t = s.deny .length) ∧
      (s.enrolOpen = true → v.length = 13 → leNat (v.take 2) = 0 ∨ 1024 < leNat (v.take 2) → t = s.deny .range) ∧
      (s.enrolOpen = true → v.length = 13 → 1 ≤ leNat (v.take 2) → leNat (v.take 2) ≤ 1024 →
        (∃ n ∈ s.sec.nodes, s.sec.nodes.find? (fun x => x.id = leNat (v.take 2)) = some n ∧ (v.getD 12 0).toNat ≤ n.gen.toNat) →
        t.ans.status = .denied ∧ t.sec = s.sec) ∧
      (t.ans.status = .ok → s.enrolOpen = true →
        ∃ n ∈ t.sec.nodes, n.id = leNat (v.take 2) ∧ n.gen = v.getD 12 0 ∧
          n.wake = BitVec.ofNat 16 (leNat ((v.drop 10).take 2)))) ∧
    (∀ v : Word, Runs (.removeEnrolment role v) s fun t =>
      (s.dev.dstate ≠ .listening → t = s.deny .state) ∧
      (s.dev.dstate = .listening → v.getLsbD 0 = false →
        (∀ m ∈ s.sec.members, m.id ≠ (v.extractLsb' 16 16).toNat) → t = s.deny .range) ∧
      (s.dev.dstate = .listening → v.getLsbD 0 = false → (∃ m ∈ s.sec.members, m.id = (v.extractLsb' 16 16).toNat) →
        ((s.member (v.extractLsb' 16 16).toNat).st ≠ .retired → t = s.answer .busy) ∧
        ((s.member (v.extractLsb' 16 16).toNat).st = .retired →
          t.ans.status = .ok ∧ (∀ m ∈ t.sec.members, m.id ≠ (v.extractLsb' 16 16).toNat) ∧ t.sec.nodes = s.sec.nodes)) ∧
      (s.dev.dstate = .listening → v.getLsbD 0 = true →
        ((∀ n ∈ s.sec.nodes, n.id ≠ (v.extractLsb' 16 16).toNat) → t = s.deny .range) ∧
        ((∃ n ∈ s.sec.nodes, n.id = (v.extractLsb' 16 16).toNat) →
          t.ans.status = .ok ∧ (∀ n ∈ t.sec.nodes, n.id ≠ (v.extractLsb' 16 16).toNat) ∧ t.sec.members = s.sec.members))) ∧
    (∀ (sub : Nat) (v : List Byte), Runs (.certificateWrite role sub v) s fun t =>
      (s.dev.dstate ≠ .listening → t = s.deny .state) ∧
      (s.dev.dstate = .listening → v.length ≠ (if sub = 2 then 65 else 176) → t = s.deny .length) ∧
      (s.dev.dstate = .listening → sub = 2 → v.length = 65 → t.ans.status = .ok ∧ t.sec = { s.sec with siteAuth := some v }) ∧
      (s.dev.dstate = .listening → sub ≠ 2 → v.length = 176 → s.certOk v = false → t = s.deny .other) ∧
      (s.dev.dstate = .listening → sub = 1 → v.length = 176 → s.certOk v = true →
        if s.certOwn v = true then t.ans.status = .ok ∧ t.sec = { s.sec with ownCert := some v } else t = s.deny .other) ∧
      (∀ k : Fin 4, s.dev.dstate = .listening → sub = k.val + 3 → v.length = 176 → s.certOk v = true →
        t.ans.status = .ok ∧ t.sec.certs[k] = some v))

/-- R547 to R553: the life cycle and tamper. A life-cycle command outside *Listening*, one that the table does not have, and one of a
lesser role than its row asks for, is answered DENIED and changes nothing; another blows the fuses of its row. A source that is
not watched has no effect; another counts, and with the response wipe or lock clears every key slot, the KWK latch and the
operation in progress; lock sets TAMPERED. TAMPERED is cleared by the value 1, in *Listening*, while no source with response lock is
active, and clearing it does not change the device state. -/
def Obligations.LifeCycleAndTamper : Prop :=
  ∀ s : State,
    (∀ (role : Role) (v : Nat) x, Role.engineer.rank ≤ role.rank → Runs (.lifeCycleCommand role v x) s fun t =>
      (s.dev.dstate ≠ .listening → t = s.deny .state) ∧
      (s.dev.dstate = .listening → 3 < v → t = s.deny .range) ∧
      (s.dev.dstate = .listening → v ≤ 3 → s.sec.changeTo v = none → t = s.deny .other) ∧
      (∀ min k, s.dev.dstate = .listening → v ≤ 3 → s.sec.changeTo v = some (min, k) →
        (role.rank < min.rank → t = s.deny .role) ∧
        (min.rank ≤ role.rank → t.sec.deploy = k.deploy ∧ t.sec.decom = k.decom ∧ t.sec.returns = k.returns))) ∧
    (∀ src, Runs (.tamperFire src) s fun t =>
      (s.tamperWatched src = false → t.sec = s.sec ∧ t.mem = s.mem ∧ t.dev = s.dev) ∧
      (src = .vbat → t.pwr = { s.pwr with vbatOk := false }) ∧ (src ≠ .vbat → t.pwr = s.pwr) ∧
      (s.tamperWatched src = true →
        t.sec.tmp.cnt = s.sec.tmp.cnt + 1 ∧ t.sec.tamperEvents = s.sec.tamperEvents + 1 ∧
        t.sec.tmp.seen.getLsbD (tamperNo src) = true ∧
        (s.tamperResp (tamperNo src) = 0 → t.sec.slots = s.sec.slots ∧ t.sec.kwk = s.sec.kwk ∧ t.mem = s.mem ∧
          t.sec.tmp.tampered = s.sec.tmp.tampered) ∧
        (s.tamperResp (tamperNo src) = 1 ∨ s.tamperResp (tamperNo src) = 2 → t.sec.kwk = none ∧
          (s.aonOnly = false → t.sec.busy = none ∧ ∀ i : Fin 32, t.sec.slots[i] = {})) ∧
        (s.tamperResp (tamperNo src) = 2 → t.sec.tmp.tampered = true))) ∧
    (∀ (role : Role) (v : Nat) (active : BitVec 6), Role.engineer.rank ≤ role.rank → Runs (.tamperClear role v active) s fun t =>
      (v ≠ 1 → t = s.deny .range) ∧ t.dev.dstate = s.dev.dstate ∧
      (v = 1 → s.dev.dstate ≠ .listening → t.ans.status = .denied ∧ t.sec.tmp.tampered = s.sec.tmp.tampered) ∧
      (v = 1 → s.dev.dstate = .listening →
        ((s.setTmp fun x => { x with active := active }).lockActive = true →
          t.ans.status = .busy ∧ t.sec.tmp.tampered = s.sec.tmp.tampered) ∧
        ((s.setTmp fun x => { x with active := active }).lockActive = false →
          t.ans.status = .ok ∧ t.sec.tmp.tampered = false)))

/-! ### Recorder, update, supply, debug -/

/-- R563 to R568, R572, R574, R576: the recorder. A commit of a refused record is DENIED; one without room is FULL and counted as
lost; any other stands last in the buffer; each uses up the staged octets. A flush that ends frees the records it copied: those
present at its start, or all of a power-fail flush. A verify failure ends it in degraded mode. A log test is taken in *Listening*, and
one that passes ends degraded mode. A log read needs an open session. -/
def Obligations.Recorder : Prop :=
  ∀ s : State,
    (∀ b : Bus, s.allows b (evrBase + 0x108) .write = true → Runs (.recordCommit b) s fun t =>
      let x := s.evr.stage b.id
      let r := s.mkRec (.code x.typ) x.sev.toNat (.octets (padTo x.len.toNat x.data)) x.len.toNat false
      t.evr.stage b.id = { x with data := [], res := t.ans.status.code } ∧
      (x.refused = true → t.ans.status = .denied ∧ t.evr.buffer = s.evr.buffer) ∧
      (x.refused = false → s.evr.degr = false → 16384 < s.evr.fill + r.size + 32 →
        t.ans.status = .full ∧ t.evr.buffer = s.evr.buffer ∧ t.evr.lostCnt = s.evr.lostCnt + 1) ∧
      (x.refused = false → s.evr.degr = true ∨ s.evr.fill + r.size + 32 ≤ 16384 →
        t.ans.status = .ok ∧ t.evr.buffer.getLast? = some r)) ∧
    (∀ b : Bus, s.allows b (evrBase + 8) .write = true → Runs (.flush (.reg b)) s fun t =>
      t.evr = s.evr.startFlush false ∧ t.ans.status = .ok ∧ t.outside [.evr, .ans] = s.outside [.evr, .ans] ∧
      (s.evr.degr = false → t.evr.flush ≠ none)) ∧
    (∀ role : Role, Role.operator.rank ≤ role.rank → Runs (.flush (.od role)) s fun t =>
      t.evr = s.evr.startFlush false ∧ t.ans.status = .ok) ∧
    (Runs .flushPeriodExpiry s fun t =>
      (s.evr.degr = false → t.evr.flush ≠ none) ∧ t.evr.buffer = s.evr.buffer ∧
      t.outside [.tim, .evr] = s.outside [.tim, .evr]) ∧
    (∀ fail, Runs (.flushComplete fail) s fun t =>
      (s.evr.flush = none → t = s) ∧
      (∀ f, s.evr.flush = some f → fail = none →
        t.evr.buffer = (if f.power then [] else s.evr.buffer.drop f.count) ∧ t.evr.flushes = s.evr.flushes + 1 ∧
        (f.again = false → t.evr.flush = none) ∧ t.outside [.evr] = s.outside [.evr]) ∧
      (∀ f ofs, s.evr.flush = some f → fail = some ofs → s.evr.degr = false →
        t.evr.degr = true ∧ t.evr.logFail = true ∧ t.evr.marker = true ∧ t.evr.flush = none)) ∧
    (∀ mv, Runs (.powerFail mv) s fun t =>
      if s.alive = true ∧ s.pwr.pfailNow = false then
        t.pwr.pfail = true ∧ t.pwr.pfailNow = true ∧ t.pwr.vinMv = mv ∧ t.pwr.pfCnt = s.pwr.pfCnt + 1 ∧ t.evr.pfail = true ∧
        (s.evr.degr = false → t.evr.flush ≠ none)
      else t = s) ∧
    (∀ (role : Role) (passes : Bool), Role.engineer.rank ≤ role.rank → Runs (.logTest role passes) s fun t =>
      (s.dev.dstate ≠ .listening → t = s.deny .state) ∧
      (s.dev.dstate = .listening → passes = false → t = s.deny .other) ∧
      (s.dev.dstate = .listening → passes = true →
        t.ans.status = .ok ∧ t.evr.degr = false ∧ t.evr.logFail = false ∧ t.evr.marker = false)) ∧
    (∀ (i : Fin 11), Runs (.logRecordRead i none) s fun t =>
      let c := s.evr.cursorAt s.dict.sess[i].cursor
      (s.dict.sess[i].opened = false → t = s.deny .session) ∧
      (s.dict.sess[i].opened = true → t.ans.status = .ok ∧
        (s.evr.all[(c - s.evr.oldest).toNat]? = none → t.ans.value = [] ∧ t.dict = s.dict) ∧
        (∀ r, s.evr.all[(c - s.evr.oldest).toNat]? = some r →
          t.ans.value = r.bytes ∧ t.dict.sess[i] = { s.dict.sess[i] with cursor := some (c + 1) }))) ∧
    (∀ (i : Fin 11) ofs, s.dict.sess[i].opened = true → Runs (.logRecordRead i (some ofs)) s fun t =>
      t.ans.status = .denied ∧ t.evr.degr = true)

/-- R505, R577, R578: the service port. A frame on SERVICE_UART while USB is configured, or to a unit that does not run, is discarded;
a frame of wrong form or another KIND is counted. A connection that opens begins the port's session as Observer, unless it is
open already; one that closes ends it.

R440, R583 to R588: images. A download that was checked is stored and waits for activation, or is refused with the code of the
first check that fails; the running slot and the preference stay. A stored image can be discarded. An activation is DENIED without
such an image, and BUSY while another stands in its way, as a CLE load while the CLE is not OFF; a microcode load then waits for
its pause. Confirming ends every trial; a window that expires rolls back. -/
def Obligations.ServiceAndUpdate : Prop :=
  (∀ s : State,
     (∀ uart frame x, Runs (.serviceFrame uart frame x) s fun t =>
       (s.alive = false ∨ (uart = true ∧ s.upd.usbCfg = true) → t = s) ∧
       (s.alive = true → uart = false ∨ s.upd.usbCfg = false →
         (servicePayload frame = none → t.upd = { s.upd with badFrm := s.upd.badFrm + 1 } ∧ t.outside [.upd] = s.outside [.upd]) ∧
         (∀ l, servicePayload frame = some l →
           (leNat ((frame.drop 2).take 1) ≠ 1 → t.upd.badFrm = s.upd.badFrm + 1 ∧ t.outside [.upd] = s.outside [.upd]) ∧
           (leNat ((frame.drop 2).take 1) = 1 → uart = false →
             (s.served = false → t = s) ∧ (s.served = true → t = s.serviceMessage l x))))) ∧
     (∀ usb, Runs (.servicePortConnectionOpen usb) s fun t =>
       (s.alive = false → t = s) ∧
       (s.alive = true → t.dict.sess[(2 : Fin 11)].opened = true ∧ t.upd.usbCfg = (usb || s.upd.usbCfg) ∧
         (s.dict.sess[(2 : Fin 11)].opened = true → t.dict = s.dict) ∧
         (s.dict.sess[(2 : Fin 11)].opened = false → t.dict.sess[(2 : Fin 11)].role = .observer))) ∧
     (Runs .servicePortConnectionClose s fun t =>
       t.dict.sess[(2 : Fin 11)].opened = false ∧ t.upd.usbCfg = false ∧ t.outside [.dict, .upd] = s.outside [.dict, .upd])) ∧
  (∀ (s : State),
     (∀ ok, Runs (.imageCheckComplete ok) s fun t =>
       (s.upd.checking = none → t = s) ∧
       (∀ l, s.upd.checking = some l →
         t.upd.checking = none ∧ t.upd.run = s.upd.run ∧ t.upd.pref = s.upd.pref ∧ t.upd.refusal = s.imageCheck l ok ∧
         t.outside [.upd] = s.outside [.upd] ∧
         (s.imageCheck l ok = 0 → t.upd.dl = .stored ∧ t.upd.ready = some (imgInfo l).kind) ∧
         (s.imageCheck l ok ≠ 0 → t.upd.dl = .refused ∧ t.upd.ready = s.upd.ready))) ∧
     (∀ role : Role, Role.engineer.rank ≤ role.rank →
       (Runs (.discardStoredImage role) s fun t =>
         (s.upd.ready = none → t = s.deny .state) ∧
         (s.upd.ready ≠ none → t.upd.ready = none ∧ t.upd.dl = .none ∧ t.ans.status = .ok ∧ t.upd.run = s.upd.run ∧
           t.upd.pref = s.upd.pref)) ∧
       (∀ (i : Instr) (e : Engine), (i = .activateGbb role ∧ e = .gbb) ∨ (i = .activateRadio role ∧ e = .radio) ∨
           (i = .activateCle role ∧ e = .cle) → Runs i s fun t =>
         (s.upd.ready ≠ some (Engine.kind e) ∨ s.dev.dstate = .debugSession → t = s.deny .state) ∧
         (s.upd.ready = some (Engine.kind e) → s.dev.dstate ≠ .debugSession →
           (s.upd.act ≠ none ∨ s.dev.target ≠ none ∨ (e = .cle ∧ s.blk.cle.st ≠ .off) → t = s.answer .busy) ∧
           (s.activateStatus (Engine.kind e) = .ok →
             t.upd = { s.upd with act := some (.waiting e false) } ∧ t.ans.status = .ok))) ∧
       (∀ x, Runs (.activateMain role x) s fun t =>
         (s.upd.ready ≠ some 1 ∨ s.dev.dstate = .debugSession → t = s.deny .state) ∧
         (s.upd.ready = some 1 → s.dev.dstate ≠ .debugSession → s.upd.act ≠ none ∨ s.dev.target ≠ none →
           t = s.answer .busy) ∧
         (s.activateStatus 1 = .ok → t = (((s.answer .ok).setUpd fun u => { u with
           pref := 1 - u.run, trial := true, tcount := 0, winEnd := none, rolledBack := false, ready := none, dl := .none,
           lastPermit := none, migrate := some (decide (s.od 0x2060 8 1 = 1)) }).event .imageActivated
             [1, s.upd.readyVer.toNat]).restart x)) ∧
       (∀ v : Nat, Runs (.confirm role v) s fun t =>
         (v ≠ 1 → t = s.deny .range) ∧ (v = 1 → s.anyTrial = false → t = s.deny .state) ∧
         (v = 1 → s.anyTrial = true →
           t.ans.status = .ok ∧ t.upd.run = s.upd.run ∧ t.upd.pref = s.upd.pref ∧
           (∀ k : Fin 3, t.upd.area[k].trialEnd = none) ∧ s.upd.svFuse ≤ t.upd.svFuse ∧
           (s.upd.inTrial = true → t.upd.trial = false ∧ t.upd.winEnd = none)))) ∧
     (Runs .microcodePauseStart s fun t =>
       ((∀ e rb, s.upd.act ≠ some (.waiting e rb)) → t = s) ∧
       (∀ rb, s.upd.act = some (.waiting .gbb rb) → t.upd.paused = some .gbb ∧
         t.upd.act = some (.pause .gbb (t.tb5ns + 30000000) rb)) ∧
       (∀ rb, s.upd.act = some (.waiting .radio rb) →
         if s.corrCycle s.dev.cycle = true ∨ s.fra.burst ≠ none ∨ 11000 < s.cycleUs then t = s
         else t.upd.paused = some .radio ∧ t.upd.act = some (.pause .radio (t.tb4ns + 15000000) rb)) ∧
       (∀ rb, s.upd.act = some (.waiting .cle rb) →
         if s.blk.cle.st = .off then t.upd = { s.upd with act := some (.pause .cle (s.tb5ns + 5000000) rb), paused := some .cle }
         else t = s)) ∧
     (Runs .microcodePauseEnd s fun t =>
       ((∀ e x rb, s.upd.act ≠ some (.pause e x rb)) → t = s) ∧
       (∀ e x rb, s.upd.act = some (.pause e x rb) → t.upd.act = none ∧ t.upd.paused = none)) ∧
     (∀ x, Runs (.confirmationWindowExpiry x) s fun t =>
       (s.dev.dstate = .dormant ∨ s.pwr.vinOk = false ∨ (s.upd.inTrial = false ∧ s.trialEngine = none) → t = s) ∧
       (s.dev.dstate ≠ .dormant → s.pwr.vinOk = true → s.upd.inTrial = false → ∀ e u, s.trialEngine = some (e, u) →
         s.upd.act = none → t.upd.act = some (.waiting e true)) ∧
       (s.dev.dstate ≠ .dormant → s.pwr.vinOk = true → s.upd.inTrial = true → ∀ u, s.upd.winEnd = some u →
         t = (((s.reachOpsec u).setUpd Upd.rollBack).event .rolledBack [s.upd.run.val]).restart x)))

/-- R612, R613, R617, R619, R621, R624: supplies, domains and the reference. Without VSTOP the stop outputs are off and both ESTOP
channels read the stop level. A domain asked off keeps its power and its request where it may not be switched off, with CFG_ERR; one
asked on comes on later. The PLL goes to a qualified REF10_IN, holds when it is lost, and returns to the TCXO after 10 s. -/
def Obligations.PowerAndClocks : Prop :=
  ∀ s : State,
    (∀ mv, Runs (.vstopLow mv) s fun t =>
      t.pwr = { s.pwr with vstopOk := false, vstopMv := mv } ∧
      (s.alive = false → t.outside [.pwr] = s.outside [.pwr]) ∧
      (s.alive = true → t.saf.outA = false ∧ t.saf.outB = false ∧ t.saf.estA.raw = false ∧ t.saf.estB.raw = false)) ∧
    (∀ mv, Runs (.vstopRestored mv) s fun t =>
      t.pwr = { s.pwr with vstopOk := true, vstopMv := mv } ∧ t.outside [.pwr] = s.outside [.pwr]) ∧
    (∀ v18, Runs (.voutOverload v18) s fun t =>
      if s.alive = true then
        t.pwr = { s.pwr with voutOvl := true } ∧ t.outside [.pwr, .evr, .out] = s.outside [.pwr, .evr, .out]
      else t = s) ∧
    (∀ mv, Runs (.powerFailCleared mv) s fun t =>
      if s.alive = true ∧ s.pwr.pfailNow = true then
        t.pwr = { s.pwr with pfailNow := false, vinMv := mv } ∧ t.evr = { s.evr with pfail := false } ∧
        t.outside [.pwr, .evr] = s.outside [.pwr, .evr]
      else t = s) ∧
    (∀ b req, s.allows b 0x4002000C .write = true → Runs (.powerDomainRequest b req) s fun t =>
      ∀ d : Fin 12,
        t.pwr.pdReq.getLsbD d.val = (req.getLsbD d.val || (s.pwr.pdReq.getLsbD d.val && !s.mayUnpower d)) ∧
        t.pwr.pdStat.getLsbD d.val = (s.pwr.pdStat.getLsbD d.val && t.pwr.pdReq.getLsbD d.val) ∧
        (s.pwr.pdReq.getLsbD d.val = true → req.getLsbD d.val = false → s.mayUnpower d = false → t.pwr.cfgErr = true)) ∧
    (∀ d : Fin 12, Runs (.powerDomainOn d) s fun t =>
      if s.alive = true ∧ s.pwr.pdReq.getLsbD d.val = true ∧ s.pwr.pdStat.getLsbD d.val = false then
        t.pwr = { s.pwr with pdStat := s.pwr.pdStat ||| (1#12 <<< d.val) }
      else t = s) ∧
    (∀ ppb, Runs (.ref10Qualified ppb) s fun t =>
      if s.alive = true ∧ s.pwr.refNow = true then
        t.pwr.qual = true ∧ t.pwr.refOfs = ppb ∧ t.pwr.lostMs = none ∧
        t.pwr.ref = (if s.pwr.ref = .onRef then .onRef else .slewToRef) ∧ t.outside [.pwr] = s.outside [.pwr]
      else t = s) ∧
    (Runs .ref10Lost s fun t =>
      if s.alive = true ∧ s.pwr.refNow = true ∧ s.pwr.qual = true then
        t.pwr.qual = false ∧ t.pwr.ref = .holding ∧ t.pwr.lostMs = some s.tb5ms ∧ t.pwr.lossCnt = s.pwr.lossCnt + 1 ∧
        t.outside [.pwr, .evr, .out] = s.outside [.pwr, .evr, .out]
      else t = s) ∧
    (Runs .ref10ReturnTimeout s fun t =>
      (s.pwr.ref ≠ .holding ∨ s.pwr.lostMs = none → t = s) ∧
      (s.pwr.ref = .holding → s.pwr.lostMs ≠ none → t.pwr = { s.pwr with ref := .slewToTcxo, lostMs := none })) ∧
    (Runs .pllSlewComplete s fun t =>
      (s.pwr.ref = .slewToRef → t.pwr = { s.pwr with ref := .onRef }) ∧
      (s.pwr.ref = .slewToTcxo → t.pwr = { s.pwr with ref := .tcxo }) ∧
      (s.pwr.ref ≠ .slewToRef → s.pwr.ref ≠ .slewToTcxo → t = s) ∧ t.outside [.pwr] = s.outside [.pwr]) ∧
    (∀ w, Runs (.temperatureWarning w) s fun t =>
      t.sec.tmp = { s.sec.tmp with temp := w } ∧ (s.alive = false → t.outside [.sec] = s.outside [.sec]) ∧
      t.outside [.sec, .evr, .out] = s.outside [.sec, .evr, .out])

/-- R654: while debug is not enabled every DMI access fails with op status 2, a read answers 0 and a write changes nothing but the
port's own registers; no hart is halted and no trigger is armed, at reset and after every step from a state where that holds. -/
def Obligations.DebugClosed : Prop :=
  (∀ (s : State) op addr data, s.dbg.enabled = false → Runs (.dmi op addr data) s fun t =>
    t.dbg = { s.dbg with ir := .dmi, dr := addr.toNat * 2 ^ 34 + 2, dmiStat := 2 } ∧
    t.ans.value = leBytes 4 0 ∧ t.outside [.dbg, .ans] = s.outside [.dbg, .ans]) ∧
  State.reset.debugQuiet ∧
  (∀ s t : State, s.debugQuiet → step s = .next t → t.debugQuiet)

/-- R664: a write of OD 0x9050:01 is DENIED and changes nothing when the value is not 1, the life-cycle state is not *Service-Return*,
the unit is not in *Listening*, or LOCKED is set. One by an Engineer in none of these cases arms the unit for 600 s, again while it
is armed already. -/
def Obligations.DebugArming : Prop :=
  ∀ (s : State) (role : Role) (v : Nat), Runs (.debugArm role v) s fun t =>
    (v ≠ 1 ∨ s.sec.lifeCycle ≠ .serviceReturn ∨ s.dev.dstate ≠ .listening ∨ s.dbg.locked = true →
      t.ans.status = .denied ∧ t.outside [.ans] = s.outside [.ans]) ∧
    (v = 1 → s.sec.lifeCycle = .serviceReturn → s.dev.dstate = .listening → s.dbg.locked = false →
      Role.engineer.rank ≤ role.rank →
      t.ans.status = .ok ∧ t.dbg = { s.dbg with armedTo := some (s.tb5ms + 600000) } ∧
      t.outside [.dbg, .ans] = s.outside [.dbg, .ans])

/-- R653, R654, R661: the port. TAP reset and IDCODE select the identification code. EXTEST, CLAMP and HIGHZ act while debug is
enabled, and as BYPASS else. DTMCS reports DMISTAT and clears it on a reset request. While debug is enabled and no access has failed, a
DMI read answers the register of the debug module, and a DMI write is one of that register.

R658 to R660: harts 0 to 15 are selected while debug is enabled, hart 16 in *Manufacturing* only; any other stays as it is. A halt
halts the hart and its core, a resume and a step act on a halted one. A trigger halts a core that matches. An abstract command sets
cmderr 4 on a hart that runs and 2 for a register not offered. A system bus access that the firewall refuses sets sberror 2. -/
def Obligations.DebugPortAndModule : Prop :=
  (∀ s : State,
     (Runs .tapReset s fun t => t = { s with dbg := { s.dbg with ir := .idcode, dr := 0x2716A3CB } }) ∧
     (Runs .idcode s fun t => t = { s with dbg := { s.dbg with ir := .idcode, dr := 0x2716A3CB } }) ∧
     (Runs .bypass s fun t => t = { s with dbg := { s.dbg with ir := .bypass, dr := 0 } }) ∧
     (∀ cells, Runs (.samplePreload cells) s fun t =>
       t = { s with dbg := { s.dbg with ir := .samplePreload, cells := cells } }) ∧
     (∀ cells, Runs (.extest cells) s fun t => t = { s with dbg :=
       if s.dbg.enabled then { s.dbg with ir := .extest, cells := cells } else { s.dbg with ir := .bypass, dr := 0 } }) ∧
     (Runs .clamp s fun t => t = { s with dbg :=
       if s.dbg.enabled then { s.dbg with ir := .clamp, dr := 0 } else { s.dbg with ir := .bypass, dr := 0 } }) ∧
     (Runs .highz s fun t => t = { s with dbg :=
       if s.dbg.enabled then { s.dbg with ir := .highz, dr := 0 } else { s.dbg with ir := .bypass, dr := 0 } }) ∧
     (∀ reset hard, Runs (.dtmcs reset hard) s fun t => t = { s with dbg := { s.dbg with
       ir := .dtmcs, dr := s.dtmcs, dmiStat := if reset = true ∨ hard = true then 0 else s.dbg.dmiStat } }) ∧
     (∀ addr data, s.dbg.enabled = true → s.dbg.dmiStat = 0 →
       (Runs (.dmi 1 addr data) s fun t =>
         t.ans.value = leBytes 4 (s.dmRead addr.toNat).toNat ∧ t.dbg.dr % 4 = 0 ∧
         t.outside [.dbg, .ans] = s.outside [.dbg, .ans]) ∧
       (Runs (.dmi 2 addr data) s fun t =>
         t.dbg.dr % 4 = 0 ∧ t.outside [.dbg, .ans] = (s.dmWrite addr.toNat data).outside [.dbg, .ans]))) ∧
  (∀ s : State,
     (∀ n, s.hartOk n = false →
       (Runs (.hartHalt n) s fun t => t.dbg.hart = s.dbg.hart ∧ t.outside [.dbg] = s.outside [.dbg]) ∧
       (Runs (.hartResume n) s fun t => t.dbg.hart = s.dbg.hart ∧ t.outside [.dbg] = s.outside [.dbg]) ∧
       (Runs (.singleStep n) s fun t => t.dbg.hart = s.dbg.hart ∧ t.outside [.dbg] = s.outside [.dbg]) ∧
       (∀ transfer write postexec reg v, Runs (.abstractCommand n transfer write postexec reg v) s fun t =>
         t.dbg.hart = s.dbg.hart ∧ t.outside [.dbg] = s.outside [.dbg])) ∧
     (∀ n : Fin 17, s.hartOk n.val = true →
       (Runs (.hartHalt n.val) s fun t => t.dbg.hart[n].halted = true ∧ t.dbg.hartSel = n.val ∧
         (∀ k : Fin 17, k ≠ n → t.dbg.hart[k] = s.dbg.hart[k]) ∧
         (s.dbg.hart[n].halted = false → ∀ c : Fin 16, c.val = n.val → t.cores.core[c].halted = true) ∧
         t.outside [.cores, .dbg] = s.outside [.cores, .dbg]) ∧
       (Runs (.hartResume n.val) s fun t => t.dbg.hart[n].halted = false ∧ t.dbg.hartSel = n.val ∧
         (∀ k : Fin 17, k ≠ n → t.dbg.hart[k] = s.dbg.hart[k]) ∧
         (s.dbg.hart[n].halted = true → ∀ c : Fin 16, c.val = n.val → t.cores.core[c].halted = false) ∧
         t.outside [.cores, .dbg] = s.outside [.cores, .dbg]) ∧
       (Runs (.singleStep n.val) s fun t =>
         t.dbg.hart[n] = (if s.dbg.hart[n].halted then { s.dbg.hart[n] with regs := [] } else s.dbg.hart[n]) ∧
         (∀ k : Fin 17, k ≠ n → t.dbg.hart[k] = s.dbg.hart[k]) ∧ t.outside [.dbg] = s.outside [.dbg]) ∧
       (∀ write reg v, s.dbg.cmdErr = 0 → Runs (.abstractCommand n.val true write false reg v) s fun t =>
         (s.dbg.hart[n].halted = false → t.dbg.cmdErr = 4 ∧ t.dbg.hart = s.dbg.hart) ∧
         (s.dbg.hart[n].halted = true → 0x103F < reg.toNat → t.dbg.cmdErr = 2 ∧ t.dbg.hart = s.dbg.hart) ∧
         (s.dbg.hart[n].halted = true → reg.toNat ≤ 0x103F → t.dbg.cmdErr = 0 ∧
           (write = true → t.dbg.data = v ∧
             (n.val < 16 → reg.toNat = 0x7A0 →
               t.dbg.hart[n].tselect = if v.toNat ≤ 11 then v.toNat else s.dbg.hart[n].tselect)) ∧
           (write = false → t.ans.status = .ok ∧ t.ans.value = leBytes 8 t.dbg.data.toNat ∧
             (reg.toNat = 0x1000 → t.dbg.data = 0))))) ∧
     (∀ (c : Fin 16) (n : Fin 17) addr kind, n.val = c.val → Runs (.triggerHit c addr kind) s fun t =>
       if s.dbg.enabled = true ∧ s.dbg.hart[n].halted = false ∧ triggerHits s.dbg.hart[n] addr kind = true then
         t.dbg.hart[n].halted = true ∧ t.cores.core[c].halted = true
       else t = s) ∧
     (∀ write (addr : BitVec 32) v, Runs (.systemBusAccess write addr v) s fun t =>
       (s.dbg.enabled = false ∨ s.dbg.sberror ≠ 0 → t = s) ∧
       (s.dbg.enabled = true → s.dbg.sberror = 0 →
         (s.allows debugMaster addr.toNat (if write then .write else .read) = false →
           t.dbg = { s.dbg with sberror := 2 } ∧ t.outside [.cores, .evr, .out, .dbg] = s.outside [.cores, .evr, .out, .dbg]) ∧
         (s.allows debugMaster addr.toNat .write = true → write = true →
           t.dbg = { s.dbg with sbdata := v } ∧
           t.outside [.dbg] = (s.busWrite debugMaster (addr.toNat / 4 * 4) v).outside [.dbg]) ∧
         (s.allows debugMaster addr.toNat .read = true → write = false →
           t.dbg.sberror = 0 ∧ t.dbg.hart = s.dbg.hart ∧
           t.outside [.tim, .ques, .dbg, .ans] = s.outside [.tim, .ques, .dbg, .ans]))))

/-- R655 to R657: DBG_CHAL answers the challenge in *Manufacturing* and *Service-Return*. A token is ignored where R655 or R656 takes
none. One that passes enables debug, with the test root, the key slots cleared and the secure scratchpad wiped, and enters *Debug
session* unless *Start-up* has not ended. One that fails counts, draws a new nonce, and the third sets LOCKED. -/
def Obligations.DebugUnlock : Prop :=
  ∀ s : State,
    (Runs .dbgChal s fun t =>
      if s.tokenAvailable = true then
        t.ans.value = s.dbg.chal.getD [] ∧ t.dbg.ir = .dbgChal ∧ t.outside [.dbg, .ans] = s.outside [.dbg, .ans]
      else t = { s with dbg := { s.dbg with ir := .bypass, dr := 0 } }) ∧
    (∀ tok, Runs (.dbgToken tok none) s fun t =>
      (s.tokenAvailable = false → t = { s with dbg := { s.dbg with ir := .bypass, dr := 0 } }) ∧
      (s.tokenAvailable = true → s.tokenTaken = false →
        t = { s with dbg := { s.dbg with ir := .dbgToken, dr := leNat tok } }) ∧
      (s.tokenTaken = true → s.tokenPasses tok = true →
        t.dbg.enabled = true ∧ t.dbg.ever = true ∧ t.sec.testRoot = true ∧
        t.sec.slots = Vector.replicate 32 {} ∧ t.mem = s.secureWipe.mem ∧
        t.dev.dstate = (if s.dev.dstate = .startUp then .startUp else .debugSession)) ∧
      (s.tokenTaken = true → s.tokenPasses tok = false →
        t.dbg.tries = min (s.dbg.tries + 1) 3 ∧ (2 ≤ s.dbg.tries → t.dbg.locked = true) ∧
        t.dbg.enabled = s.dbg.enabled ∧ t.dbg.chal ≠ none ∧ t.sec = s.sec ∧ t.dev = s.dev)) ∧
    (Runs .debugArmExpiry s fun t => t.dbg = { s.dbg with armedTo := none } ∧
      t.outside [.tim, .evr, .dbg] = s.outside [.tim, .evr, .dbg])
end

