-- ==== Sys2Proof/Laws/Frames/Fold.lean ====
section
/-!
SUPPORT. The state outside some parts: what the same outside means field by field, how it lifts to more parts, and what
record updates, folds and repetitions keep.
-/
namespace Sys2Proof.Machine

/-- What `V` names, `W` names. -/
theorem Part.within_contains {V W : List Part} (h : Part.within V W = true) {p : Part} (hp : V.contains p = true) :
    W.contains p = true := List.all_eq_true.mp h p (by simpa using hp)

theorem State.pending_of_outside {W : List Part} {s t : State} (h : t.outside W = s.outside W)
    (hp : W.contains .pending = false := by decide) : t.pending = s.pending := by
  simpa only [State.outside, hp, Bool.false_eq_true, if_false] using congrArg State.pending h

theorem State.dev_of_outside {W : List Part} {s t : State} (h : t.outside W = s.outside W)
    (hp : W.contains .dev = false := by decide) : t.dev = s.dev := by
  simpa only [State.outside, hp, Bool.false_eq_true, if_false] using congrArg State.dev h

theorem State.blk_of_outside {W : List Part} {s t : State} (h : t.outside W = s.outside W)
    (hp : W.contains .blk = false := by decide) : t.blk = s.blk := by
  simpa only [State.outside, hp, Bool.false_eq_true, if_false] using congrArg State.blk h

theorem State.grf_of_outside {W : List Part} {s t : State} (h : t.outside W = s.outside W)
    (hp : W.contains .grf = false := by decide) : t.grf = s.grf := by
  simpa only [State.outside, hp, Bool.false_eq_true, if_false] using congrArg State.grf h

theorem State.gbb_of_outside {W : List Part} {s t : State} (h : t.outside W = s.outside W)
    (hp : W.contains .gbb = false := by decide) : t.gbb = s.gbb := by
  simpa only [State.outside, hp, Bool.false_eq_true, if_false] using congrArg State.gbb h

theorem State.corr_of_outside {W : List Part} {s t : State} (h : t.outside W = s.outside W)
    (hp : W.contains .corr = false := by decide) : t.corr = s.corr := by
  simpa only [State.outside, hp, Bool.false_eq_true, if_false] using congrArg State.corr h

theorem State.tsl_of_outside {W : List Part} {s t : State} (h : t.outside W = s.outside W)
    (hp : W.contains .tsl = false := by decide) : t.tsl = s.tsl := by
  simpa only [State.outside, hp, Bool.false_eq_true, if_false] using congrArg State.tsl h

theorem State.cre_of_outside {W : List Part} {s t : State} (h : t.outside W = s.outside W)
    (hp : W.contains .cre = false := by decide) : t.cre = s.cre := by
  simpa only [State.outside, hp, Bool.false_eq_true, if_false] using congrArg State.cre h

theorem State.fleet_of_outside {W : List Part} {s t : State} (h : t.outside W = s.outside W)
    (hp : W.contains .fleet = false := by decide) : t.fleet = s.fleet := by
  simpa only [State.outside, hp, Bool.false_eq_true, if_false] using congrArg State.fleet h

theorem State.saf_of_outside {W : List Part} {s t : State} (h : t.outside W = s.outside W)
    (hp : W.contains .saf = false := by decide) : t.saf = s.saf := by
  simpa only [State.outside, hp, Bool.false_eq_true, if_false] using congrArg State.saf h

theorem State.fra_of_outside {W : List Part} {s t : State} (h : t.outside W = s.outside W)
    (hp : W.contains .fra = false := by decide) : t.fra = s.fra := by
  simpa only [State.outside, hp, Bool.false_eq_true, if_false] using congrArg State.fra h

theorem State.frb_of_outside {W : List Part} {s t : State} (h : t.outside W = s.outside W)
    (hp : W.contains .frb = false := by decide) : t.frb = s.frb := by
  simpa only [State.outside, hp, Bool.false_eq_true, if_false] using congrArg State.frb h

theorem State.frames_of_outside {W : List Part} {s t : State} (h : t.outside W = s.outside W)
    (hp : W.contains .frames = false := by decide) : t.frames = s.frames := by
  simpa only [State.outside, hp, Bool.false_eq_true, if_false] using congrArg State.frames h

theorem State.tim_of_outside {W : List Part} {s t : State} (h : t.outside W = s.outside W)
    (hp : W.contains .tim = false := by decide) : t.tim = s.tim := by
  simpa only [State.outside, hp, Bool.false_eq_true, if_false] using congrArg State.tim h

theorem State.pair_of_outside {W : List Part} {s t : State} (h : t.outside W = s.outside W)
    (hp : W.contains .pair = false := by decide) : t.pair = s.pair := by
  simpa only [State.outside, hp, Bool.false_eq_true, if_false] using congrArg State.pair h

theorem State.mot_of_outside {W : List Part} {s t : State} (h : t.outside W = s.outside W)
    (hp : W.contains .mot = false := by decide) : t.mot = s.mot := by
  simpa only [State.outside, hp, Bool.false_eq_true, if_false] using congrArg State.mot h

theorem State.cores_of_outside {W : List Part} {s t : State} (h : t.outside W = s.outside W)
    (hp : W.contains .cores = false := by decide) : t.cores = s.cores := by
  simpa only [State.outside, hp, Bool.false_eq_true, if_false] using congrArg State.cores h

theorem State.mem_of_outside {W : List Part} {s t : State} (h : t.outside W = s.outside W)
    (hp : W.contains .mem = false := by decide) : t.mem = s.mem := by
  simpa only [State.outside, hp, Bool.false_eq_true, if_false] using congrArg State.mem h

theorem State.ques_of_outside {W : List Part} {s t : State} (h : t.outside W = s.outside W)
    (hp : W.contains .ques = false := by decide) : t.ques = s.ques := by
  simpa only [State.outside, hp, Bool.false_eq_true, if_false] using congrArg State.ques h

theorem State.dict_of_outside {W : List Part} {s t : State} (h : t.outside W = s.outside W)
    (hp : W.contains .dict = false := by decide) : t.dict = s.dict := by
  simpa only [State.outside, hp, Bool.false_eq_true, if_false] using congrArg State.dict h

theorem State.sec_of_outside {W : List Part} {s t : State} (h : t.outside W = s.outside W)
    (hp : W.contains .sec = false := by decide) : t.sec = s.sec := by
  simpa only [State.outside, hp, Bool.false_eq_true, if_false] using congrArg State.sec h

theorem State.evr_of_outside {W : List Part} {s t : State} (h : t.outside W = s.outside W)
    (hp : W.contains .evr = false := by decide) : t.evr = s.evr := by
  simpa only [State.outside, hp, Bool.false_eq_true, if_false] using congrArg State.evr h

theorem State.upd_of_outside {W : List Part} {s t : State} (h : t.outside W = s.outside W)
    (hp : W.contains .upd = false := by decide) : t.upd = s.upd := by
  simpa only [State.outside, hp, Bool.false_eq_true, if_false] using congrArg State.upd h

theorem State.start_of_outside {W : List Part} {s t : State} (h : t.outside W = s.outside W)
    (hp : W.contains .start = false := by decide) : t.start = s.start := by
  simpa only [State.outside, hp, Bool.false_eq_true, if_false] using congrArg State.start h

theorem State.pwr_of_outside {W : List Part} {s t : State} (h : t.outside W = s.outside W)
    (hp : W.contains .pwr = false := by decide) : t.pwr = s.pwr := by
  simpa only [State.outside, hp, Bool.false_eq_true, if_false] using congrArg State.pwr h

theorem State.dbg_of_outside {W : List Part} {s t : State} (h : t.outside W = s.outside W)
    (hp : W.contains .dbg = false := by decide) : t.dbg = s.dbg := by
  simpa only [State.outside, hp, Bool.false_eq_true, if_false] using congrArg State.dbg h

theorem State.out_of_outside {W : List Part} {s t : State} (h : t.outside W = s.outside W)
    (hp : W.contains .out = false := by decide) : t.out = s.out := by
  simpa only [State.outside, hp, Bool.false_eq_true, if_false] using congrArg State.out h

theorem State.ans_of_outside {W : List Part} {s t : State} (h : t.outside W = s.outside W)
    (hp : W.contains .ans = false := by decide) : t.ans = s.ans := by
  simpa only [State.outside, hp, Bool.false_eq_true, if_false] using congrArg State.ans h

theorem State.free_of_outside {W : List Part} {s t : State} (h : t.outside W = s.outside W)
    (hp : W.contains .free = false := by decide) : t.free = s.free := by
  simpa only [State.outside, hp, Bool.false_eq_true, if_false] using congrArg State.free h

/-- Two states whose fields outside `W` are equal have the same outside. -/
theorem State.outside_ext {W : List Part} {s t : State}
    (h_pending : W.contains .pending = false → t.pending = s.pending)
    (h_dev : W.contains .dev = false → t.dev = s.dev)
    (h_blk : W.contains .blk = false → t.blk = s.blk)
    (h_grf : W.contains .grf = false → t.grf = s.grf)
    (h_gbb : W.contains .gbb = false → t.gbb = s.gbb)
    (h_corr : W.contains .corr = false → t.corr = s.corr)
    (h_tsl : W.contains .tsl = false → t.tsl = s.tsl)
    (h_cre : W.contains .cre = false → t.cre = s.cre)
    (h_fleet : W.contains .fleet = false → t.fleet = s.fleet)
    (h_saf : W.contains .saf = false → t.saf = s.saf)
    (h_fra : W.contains .fra = false → t.fra = s.fra)
    (h_frb : W.contains .frb = false → t.frb = s.frb)
    (h_frames : W.contains .frames = false → t.frames = s.frames)
    (h_tim : W.contains .tim = false → t.tim = s.tim)
    (h_pair : W.contains .pair = false → t.pair = s.pair)
    (h_mot : W.contains .mot = false → t.mot = s.mot)
    (h_cores : W.contains .cores = false → t.cores = s.cores)
    (h_mem : W.contains .mem = false → t.mem = s.mem)
    (h_ques : W.contains .ques = false → t.ques = s.ques)
    (h_dict : W.contains .dict = false → t.dict = s.dict)
    (h_sec : W.contains .sec = false → t.sec = s.sec)
    (h_evr : W.contains .evr = false → t.evr = s.evr)
    (h_upd : W.contains .upd = false → t.upd = s.upd)
    (h_start : W.contains .start = false → t.start = s.start)
    (h_pwr : W.contains .pwr = false → t.pwr = s.pwr)
    (h_dbg : W.contains .dbg = false → t.dbg = s.dbg)
    (h_out : W.contains .out = false → t.out = s.out)
    (h_ans : W.contains .ans = false → t.ans = s.ans)
    (h_free : W.contains .free = false → t.free = s.free) : t.outside W = s.outside W := by
  unfold State.outside
  congr 1 <;> split <;> first | rfl | (rename_i h; simp only [Bool.not_eq_true] at h; solve_by_elim)

/-- What is left alone outside `V` is left alone outside more. -/
theorem State.outside_mono {V W : List Part} {s t : State} (h : t.outside V = s.outside V)
    (hw : Part.within V W = true) : t.outside W = s.outside W := by
  have key : ∀ p, W.contains p = false → V.contains p = false := fun p hp => by
    cases hv : V.contains p with
    | false => rfl
    | true => rw [Part.within_contains hw hv] at hp; cases hp
  exact State.outside_ext
    (fun hp => State.pending_of_outside h (key _ hp))
    (fun hp => State.dev_of_outside h (key _ hp))
    (fun hp => State.blk_of_outside h (key _ hp))
    (fun hp => State.grf_of_outside h (key _ hp))
    (fun hp => State.gbb_of_outside h (key _ hp))
    (fun hp => State.corr_of_outside h (key _ hp))
    (fun hp => State.tsl_of_outside h (key _ hp))
    (fun hp => State.cre_of_outside h (key _ hp))
    (fun hp => State.fleet_of_outside h (key _ hp))
    (fun hp => State.saf_of_outside h (key _ hp))
    (fun hp => State.fra_of_outside h (key _ hp))
    (fun hp => State.frb_of_outside h (key _ hp))
    (fun hp => State.frames_of_outside h (key _ hp))
    (fun hp => State.tim_of_outside h (key _ hp))
    (fun hp => State.pair_of_outside h (key _ hp))
    (fun hp => State.mot_of_outside h (key _ hp))
    (fun hp => State.cores_of_outside h (key _ hp))
    (fun hp => State.mem_of_outside h (key _ hp))
    (fun hp => State.ques_of_outside h (key _ hp))
    (fun hp => State.dict_of_outside h (key _ hp))
    (fun hp => State.sec_of_outside h (key _ hp))
    (fun hp => State.evr_of_outside h (key _ hp))
    (fun hp => State.upd_of_outside h (key _ hp))
    (fun hp => State.start_of_outside h (key _ hp))
    (fun hp => State.pwr_of_outside h (key _ hp))
    (fun hp => State.dbg_of_outside h (key _ hp))
    (fun hp => State.out_of_outside h (key _ hp))
    (fun hp => State.ans_of_outside h (key _ hp))
    (fun hp => State.free_of_outside h (key _ hp))

/-- What each step of a fold leaves alone, the fold leaves alone. -/
@[simp] theorem foldl_outside {α : Type} (g : State → α → State) (l : List α) (s : State) (W : List Part)
    (h : ∀ s x, (g s x).outside W = s.outside W) : (l.foldl g s).outside W = s.outside W := by
  induction l generalizing s with
  | nil => rfl
  | cons x l ih => exact (ih _).trans (h s x)

/-- What a step leaves alone, its repetition leaves alone. -/
@[simp] theorem iterate_outside (g : State → State) (n : Nat) (s : State) (W : List Part)
    (h : ∀ s, (g s).outside W = s.outside W) : (iterate g n s).outside W = s.outside W := by
  induction n generalizing s with
  | zero => rfl
  | succ n ih => exact (ih _).trans (h s)

@[simp] theorem State.outside_with_pending (s : State) (x) (W : List Part) (h : Part.within [.pending] W = true) :
    ({ s with pending := x } : State).outside W = s.outside W := State.outside_mono (V := [.pending]) rfl h

@[simp] theorem State.outside_with_dev (s : State) (x) (W : List Part) (h : Part.within [.dev] W = true) :
    ({ s with dev := x } : State).outside W = s.outside W := State.outside_mono (V := [.dev]) rfl h

@[simp] theorem State.outside_with_blk (s : State) (x) (W : List Part) (h : Part.within [.blk] W = true) :
    ({ s with blk := x } : State).outside W = s.outside W := State.outside_mono (V := [.blk]) rfl h

@[simp] theorem State.outside_with_grf (s : State) (x) (W : List Part) (h : Part.within [.grf] W = true) :
    ({ s with grf := x } : State).outside W = s.outside W := State.outside_mono (V := [.grf]) rfl h

@[simp] theorem State.outside_with_gbb (s : State) (x) (W : List Part) (h : Part.within [.gbb] W = true) :
    ({ s with gbb := x } : State).outside W = s.outside W := State.outside_mono (V := [.gbb]) rfl h

@[simp] theorem State.outside_with_corr (s : State) (x) (W : List Part) (h : Part.within [.corr] W = true) :
    ({ s with corr := x } : State).outside W = s.outside W := State.outside_mono (V := [.corr]) rfl h

@[simp] theorem State.outside_with_tsl (s : State) (x) (W : List Part) (h : Part.within [.tsl] W = true) :
    ({ s with tsl := x } : State).outside W = s.outside W := State.outside_mono (V := [.tsl]) rfl h

@[simp] theorem State.outside_with_cre (s : State) (x) (W : List Part) (h : Part.within [.cre] W = true) :
    ({ s with cre := x } : State).outside W = s.outside W := State.outside_mono (V := [.cre]) rfl h

@[simp] theorem State.outside_with_fleet (s : State) (x) (W : List Part) (h : Part.within [.fleet] W = true) :
    ({ s with fleet := x } : State).outside W = s.outside W := State.outside_mono (V := [.fleet]) rfl h

@[simp] theorem State.outside_with_saf (s : State) (x) (W : List Part) (h : Part.within [.saf] W = true) :
    ({ s with saf := x } : State).outside W = s.outside W := State.outside_mono (V := [.saf]) rfl h

@[simp] theorem State.outside_with_fra (s : State) (x) (W : List Part) (h : Part.within [.fra] W = true) :
    ({ s with fra := x } : State).outside W = s.outside W := State.outside_mono (V := [.fra]) rfl h

@[simp] theorem State.outside_with_frb (s : State) (x) (W : List Part) (h : Part.within [.frb] W = true) :
    ({ s with frb := x } : State).outside W = s.outside W := State.outside_mono (V := [.frb]) rfl h

@[simp] theorem State.outside_with_frames (s : State) (x) (W : List Part) (h : Part.within [.frames] W = true) :
    ({ s with frames := x } : State).outside W = s.outside W := State.outside_mono (V := [.frames]) rfl h

@[simp] theorem State.outside_with_tim (s : State) (x) (W : List Part) (h : Part.within [.tim] W = true) :
    ({ s with tim := x } : State).outside W = s.outside W := State.outside_mono (V := [.tim]) rfl h

@[simp] theorem State.outside_with_pair (s : State) (x) (W : List Part) (h : Part.within [.pair] W = true) :
    ({ s with pair := x } : State).outside W = s.outside W := State.outside_mono (V := [.pair]) rfl h

@[simp] theorem State.outside_with_mot (s : State) (x) (W : List Part) (h : Part.within [.mot] W = true) :
    ({ s with mot := x } : State).outside W = s.outside W := State.outside_mono (V := [.mot]) rfl h

@[simp] theorem State.outside_with_cores (s : State) (x) (W : List Part) (h : Part.within [.cores] W = true) :
    ({ s with cores := x } : State).outside W = s.outside W := State.outside_mono (V := [.cores]) rfl h

@[simp] theorem State.outside_with_mem (s : State) (x) (W : List Part) (h : Part.within [.mem] W = true) :
    ({ s with mem := x } : State).outside W = s.outside W := State.outside_mono (V := [.mem]) rfl h

@[simp] theorem State.outside_with_ques (s : State) (x) (W : List Part) (h : Part.within [.ques] W = true) :
    ({ s with ques := x } : State).outside W = s.outside W := State.outside_mono (V := [.ques]) rfl h

@[simp] theorem State.outside_with_dict (s : State) (x) (W : List Part) (h : Part.within [.dict] W = true) :
    ({ s with dict := x } : State).outside W = s.outside W := State.outside_mono (V := [.dict]) rfl h

@[simp] theorem State.outside_with_sec (s : State) (x) (W : List Part) (h : Part.within [.sec] W = true) :
    ({ s with sec := x } : State).outside W = s.outside W := State.outside_mono (V := [.sec]) rfl h

@[simp] theorem State.outside_with_evr (s : State) (x) (W : List Part) (h : Part.within [.evr] W = true) :
    ({ s with evr := x } : State).outside W = s.outside W := State.outside_mono (V := [.evr]) rfl h

@[simp] theorem State.outside_with_upd (s : State) (x) (W : List Part) (h : Part.within [.upd] W = true) :
    ({ s with upd := x } : State).outside W = s.outside W := State.outside_mono (V := [.upd]) rfl h

@[simp] theorem State.outside_with_start (s : State) (x) (W : List Part) (h : Part.within [.start] W = true) :
    ({ s with start := x } : State).outside W = s.outside W := State.outside_mono (V := [.start]) rfl h

@[simp] theorem State.outside_with_pwr (s : State) (x) (W : List Part) (h : Part.within [.pwr] W = true) :
    ({ s with pwr := x } : State).outside W = s.outside W := State.outside_mono (V := [.pwr]) rfl h

@[simp] theorem State.outside_with_dbg (s : State) (x) (W : List Part) (h : Part.within [.dbg] W = true) :
    ({ s with dbg := x } : State).outside W = s.outside W := State.outside_mono (V := [.dbg]) rfl h

@[simp] theorem State.outside_with_out (s : State) (x) (W : List Part) (h : Part.within [.out] W = true) :
    ({ s with out := x } : State).outside W = s.outside W := State.outside_mono (V := [.out]) rfl h

@[simp] theorem State.outside_with_ans (s : State) (x) (W : List Part) (h : Part.within [.ans] W = true) :
    ({ s with ans := x } : State).outside W = s.outside W := State.outside_mono (V := [.ans]) rfl h

@[simp] theorem State.outside_with_free (s : State) (x) (W : List Part) (h : Part.within [.free] W = true) :
    ({ s with free := x } : State).outside W = s.outside W := State.outside_mono (V := [.free]) rfl h

/-- A record built over `t`: every field is `t`'s, or belongs to `W`. -/
@[simp low] theorem State.outside_mk (t : State) (W : List Part)
    (a_dev) (a_blk) (a_grf) (a_gbb) (a_corr) (a_tsl) (a_cre) (a_fleet) (a_saf) (a_fra) (a_frb) (a_frames) (a_tim) (a_pair) (a_mot) (a_cores) (a_mem) (a_ques) (a_dict) (a_sec) (a_evr) (a_upd) (a_start) (a_pwr) (a_dbg) (a_out) (a_ans) (a_free)
    (h_dev : Part.within [.dev] W = true ∨ a_dev = t.dev)
    (h_blk : Part.within [.blk] W = true ∨ a_blk = t.blk)
    (h_grf : Part.within [.grf] W = true ∨ a_grf = t.grf)
    (h_gbb : Part.within [.gbb] W = true ∨ a_gbb = t.gbb)
    (h_corr : Part.within [.corr] W = true ∨ a_corr = t.corr)
    (h_tsl : Part.within [.tsl] W = true ∨ a_tsl = t.tsl)
    (h_cre : Part.within [.cre] W = true ∨ a_cre = t.cre)
    (h_fleet : Part.within [.fleet] W = true ∨ a_fleet = t.fleet)
    (h_saf : Part.within [.saf] W = true ∨ a_saf = t.saf)
    (h_fra : Part.within [.fra] W = true ∨ a_fra = t.fra)
    (h_frb : Part.within [.frb] W = true ∨ a_frb = t.frb)
    (h_frames : Part.within [.frames] W = true ∨ a_frames = t.frames)
    (h_tim : Part.within [.tim] W = true ∨ a_tim = t.tim)
    (h_pair : Part.within [.pair] W = true ∨ a_pair = t.pair)
    (h_mot : Part.within [.mot] W = true ∨ a_mot = t.mot)
    (h_cores : Part.within [.cores] W = true ∨ a_cores = t.cores)
    (h_mem : Part.within [.mem] W = true ∨ a_mem = t.mem)
    (h_ques : Part.within [.ques] W = true ∨ a_ques = t.ques)
    (h_dict : Part.within [.dict] W = true ∨ a_dict = t.dict)
    (h_sec : Part.within [.sec] W = true ∨ a_sec = t.sec)
    (h_evr : Part.within [.evr] W = true ∨ a_evr = t.evr)
    (h_upd : Part.within [.upd] W = true ∨ a_upd = t.upd)
    (h_start : Part.within [.start] W = true ∨ a_start = t.start)
    (h_pwr : Part.within [.pwr] W = true ∨ a_pwr = t.pwr)
    (h_dbg : Part.within [.dbg] W = true ∨ a_dbg = t.dbg)
    (h_out : Part.within [.out] W = true ∨ a_out = t.out)
    (h_ans : Part.within [.ans] W = true ∨ a_ans = t.ans)
    (h_free : Part.within [.free] W = true ∨ a_free = t.free) :
    (State.mk t.pending a_dev a_blk a_grf a_gbb a_corr a_tsl a_cre a_fleet a_saf a_fra a_frb a_frames a_tim a_pair a_mot a_cores a_mem a_ques a_dict a_sec a_evr a_upd a_start a_pwr a_dbg a_out a_ans a_free).outside W = t.outside W := by
  refine State.outside_ext (fun _ => rfl) ?_ ?_ ?_ ?_ ?_ ?_ ?_ ?_ ?_ ?_ ?_ ?_ ?_ ?_ ?_ ?_ ?_ ?_ ?_ ?_ ?_ ?_ ?_ ?_ ?_ ?_ ?_ ?_
  all_goals
    intro hp
    first
    | exact h_dev.resolve_left (by simpa [Part.within] using hp)
    | exact h_blk.resolve_left (by simpa [Part.within] using hp)
    | exact h_grf.resolve_left (by simpa [Part.within] using hp)
    | exact h_gbb.resolve_left (by simpa [Part.within] using hp)
    | exact h_corr.resolve_left (by simpa [Part.within] using hp)
    | exact h_tsl.resolve_left (by simpa [Part.within] using hp)
    | exact h_cre.resolve_left (by simpa [Part.within] using hp)
    | exact h_fleet.resolve_left (by simpa [Part.within] using hp)
    | exact h_saf.resolve_left (by simpa [Part.within] using hp)
    | exact h_fra.resolve_left (by simpa [Part.within] using hp)
    | exact h_frb.resolve_left (by simpa [Part.within] using hp)
    | exact h_frames.resolve_left (by simpa [Part.within] using hp)
    | exact h_tim.resolve_left (by simpa [Part.within] using hp)
    | exact h_pair.resolve_left (by simpa [Part.within] using hp)
    | exact h_mot.resolve_left (by simpa [Part.within] using hp)
    | exact h_cores.resolve_left (by simpa [Part.within] using hp)
    | exact h_mem.resolve_left (by simpa [Part.within] using hp)
    | exact h_ques.resolve_left (by simpa [Part.within] using hp)
    | exact h_dict.resolve_left (by simpa [Part.within] using hp)
    | exact h_sec.resolve_left (by simpa [Part.within] using hp)
    | exact h_evr.resolve_left (by simpa [Part.within] using hp)
    | exact h_upd.resolve_left (by simpa [Part.within] using hp)
    | exact h_start.resolve_left (by simpa [Part.within] using hp)
    | exact h_pwr.resolve_left (by simpa [Part.within] using hp)
    | exact h_dbg.resolve_left (by simpa [Part.within] using hp)
    | exact h_out.resolve_left (by simpa [Part.within] using hp)
    | exact h_ans.resolve_left (by simpa [Part.within] using hp)
    | exact h_free.resolve_left (by simpa [Part.within] using hp)

end Sys2Proof.Machine
end

