-- ==== Sys2Proof/Laws/Frames/Ops.lean ====
section
/-!
SUPPORT. What the operations of Machine/Ops.lean leave alone: one lemma each, for every part of the state the operation
does not write.
-/
namespace Sys2Proof.Machine

@[simp] theorem State.emit_frame (s : State) (x1) (W : List Part)
    (hW : Part.within [.out] W = true) : (s.emit x1).outside W = s.outside W := by
  refine State.outside_mono (V := [.out]) ?_ hW
  unfold State.emit
  simp +decide

@[simp] theorem State.setCause_frame (s : State) (x1) (W : List Part)
    (hW : Part.within [.dev] W = true) : (s.setCause x1).outside W = s.outside W := by
  refine State.outside_mono (V := [.dev]) ?_ hW
  unfold State.setCause
  simp +decide

@[simp] theorem State.takeFree_frame (s : State) (W : List Part)
    (hW : Part.within [.free] W = true) : (s.takeFree).2.outside W = s.outside W := by
  refine State.outside_mono (V := [.free]) ?_ hW
  unfold State.takeFree
  simp +decide

theorem State.takeFree_via {s : State} {t : State} {y} (h : s.takeFree = (y, t)) (W : List Part)
    (hW : Part.within [.free] W = true) : t.outside W = s.outside W := by
  have H := State.takeFree_frame s W hW
  rwa [h] at H

@[simp] theorem State.clearCause_frame (s : State) (x1) (W : List Part)
    (hW : Part.within [.dev] W = true) : (s.clearCause x1).outside W = s.outside W := by
  refine State.outside_mono (V := [.dev]) ?_ hW
  unfold State.clearCause
  simp +decide

@[simp] theorem State.deny_frame (s : State) (x1) (W : List Part)
    (hW : Part.within [.ans] W = true) : (s.deny x1).outside W = s.outside W := by
  refine State.outside_mono (V := [.ans]) ?_ hW
  unfold State.deny
  simp +decide

@[simp] theorem State.answer_frame (s : State) (x1) (W : List Part)
    (hW : Part.within [.ans] W = true) : (s.answer x1).outside W = s.outside W := by
  refine State.outside_mono (V := [.ans]) ?_ hW
  unfold State.answer
  simp +decide

@[simp] theorem State.answerValue_frame (s : State) (x1) (W : List Part)
    (hW : Part.within [.ans] W = true) : (s.answerValue x1).outside W = s.outside W := by
  refine State.outside_mono (V := [.ans]) ?_ hW
  unfold State.answerValue
  simp +decide

end Sys2Proof.Machine
end

