-- ==== Sys2Proof/Laws/Frames/Clock.lean ====
section
/-!
SUPPORT. What the operations of Machine/Clock.lean leave alone: one lemma each, for every part of the state the operation
does not write.
-/
namespace Sys2Proof.Machine

@[simp] theorem State.sleep_frame (s : State) (x1) (W : List Part)
    (hW : Part.within [.tim, .evr] W = true) : (s.sleep x1).outside W = s.outside W := by
  refine State.outside_mono (V := [.tim, .evr]) ?_ hW
  unfold State.sleep
  (repeat' split) <;> simp +decide

@[simp] theorem State.run_frame (s : State) (x1) (W : List Part)
    (hW : Part.within [.tim, .evr] W = true) : (s.run x1).outside W = s.outside W := by
  refine State.outside_mono (V := [.tim, .evr]) ?_ hW
  unfold State.run
  (repeat' split) <;> simp +decide

@[simp] theorem State.reachTicks_frame (s : State) (x1) (W : List Part)
    (hW : Part.within [.tim, .evr] W = true) : (s.reachTicks x1).outside W = s.outside W := by
  refine State.outside_mono (V := [.tim, .evr]) ?_ hW
  unfold State.reachTicks
  (repeat' split) <;> simp +decide

@[simp] theorem State.reachMs_frame (s : State) (x1) (W : List Part)
    (hW : Part.within [.tim, .evr] W = true) : (s.reachMs x1).outside W = s.outside W := by
  refine State.outside_mono (V := [.tim, .evr]) ?_ hW
  unfold State.reachMs
  simp +decide

@[simp] theorem State.reachTb4_frame (s : State) (x1) (W : List Part)
    (hW : Part.within [.tim, .evr] W = true) : (s.reachTb4 x1).outside W = s.outside W := by
  refine State.outside_mono (V := [.tim, .evr]) ?_ hW
  unfold State.reachTb4
  (repeat' split) <;> simp +decide

@[simp] theorem State.reachTb0_frame (s : State) (x1) (W : List Part)
    (hW : Part.within [.tim, .evr] W = true) : (s.reachTb0 x1).outside W = s.outside W := by
  refine State.outside_mono (V := [.tim, .evr]) ?_ hW
  unfold State.reachTb0
  (repeat' split) <;> simp +decide

@[simp] theorem State.reachNs_frame (s : State) (x1) (W : List Part)
    (hW : Part.within [.tim, .evr] W = true) : (s.reachNs x1).outside W = s.outside W := by
  refine State.outside_mono (V := [.tim, .evr]) ?_ hW
  unfold State.reachNs
  simp +decide

@[simp] theorem State.reachBase_frame (s : State) (x1) (x2) (W : List Part)
    (hW : Part.within [.tim, .evr] W = true) : (s.reachBase x1 x2).outside W = s.outside W := by
  refine State.outside_mono (V := [.tim, .evr]) ?_ hW
  unfold State.reachBase
  (repeat' split) <;> simp +decide

end Sys2Proof.Machine
end

