-- ==== Sys2Proof/Laws/Frames/Log.lean ====
section
/-!
SUPPORT. What the operations of Machine/Log.lean leave alone: one lemma each, for every part of the state the operation
does not write.
-/
namespace Sys2Proof.Machine

@[simp] theorem State.commitRec_frame (s : State) (x1) (W : List Part)
    (hW : Part.within [.evr, .out] W = true) : (s.commitRec x1).1.outside W = s.outside W := by
  refine State.outside_mono (V := [.evr, .out]) ?_ hW
  unfold State.commitRec
  (repeat' split) <;> simp +decide

theorem State.commitRec_via {s : State} {x1} {t : State} {y} (h : s.commitRec x1 = (t, y)) (W : List Part)
    (hW : Part.within [.evr, .out] W = true) : t.outside W = s.outside W := by
  have H := State.commitRec_frame s x1 W hW
  rwa [h] at H

@[simp] theorem State.event_frame (s : State) (x1) (x2) (W : List Part)
    (hW : Part.within [.evr, .out] W = true) : (s.event x1 x2).outside W = s.outside W := by
  refine State.outside_mono (V := [.evr, .out]) ?_ hW
  unfold State.event
  simp +decide

@[simp] theorem State.flushLog_frame (s : State) (W : List Part)
    (hW : Part.within [.evr] W = true) : (s.flushLog).outside W = s.outside W := by
  refine State.outside_mono (V := [.evr]) ?_ hW
  unfold State.flushLog
  simp +decide

@[simp] theorem State.eventAon_frame (s : State) (x1) (x2) (W : List Part)
    (hW : Part.within [.evr, .out] W = true) : (s.eventAon x1 x2).outside W = s.outside W := by
  refine State.outside_mono (V := [.evr, .out]) ?_ hW
  unfold State.eventAon
  simp +decide

@[simp] theorem State.ownRec_frame (s : State) (x1) (x2) (x3) (W : List Part)
    (hW : Part.within [.evr, .out] W = true) : (s.ownRec x1 x2 x3).outside W = s.outside W := by
  refine State.outside_mono (V := [.evr, .out]) ?_ hW
  unfold State.ownRec
  simp +decide

end Sys2Proof.Machine
end

