-- ==== Sys2Proof/Laws/Frames/Irq.lean ====
section
/-!
SUPPORT. What the operations of Machine/Irq.lean leave alone: one lemma each, for every part of the state the operation
does not write.
-/
namespace Sys2Proof.Machine

@[simp] theorem State.raise_frame (s : State) (x1) (W : List Part)
    (hW : Part.within [.cores] W = true) : (s.raise x1).outside W = s.outside W := by
  refine State.outside_mono (V := [.cores]) ?_ hW
  unfold State.raise
  simp +decide

theorem State.postJob_frame {s : State} {x1} {t : State} (h : s.postJob x1 = some t) (W : List Part)
    (hW : Part.within [.cores] W = true) : t.outside W = s.outside W := by
  refine State.outside_mono (V := [.cores]) ?_ hW
  simp only [State.postJob, Option.map_eq_some_iff] at h
  obtain ⟨a, -, rfl⟩ := h
  simp +decide

end Sys2Proof.Machine
end

