-- ==== Sys2Proof/Laws/Frames/Fifo.lean ====
section
/-!
SUPPORT. What the operations of Machine/Fifo.lean leave alone: one lemma each, for every part of the state the operation
does not write.
-/
namespace Sys2Proof.Machine

@[simp] theorem State.setQueue_frame (s : State) (x1) (x2) (W : List Part)
    (hW : Part.within [.cores, .ques] W = true) : (s.setQueue x1 x2).outside W = s.outside W := by
  refine State.outside_mono (V := [.cores, .ques]) ?_ hW
  simp only [State.setQueue]
  (repeat' split) <;> simp +decide

@[simp] theorem State.queueAdd_frame (s : State) (x1) (x2) (W : List Part)
    (hW : Part.within [.cores, .ques] W = true) : (s.queueAdd x1 x2).outside W = s.outside W := by
  refine State.outside_mono (V := [.cores, .ques]) ?_ hW
  simp only [State.queueAdd]
  (repeat' split) <;> simp +decide

theorem State.enginePush_frame {s : State} {x1} {x2} {t : State} (h : s.enginePush x1 x2 = some t) (W : List Part)
    (hW : Part.within [.cores, .ques] W = true) : t.outside W = s.outside W := by
  refine State.outside_mono (V := [.cores, .ques]) ?_ hW
  simp only [State.enginePush] at h
  split at h
  · obtain rfl := Option.some.inj h
    simp +decide
  · cases h

@[simp] theorem State.enginePush_getD (s : State) (n) (ws) (W : List Part)
    (hW : Part.within [.cores, .ques] W = true) : ((State.enginePush s n ws).getD s).outside W = s.outside W := by
  refine State.outside_mono (V := [.cores, .ques]) ?_ hW
  cases h : State.enginePush s n ws with
  | none => simp +decide
  | some t => exact State.enginePush_frame h _ (by decide)

end Sys2Proof.Machine
end

