-- ==== Sys2Proof/Laws/Frames/Vetch.lean ====
section
/-!
SUPPORT. What the operations of Machine/Vetch.lean leave alone: one lemma each, for every part of the state the operation
does not write.
-/
namespace Sys2Proof.Machine

@[simp] theorem State.vetchTake_frame (s : State) (x1) (x2) (W : List Part)
    (hW : Part.within [.cores, .ques] W = true) : (s.vetchTake x1 x2).outside W = s.outside W := by
  refine State.outside_mono (V := [.cores, .ques]) ?_ hW
  simp only [State.vetchTake]
  (repeat' split) <;> simp +decide

@[simp] theorem State.invalidate_frame (s : State) (x1) (x2) (W : List Part)
    (hW : Part.within [.cre, .cores, .evr, .out] W = true) : (s.invalidate x1 x2).outside W = s.outside W := by
  refine State.outside_mono (V := [.cre, .cores, .evr, .out]) ?_ hW
  unfold State.invalidate
  (repeat' split) <;> simp +decide

@[simp] theorem State.invalidateAll_frame (s : State) (x1) (W : List Part)
    (hW : Part.within [.cre, .cores, .evr, .out] W = true) : (s.invalidateAll x1).outside W = s.outside W := by
  refine State.outside_mono (V := [.cre, .cores, .evr, .out]) ?_ hW
  unfold State.invalidateAll
  simp +decide

@[simp] theorem State.blockScan_frame (s : State) (W : List Part)
    (hW : Part.within [.cre, .cores, .evr, .out] W = true) : (s.blockScan).outside W = s.outside W := by
  refine State.outside_mono (V := [.cre, .cores, .evr, .out]) ?_ hW
  unfold State.blockScan
  simp +decide

@[simp] theorem State.vetchDecide_frame (s : State) (x1) (x2) (x3) (W : List Part)
    (hW : Part.within [.cre, .cores, .evr, .out, .ans] W = true) : (s.vetchDecide x1 x2 x3).1.outside W = s.outside W
    := by
  refine State.outside_mono (V := [.cre, .cores, .evr, .out, .ans]) ?_ hW
  simp only [State.vetchDecide]
  (repeat' split) <;> simp +decide

theorem State.vetchDecide_via {s : State} {x1} {x2} {x3} {t : State} {y} (h : s.vetchDecide x1 x2 x3 = (t, y)) (W :
    List Part)
    (hW : Part.within [.cre, .cores, .evr, .out, .ans] W = true) : t.outside W = s.outside W := by
  have H := State.vetchDecide_frame s x1 x2 x3 W hW
  rwa [h] at H

@[simp] theorem State.vetchResult_frame (s : State) (x1) (x2) (x3) (W : List Part)
    (hW : Part.within [.cre, .cores, .ques] W = true) : (s.vetchResult x1 x2 x3).outside W = s.outside W := by
  refine State.outside_mono (V := [.cre, .cores, .ques]) ?_ hW
  unfold State.vetchResult
  dsimp only
  split
  · simp +decide
  · cases h : s.enginePush (s.resultQueue x1) [x2, x3] with
    | none => simp +decide
    | some t => have := State.enginePush_frame h; simp_all +decide

@[simp] theorem State.vetchOp_frame (s : State) (x1) (x2) (x3) (W : List Part)
    (hW : Part.within [.cre, .cores, .ques, .evr, .out, .ans] W = true) : (s.vetchOp x1 x2 x3).1.outside W = s.outside
    W := by
  refine State.outside_mono (V := [.cre, .cores, .ques, .evr, .out, .ans]) ?_ hW
  simp only [State.vetchOp]
  (repeat' split) <;> simp_all +decide

theorem State.vetchOp_via {s : State} {x1} {x2} {x3} {t : State} {y} (h : s.vetchOp x1 x2 x3 = (t, y)) (W : List Part)
    (hW : Part.within [.cre, .cores, .ques, .evr, .out, .ans] W = true) : t.outside W = s.outside W := by
  have H := State.vetchOp_frame s x1 x2 x3 W hW
  rwa [h] at H

@[simp] theorem State.vetchSend_frame (s : State) (x1) (x2) (W : List Part)
    (hW : Part.within [.cre, .cores, .ques, .evr, .out, .ans] W = true) : (s.vetchSend x1 x2).1.outside W = s.outside
    W := by
  refine State.outside_mono (V := [.cre, .cores, .ques, .evr, .out, .ans]) ?_ hW
  unfold State.vetchSend
  dsimp only
  split <;> simp +decide

theorem State.vetchSend_via {s : State} {x1} {x2} {t : State} {y} (h : s.vetchSend x1 x2 = (t, y)) (W : List Part)
    (hW : Part.within [.cre, .cores, .ques, .evr, .out, .ans] W = true) : t.outside W = s.outside W := by
  have H := State.vetchSend_frame s x1 x2 W hW
  rwa [h] at H

@[simp] theorem State.agedScan_frame (s : State) (W : List Part)
    (hW : Part.within [.cre] W = true) : (s.agedScan).outside W = s.outside W := by
  refine State.outside_mono (V := [.cre]) ?_ hW
  unfold State.agedScan
  simp +decide

@[simp] theorem State.vetchSubmit_frame (s : State) (x1) (x2) (x3) (x4) (x5) (W : List Part)
    (hW : Part.within [.cre, .cores, .ques, .evr, .out, .ans] W = true) : (s.vetchSubmit x1 x2 x3 x4 x5).outside W =
    s.outside W := by
  refine State.outside_mono (V := [.cre, .cores, .ques, .evr, .out, .ans]) ?_ hW
  unfold State.vetchSubmit
  simp +decide

@[simp] theorem State.setStore_frame (s : State) (x1) (W : List Part)
    (hW : Part.within [.cre] W = true) : (s.setStore x1).outside W = s.outside W := by
  refine State.outside_mono (V := [.cre]) ?_ hW
  unfold State.setStore
  simp +decide

@[simp] theorem State.creMemberWrite_frame (s : State) (x1) (x2) (W : List Part)
    (hW : Part.within [.cre] W = true) : (s.creMemberWrite x1 x2).outside W = s.outside W := by
  refine State.outside_mono (V := [.cre]) ?_ hW
  unfold State.creMemberWrite
  simp +decide

@[simp] theorem State.tabLatch_frame (s : State) (x1) (W : List Part)
    (hW : Part.within [.cre] W = true) : (s.tabLatch x1).outside W = s.outside W := by
  refine State.outside_mono (V := [.cre]) ?_ hW
  unfold State.tabLatch
  (repeat' split) <;> simp +decide

@[simp] theorem State.setClass_frame (s : State) (x1) (x2) (W : List Part)
    (hW : Part.within [.cre] W = true) : (s.setClass x1 x2).outside W = s.outside W := by
  refine State.outside_mono (V := [.cre]) ?_ hW
  unfold State.setClass
  simp +decide

@[simp] theorem State.guardWrite_frame (s : State) (x1) (x2) (W : List Part)
    (hW : Part.within [.cre] W = true) : (s.guardWrite x1 x2).outside W = s.outside W := by
  refine State.outside_mono (V := [.cre]) ?_ hW
  unfold State.guardWrite
  simp +decide

@[simp] theorem State.envWrite_frame (s : State) (x1) (x2) (x3) (W : List Part)
    (hW : Part.within [.cre] W = true) : (s.envWrite x1 x2 x3).outside W = s.outside W := by
  refine State.outside_mono (V := [.cre]) ?_ hW
  simp only [State.envWrite]
  (repeat' split) <;> simp +decide

@[simp] theorem State.creWrite_frame (s : State) (x1) (x2) (W : List Part)
    (hW : Part.within [.cre] W = true) : (s.creWrite x1 x2).outside W = s.outside W := by
  refine State.outside_mono (V := [.cre]) ?_ hW
  simp only [State.creWrite]
  (repeat' split) <;> simp +decide

@[simp] theorem State.overdueScan_frame (s : State) (W : List Part)
    (hW : Part.within [.cre, .cores, .evr, .out] W = true) : (s.overdueScan).outside W = s.outside W := by
  refine State.outside_mono (V := [.cre, .cores, .evr, .out]) ?_ hW
  unfold State.overdueScan
  simp +decide

@[simp] theorem State.gateLost_frame (s : State) (x1) (W : List Part)
    (hW : Part.within [.cre, .cores, .evr, .out] W = true) : (s.gateLost x1).outside W = s.outside W := by
  refine State.outside_mono (V := [.cre, .cores, .evr, .out]) ?_ hW
  unfold State.gateLost
  simp +decide

@[simp] theorem State.creEnterOn_frame (s : State) (W : List Part)
    (hW : Part.within [.cre, .cores, .evr, .out] W = true) : (s.creEnterOn).outside W = s.outside W := by
  refine State.outside_mono (V := [.cre, .cores, .evr, .out]) ?_ hW
  unfold State.creEnterOn
  simp +decide

@[simp] theorem State.mapTake_frame (s : State) (x1) (W : List Part)
    (hW : Part.within [.dev, .cre, .mem] W = true) : (s.mapTake x1).outside W = s.outside W := by
  refine State.outside_mono (V := [.dev, .cre, .mem]) ?_ hW
  unfold State.mapTake
  simp +decide

@[simp] theorem State.mapInForce_frame (s : State) (x1) (W : List Part)
    (hW : Part.within [.dev, .cre, .mem, .evr, .out] W = true) : (s.mapInForce x1).outside W = s.outside W := by
  refine State.outside_mono (V := [.dev, .cre, .mem, .evr, .out]) ?_ hW
  unfold State.mapInForce
  (repeat' split) <;> simp +decide

end Sys2Proof.Machine
end

