-- ==== Sys2Proof/Laws/Frames/Access.lean ====
section
/-!
SUPPORT. What the operations of Machine/Access.lean leave alone: one lemma each, for every part of the state the operation
does not write.
-/
namespace Sys2Proof.Machine

@[simp] theorem State.violation_frame (s : State) (x1) (x2) (x3) (W : List Part)
    (hW : Part.within [.cores, .evr, .out] W = true) : (s.violation x1 x2 x3).outside W = s.outside W := by
  refine State.outside_mono (V := [.cores, .evr, .out]) ?_ hW
  simp only [State.violation]
  (repeat' split) <;> simp +decide

end Sys2Proof.Machine
end

