-- ==== Sys2Proof/Laws/Frames/Emcy.lean ====
section
/-!
SUPPORT. What the operations of Machine/Emcy.lean leave alone: one lemma each, for every part of the state the operation
does not write.
-/
namespace Sys2Proof.Machine

@[simp] theorem State.setCan_frame (s : State) (x1) (x2) (W : List Part)
    (hW : Part.within [.dict] W = true) : (s.setCan x1 x2).outside W = s.outside W := by
  refine State.outside_mono (V := [.dict]) ?_ hW
  unfold State.setCan
  simp +decide

@[simp] theorem State.emcySend_frame (s : State) (x1) (x2) (W : List Part)
    (hW : Part.within [.dict, .out] W = true) : (s.emcySend x1 x2).outside W = s.outside W := by
  refine State.outside_mono (V := [.dict, .out]) ?_ hW
  simp only [State.emcySend]
  (repeat' split) <;> simp +decide

@[simp] theorem State.emcyOn_frame (s : State) (x1) (x2) (x3) (W : List Part)
    (hW : Part.within [.dict, .out] W = true) : (s.emcyOn x1 x2 x3).outside W = s.outside W := by
  refine State.outside_mono (V := [.dict, .out]) ?_ hW
  unfold State.emcyOn
  (repeat' split) <;> simp +decide

@[simp] theorem State.emcyAllOn_frame (s : State) (x1) (x2) (W : List Part)
    (hW : Part.within [.dict, .out] W = true) : (s.emcyAllOn x1 x2).outside W = s.outside W := by
  refine State.outside_mono (V := [.dict, .out]) ?_ hW
  unfold State.emcyAllOn
  simp +decide

@[simp] theorem State.emcyOff_frame (s : State) (x1) (x2) (x3) (W : List Part)
    (hW : Part.within [.dict, .out] W = true) : (s.emcyOff x1 x2 x3).outside W = s.outside W := by
  refine State.outside_mono (V := [.dict, .out]) ?_ hW
  simp only [State.emcyOff]
  (repeat' split) <;> simp +decide

@[simp] theorem State.hbSettle_frame (s : State) (x1) (W : List Part)
    (hW : Part.within [.dict, .out] W = true) : (s.hbSettle x1).outside W = s.outside W := by
  refine State.outside_mono (V := [.dict, .out]) ?_ hW
  unfold State.hbSettle
  (repeat' split) <;> simp +decide

@[simp] theorem State.setHb_frame (s : State) (x1) (x2) (x3) (W : List Part)
    (hW : Part.within [.dict] W = true) : (s.setHb x1 x2 x3).outside W = s.outside W := by
  refine State.outside_mono (V := [.dict]) ?_ hW
  unfold State.setHb
  simp +decide

@[simp] theorem State.emcyOnce_frame (s : State) (x1) (x2) (x3) (W : List Part)
    (hW : Part.within [.dict, .out] W = true) : (s.emcyOnce x1 x2 x3).outside W = s.outside W := by
  refine State.outside_mono (V := [.dict, .out]) ?_ hW
  unfold State.emcyOnce
  simp +decide

@[simp] theorem State.emcyAllOff_frame (s : State) (x1) (x2) (W : List Part)
    (hW : Part.within [.dict, .out] W = true) : (s.emcyAllOff x1 x2).outside W = s.outside W := by
  refine State.outside_mono (V := [.dict, .out]) ?_ hW
  unfold State.emcyAllOff
  simp +decide

@[simp] theorem State.emcyDrain_frame (s : State) (x1) (W : List Part)
    (hW : Part.within [.dict, .out] W = true) : (s.emcyDrain x1).outside W = s.outside W := by
  refine State.outside_mono (V := [.dict, .out]) ?_ hW
  unfold State.emcyDrain
  (repeat' split) <;> simp +decide

end Sys2Proof.Machine
end

