-- ==== Sys2Proof/Laws/Frames/TimeBase.lean ====
section
/-!
SUPPORT. What the operations of Machine/TimeBase.lean leave alone: one lemma each, for every part of the state the operation
does not write.
-/
namespace Sys2Proof.Machine

@[simp] theorem State.setTb_frame (s : State) (x1) (x2) (W : List Part)
    (hW : Part.within [.tim] W = true) : (s.setTb x1 x2).outside W = s.outside W := by
  refine State.outside_mono (V := [.tim]) ?_ hW
  unfold State.setTb
  simp +decide

@[simp] theorem State.lockBase_frame (s : State) (x1) (x2) (W : List Part)
    (hW : Part.within [.tim] W = true) : (s.lockBase x1 x2).outside W = s.outside W := by
  refine State.outside_mono (V := [.tim]) ?_ hW
  unfold State.lockBase
  (repeat' split) <;> simp +decide

@[simp] theorem State.ppsOmit_frame (s : State) (x1) (W : List Part)
    (hW : Part.within [.tim] W = true) : (s.ppsOmit x1).outside W = s.outside W := by
  refine State.outside_mono (V := [.tim]) ?_ hW
  unfold State.ppsOmit
  simp +decide

@[simp] theorem State.notMeasured_frame (s : State) (x1) (W : List Part)
    (hW : Part.within [.tim] W = true) : (s.notMeasured x1).outside W = s.outside W := by
  refine State.outside_mono (V := [.tim]) ?_ hW
  unfold State.notMeasured
  simp +decide

@[simp] theorem State.refuseJump_frame (s : State) (x1) (x2) (W : List Part)
    (hW : Part.within [.tim, .evr, .out] W = true) : (s.refuseJump x1 x2).outside W = s.outside W := by
  refine State.outside_mono (V := [.tim, .evr, .out]) ?_ hW
  unfold State.refuseJump
  (repeat' split) <;> simp +decide

@[simp] theorem State.tb4Lost_frame (s : State) (x1) (W : List Part)
    (hW : Part.within [.tim] W = true) : (s.tb4Lost x1).outside W = s.outside W := by
  refine State.outside_mono (V := [.tim]) ?_ hW
  simp only [State.tb4Lost]
  (repeat' split) <;> simp +decide

@[simp] theorem State.tb0Left_frame (s : State) (x1) (x2) (x3) (W : List Part)
    (hW : Part.within [.tim] W = true) : (s.tb0Left x1 x2 x3).outside W = s.outside W := by
  refine State.outside_mono (V := [.tim]) ?_ hW
  unfold State.tb0Left
  (repeat' split) <;> simp +decide

@[simp] theorem State.measured_frame (s : State) (x1) (x2) (x3) (W : List Part)
    (hW : Part.within [.tim, .cores, .evr, .out] W = true) : (s.measured x1 x2 x3).outside W = s.outside W := by
  refine State.outside_mono (V := [.tim, .cores, .evr, .out]) ?_ hW
  simp only [State.measured]
  (repeat' split) <;> simp +decide

@[simp] theorem State.measure_frame (s : State) (x1) (x2) (x3) (W : List Part)
    (hW : Part.within [.tim, .cores, .evr, .out] W = true) : (s.measure x1 x2 x3).outside W = s.outside W := by
  refine State.outside_mono (V := [.tim, .cores, .evr, .out]) ?_ hW
  unfold State.measure
  (repeat' split) <;> simp +decide

@[simp] theorem State.applyGates_frame (s : State) (x1) (W : List Part)
    (hW : Part.within [.tim] W = true) : (s.applyGates x1).outside W = s.outside W := by
  refine State.outside_mono (V := [.tim]) ?_ hW
  simp only [State.applyGates]
  (repeat' split) <;> simp +decide

@[simp] theorem State.sourceLost_frame (s : State) (x1) (W : List Part)
    (hW : Part.within [.tim, .cores] W = true) : (s.sourceLost x1).outside W = s.outside W := by
  refine State.outside_mono (V := [.tim, .cores]) ?_ hW
  simp only [State.sourceLost]
  (repeat' split) <;> simp +decide

@[simp] theorem State.stepBase_frame (s : State) (x1) (x2) (W : List Part)
    (hW : Part.within [.gbb, .tim] W = true) : (s.stepBase x1 x2).outside W = s.outside W := by
  refine State.outside_mono (V := [.gbb, .tim]) ?_ hW
  simp only [State.stepBase]
  (repeat' split) <;> simp +decide

@[simp] theorem State.tb4Service_frame (s : State) (W : List Part)
    (hW : Part.within [.tim] W = true) : (s.tb4Service).outside W = s.outside W := by
  refine State.outside_mono (V := [.tim]) ?_ hW
  unfold State.tb4Service
  (repeat' split) <;> simp +decide

end Sys2Proof.Machine
end

