-- ==== Sys2Proof/Laws/Frames/Waiting.lean ====
section
/-!
SUPPORT. What the operations of Machine/Waiting.lean leave alone: one lemma each, for every part of the state the operation
does not write.
-/
namespace Sys2Proof.Machine

@[simp] theorem State.setDict_frame (s : State) (x1) (W : List Part)
    (hW : Part.within [.dict] W = true) : (s.setDict x1).outside W = s.outside W := by
  refine State.outside_mono (V := [.dict]) ?_ hW
  unfold State.setDict
  simp +decide

@[simp] theorem State.setSess_frame (s : State) (x1) (x2) (W : List Part)
    (hW : Part.within [.dict] W = true) : (s.setSess x1 x2).outside W = s.outside W := by
  refine State.outside_mono (V := [.dict]) ?_ hW
  unfold State.setSess
  simp +decide

@[simp] theorem State.noteStatus_frame (s : State) (x1) (W : List Part)
    (hW : Part.within [.dict] W = true) : (s.noteStatus x1).outside W = s.outside W := by
  refine State.outside_mono (V := [.dict]) ?_ hW
  unfold State.noteStatus
  (repeat' split) <;> simp +decide

@[simp] theorem State.replySend_frame (s : State) (x1) (x2) (x3) (x4) (W : List Part)
    (hW : Part.within [.dict, .out] W = true) : (s.replySend x1 x2 x3 x4).outside W = s.outside W := by
  refine State.outside_mono (V := [.dict, .out]) ?_ hW
  unfold State.replySend
  (repeat' split) <;> simp +decide

@[simp] theorem State.rpdoDiscard_frame (s : State) (x1) (W : List Part)
    (hW : Part.within [.dict] W = true) : (s.rpdoDiscard x1).outside W = s.outside W := by
  refine State.outside_mono (V := [.dict]) ?_ hW
  unfold State.rpdoDiscard
  simp +decide

@[simp] theorem State.writeAnswer_frame (s : State) (x1) (x2) (W : List Part)
    (hW : Part.within [.dict, .out] W = true) : (s.writeAnswer x1 x2).outside W = s.outside W := by
  refine State.outside_mono (V := [.dict, .out]) ?_ hW
  unfold State.writeAnswer
  (repeat' split) <;> simp +decide

@[simp] theorem State.waitDone_frame (s : State) (x1) (W : List Part)
    (hW : Part.within [.dict, .out] W = true) : (s.waitDone x1).outside W = s.outside W := by
  refine State.outside_mono (V := [.dict, .out]) ?_ hW
  simp only [State.waitDone]
  (repeat' split) <;> simp +decide

end Sys2Proof.Machine
end

