-- ==== Sys2Proof/Laws/Frames/Axes.lean ====
section
/-!
SUPPORT. What the operations of Machine/Axes.lean leave alone: one lemma each, for every part of the state the operation
does not write.
-/
namespace Sys2Proof.Machine

@[simp] theorem State.setAxis_frame (s : State) (x1) (x2) (W : List Part)
    (hW : Part.within [.mot] W = true) : (s.setAxis x1 x2).outside W = s.outside W := by
  refine State.outside_mono (V := [.mot]) ?_ hW
  unfold State.setAxis
  simp +decide

@[simp] theorem State.gateWatch_frame (s : State) (x1) (W : List Part)
    (hW : Part.within [.cre, .cores, .evr, .out] W = true) : (s.gateWatch x1).outside W = s.outside W := by
  refine State.outside_mono (V := [.cre, .cores, .evr, .out]) ?_ hW
  simp only [State.gateWatch]
  (repeat' split) <;> simp +decide

@[simp] theorem State.axisQuiesce_frame (s : State) (x1) (W : List Part)
    (hW : Part.within [.cre, .mot, .cores, .evr, .out] W = true) : (s.axisQuiesce x1).outside W = s.outside W := by
  refine State.outside_mono (V := [.cre, .mot, .cores, .evr, .out]) ?_ hW
  unfold State.axisQuiesce
  simp +decide

@[simp] theorem State.tickEvents_frame (s : State) (x1) (x2) (x3) (W : List Part)
    (hW : Part.within [.mot, .cores, .evr, .out] W = true) : (s.tickEvents x1 x2 x3).outside W = s.outside W := by
  refine State.outside_mono (V := [.mot, .cores, .evr, .out]) ?_ hW
  simp only [State.tickEvents]
  (repeat' split) <;> simp +decide

@[simp] theorem State.axisTick_frame (s : State) (x1) (x2) (x3) (x4) (x5) (W : List Part)
    (hW : Part.within [.cre, .mot, .cores, .dict, .evr, .out, .ans] W = true) : (s.axisTick x1 x2 x3 x4 x5).outside W
    = s.outside W := by
  refine State.outside_mono (V := [.cre, .mot, .cores, .dict, .evr, .out, .ans]) ?_ hW
  simp only [State.axisTick]
  (repeat' split) <;> simp +decide

@[simp] theorem State.axisStarting_frame (s : State) (x1) (W : List Part)
    (hW : Part.within [.mot, .cores, .evr, .out] W = true) : (s.axisStarting x1).outside W = s.outside W := by
  refine State.outside_mono (V := [.mot, .cores, .evr, .out]) ?_ hW
  unfold State.axisStarting
  simp +decide

@[simp] theorem State.svcWrite_frame (s : State) (x1) (x2) (W : List Part)
    (hW : Part.within [.mot, .ans] W = true) : (s.svcWrite x1 x2).outside W = s.outside W := by
  refine State.outside_mono (V := [.mot, .ans]) ?_ hW
  simp only [State.svcWrite]
  (repeat' split) <;> simp +decide

@[simp] theorem State.cmdWrite_frame (s : State) (x1) (x2) (W : List Part)
    (hW : Part.within [.mot, .ans] W = true) : (s.cmdWrite x1 x2).outside W = s.outside W := by
  refine State.outside_mono (V := [.mot, .ans]) ?_ hW
  simp only [State.cmdWrite]
  (repeat' split) <;> simp +decide

@[simp] theorem State.odCmd_frame (s : State) (x1) (x2) (x3) (x4) (W : List Part)
    (hW : Part.within [.mot, .ans] W = true) : (s.odCmd x1 x2 x3 x4).outside W = s.outside W := by
  refine State.outside_mono (V := [.mot, .ans]) ?_ hW
  unfold State.odCmd
  simp +decide

@[simp] theorem State.axisCommand_frame (s : State) (x1) (x2) (x3) (x4) (x5) (W : List Part)
    (hW : Part.within [.mot, .ans] W = true) : (s.axisCommand x1 x2 x3 x4 x5).outside W = s.outside W := by
  refine State.outside_mono (V := [.mot, .ans]) ?_ hW
  unfold State.axisCommand; simp only [State.asRole]
  (repeat' split) <;> simp +decide

@[simp] theorem State.axisOff_frame (s : State) (x1) (W : List Part)
    (hW : Part.within [.mot] W = true) : (s.axisOff x1).outside W = s.outside W := by
  refine State.outside_mono (V := [.mot]) ?_ hW
  unfold State.axisOff
  simp +decide

@[simp] theorem State.motErr_frame (s : State) (W : List Part)
    (hW : Part.within [.mot] W = true) : (s.motErr).outside W = s.outside W := by
  refine State.outside_mono (V := [.mot]) ?_ hW
  unfold State.motErr
  simp +decide

@[simp] theorem State.motCtrl_frame (s : State) (x1) (x2) (W : List Part)
    (hW : Part.within [.mot] W = true) : (s.motCtrl x1 x2).outside W = s.outside W := by
  refine State.outside_mono (V := [.mot]) ?_ hW
  simp only [State.motCtrl]
  (repeat' split) <;> simp +decide

@[simp] theorem State.motAxisWrite_frame (s : State) (x1) (x2) (x3) (W : List Part)
    (hW : Part.within [.mot, .ans] W = true) : (s.motAxisWrite x1 x2 x3).outside W = s.outside W := by
  refine State.outside_mono (V := [.mot, .ans]) ?_ hW
  simp only [State.motAxisWrite]
  (repeat' split) <;> simp +decide

@[simp] theorem State.motWrite_frame (s : State) (x1) (x2) (W : List Part)
    (hW : Part.within [.mot, .ans] W = true) : (s.motWrite x1 x2).outside W = s.outside W := by
  refine State.outside_mono (V := [.mot, .ans]) ?_ hW
  unfold State.motWrite
  (repeat' split) <;> simp +decide

end Sys2Proof.Machine
end

