-- ==== Sys2Proof/Laws/Frames/Settings.lean ====
section
/-!
SUPPORT. What the operations of Machine/Settings.lean leave alone: one lemma each, for every part of the state the operation
does not write.
-/
namespace Sys2Proof.Machine

@[simp] theorem State.odSet_frame (s : State) (x1) (x2) (x3) (W : List Part)
    (hW : Part.within [.dict] W = true) : (s.odSet x1 x2 x3).outside W = s.outside W := by
  refine State.outside_mono (V := [.dict]) ?_ hW
  unfold State.odSet
  simp +decide

@[simp] theorem State.settingsAppend_frame (s : State) (x1) (x2) (W : List Part)
    (hW : Part.within [.dict] W = true) : (s.settingsAppend x1 x2).outside W = s.outside W := by
  refine State.outside_mono (V := [.dict]) ?_ hW
  unfold State.settingsAppend
  simp +decide

@[simp] theorem State.odStore_frame (s : State) (x1) (x2) (x3) (W : List Part)
    (hW : Part.within [.dict] W = true) : (s.odStore x1 x2 x3).outside W = s.outside W := by
  refine State.outside_mono (V := [.dict]) ?_ hW
  unfold State.odStore
  (repeat' split) <;> simp +decide

@[simp] theorem State.odStoreLater_frame (s : State) (x1) (x2) (x3) (W : List Part)
    (hW : Part.within [.dict] W = true) : (s.odStoreLater x1 x2 x3).outside W = s.outside W := by
  refine State.outside_mono (V := [.dict]) ?_ hW
  unfold State.odStoreLater
  (repeat' split) <;> simp +decide

end Sys2Proof.Machine
end

