-- ==== Sys2Proof/Laws/Frames/Air.lean ====
section
/-!
SUPPORT. What the operations of Machine/Air.lean leave alone: one lemma each, for every part of the state the operation
does not write.
-/
namespace Sys2Proof.Machine

@[simp] theorem State.setFrb_frame (s : State) (x1) (W : List Part)
    (hW : Part.within [.frb] W = true) : (s.setFrb x1).outside W = s.outside W := by
  refine State.outside_mono (V := [.frb]) ?_ hW
  unfold State.setFrb
  simp +decide

@[simp] theorem State.setFra_frame (s : State) (x1) (W : List Part)
    (hW : Part.within [.fra] W = true) : (s.setFra x1).outside W = s.outside W := by
  refine State.outside_mono (V := [.fra]) ?_ hW
  unfold State.setFra
  simp +decide

@[simp] theorem State.setNode_frame (s : State) (x1) (x2) (W : List Part)
    (hW : Part.within [.frames] W = true) : (s.setNode x1 x2).outside W = s.outside W := by
  refine State.outside_mono (V := [.frames]) ?_ hW
  unfold State.setNode
  simp +decide

@[simp] theorem State.takeGroup_frame (s : State) (W : List Part)
    (hW : Part.within [.frames, .evr, .out] W = true) : (s.takeGroup).2.outside W = s.outside W := by
  refine State.outside_mono (V := [.frames, .evr, .out]) ?_ hW
  simp only [State.takeGroup]
  (repeat' split) <;> simp +decide

theorem State.takeGroup_via {s : State} {t : State} {y} (h : s.takeGroup = (y, t)) (W : List Part)
    (hW : Part.within [.frames, .evr, .out] W = true) : t.outside W = s.outside W := by
  have H := State.takeGroup_frame s W hW
  rwa [h] at H

@[simp] theorem State.dutyAdd_frame (s : State) (x1) (x2) (W : List Part)
    (hW : Part.within [.fra] W = true) : (s.dutyAdd x1 x2).outside W = s.outside W := by
  refine State.outside_mono (V := [.fra]) ?_ hW
  unfold State.dutyAdd
  (repeat' split) <;> simp +decide

@[simp] theorem State.setRadio_frame (s : State) (x1) (x2) (W : List Part)
    (hW : Part.within [.fra, .frb] W = true) : (s.setRadio x1 x2).outside W = s.outside W := by
  refine State.outside_mono (V := [.fra, .frb]) ?_ hW
  unfold State.setRadio
  (repeat' split) <;> simp +decide

@[simp] theorem State.countBlock_frame (s : State) (x1) (x2) (W : List Part)
    (hW : Part.within [.fra, .frb] W = true) : (s.countBlock x1 x2).outside W = s.outside W := by
  refine State.outside_mono (V := [.fra, .frb]) ?_ hW
  unfold State.countBlock
  (repeat' split) <;> simp +decide

@[simp] theorem State.setLink_frame (s : State) (x1) (x2) (W : List Part)
    (hW : Part.within [.frames] W = true) : (s.setLink x1 x2).outside W = s.outside W := by
  refine State.outside_mono (V := [.frames]) ?_ hW
  unfold State.setLink
  simp +decide

@[simp] theorem State.countMic_frame (s : State) (W : List Part)
    (hW : Part.within [.frames] W = true) : (s.countMic).outside W = s.outside W := by
  refine State.outside_mono (V := [.frames]) ?_ hW
  unfold State.countMic
  simp +decide

@[simp] theorem State.countReplay_frame (s : State) (W : List Part)
    (hW : Part.within [.frames] W = true) : (s.countReplay).outside W = s.outside W := by
  refine State.outside_mono (V := [.frames]) ?_ hW
  unfold State.countReplay
  simp +decide

@[simp] theorem State.countListen_frame (s : State) (x1) (x2) (x3) (W : List Part)
    (hW : Part.within [.fra, .frb] W = true) : (s.countListen x1 x2 x3).outside W = s.outside W := by
  refine State.outside_mono (V := [.fra, .frb]) ?_ hW
  unfold State.countListen
  (repeat' split) <;> simp +decide

@[simp] theorem State.takePair_frame (s : State) (x1) (W : List Part)
    (hW : Part.within [.frames, .evr, .out] W = true) : (s.takePair x1).2.outside W = s.outside W := by
  refine State.outside_mono (V := [.frames, .evr, .out]) ?_ hW
  simp only [State.takePair]
  (repeat' split) <;> simp +decide

theorem State.takePair_via {s : State} {x1} {t : State} {y} (h : s.takePair x1 = (y, t)) (W : List Part)
    (hW : Part.within [.frames, .evr, .out] W = true) : t.outside W = s.outside W := by
  have H := State.takePair_frame s x1 W hW
  rwa [h] at H

@[simp] theorem State.takeNode_frame (s : State) (x1) (W : List Part)
    (hW : Part.within [.frames, .evr, .out] W = true) : (s.takeNode x1).2.outside W = s.outside W := by
  refine State.outside_mono (V := [.frames, .evr, .out]) ?_ hW
  simp only [State.takeNode]
  (repeat' split) <;> simp +decide

theorem State.takeNode_via {s : State} {x1} {t : State} {y} (h : s.takeNode x1 = (y, t)) (W : List Part)
    (hW : Part.within [.frames, .evr, .out] W = true) : t.outside W = s.outside W := by
  have H := State.takeNode_frame s x1 W hW
  rwa [h] at H

@[simp] theorem State.reachOffset_frame (s : State) (x1) (W : List Part)
    (hW : Part.within [.tim, .evr] W = true) : (s.reachOffset x1).outside W = s.outside W := by
  refine State.outside_mono (V := [.tim, .evr]) ?_ hW
  unfold State.reachOffset
  simp +decide

end Sys2Proof.Machine
end

