-- ==== Sys2Proof/Laws/Frames/Loops.lean ====
section
/-!
SUPPORT. What the operations of Machine/Loops.lean leave alone: one lemma each, for every part of the state the operation
does not write.
-/
namespace Sys2Proof.Machine

@[simp] theorem State.setLoop_frame (s : State) (x1) (x2) (W : List Part)
    (hW : Part.within [.mot] W = true) : (s.setLoop x1 x2).outside W = s.outside W := by
  refine State.outside_mono (V := [.mot]) ?_ hW
  unfold State.setLoop
  simp +decide

@[simp] theorem State.cleQuiesce_frame (s : State) (W : List Part)
    (hW : Part.within [.mot] W = true) : (s.cleQuiesce).outside W = s.outside W := by
  refine State.outside_mono (V := [.mot]) ?_ hW
  unfold State.cleQuiesce
  simp +decide

@[simp] theorem State.cleErr_frame (s : State) (W : List Part)
    (hW : Part.within [.mot] W = true) : (s.cleErr).outside W = s.outside W := by
  refine State.outside_mono (V := [.mot]) ?_ hW
  unfold State.cleErr
  simp +decide

@[simp] theorem State.commitLoop_frame (s : State) (x1) (W : List Part)
    (hW : Part.within [.mot] W = true) : (s.commitLoop x1).1.outside W = s.outside W := by
  refine State.outside_mono (V := [.mot]) ?_ hW
  simp only [State.commitLoop]
  (repeat' split) <;> simp +decide

theorem State.commitLoop_via {s : State} {x1} {t : State} {y} (h : s.commitLoop x1 = (t, y)) (W : List Part)
    (hW : Part.within [.mot] W = true) : t.outside W = s.outside W := by
  have H := State.commitLoop_frame s x1 W hW
  rwa [h] at H

@[simp] theorem State.cleOff_frame (s : State) (W : List Part)
    (hW : Part.within [.mot] W = true) : (s.cleOff).outside W = s.outside W := by
  refine State.outside_mono (V := [.mot]) ?_ hW
  unfold State.cleOff
  (repeat' split) <;> simp_all +decide

@[simp] theorem State.loopStarting_frame (s : State) (x1) (W : List Part)
    (hW : Part.within [.mot] W = true) : (s.loopStarting x1).outside W = s.outside W := by
  refine State.outside_mono (V := [.mot]) ?_ hW
  unfold State.loopStarting
  simp +decide

@[simp] theorem State.loopEnable_frame (s : State) (x1) (x2) (W : List Part)
    (hW : Part.within [.mot] W = true) : (s.loopEnable x1 x2).1.outside W = s.outside W := by
  refine State.outside_mono (V := [.mot]) ?_ hW
  simp only [State.loopEnable]
  (repeat' split) <;> simp +decide

theorem State.loopEnable_via {s : State} {x1} {x2} {t : State} {y} (h : s.loopEnable x1 x2 = (t, y)) (W : List Part)
    (hW : Part.within [.mot] W = true) : t.outside W = s.outside W := by
  have H := State.loopEnable_frame s x1 x2 W hW
  rwa [h] at H

@[simp] theorem State.commitAsked_frame (s : State) (x1) (W : List Part)
    (hW : Part.within [.mot, .ans] W = true) : (s.commitAsked x1).outside W = s.outside W := by
  refine State.outside_mono (V := [.mot, .ans]) ?_ hW
  simp only [State.commitAsked]
  (repeat' split) <;> simp_all +decide

@[simp] theorem State.periodWrite_frame (s : State) (x1) (W : List Part)
    (hW : Part.within [.mot] W = true) : (s.periodWrite x1).1.outside W = s.outside W := by
  refine State.outside_mono (V := [.mot]) ?_ hW
  unfold State.periodWrite
  (repeat' split) <;> simp +decide

theorem State.periodWrite_via {s : State} {x1} {t : State} {y} (h : s.periodWrite x1 = (t, y)) (W : List Part)
    (hW : Part.within [.mot] W = true) : t.outside W = s.outside W := by
  have H := State.periodWrite_frame s x1 W hW
  rwa [h] at H

@[simp] theorem State.injStart_frame (s : State) (W : List Part)
    (hW : Part.within [.mot, .ans] W = true) : (s.injStart).outside W = s.outside W := by
  refine State.outside_mono (V := [.mot, .ans]) ?_ hW
  unfold State.injStart
  simp +decide

@[simp] theorem State.injStop_frame (s : State) (W : List Part)
    (hW : Part.within [.mot, .ans] W = true) : (s.injStop).outside W = s.outside W := by
  refine State.outside_mono (V := [.mot, .ans]) ?_ hW
  unfold State.injStop
  simp +decide

@[simp] theorem State.injWrite_frame (s : State) (x1) (x2) (W : List Part)
    (hW : Part.within [.mot] W = true) : (s.injWrite x1 x2).1.outside W = s.outside W := by
  refine State.outside_mono (V := [.mot]) ?_ hW
  simp only [State.injWrite]
  (repeat' split) <;> simp +decide

theorem State.injWrite_via {s : State} {x1} {x2} {t : State} {y} (h : s.injWrite x1 x2 = (t, y)) (W : List Part)
    (hW : Part.within [.mot] W = true) : t.outside W = s.outside W := by
  have H := State.injWrite_frame s x1 x2 W hW
  rwa [h] at H

@[simp] theorem State.capWrite_frame (s : State) (x1) (x2) (W : List Part)
    (hW : Part.within [.mot] W = true) : (s.capWrite x1 x2).outside W = s.outside W := by
  refine State.outside_mono (V := [.mot]) ?_ hW
  simp only [State.capWrite]
  (repeat' split) <;> simp +decide

@[simp] theorem State.captureArm_frame (s : State) (W : List Part)
    (hW : Part.within [.mot, .ans] W = true) : (s.captureArm).outside W = s.outside W := by
  refine State.outside_mono (V := [.mot, .ans]) ?_ hW
  simp only [State.captureArm]
  (repeat' split) <;> simp +decide

@[simp] theorem State.captureAbort_frame (s : State) (W : List Part)
    (hW : Part.within [.mot, .ans] W = true) : (s.captureAbort).outside W = s.outside W := by
  refine State.outside_mono (V := [.mot, .ans]) ?_ hW
  unfold State.captureAbort
  simp +decide

@[simp] theorem State.encoderEdge_frame (s : State) (x1) (x2) (W : List Part)
    (hW : Part.within [.mot] W = true) : (s.encoderEdge x1 x2).outside W = s.outside W := by
  refine State.outside_mono (V := [.mot]) ?_ hW
  unfold State.encoderEdge
  simp +decide

@[simp] theorem State.loopCfgWrite_frame (s : State) (x1) (x2) (W : List Part)
    (hW : Part.within [.mot] W = true) : (s.loopCfgWrite x1 x2).outside W = s.outside W := by
  refine State.outside_mono (V := [.mot]) ?_ hW
  unfold State.loopCfgWrite
  (repeat' split) <;> simp_all +decide

@[simp] theorem State.loopWrite_frame (s : State) (x1) (x2) (x3) (W : List Part)
    (hW : Part.within [.mot] W = true) : (s.loopWrite x1 x2 x3).outside W = s.outside W := by
  refine State.outside_mono (V := [.mot]) ?_ hW
  unfold State.loopWrite
  (repeat' split) <;> simp +decide

@[simp] theorem State.cleWrite_frame (s : State) (x1) (x2) (W : List Part)
    (hW : Part.within [.mot, .ans] W = true) : (s.cleWrite x1 x2).outside W = s.outside W := by
  refine State.outside_mono (V := [.mot, .ans]) ?_ hW
  unfold State.cleWrite
  (repeat' split) <;> simp_all +decide

@[simp] theorem State.captureSample_frame (s : State) (x1) (x2) (W : List Part)
    (hW : Part.within [.mot, .cores, .mem] W = true) : (s.captureSample x1 x2).outside W = s.outside W := by
  refine State.outside_mono (V := [.mot, .cores, .mem]) ?_ hW
  simp only [State.captureSample]
  (repeat' split) <;> simp +decide

@[simp] theorem State.injectEdge_frame (s : State) (W : List Part)
    (hW : Part.within [.mot, .free] W = true) : (s.injectEdge).1.outside W = s.outside W := by
  refine State.outside_mono (V := [.mot, .free]) ?_ hW
  unfold State.injectEdge
  simp +decide

theorem State.injectEdge_via {s : State} {t : State} {y} (h : s.injectEdge = (t, y)) (W : List Part)
    (hW : Part.within [.mot, .free] W = true) : t.outside W = s.outside W := by
  have H := State.injectEdge_frame s W hW
  rwa [h] at H

@[simp] theorem State.loopEdge_frame (s : State) (x1) (x2) (x3) (W : List Part)
    (hW : Part.within [.mot, .cores, .free] W = true) : (s.loopEdge x1 x2 x3).outside W = s.outside W := by
  refine State.outside_mono (V := [.mot, .cores, .free]) ?_ hW
  simp only [State.loopEdge]
  (repeat' split) <;> simp +decide

end Sys2Proof.Machine
end

