-- ==== Sys2Proof/Laws/Frames/Gnss.lean ====
section
/-!
SUPPORT. What the operations of Machine/Gnss.lean leave alone: one lemma each, for every part of the state the operation
does not write.
-/
namespace Sys2Proof.Machine

@[simp] theorem State.gbbStop_frame (s : State) (W : List Part)
    (hW : Part.within [.gbb] W = true) : (s.gbbStop).outside W = s.outside W := by
  refine State.outside_mono (V := [.gbb]) ?_ hW
  unfold State.gbbStop
  simp +decide

@[simp] theorem State.biasApply_frame (s : State) (W : List Part)
    (hW : Part.within [.grf] W = true) : (s.biasApply).outside W = s.outside W := by
  refine State.outside_mono (V := [.grf]) ?_ hW
  unfold State.biasApply
  simp +decide

@[simp] theorem State.grfCtrl_frame (s : State) (x1) (W : List Part)
    (hW : Part.within [.grf] W = true) : (s.grfCtrl x1).outside W = s.outside W := by
  refine State.outside_mono (V := [.grf]) ?_ hW
  unfold State.grfCtrl
  simp +decide

@[simp] theorem State.biasWrite_frame (s : State) (x1) (W : List Part)
    (hW : Part.within [.grf] W = true) : (s.biasWrite x1).outside W = s.outside W := by
  refine State.outside_mono (V := [.grf]) ?_ hW
  unfold State.biasWrite
  simp +decide

@[simp] theorem State.agcWrite_frame (s : State) (x1) (x2) (W : List Part)
    (hW : Part.within [.grf] W = true) : (s.agcWrite x1 x2).outside W = s.outside W := by
  refine State.outside_mono (V := [.grf]) ?_ hW
  unfold State.agcWrite
  simp +decide

@[simp] theorem State.grfWrite_frame (s : State) (x1) (x2) (W : List Part)
    (hW : Part.within [.grf] W = true) : (s.grfWrite x1 x2).outside W = s.outside W := by
  refine State.outside_mono (V := [.grf]) ?_ hW
  unfold State.grfWrite
  (repeat' split) <;> simp +decide

@[simp] theorem State.setChan_frame (s : State) (x1) (x2) (W : List Part)
    (hW : Part.within [.gbb] W = true) : (s.setChan x1 x2).outside W = s.outside W := by
  refine State.outside_mono (V := [.gbb]) ?_ hW
  unfold State.setChan
  simp +decide

@[simp] theorem State.chanLock_frame (s : State) (x1) (x2) (W : List Part)
    (hW : Part.within [.gbb] W = true) : (s.chanLock x1 x2).outside W = s.outside W := by
  refine State.outside_mono (V := [.gbb]) ?_ hW
  unfold State.chanLock
  simp +decide

@[simp] theorem State.chanLockt_frame (s : State) (x1) (x2) (W : List Part)
    (hW : Part.within [.gbb] W = true) : (s.chanLockt x1 x2).outside W = s.outside W := by
  refine State.outside_mono (V := [.gbb]) ?_ hW
  unfold State.chanLockt
  simp +decide

@[simp] theorem State.gbbErr_frame (s : State) (W : List Part)
    (hW : Part.within [.gbb, .cores] W = true) : (s.gbbErr).outside W = s.outside W := by
  refine State.outside_mono (V := [.gbb, .cores]) ?_ hW
  unfold State.gbbErr
  simp +decide

@[simp] theorem State.chanCfg_frame (s : State) (x1) (x2) (W : List Part)
    (hW : Part.within [.gbb, .cores] W = true) : (s.chanCfg x1 x2).outside W = s.outside W := by
  refine State.outside_mono (V := [.gbb, .cores]) ?_ hW
  simp only [State.chanCfg]
  (repeat' split) <;> simp +decide

@[simp] theorem State.chanSpace_frame (s : State) (x1) (x2) (W : List Part)
    (hW : Part.within [.gbb, .cores] W = true) : (s.chanSpace x1 x2).outside W = s.outside W := by
  refine State.outside_mono (V := [.gbb, .cores]) ?_ hW
  simp only [State.chanSpace]
  (repeat' split) <;> simp +decide

@[simp] theorem State.chanCarr_frame (s : State) (x1) (x2) (W : List Part)
    (hW : Part.within [.gbb] W = true) : (s.chanCarr x1 x2).outside W = s.outside W := by
  refine State.outside_mono (V := [.gbb]) ?_ hW
  unfold State.chanCarr
  simp +decide

@[simp] theorem State.chanCode_frame (s : State) (x1) (x2) (W : List Part)
    (hW : Part.within [.gbb, .cores] W = true) : (s.chanCode x1 x2).outside W = s.outside W := by
  refine State.outside_mono (V := [.gbb, .cores]) ?_ hW
  unfold State.chanCode
  (repeat' split) <;> simp +decide

@[simp] theorem State.chanWrite_frame (s : State) (x1) (x2) (x3) (W : List Part)
    (hW : Part.within [.gbb, .cores] W = true) : (s.chanWrite x1 x2 x3).outside W = s.outside W := by
  refine State.outside_mono (V := [.gbb, .cores]) ?_ hW
  unfold State.chanWrite
  (repeat' split) <;> simp +decide

@[simp] theorem State.chanAccess_frame (s : State) (x1) (x2) (x3) (x4) (W : List Part)
    (hW : Part.within [.gbb, .cores, .evr, .out, .ans] W = true) : (s.chanAccess x1 x2 x3 x4).outside W = s.outside W
    := by
  refine State.outside_mono (V := [.gbb, .cores, .evr, .out, .ans]) ?_ hW
  unfold State.chanAccess; simp only [State.guarded]
  (repeat' split) <;> simp +decide

@[simp] theorem State.latchRelease_frame (s : State) (x1) (W : List Part)
    (hW : Part.within [.gbb] W = true) : (s.latchRelease x1).outside W = s.outside W := by
  refine State.outside_mono (V := [.gbb]) ?_ hW
  unfold State.latchRelease
  simp +decide

@[simp] theorem State.grfStop_frame (s : State) (W : List Part)
    (hW : Part.within [.grf] W = true) : (s.grfStop).outside W = s.outside W := by
  refine State.outside_mono (V := [.grf]) ?_ hW
  unfold State.grfStop
  simp +decide

@[simp] theorem State.acqEnter_frame (s : State) (W : List Part)
    (hW : Part.within [.gbb] W = true) : (s.acqEnter).outside W = s.outside W := by
  refine State.outside_mono (V := [.gbb]) ?_ hW
  unfold State.acqEnter
  (repeat' split) <;> simp +decide

@[simp] theorem State.acqWrite_frame (s : State) (W : List Part)
    (hW : Part.within [.gbb, .cores, .ques] W = true) : (s.acqWrite).outside W = s.outside W := by
  refine State.outside_mono (V := [.gbb, .cores, .ques]) ?_ hW
  unfold State.acqWrite
  repeat' split
  · rename_i h
    have H0 := State.enginePush_frame h
    simp_all +decide
  · simp +decide
  · simp +decide

@[simp] theorem State.burstWrite_frame (s : State) (x1) (W : List Part)
    (hW : Part.within [.gbb, .cores] W = true) : (s.burstWrite x1).outside W = s.outside W := by
  refine State.outside_mono (V := [.gbb, .cores]) ?_ hW
  unfold State.burstWrite
  (repeat' split) <;> simp +decide

@[simp] theorem State.latchBaseWrite_frame (s : State) (x1) (W : List Part)
    (hW : Part.within [.gbb, .cores] W = true) : (s.latchBaseWrite x1).outside W = s.outside W := by
  refine State.outside_mono (V := [.gbb, .cores]) ?_ hW
  unfold State.latchBaseWrite
  (repeat' split) <;> simp +decide

@[simp] theorem State.acqSubmit_frame (s : State) (x1) (W : List Part)
    (hW : Part.within [.gbb, .ans] W = true) : (s.acqSubmit x1).outside W = s.outside W := by
  refine State.outside_mono (V := [.gbb, .ans]) ?_ hW
  simp only [State.acqSubmit]
  (repeat' split) <;> simp +decide

@[simp] theorem State.gbbWrite_frame (s : State) (x1) (x2) (W : List Part)
    (hW : Part.within [.gbb, .cores, .ans] W = true) : (s.gbbWrite x1 x2).outside W = s.outside W := by
  refine State.outside_mono (V := [.gbb, .cores, .ans]) ?_ hW
  simp only [State.gbbWrite]
  (repeat' split) <;> simp +decide

@[simp] theorem State.chanStart_frame (s : State) (x1) (W : List Part)
    (hW : Part.within [.gbb] W = true) : (s.chanStart x1).outside W = s.outside W := by
  refine State.outside_mono (V := [.gbb]) ?_ hW
  unfold State.chanStart
  simp +decide

@[simp] theorem State.setBias_frame (s : State) (x1) (x2) (W : List Part)
    (hW : Part.within [.grf] W = true) : (s.setBias x1 x2).outside W = s.outside W := by
  refine State.outside_mono (V := [.grf]) ?_ hW
  unfold State.setBias
  (repeat' split) <;> simp +decide

@[simp] theorem State.burstBoundary_frame (s : State) (W : List Part)
    (hW : Part.within [.gbb] W = true) : (s.burstBoundary).outside W = s.outside W := by
  refine State.outside_mono (V := [.gbb]) ?_ hW
  unfold State.burstBoundary
  simp +decide

@[simp] theorem State.latchChan_frame (s : State) (x1) (W : List Part)
    (hW : Part.within [.gbb, .free] W = true) : (s.latchChan x1).1.outside W = s.outside W := by
  refine State.outside_mono (V := [.gbb, .free]) ?_ hW
  unfold State.latchChan
  dsimp only
  split <;> simp +decide

theorem State.latchChan_via {s : State} {x1} {t : State} {y} (h : s.latchChan x1 = (t, y)) (W : List Part)
    (hW : Part.within [.gbb, .free] W = true) : t.outside W = s.outside W := by
  have H := State.latchChan_frame s x1 W hW
  rwa [h] at H

@[simp] theorem State.dump_frame (s : State) (x1) (W : List Part)
    (hW : Part.within [.gbb, .cores, .ques] W = true) : (s.dump x1).outside W = s.outside W := by
  refine State.outside_mono (V := [.gbb, .cores, .ques]) ?_ hW
  simp only [State.dump]
  split
  · rename_i h
    have H0 := State.enginePush_frame h
    simp_all +decide
  · simp +decide

@[simp] theorem State.baseBoundary_frame (s : State) (x1) (x2) (x3) (W : List Part)
    (hW : Part.within [.gbb, .cores, .ques] W = true) : (s.baseBoundary x1 x2 x3).outside W = s.outside W := by
  refine State.outside_mono (V := [.gbb, .cores, .ques]) ?_ hW
  simp only [State.baseBoundary]
  (repeat' split) <;> simp +decide

@[simp] theorem State.chainsReady_frame (s : State) (x1) (W : List Part)
    (hW : Part.within [.grf] W = true) : (s.chainsReady x1).outside W = s.outside W := by
  refine State.outside_mono (V := [.grf]) ?_ hW
  unfold State.chainsReady
  (repeat' split) <;> simp +decide

@[simp] theorem State.latchAll_frame (s : State) (x1) (W : List Part)
    (hW : Part.within [.gbb, .free] W = true) : (s.latchAll x1).1.outside W = s.outside W := by
  refine State.outside_mono (V := [.gbb, .free]) ?_ hW
  induction x1 generalizing s with
  | nil => simp +decide [State.latchAll]
  | cons k t ih => simp only [State.latchAll]; split <;> simp_all +decide

theorem State.latchAll_via {s : State} {x1} {t : State} {y} (h : s.latchAll x1 = (t, y)) (W : List Part)
    (hW : Part.within [.gbb, .free] W = true) : t.outside W = s.outside W := by
  have H := State.latchAll_frame s x1 W hW
  rwa [h] at H

@[simp] theorem State.latchEdge_frame (s : State) (x1) (W : List Part)
    (hW : Part.within [.gbb, .free] W = true) : (s.latchEdge x1).outside W = s.outside W := by
  refine State.outside_mono (V := [.gbb, .free]) ?_ hW
  simp only [State.latchEdge]
  (repeat' split) <;> simp_all +decide

@[simp] theorem State.latchComplete_frame (s : State) (x1) (W : List Part)
    (hW : Part.within [.gbb, .corr, .cores, .mem] W = true) : (s.latchComplete x1).outside W = s.outside W := by
  refine State.outside_mono (V := [.gbb, .corr, .cores, .mem]) ?_ hW
  unfold State.latchComplete
  (repeat' split) <;> simp +decide

@[simp] theorem State.dumpCut_frame (s : State) (x1) (W : List Part)
    (hW : Part.within [.gbb, .cores, .ques] W = true) : (s.dumpCut x1).outside W = s.outside W := by
  refine State.outside_mono (V := [.gbb, .cores, .ques]) ?_ hW
  induction x1 generalizing s with
  | nil => simp +decide [State.dumpCut]
  | cons k t ih => simp only [State.dumpCut]; split <;> simp_all +decide <;> split <;> simp_all +decide

end Sys2Proof.Machine
end

