-- ==== Sys2Proof/Laws/Frames/Objects.lean ====
section
/-!
SUPPORT. What the operations of Machine/Objects.lean leave alone: one lemma each, for every part of the state the operation
does not write.
-/
namespace Sys2Proof.Machine

@[simp] theorem State.pmuFromOd_frame (s : State) (W : List Part)
    (hW : Part.within [.pwr] W = true) : (s.pmuFromOd).outside W = s.outside W := by
  refine State.outside_mono (V := [.pwr]) ?_ hW
  unfold State.pmuFromOd
  simp +decide

@[simp] theorem State.pairFromOd_frame (s : State) (W : List Part)
    (hW : Part.within [.dev, .pair] W = true) : (s.pairFromOd).outside W = s.outside W := by
  refine State.outside_mono (V := [.dev, .pair]) ?_ hW
  unfold State.pairFromOd
  simp +decide

@[simp] theorem State.mencFromOd_frame (s : State) (W : List Part)
    (hW : Part.within [.mot] W = true) : (s.mencFromOd).outside W = s.outside W := by
  refine State.outside_mono (V := [.mot]) ?_ hW
  unfold State.mencFromOd
  simp +decide

@[simp] theorem State.timePend_frame (s : State) (W : List Part)
    (hW : Part.within [.tim] W = true) : (s.timePend).outside W = s.outside W := by
  refine State.outside_mono (V := [.tim]) ?_ hW
  unfold State.timePend
  simp +decide

@[simp] theorem State.timFromOd_frame (s : State) (W : List Part)
    (hW : Part.within [.tim] W = true) : (s.timFromOd).outside W = s.outside W := by
  refine State.outside_mono (V := [.tim]) ?_ hW
  unfold State.timFromOd
  simp +decide

@[simp] theorem State.tmpFromOd_frame (s : State) (W : List Part)
    (hW : Part.within [.sec] W = true) : (s.tmpFromOd).outside W = s.outside W := by
  refine State.outside_mono (V := [.sec]) ?_ hW
  unfold State.tmpFromOd
  simp +decide

@[simp] theorem State.jdxFromOd_frame (s : State) (W : List Part)
    (hW : Part.within [.cores] W = true) : (s.jdxFromOd).outside W = s.outside W := by
  refine State.outside_mono (V := [.cores]) ?_ hW
  unfold State.jdxFromOd
  simp +decide

@[simp] theorem State.classesFromOd_frame (s : State) (W : List Part)
    (hW : Part.within [.cre] W = true) : (s.classesFromOd).outside W = s.outside W := by
  refine State.outside_mono (V := [.cre]) ?_ hW
  unfold State.classesFromOd
  simp +decide

@[simp] theorem State.gnssFromOd_frame (s : State) (W : List Part)
    (hW : Part.within [.grf, .gbb] W = true) : (s.gnssFromOd).outside W = s.outside W := by
  refine State.outside_mono (V := [.grf, .gbb]) ?_ hW
  unfold State.gnssFromOd
  simp +decide

@[simp] theorem State.radioFromOd_frame (s : State) (W : List Part)
    (hW : Part.within [.fra, .frb] W = true) : (s.radioFromOd).outside W = s.outside W := by
  refine State.outside_mono (V := [.fra, .frb]) ?_ hW
  unfold State.radioFromOd
  simp +decide

@[simp] theorem State.fromOd_frame (s : State) (W : List Part)
    (hW : Part.within [.dev, .grf, .gbb, .cre, .fra, .frb, .tim, .pair, .mot, .cores, .sec, .pwr] W = true) :
    (s.fromOd).outside W = s.outside W := by
  refine State.outside_mono (V := [.dev, .grf, .gbb, .cre, .fra, .frb, .tim, .pair, .mot, .cores, .sec, .pwr]) ?_ hW
  unfold State.fromOd
  simp +decide

@[simp] theorem State.safCfgAdopt_frame (s : State) (x1) (W : List Part)
    (hW : Part.within [.saf] W = true) : (s.safCfgAdopt x1).outside W = s.outside W := by
  refine State.outside_mono (V := [.saf]) ?_ hW
  unfold State.safCfgAdopt
  simp +decide

@[simp] theorem State.safCfgPlace_frame (s : State) (x1) (W : List Part)
    (hW : Part.within [.saf] W = true) : (s.safCfgPlace x1).outside W = s.outside W := by
  refine State.outside_mono (V := [.saf]) ?_ hW
  unfold State.safCfgPlace
  simp +decide

end Sys2Proof.Machine
end

