-- ==== Sys2Proof/Laws/Frames/Images.lean ====
section
/-!
SUPPORT. What the operations of Machine/Images.lean leave alone: one lemma each, for every part of the state the operation
does not write.
-/
namespace Sys2Proof.Machine

@[simp] theorem State.setUpd_frame (s : State) (x1) (W : List Part)
    (hW : Part.within [.upd] W = true) : (s.setUpd x1).outside W = s.outside W := by
  refine State.outside_mono (V := [.upd]) ?_ hW
  unfold State.setUpd
  simp +decide

@[simp] theorem State.settingsLoad_frame (s : State) (W : List Part)
    (hW : Part.within [.dict] W = true) : (s.settingsLoad).outside W = s.outside W := by
  refine State.outside_mono (V := [.dict]) ?_ hW
  unfold State.settingsLoad
  simp +decide

@[simp] theorem State.settingsHalf_frame (s : State) (W : List Part)
    (hW : Part.within [.dict, .upd] W = true) : (s.settingsHalf).outside W = s.outside W := by
  refine State.outside_mono (V := [.dict, .upd]) ?_ hW
  simp only [State.settingsHalf]
  (repeat' split) <;> simp +decide

@[simp] theorem State.bootMicrocode_frame (s : State) (W : List Part)
    (hW : Part.within [.upd] W = true) : (s.bootMicrocode).outside W = s.outside W := by
  refine State.outside_mono (V := [.upd]) ?_ hW
  unfold State.bootMicrocode
  simp +decide

@[simp] theorem State.defaultsRestore_frame (s : State) (W : List Part)
    (hW : Part.within [.dict] W = true) : (s.defaultsRestore).outside W = s.outside W := by
  refine State.outside_mono (V := [.dict]) ?_ hW
  unfold State.defaultsRestore
  simp +decide

end Sys2Proof.Machine
end

