-- ==== Sys2Proof/Laws/Frames/Recorder.lean ====
section
/-!
SUPPORT. What the operations of Machine/Recorder.lean leave alone: one lemma each, for every part of the state the operation
does not write.
-/
namespace Sys2Proof.Machine

@[simp] theorem State.setEvr_frame (s : State) (x1) (W : List Part)
    (hW : Part.within [.evr] W = true) : (s.setEvr x1).outside W = s.outside W := by
  refine State.outside_mono (V := [.evr]) ?_ hW
  unfold State.setEvr
  simp +decide

@[simp] theorem State.evrStart_frame (s : State) (x1) (W : List Part)
    (hW : Part.within [.evr] W = true) : (s.evrStart x1).outside W = s.outside W := by
  refine State.outside_mono (V := [.evr]) ?_ hW
  unfold State.evrStart
  (repeat' split) <;> simp +decide

@[simp] theorem State.startRecord_frame (s : State) (x1) (x2) (x3) (W : List Part)
    (hW : Part.within [.evr, .out] W = true) : (s.startRecord x1 x2 x3).outside W = s.outside W := by
  refine State.outside_mono (V := [.evr, .out]) ?_ hW
  simp only [State.startRecord]
  (repeat' split) <;> simp +decide

@[simp] theorem State.logFails_frame (s : State) (x1) (x2) (W : List Part)
    (hW : Part.within [.cores, .evr] W = true) : (s.logFails x1 x2).outside W = s.outside W := by
  refine State.outside_mono (V := [.cores, .evr]) ?_ hW
  unfold State.logFails
  (repeat' split) <;> simp +decide

@[simp] theorem State.recordRead_frame (s : State) (x1) (x2) (W : List Part)
    (hW : Part.within [.cores, .dict, .evr, .ans] W = true) : (s.recordRead x1 x2).outside W = s.outside W := by
  refine State.outside_mono (V := [.cores, .dict, .evr, .ans]) ?_ hW
  simp only [State.recordRead]
  (repeat' split) <;> simp +decide

@[simp] theorem State.flushAsk_frame (s : State) (x1) (W : List Part)
    (hW : Part.within [.cores, .evr, .out, .ans] W = true) : (s.flushAsk x1).outside W = s.outside W := by
  refine State.outside_mono (V := [.cores, .evr, .out, .ans]) ?_ hW
  unfold State.flushAsk; simp only [State.guarded, State.asRole]
  (repeat' split) <;> simp +decide

@[simp] theorem State.logTest_frame (s : State) (x1) (W : List Part)
    (hW : Part.within [.evr, .out, .ans] W = true) : (s.logTest x1).outside W = s.outside W := by
  refine State.outside_mono (V := [.evr, .out, .ans]) ?_ hW
  unfold State.logTest
  (repeat' split) <;> simp +decide

@[simp] theorem State.recordCommit_frame (s : State) (x1) (W : List Part)
    (hW : Part.within [.evr, .out, .ans] W = true) : (s.recordCommit x1).outside W = s.outside W := by
  refine State.outside_mono (V := [.evr, .out, .ans]) ?_ hW
  simp only [State.recordCommit]
  (repeat' split) <;> simp_all +decide

@[simp] theorem State.evrWrite_frame (s : State) (x1) (x2) (x3) (W : List Part)
    (hW : Part.within [.evr, .out, .ans] W = true) : (s.evrWrite x1 x2 x3).outside W = s.outside W := by
  refine State.outside_mono (V := [.evr, .out, .ans]) ?_ hW
  unfold State.evrWrite
  (repeat' split) <;> simp +decide

@[simp] theorem State.powerFail_frame (s : State) (x1) (W : List Part)
    (hW : Part.within [.cores, .evr, .pwr, .out] W = true) : (s.powerFail x1).outside W = s.outside W := by
  refine State.outside_mono (V := [.cores, .evr, .pwr, .out]) ?_ hW
  unfold State.powerFail
  simp +decide

end Sys2Proof.Machine
end

