-- ==== Sys2Proof/Laws/Frames/Fra.lean ====
section
/-!
SUPPORT. What the operations of Machine/Fra.lean leave alone: one lemma each, for every part of the state the operation
does not write.
-/
namespace Sys2Proof.Machine

@[simp] theorem State.setSaf_frame (s : State) (x1) (W : List Part)
    (hW : Part.within [.saf] W = true) : (s.setSaf x1).outside W = s.outside W := by
  refine State.outside_mono (V := [.saf]) ?_ hW
  unfold State.setSaf
  simp +decide

@[simp] theorem State.callFailed_frame (s : State) (x1) (W : List Part)
    (hW : Part.within [.frames, .evr, .out] W = true) : (s.callFailed x1).outside W = s.outside W := by
  refine State.outside_mono (V := [.frames, .evr, .out]) ?_ hW
  unfold State.callFailed
  (repeat' split) <;> simp +decide

@[simp] theorem State.callRestart_frame (s : State) (W : List Part)
    (hW : Part.within [.fra, .frames, .evr, .out] W = true) : (s.callRestart).outside W = s.outside W := by
  refine State.outside_mono (V := [.fra, .frames, .evr, .out]) ?_ hW
  unfold State.callRestart
  (repeat' split) <;> simp +decide

@[simp] theorem State.fraAbort_frame (s : State) (W : List Part)
    (hW : Part.within [.saf, .fra, .frames, .evr, .out] W = true) : (s.fraAbort).outside W = s.outside W := by
  refine State.outside_mono (V := [.saf, .fra, .frames, .evr, .out]) ?_ hW
  unfold State.fraAbort
  (repeat' split) <;> simp +decide

@[simp] theorem State.burstDrop_frame (s : State) (W : List Part)
    (hW : Part.within [.fra] W = true) : (s.burstDrop).outside W = s.outside W := by
  refine State.outside_mono (V := [.fra]) ?_ hW
  unfold State.burstDrop
  (repeat' split) <;> simp +decide

@[simp] theorem State.fraListen_frame (s : State) (x1) (x2) (W : List Part)
    (hW : Part.within [.fra] W = true) : (s.fraListen x1 x2).outside W = s.outside W := by
  refine State.outside_mono (V := [.fra]) ?_ hW
  unfold State.fraListen
  simp +decide

@[simp] theorem State.fraAirAt_frame (s : State) (x1) (x2) (x3) (x4) (x5) (W : List Part)
    (hW : Part.within [.fra, .out] W = true) : (s.fraAirAt x1 x2 x3 x4 x5).outside W = s.outside W := by
  refine State.outside_mono (V := [.fra, .out]) ?_ hW
  unfold State.fraAirAt
  simp +decide

@[simp] theorem State.fraAir_frame (s : State) (x1) (x2) (x3) (x4) (W : List Part)
    (hW : Part.within [.fra, .out] W = true) : (s.fraAir x1 x2 x3 x4).outside W = s.outside W := by
  refine State.outside_mono (V := [.fra, .out]) ?_ hW
  unfold State.fraAir
  simp +decide

@[simp] theorem State.stopAir_frame (s : State) (x1) (x2) (W : List Part)
    (hW : Part.within [.fra, .frames, .evr, .out] W = true) : (s.stopAir x1 x2).1.outside W = s.outside W := by
  refine State.outside_mono (V := [.fra, .frames, .evr, .out]) ?_ hW
  simp only [State.stopAir]
  (repeat' split) <;> simp_all +decide

theorem State.stopAir_via {s : State} {x1} {x2} {t : State} {y} (h : s.stopAir x1 x2 = (t, y)) (W : List Part)
    (hW : Part.within [.fra, .frames, .evr, .out] W = true) : t.outside W = s.outside W := by
  have H := State.stopAir_frame s x1 x2 W hW
  rwa [h] at H

@[simp] theorem State.stopNotSent_frame (s : State) (x1) (W : List Part)
    (hW : Part.within [.saf, .fra, .frb, .evr, .out] W = true) : (s.stopNotSent x1).outside W = s.outside W := by
  refine State.outside_mono (V := [.saf, .fra, .frb, .evr, .out]) ?_ hW
  unfold State.stopNotSent
  (repeat' split) <;> simp +decide

@[simp] theorem State.stopNext_frame (s : State) (x1) (W : List Part)
    (hW : Part.within [.saf, .fra, .frb, .frames, .evr, .out] W = true) : (s.stopNext x1).outside W = s.outside W :=
    by
  refine State.outside_mono (V := [.saf, .fra, .frb, .frames, .evr, .out]) ?_ hW
  induction x1 generalizing s with
  | zero => simp +decide [State.stopNext]
  | succ n ih =>
    simp only [State.stopNext]
    repeat' split
    all_goals simp +decide [ih]

@[simp] theorem State.burstRequest_frame (s : State) (x1) (W : List Part)
    (hW : Part.within [.saf, .fra, .frb, .frames, .evr, .out] W = true) : (s.burstRequest x1).outside W = s.outside W
    := by
  refine State.outside_mono (V := [.saf, .fra, .frb, .frames, .evr, .out]) ?_ hW
  simp only [State.burstRequest]
  (repeat' split) <;> simp +decide

@[simp] theorem State.gateShut_frame (s : State) (W : List Part)
    (hW : Part.within [.saf, .fra, .frb, .frames, .evr, .out] W = true) : (s.gateShut).outside W = s.outside W := by
  refine State.outside_mono (V := [.saf, .fra, .frb, .frames, .evr, .out]) ?_ hW
  simp only [State.gateShut]
  (repeat' split) <;> simp +decide

@[simp] theorem State.holdRelease_frame (s : State) (W : List Part)
    (hW : Part.within [.saf, .fra, .frb, .frames, .pair, .evr, .out] W = true) : (s.holdRelease).outside W = s.outside
    W := by
  refine State.outside_mono (V := [.saf, .fra, .frb, .frames, .pair, .evr, .out]) ?_ hW
  unfold State.holdRelease
  simp +decide

@[simp] theorem State.segmentSend_frame (s : State) (W : List Part)
    (hW : Part.within [.fra, .frb, .frames, .evr, .out] W = true) : (s.segmentSend).outside W = s.outside W := by
  refine State.outside_mono (V := [.fra, .frb, .frames, .evr, .out]) ?_ hW
  simp only [State.segmentSend]
  (repeat' split) <;> simp +decide

@[simp] theorem State.segmentBegin_frame (s : State) (W : List Part)
    (hW : Part.within [.fra, .frb, .frames, .evr, .out] W = true) : (s.segmentBegin).outside W = s.outside W := by
  refine State.outside_mono (V := [.fra, .frb, .frames, .evr, .out]) ?_ hW
  unfold State.segmentBegin
  (repeat' split) <;> simp +decide

end Sys2Proof.Machine
end

