-- ==== Sys2Proof/Laws/Frames/Voter.lean ====
section
/-!
SUPPORT. What the operations of Machine/Voter.lean leave alone: one lemma each, for every part of the state the operation
does not write.
-/
namespace Sys2Proof.Machine

@[simp] theorem State.safeEnter_frame (s : State) (x1) (W : List Part)
    (hW : Part.within [.dev, .saf, .fra, .frb, .frames, .pair, .dict, .evr, .out] W = true) : (s.safeEnter x1).outside
    W = s.outside W := by
  refine State.outside_mono (V := [.dev, .saf, .fra, .frb, .frames, .pair, .dict, .evr, .out]) ?_ hW
  unfold State.safeEnter
  (repeat' split) <;> simp +decide

end Sys2Proof.Machine
end

