-- ==== Sys2Proof/Laws/Frames/Permit.lean ====
section
/-!
SUPPORT. What the operations of Machine/Permit.lean leave alone: one lemma each, for every part of the state the operation
does not write.
-/
namespace Sys2Proof.Machine

@[simp] theorem State.fraDrop_frame (s : State) (W : List Part)
    (hW : Part.within [.fra] W = true) : (s.fraDrop).outside W = s.outside W := by
  refine State.outside_mono (V := [.fra]) ?_ hW
  unfold State.fraDrop
  simp +decide

@[simp] theorem State.takeoverTime_frame (s : State) (W : List Part)
    (hW : Part.within [.pair] W = true) : (s.takeoverTime).outside W = s.outside W := by
  refine State.outside_mono (V := [.pair]) ?_ hW
  simp only [State.takeoverTime]
  (repeat' split) <;> simp +decide

@[simp] theorem State.permitSend_frame (s : State) (x1) (x2) (W : List Part)
    (hW : Part.within [.saf, .fra, .frb, .frames, .pair, .evr, .out] W = true) : (s.permitSend x1 x2).1.outside W =
    s.outside W := by
  refine State.outside_mono (V := [.saf, .fra, .frb, .frames, .pair, .evr, .out]) ?_ hW
  simp only [State.permitSend]
  (repeat' split) <;> simp_all +decide

theorem State.permitSend_via {s : State} {x1} {x2} {t : State} {y} (h : s.permitSend x1 x2 = (t, y)) (W : List Part)
    (hW : Part.within [.saf, .fra, .frb, .frames, .pair, .evr, .out] W = true) : t.outside W = s.outside W := by
  have H := State.permitSend_frame s x1 x2 W hW
  rwa [h] at H

@[simp] theorem State.permitTimes_frame (s : State) (x1) (W : List Part)
    (hW : Part.within [.upd, .start] W = true) : (s.permitTimes x1).outside W = s.outside W := by
  refine State.outside_mono (V := [.upd, .start]) ?_ hW
  unfold State.permitTimes
  (repeat' split) <;> simp +decide

@[simp] theorem State.fraSent_frame (s : State) (W : List Part)
    (hW : Part.within [.fra, .frb] W = true) : (s.fraSent).outside W = s.outside W := by
  refine State.outside_mono (V := [.fra, .frb]) ?_ hW
  unfold State.fraSent
  simp +decide

@[simp] theorem State.permitEnd_frame (s : State) (x1) (W : List Part)
    (hW : Part.within [.fra, .frb, .upd, .start] W = true) : (s.permitEnd x1).outside W = s.outside W := by
  refine State.outside_mono (V := [.fra, .frb, .upd, .start]) ?_ hW
  unfold State.permitEnd
  (repeat' split) <;> simp +decide

@[simp] theorem State.permitUnsent_frame (s : State) (W : List Part)
    (hW : Part.within [.saf, .fra] W = true) : (s.permitUnsent).outside W = s.outside W := by
  refine State.outside_mono (V := [.saf, .fra]) ?_ hW
  unfold State.permitUnsent
  simp +decide

@[simp] theorem State.permitNext_frame (s : State) (x1) (W : List Part)
    (hW : Part.within [.saf, .fra] W = true) : (s.permitNext x1).outside W = s.outside W := by
  refine State.outside_mono (V := [.saf, .fra]) ?_ hW
  unfold State.permitNext
  (repeat' split) <;> simp +decide

@[simp] theorem State.permitBad_frame (s : State) (W : List Part)
    (hW : Part.within [.dev, .saf, .fra, .frb, .frames, .pair, .dict, .evr, .out] W = true) : (s.permitBad).outside W
    = s.outside W := by
  refine State.outside_mono (V := [.dev, .saf, .fra, .frb, .frames, .pair, .dict, .evr, .out]) ?_ hW
  unfold State.permitBad
  simp +decide

@[simp] theorem State.permitGo_frame (s : State) (x1) (x2) (x3) (x4) (W : List Part)
    (hW : Part.within [.dev, .saf, .fra, .frb, .frames, .pair, .dict, .evr, .out] W = true) : (s.permitGo x1 x2 x3
    x4).outside W = s.outside W := by
  refine State.outside_mono (V := [.dev, .saf, .fra, .frb, .frames, .pair, .dict, .evr, .out]) ?_ hW
  simp only [State.permitGo]
  (repeat' split) <;> simp_all +decide

@[simp] theorem State.permitAt_frame (s : State) (x1) (x2) (x3) (W : List Part)
    (hW : Part.within [.dev, .saf, .fra, .frb, .frames, .pair, .dict, .evr, .out] W = true) : (s.permitAt x1 x2
    x3).outside W = s.outside W := by
  refine State.outside_mono (V := [.dev, .saf, .fra, .frb, .frames, .pair, .dict, .evr, .out]) ?_ hW
  unfold State.permitAt
  (repeat' split) <;> simp +decide

@[simp] theorem State.permitBegin_frame (s : State) (x1) (x2) (W : List Part)
    (hW : Part.within [.dev, .saf, .fra, .frb, .frames, .tim, .pair, .dict, .evr, .out] W = true) : (s.permitBegin x1
    x2).outside W = s.outside W := by
  refine State.outside_mono (V := [.dev, .saf, .fra, .frb, .frames, .tim, .pair, .dict, .evr, .out]) ?_ hW
  unfold State.permitBegin
  (repeat' split) <;> simp +decide

@[simp] theorem State.burstOver_frame (s : State) (x1) (W : List Part)
    (hW : Part.within [.dev, .saf, .fra, .frb, .frames, .tim, .pair, .dict, .evr, .out] W = true) : (s.burstOver
    x1).outside W = s.outside W := by
  refine State.outside_mono (V := [.dev, .saf, .fra, .frb, .frames, .tim, .pair, .dict, .evr, .out]) ?_ hW
  simp only [State.burstOver]
  (repeat' split) <;> simp +decide

@[simp] theorem State.stopStep_frame (s : State) (x1) (W : List Part)
    (hW : Part.within [.dev, .saf, .fra, .frb, .frames, .tim, .pair, .dict, .evr, .out] W = true) : (s.stopStep
    x1).outside W = s.outside W := by
  refine State.outside_mono (V := [.dev, .saf, .fra, .frb, .frames, .tim, .pair, .dict, .evr, .out]) ?_ hW
  simp only [State.stopStep]
  (repeat' split) <;> simp +decide

@[simp] theorem State.segmentEnd_frame (s : State) (W : List Part)
    (hW : Part.within [.fra, .frb, .frames] W = true) : (s.segmentEnd).outside W = s.outside W := by
  refine State.outside_mono (V := [.fra, .frb, .frames]) ?_ hW
  unfold State.segmentEnd
  (repeat' split) <;> simp +decide

@[simp] theorem State.fraOff_frame (s : State) (W : List Part)
    (hW : Part.within [.fra] W = true) : (s.fraOff).outside W = s.outside W := by
  refine State.outside_mono (V := [.fra]) ?_ hW
  unfold State.fraOff
  simp +decide

@[simp] theorem State.permitVoted_frame (s : State) (W : List Part)
    (hW : Part.within [.dev, .saf, .fra, .frb, .frames, .pair, .dict, .evr, .out] W = true) : (s.permitVoted).outside
    W = s.outside W := by
  refine State.outside_mono (V := [.dev, .saf, .fra, .frb, .frames, .pair, .dict, .evr, .out]) ?_ hW
  simp only [State.permitVoted]
  (repeat' split) <;> simp +decide

@[simp] theorem State.stopListenEnd_frame (s : State) (x1) (x2) (x3) (W : List Part)
    (hW : Part.within [.dev, .saf, .fra, .frb, .frames, .tim, .pair, .dict, .evr, .out] W = true) : (s.stopListenEnd
    x1 x2 x3).outside W = s.outside W := by
  refine State.outside_mono (V := [.dev, .saf, .fra, .frb, .frames, .tim, .pair, .dict, .evr, .out]) ?_ hW
  simp only [State.stopListenEnd]
  (repeat' split) <;> simp_all +decide

@[simp] theorem State.permitClear_frame (s : State) (x1) (x2) (W : List Part)
    (hW : Part.within [.dev, .saf, .fra, .frb, .frames, .tim, .pair, .dict, .evr, .out] W = true) : (s.permitClear x1
    x2).outside W = s.outside W := by
  refine State.outside_mono (V := [.dev, .saf, .fra, .frb, .frames, .tim, .pair, .dict, .evr, .out]) ?_ hW
  simp only [State.permitClear]
  (repeat' split) <;> simp +decide

end Sys2Proof.Machine
end

