-- ==== Sys2Proof/Laws/Frames/Items.lean ====
section
/-!
SUPPORT. What the operations of Machine/Items.lean leave alone: one lemma each, for every part of the state the operation
does not write.
-/
namespace Sys2Proof.Machine

@[simp] theorem State.addDue_frame (s : State) (x1) (x2) (W : List Part)
    (hW : Part.within [.frames] W = true) : (s.addDue x1 x2).outside W = s.outside W := by
  refine State.outside_mono (V := [.frames]) ?_ hW
  unfold State.addDue
  simp +decide

@[simp] theorem State.complete_frame (s : State) (x1) (x2) (x3) (x4) (x5) (W : List Part)
    (hW : Part.within [.cores, .ques] W = true) : (s.complete x1 x2 x3 x4 x5).outside W = s.outside W := by
  refine State.outside_mono (V := [.cores, .ques]) ?_ hW
  simp +decide [State.complete]

@[simp] theorem State.completeFrame_frame (s : State) (x1) (x2) (x3) (x4) (x5) (W : List Part)
    (hW : Part.within [.cores, .ques] W = true) : (s.completeFrame x1 x2 x3 x4 x5).outside W = s.outside W := by
  refine State.outside_mono (V := [.cores, .ques]) ?_ hW
  unfold State.completeFrame
  (repeat' split) <;> simp +decide

@[simp] theorem State.policyEvent_frame (s : State) (x1) (x2) (x3) (x4) (W : List Part)
    (hW : Part.within [.fleet, .cores, .ques] W = true) : (s.policyEvent x1 x2 x3 x4).outside W = s.outside W := by
  refine State.outside_mono (V := [.fleet, .cores, .ques]) ?_ hW
  simp only [State.policyEvent]
  repeat' split
  · simp +decide
  · rename_i h
    have H0 := State.enginePush_frame h
    simp_all +decide
  · simp +decide

@[simp] theorem State.dropDue_frame (s : State) (x1) (W : List Part)
    (hW : Part.within [.frames] W = true) : (s.dropDue x1).outside W = s.outside W := by
  refine State.outside_mono (V := [.frames]) ?_ hW
  unfold State.dropDue
  simp +decide

@[simp] theorem State.dueAgain_frame (s : State) (W : List Part)
    (hW : Part.within [.frames] W = true) : (s.dueAgain).outside W = s.outside W := by
  refine State.outside_mono (V := [.frames]) ?_ hW
  unfold State.dueAgain
  simp +decide

@[simp] theorem State.frbQueue_frame (s : State) (x1) (W : List Part)
    (hW : Part.within [.frb] W = true) : (s.frbQueue x1).outside W = s.outside W := by
  refine State.outside_mono (V := [.frb]) ?_ hW
  unfold State.frbQueue
  simp +decide

@[simp] theorem State.packMember_frame (s : State) (x1) (W : List Part)
    (hW : Part.within [.frb, .frames] W = true) : (s.packMember x1).outside W = s.outside W := by
  refine State.outside_mono (V := [.frb, .frames]) ?_ hW
  simp only [State.packMember]
  (repeat' split) <;> simp +decide

@[simp] theorem State.packAll_frame (s : State) (W : List Part)
    (hW : Part.within [.frb, .frames] W = true) : (s.packAll).outside W = s.outside W := by
  refine State.outside_mono (V := [.frb, .frames]) ?_ hW
  unfold State.packAll
  simp +decide

end Sys2Proof.Machine
end

