-- ==== Sys2Proof/Laws/Frames/Tasks.lean ====
section
/-!
SUPPORT. What the operations of Machine/Tasks.lean leave alone: one lemma each, for every part of the state the operation
does not write.
-/
namespace Sys2Proof.Machine

@[simp] theorem State.setMember_frame (s : State) (x1) (x2) (W : List Part)
    (hW : Part.within [.fleet] W = true) : (s.setMember x1 x2).outside W = s.outside W := by
  refine State.outside_mono (V := [.fleet]) ?_ hW
  unfold State.setMember
  simp +decide

@[simp] theorem State.setTask_frame (s : State) (x1) (x2) (W : List Part)
    (hW : Part.within [.fleet] W = true) : (s.setTask x1 x2).outside W = s.outside W := by
  refine State.outside_mono (V := [.fleet]) ?_ hW
  unfold State.setTask
  simp +decide

@[simp] theorem State.taskTold_frame (s : State) (x1) (W : List Part)
    (hW : Part.within [.fleet, .cores, .ques] W = true) : (s.taskTold x1).outside W = s.outside W := by
  refine State.outside_mono (V := [.fleet, .cores, .ques]) ?_ hW
  unfold State.taskTold
  simp +decide

@[simp] theorem State.taskLeaves_frame (s : State) (x1) (x2) (x3) (W : List Part)
    (hW : Part.within [.fleet, .frames, .cores, .ques] W = true) : (s.taskLeaves x1 x2 x3).outside W = s.outside W :=
    by
  refine State.outside_mono (V := [.fleet, .frames, .cores, .ques]) ?_ hW
  unfold State.taskLeaves
  (repeat' split) <;> simp +decide

@[simp] theorem State.taskWithdraw_frame (s : State) (x1) (W : List Part)
    (hW : Part.within [.fleet, .frames, .cores, .ques] W = true) : (s.taskWithdraw x1).outside W = s.outside W := by
  refine State.outside_mono (V := [.fleet, .frames, .cores, .ques]) ?_ hW
  simp only [State.taskWithdraw]
  (repeat' split) <;> simp +decide

@[simp] theorem State.withdrawAll_frame (s : State) (x1) (W : List Part)
    (hW : Part.within [.fleet, .frames, .cores, .ques] W = true) : (s.withdrawAll x1).outside W = s.outside W := by
  refine State.outside_mono (V := [.fleet, .frames, .cores, .ques]) ?_ hW
  unfold State.withdrawAll
  simp +decide

@[simp] theorem State.setTfc_frame (s : State) (x1) (x2) (W : List Part)
    (hW : Part.within [.fleet] W = true) : (s.setTfc x1 x2).outside W = s.outside W := by
  refine State.outside_mono (V := [.fleet]) ?_ hW
  unfold State.setTfc
  simp +decide

@[simp] theorem State.staleTold_frame (s : State) (x1) (x2) (x3) (x4) (W : List Part)
    (hW : Part.within [.fleet, .evr, .out] W = true) : (s.staleTold x1 x2 x3 x4).outside W = s.outside W := by
  refine State.outside_mono (V := [.fleet, .evr, .out]) ?_ hW
  unfold State.staleTold
  simp +decide

@[simp] theorem State.stepRelease_frame (s : State) (x1) (x2) (W : List Part)
    (hW : Part.within [.fleet, .frames] W = true) : (s.stepRelease x1 x2).outside W = s.outside W := by
  refine State.outside_mono (V := [.fleet, .frames]) ?_ hW
  simp only [State.stepRelease]
  (repeat' split) <;> simp +decide

@[simp] theorem State.stepsRelease_frame (s : State) (x1) (W : List Part)
    (hW : Part.within [.fleet, .frames] W = true) : (s.stepsRelease x1).outside W = s.outside W := by
  refine State.outside_mono (V := [.fleet, .frames]) ?_ hW
  unfold State.stepsRelease
  simp +decide

@[simp] theorem State.taskAllot_frame (s : State) (x1) (x2) (W : List Part)
    (hW : Part.within [.fleet, .frames, .cores, .ques] W = true) : (s.taskAllot x1 x2).outside W = s.outside W := by
  refine State.outside_mono (V := [.fleet, .frames, .cores, .ques]) ?_ hW
  unfold State.taskAllot
  simp +decide

@[simp] theorem State.tfcEnds_frame (s : State) (x1) (x2) (W : List Part)
    (hW : Part.within [.fleet] W = true) : (s.tfcEnds x1 x2).outside W = s.outside W := by
  refine State.outside_mono (V := [.fleet]) ?_ hW
  unfold State.tfcEnds
  simp +decide

@[simp] theorem State.tfcCancel_frame (s : State) (x1) (W : List Part)
    (hW : Part.within [.fleet] W = true) : (s.tfcCancel x1).outside W = s.outside W := by
  refine State.outside_mono (V := [.fleet]) ?_ hW
  unfold State.tfcCancel
  (repeat' split) <;> simp +decide

@[simp] theorem State.taskCancel_frame (s : State) (x1) (W : List Part)
    (hW : Part.within [.fleet, .frames, .cores, .ques] W = true) : (s.taskCancel x1).outside W = s.outside W := by
  refine State.outside_mono (V := [.fleet, .frames, .cores, .ques]) ?_ hW
  unfold State.taskCancel
  simp +decide

@[simp] theorem State.taskDelete_frame (s : State) (x1) (W : List Part)
    (hW : Part.within [.fleet] W = true) : (s.taskDelete x1).outside W = s.outside W := by
  refine State.outside_mono (V := [.fleet]) ?_ hW
  simp +decide (disch := first | decide | (intros; (repeat' split) <;> simp +decide)) [State.taskDelete]

@[simp] theorem State.tfcFail_frame (s : State) (x1) (W : List Part)
    (hW : Part.within [.fleet, .frames, .cores, .ques] W = true) : (s.tfcFail x1).outside W = s.outside W := by
  refine State.outside_mono (V := [.fleet, .frames, .cores, .ques]) ?_ hW
  simp only [State.tfcFail]
  (repeat' split) <;> simp +decide

@[simp] theorem State.tfcAcked_frame (s : State) (x1) (W : List Part)
    (hW : Part.within [.fleet, .frames] W = true) : (s.tfcAcked x1).outside W = s.outside W := by
  refine State.outside_mono (V := [.fleet, .frames]) ?_ hW
  simp only [State.tfcAcked]
  (repeat' split) <;> simp +decide

end Sys2Proof.Machine
end

