-- ==== Sys2Proof/Laws/Frames/Members.lean ====
section
/-!
SUPPORT. What the operations of Machine/Members.lean leave alone: one lemma each, for every part of the state the operation
does not write.
-/
namespace Sys2Proof.Machine

@[simp] theorem State.freeze_frame (s : State) (x1) (W : List Part)
    (hW : Part.within [.cre, .cores, .ques, .evr, .out, .ans] W = true) : (s.freeze x1).outside W = s.outside W := by
  refine State.outside_mono (V := [.cre, .cores, .ques, .evr, .out, .ans]) ?_ hW
  unfold State.freeze
  (repeat' split) <;> simp +decide

@[simp] theorem State.memberTo_frame (s : State) (x1) (x2) (W : List Part)
    (hW : Part.within [.fleet, .cores, .ques] W = true) : (s.memberTo x1 x2).outside W = s.outside W := by
  refine State.outside_mono (V := [.fleet, .cores, .ques]) ?_ hW
  simp only [State.memberTo]
  (repeat' split) <;> simp +decide

@[simp] theorem State.memberSilent_frame (s : State) (x1) (W : List Part)
    (hW : Part.within [.cre, .fleet, .cores, .ques, .evr, .out, .ans] W = true) : (s.memberSilent x1).outside W =
    s.outside W := by
  refine State.outside_mono (V := [.cre, .fleet, .cores, .ques, .evr, .out, .ans]) ?_ hW
  unfold State.memberSilent
  simp +decide

@[simp] theorem State.minislotEnd_frame (s : State) (x1) (W : List Part)
    (hW : Part.within [.cre, .fleet, .cores, .ques, .evr, .out, .ans] W = true) : (s.minislotEnd x1).outside W =
    s.outside W := by
  refine State.outside_mono (V := [.cre, .fleet, .cores, .ques, .evr, .out, .ans]) ?_ hW
  simp only [State.minislotEnd]
  (repeat' split) <;> simp +decide

@[simp] theorem State.memberInactive_frame (s : State) (x1) (W : List Part)
    (hW : Part.within [.cre] W = true) : (s.memberInactive x1).outside W = s.outside W := by
  refine State.outside_mono (V := [.cre]) ?_ hW
  unfold State.memberInactive
  simp +decide

@[simp] theorem State.joiningEnds_frame (s : State) (x1) (W : List Part)
    (hW : Part.within [.cre, .fleet, .cores, .ques] W = true) : (s.joiningEnds x1).outside W = s.outside W := by
  refine State.outside_mono (V := [.cre, .fleet, .cores, .ques]) ?_ hW
  simp only [State.joiningEnds]
  (repeat' split) <;> simp +decide

@[simp] theorem State.membersRun_frame (s : State) (W : List Part)
    (hW : Part.within [.cre, .fleet, .cores, .ques] W = true) : (s.membersRun).outside W = s.outside W := by
  refine State.outside_mono (V := [.cre, .fleet, .cores, .ques]) ?_ hW
  unfold State.membersRun
  simp +decide

@[simp] theorem State.roleAsk_frame (s : State) (x1) (x2) (W : List Part)
    (hW : Part.within [.fleet, .frames] W = true) : (s.roleAsk x1 x2).outside W = s.outside W := by
  refine State.outside_mono (V := [.fleet, .frames]) ?_ hW
  unfold State.roleAsk
  simp +decide

@[simp] theorem State.rolesEffect_frame (s : State) (W : List Part)
    (hW : Part.within [.fleet] W = true) : (s.rolesEffect).outside W = s.outside W := by
  refine State.outside_mono (V := [.fleet]) ?_ hW
  simp only [State.rolesEffect]
  (repeat' split) <;> simp +decide (disch := first | decide | (intros; (repeat' split) <;> simp +decide))

@[simp] theorem State.acceptPair_frame (s : State) (x1) (W : List Part)
    (hW : Part.within [.frames] W = true) : (s.acceptPair x1).1.outside W = s.outside W := by
  refine State.outside_mono (V := [.frames]) ?_ hW
  simp only [State.acceptPair]
  (repeat' split) <;> simp +decide

theorem State.acceptPair_via {s : State} {x1} {t : State} {y} (h : s.acceptPair x1 = (t, y)) (W : List Part)
    (hW : Part.within [.frames] W = true) : t.outside W = s.outside W := by
  have H := State.acceptPair_frame s x1 W hW
  rwa [h] at H

@[simp] theorem State.heardFrom_frame (s : State) (x1) (W : List Part)
    (hW : Part.within [.fleet] W = true) : (s.heardFrom x1).outside W = s.outside W := by
  refine State.outside_mono (V := [.fleet]) ?_ hW
  unfold State.heardFrom
  simp +decide

@[simp] theorem State.thaw_frame (s : State) (x1) (W : List Part)
    (hW : Part.within [.cre, .cores, .ques, .evr, .out, .ans] W = true) : (s.thaw x1).outside W = s.outside W := by
  refine State.outside_mono (V := [.cre, .cores, .ques, .evr, .out, .ans]) ?_ hW
  unfold State.thaw
  (repeat' split) <;> simp +decide

@[simp] theorem State.heardOther_frame (s : State) (x1) (W : List Part)
    (hW : Part.within [.cre, .fleet, .cores, .ques, .evr, .out, .ans] W = true) : (s.heardOther x1).outside W =
    s.outside W := by
  refine State.outside_mono (V := [.cre, .fleet, .cores, .ques, .evr, .out, .ans]) ?_ hW
  unfold State.heardOther
  (repeat' split) <;> simp +decide

@[simp] theorem State.taskRuns_frame (s : State) (x1) (x2) (W : List Part)
    (hW : Part.within [.fleet, .cores, .ques] W = true) : (s.taskRuns x1 x2).outside W = s.outside W := by
  refine State.outside_mono (V := [.fleet, .cores, .ques]) ?_ hW
  simp only [State.taskRuns]
  (repeat' split) <;> simp +decide

@[simp] theorem State.unknownCorridor_frame (s : State) (x1) (x2) (W : List Part)
    (hW : Part.within [.cre, .fleet, .pair, .cores, .ques, .evr, .out, .ans] W = true) : (s.unknownCorridor x1
    x2).outside W = s.outside W := by
  refine State.outside_mono (V := [.cre, .fleet, .pair, .cores, .ques, .evr, .out, .ans]) ?_ hW
  unfold State.unknownCorridor
  (repeat' split) <;> simp +decide

@[simp] theorem State.progress_frame (x0) (s : State) (x2) (W : List Part)
    (hW : Part.within [.cre, .fleet, .pair, .cores, .ques, .evr, .out, .ans] W = true) : (State.progress x0 s
    x2).outside W = s.outside W := by
  refine State.outside_mono (V := [.cre, .fleet, .pair, .cores, .ques, .evr, .out, .ans]) ?_ hW
  unfold State.progress
  (repeat' split) <;> simp +decide

@[simp] theorem State.taskResult_frame (s : State) (x1) (x2) (W : List Part)
    (hW : Part.within [.fleet, .cores, .ques] W = true) : (s.taskResult x1 x2).outside W = s.outside W := by
  refine State.outside_mono (V := [.fleet, .cores, .ques]) ?_ hW
  simp only [State.taskResult]
  (repeat' split) <;> simp +decide

@[simp] theorem State.reportNotes_frame (s : State) (x1) (x2) (W : List Part)
    (hW : Part.within [.fleet] W = true) : (s.reportNotes x1 x2).outside W = s.outside W := by
  refine State.outside_mono (V := [.fleet]) ?_ hW
  unfold State.reportNotes
  simp +decide

@[simp] theorem State.renewalHeard_frame (s : State) (x1) (W : List Part)
    (hW : Part.within [.frames, .sec] W = true) : (s.renewalHeard x1).outside W = s.outside W := by
  refine State.outside_mono (V := [.frames, .sec]) ?_ hW
  unfold State.renewalHeard
  (repeat' split) <;> simp +decide

@[simp] theorem State.taskStep_frame (s : State) (x1) (x2) (W : List Part)
    (hW : Part.within [.fleet, .cores, .ques] W = true) : (s.taskStep x1 x2).outside W = s.outside W := by
  refine State.outside_mono (V := [.fleet, .cores, .ques]) ?_ hW
  simp only [State.taskStep]
  (repeat' split) <;> simp +decide

@[simp] theorem State.taskItem_frame (s : State) (x1) (x2) (W : List Part)
    (hW : Part.within [.fleet, .frames, .cores, .ques, .evr, .out] W = true) : (s.taskItem x1 x2).outside W =
    s.outside W := by
  refine State.outside_mono (V := [.fleet, .frames, .cores, .ques, .evr, .out]) ?_ hW
  simp only [State.taskItem]
  (repeat' split) <;> simp +decide

@[simp] theorem State.reportActs_frame (s : State) (x1) (x2) (W : List Part)
    (hW : Part.within [.cre, .fleet, .frames, .pair, .cores, .ques, .sec, .evr, .out, .ans] W = true) : (s.reportActs
    x1 x2).outside W = s.outside W := by
  refine State.outside_mono (V := [.cre, .fleet, .frames, .pair, .cores, .ques, .sec, .evr, .out, .ans]) ?_ hW
  unfold State.reportActs
  (repeat' split) <;> simp +decide

@[simp] theorem State.reportRun_frame (s : State) (x1) (x2) (x3) (W : List Part)
    (hW : Part.within [.cre, .fleet, .frames, .pair, .cores, .ques, .sec, .evr, .out, .ans] W = true) : (s.reportRun
    x1 x2 x3).outside W = s.outside W := by
  refine State.outside_mono (V := [.cre, .fleet, .frames, .pair, .cores, .ques, .sec, .evr, .out, .ans]) ?_ hW
  unfold State.reportRun
  (repeat' split) <;> simp +decide

@[simp] theorem State.joinIgnored_frame (s : State) (W : List Part)
    (hW : Part.within [.fleet] W = true) : (s.joinIgnored).outside W = s.outside W := by
  refine State.outside_mono (V := [.fleet]) ?_ hW
  unfold State.joinIgnored
  simp +decide

@[simp] theorem State.rejoin_frame (s : State) (x1) (W : List Part)
    (hW : Part.within [.cre, .fleet, .frames, .cores, .ques, .evr, .out, .ans] W = true) : (s.rejoin x1).outside W =
    s.outside W := by
  refine State.outside_mono (V := [.cre, .fleet, .frames, .cores, .ques, .evr, .out, .ans]) ?_ hW
  unfold State.rejoin
  simp +decide

@[simp] theorem State.joinAccept_frame (s : State) (x1) (x2) (W : List Part)
    (hW : Part.within [.cre, .fleet, .frb, .frames, .cores, .ques, .evr, .out, .ans] W = true) : (s.joinAccept x1
    x2).outside W = s.outside W := by
  refine State.outside_mono (V := [.cre, .fleet, .frb, .frames, .cores, .ques, .evr, .out, .ans]) ?_ hW
  unfold State.joinAccept
  (repeat' split) <;> simp +decide

end Sys2Proof.Machine
end

