-- ==== Sys2Proof/Laws/Frames/Survey.lean ====
section
/-!
SUPPORT. What the operations of Machine/Survey.lean leave alone: one lemma each, for every part of the state the operation
does not write.
-/
namespace Sys2Proof.Machine

@[simp] theorem State.setCorr_frame (s : State) (x1) (W : List Part)
    (hW : Part.within [.corr] W = true) : (s.setCorr x1).outside W = s.outside W := by
  refine State.outside_mono (V := [.corr]) ?_ hW
  unfold State.setCorr
  simp +decide

@[simp] theorem State.setTsl_frame (s : State) (x1) (W : List Part)
    (hW : Part.within [.tsl] W = true) : (s.setTsl x1).outside W = s.outside W := by
  refine State.outside_mono (V := [.tsl]) ?_ hW
  unfold State.setTsl
  simp +decide

@[simp] theorem State.selfSurveyAbort_frame (s : State) (W : List Part)
    (hW : Part.within [.corr] W = true) : (s.selfSurveyAbort).outside W = s.outside W := by
  refine State.outside_mono (V := [.corr]) ?_ hW
  unfold State.selfSurveyAbort
  simp +decide

@[simp] theorem State.mismatchAck_frame (s : State) (W : List Part)
    (hW : Part.within [.corr, .ans] W = true) : (s.mismatchAck).outside W = s.outside W := by
  refine State.outside_mono (V := [.corr, .ans]) ?_ hW
  unfold State.mismatchAck
  simp +decide

@[simp] theorem State.selfSurveyStart_frame (s : State) (W : List Part)
    (hW : Part.within [.corr, .ans] W = true) : (s.selfSurveyStart).outside W = s.outside W := by
  refine State.outside_mono (V := [.corr, .ans]) ?_ hW
  unfold State.selfSurveyStart
  (repeat' split) <;> simp +decide

@[simp] theorem State.selfSurveyAdopt_frame (s : State) (W : List Part)
    (hW : Part.within [.corr, .dict, .evr, .out, .ans] W = true) : (s.selfSurveyAdopt).outside W = s.outside W := by
  refine State.outside_mono (V := [.corr, .dict, .evr, .out, .ans]) ?_ hW
  simp only [State.selfSurveyAdopt]
  (repeat' split) <;> simp +decide

@[simp] theorem State.stationWrite_frame (s : State) (x1) (x2) (W : List Part)
    (hW : Part.within [.corr, .dict, .evr, .out, .ans] W = true) : (s.stationWrite x1 x2).outside W = s.outside W :=
    by
  refine State.outside_mono (V := [.corr, .dict, .evr, .out, .ans]) ?_ hW
  simp only [State.stationWrite]
  (repeat' split) <;> simp +decide

@[simp] theorem State.mismatchCheck_frame (s : State) (W : List Part)
    (hW : Part.within [.corr, .evr, .out] W = true) : (s.mismatchCheck).outside W = s.outside W := by
  refine State.outside_mono (V := [.corr, .evr, .out]) ?_ hW
  unfold State.mismatchCheck
  (repeat' split) <;> simp +decide

@[simp] theorem State.noteSolution_frame (s : State) (x1) (W : List Part)
    (hW : Part.within [.corr] W = true) : (s.noteSolution x1).outside W = s.outside W := by
  refine State.outside_mono (V := [.corr]) ?_ hW
  simp only [State.noteSolution]
  (repeat' split) <;> simp +decide

@[simp] theorem State.surveySample_frame (s : State) (x1) (W : List Part)
    (hW : Part.within [.corr, .evr, .out] W = true) : (s.surveySample x1).outside W = s.outside W := by
  refine State.outside_mono (V := [.corr, .evr, .out]) ?_ hW
  simp only [State.surveySample]
  (repeat' split) <;> simp +decide

end Sys2Proof.Machine
end

