-- ==== Sys2Proof/Laws/Frames/Teasel.lean ====
section
/-!
SUPPORT. What the operations of Machine/Teasel.lean leave alone: one lemma each, for every part of the state the operation
does not write.
-/
namespace Sys2Proof.Machine

@[simp] theorem State.writeWord_frame (s : State) (x1) (W : List Part)
    (hW : Part.within [.saf] W = true) : (s.writeWord x1).outside W = s.outside W := by
  refine State.outside_mono (V := [.saf]) ?_ hW
  unfold State.writeWord
  simp +decide

@[simp] theorem State.integrityEnter_frame (s : State) (x1) (x2) (W : List Part)
    (hW : Part.within [.tsl, .dict, .evr, .out] W = true) : (s.integrityEnter x1 x2).outside W = s.outside W := by
  refine State.outside_mono (V := [.tsl, .dict, .evr, .out]) ?_ hW
  unfold State.integrityEnter
  (repeat' split) <;> simp +decide

@[simp] theorem State.teaselResume_frame (s : State) (W : List Part)
    (hW : Part.within [.tsl] W = true) : (s.teaselResume).outside W = s.outside W := by
  refine State.outside_mono (V := [.tsl]) ?_ hW
  unfold State.teaselResume
  (repeat' split) <;> simp +decide

@[simp] theorem State.baseSurveyAbort_frame (s : State) (W : List Part)
    (hW : Part.within [.tsl] W = true) : (s.baseSurveyAbort).outside W = s.outside W := by
  refine State.outside_mono (V := [.tsl]) ?_ hW
  unfold State.baseSurveyAbort
  simp +decide

@[simp] theorem State.surveysEnd_frame (s : State) (W : List Part)
    (hW : Part.within [.corr, .tsl] W = true) : (s.surveysEnd).outside W = s.outside W := by
  refine State.outside_mono (V := [.corr, .tsl]) ?_ hW
  unfold State.surveysEnd
  simp +decide

@[simp] theorem State.teaselStart_frame (s : State) (W : List Part)
    (hW : Part.within [.tsl, .dict, .evr, .out] W = true) : (s.teaselStart).outside W = s.outside W := by
  refine State.outside_mono (V := [.tsl, .dict, .evr, .out]) ?_ hW
  unfold State.teaselStart
  simp +decide

@[simp] theorem State.teaselMode_frame (s : State) (x1) (W : List Part)
    (hW : Part.within [.tsl, .dict, .evr, .out, .ans] W = true) : (s.teaselMode x1).outside W = s.outside W := by
  refine State.outside_mono (V := [.tsl, .dict, .evr, .out, .ans]) ?_ hW
  simp only [State.teaselMode]
  (repeat' split) <;> simp +decide

@[simp] theorem State.baseSurveyStart_frame (s : State) (W : List Part)
    (hW : Part.within [.tsl, .ans] W = true) : (s.baseSurveyStart).outside W = s.outside W := by
  refine State.outside_mono (V := [.tsl, .ans]) ?_ hW
  unfold State.baseSurveyStart
  (repeat' split) <;> simp +decide

@[simp] theorem State.baselineTaken_frame (s : State) (W : List Part)
    (hW : Part.within [.tsl, .dict, .evr, .out] W = true) : (s.baselineTaken).outside W = s.outside W := by
  refine State.outside_mono (V := [.tsl, .dict, .evr, .out]) ?_ hW
  unfold State.baselineTaken
  simp +decide

@[simp] theorem State.baselineWrite_frame (s : State) (x1) (x2) (W : List Part)
    (hW : Part.within [.tsl, .dict, .evr, .out, .ans] W = true) : (s.baselineWrite x1 x2).outside W = s.outside W :=
    by
  refine State.outside_mono (V := [.tsl, .dict, .evr, .out, .ans]) ?_ hW
  simp only [State.baselineWrite]
  (repeat' split) <;> simp +decide

@[simp] theorem State.baseSurveyAdopt_frame (s : State) (W : List Part)
    (hW : Part.within [.tsl, .dict, .evr, .out, .ans] W = true) : (s.baseSurveyAdopt).outside W = s.outside W := by
  refine State.outside_mono (V := [.tsl, .dict, .evr, .out, .ans]) ?_ hW
  simp only [State.baseSurveyAdopt]
  (repeat' split) <;> simp +decide

@[simp] theorem State.staleAt_frame (s : State) (x1) (W : List Part)
    (hW : Part.within [.tsl, .dict, .evr, .out] W = true) : (s.staleAt x1).outside W = s.outside W := by
  refine State.outside_mono (V := [.tsl, .dict, .evr, .out]) ?_ hW
  unfold State.staleAt
  simp +decide

@[simp] theorem State.integrityLeave_frame (s : State) (x1) (W : List Part)
    (hW : Part.within [.tsl, .dict, .evr, .out] W = true) : (s.integrityLeave x1).outside W = s.outside W := by
  refine State.outside_mono (V := [.tsl, .dict, .evr, .out]) ?_ hW
  unfold State.integrityLeave
  simp +decide

@[simp] theorem State.baseSurveySample_frame (s : State) (x1) (W : List Part)
    (hW : Part.within [.tsl, .evr, .out] W = true) : (s.baseSurveySample x1).outside W = s.outside W := by
  refine State.outside_mono (V := [.tsl, .evr, .out]) ?_ hW
  simp only [State.baseSurveySample]
  (repeat' split) <;> simp +decide

end Sys2Proof.Machine
end

