-- ==== Sys2Proof/Laws/Frames/Time.lean ====
section
/-!
SUPPORT. What the operations of Machine/Time.lean leave alone: one lemma each, for every part of the state the operation
does not write.
-/
namespace Sys2Proof.Machine

@[simp] theorem State.tbErr_frame (s : State) (x1) (W : List Part)
    (hW : Part.within [.tim] W = true) : (s.tbErr x1).outside W = s.outside W := by
  refine State.outside_mono (V := [.tim]) ?_ hW
  unfold State.tbErr
  (repeat' split) <;> simp +decide

@[simp] theorem State.stepArm_frame (s : State) (x1) (x2) (W : List Part)
    (hW : Part.within [.tim] W = true) : (s.stepArm x1 x2).outside W = s.outside W := by
  refine State.outside_mono (V := [.tim]) ?_ hW
  unfold State.stepArm
  (repeat' split) <;> simp +decide

@[simp] theorem State.stepCommand_frame (s : State) (x1) (x2) (W : List Part)
    (hW : Part.within [.tim, .cores, .ans] W = true) : (s.stepCommand x1 x2).outside W = s.outside W := by
  refine State.outside_mono (V := [.tim, .cores, .ans]) ?_ hW
  unfold State.stepCommand
  (repeat' split) <;> simp +decide

@[simp] theorem State.setPtp_frame (s : State) (x1) (x2) (W : List Part)
    (hW : Part.within [.tim] W = true) : (s.setPtp x1 x2).outside W = s.outside W := by
  refine State.outside_mono (V := [.tim]) ?_ hW
  unfold State.setPtp
  simp +decide

@[simp] theorem State.answerDelay_frame (s : State) (x1) (x2) (W : List Part)
    (hW : Part.within [.tim, .out] W = true) : (s.answerDelay x1 x2).outside W = s.outside W := by
  refine State.outside_mono (V := [.tim, .out]) ?_ hW
  simp only [State.answerDelay]
  (repeat' split) <;> simp +decide

@[simp] theorem State.slewWrite_frame (s : State) (x1) (x2) (W : List Part)
    (hW : Part.within [.tim] W = true) : (s.slewWrite x1 x2).outside W = s.outside W := by
  refine State.outside_mono (V := [.tim]) ?_ hW
  unfold State.slewWrite
  (repeat' split) <;> simp +decide

@[simp] theorem State.setEvt_frame (s : State) (x1) (x2) (W : List Part)
    (hW : Part.within [.tim] W = true) : (s.setEvt x1 x2).outside W = s.outside W := by
  refine State.outside_mono (V := [.tim]) ?_ hW
  unfold State.setEvt
  simp +decide

@[simp] theorem State.fbcLoad_frame (s : State) (W : List Part)
    (hW : Part.within [.tim, .evr] W = true) : (s.fbcLoad).outside W = s.outside W := by
  refine State.outside_mono (V := [.tim, .evr]) ?_ hW
  unfold State.fbcLoad
  simp +decide

@[simp] theorem State.ppsFromOd_frame (s : State) (x1) (W : List Part)
    (hW : Part.within [.tim] W = true) : (s.ppsFromOd x1).outside W = s.outside W := by
  refine State.outside_mono (V := [.tim]) ?_ hW
  unfold State.ppsFromOd
  simp +decide

@[simp] theorem State.nsRead_frame (s : State) (x1) (W : List Part)
    (hW : Part.within [.tim, .ans] W = true) : (s.nsRead x1).outside W = s.outside W := by
  refine State.outside_mono (V := [.tim, .ans]) ?_ hW
  unfold State.nsRead
  (repeat' split) <;> simp +decide

@[simp] theorem State.ppsBoundary_frame (s : State) (x1) (x2) (W : List Part)
    (hW : Part.within [.tim, .out] W = true) : (s.ppsBoundary x1 x2).outside W = s.outside W := by
  refine State.outside_mono (V := [.tim, .out]) ?_ hW
  simp only [State.ppsBoundary]
  (repeat' split) <;> simp +decide

end Sys2Proof.Machine
end

