-- ==== Sys2Proof/Laws/Frames/Corrections.lean ====
section
/-!
SUPPORT. What the operations of Machine/Corrections.lean leave alone: one lemma each, for every part of the state the operation
does not write.
-/
namespace Sys2Proof.Machine

@[simp] theorem State.verdictDone_frame (s : State) (x1) (x2) (W : List Part)
    (hW : Part.within [.corr, .tsl, .saf] W = true) : (s.verdictDone x1 x2).outside W = s.outside W := by
  refine State.outside_mono (V := [.corr, .tsl, .saf]) ?_ hW
  unfold State.verdictDone
  simp +decide

@[simp] theorem State.withhold_frame (s : State) (x1) (x2) (x3) (W : List Part)
    (hW : Part.within [.corr, .tsl, .saf, .dict, .evr, .out] W = true) : (s.withhold x1 x2 x3).outside W = s.outside W
    := by
  refine State.outside_mono (V := [.corr, .tsl, .saf, .dict, .evr, .out]) ?_ hW
  unfold State.withhold
  (repeat' split) <;> simp +decide

@[simp] theorem State.sessionsClose_frame (s : State) (W : List Part)
    (hW : Part.within [.corr] W = true) : (s.sessionsClose).outside W = s.outside W := by
  refine State.outside_mono (V := [.corr]) ?_ hW
  unfold State.sessionsClose
  simp +decide

@[simp] theorem State.domainsFromOd_frame (s : State) (W : List Part)
    (hW : Part.within [.tim] W = true) : (s.domainsFromOd).outside W = s.outside W := by
  refine State.outside_mono (V := [.tim]) ?_ hW
  unfold State.domainsFromOd
  simp +decide

@[simp] theorem State.ntripOpen_frame (s : State) (W : List Part)
    (hW : Part.within [.corr, .out] W = true) : (s.ntripOpen).outside W = s.outside W := by
  refine State.outside_mono (V := [.corr, .out]) ?_ hW
  unfold State.ntripOpen
  (repeat' split) <;> simp +decide

@[simp] theorem State.releaseRadio_frame (s : State) (x1) (x2) (x3) (x4) (W : List Part)
    (hW : Part.within [.corr] W = true) : (s.releaseRadio x1 x2 x3 x4).outside W = s.outside W := by
  refine State.outside_mono (V := [.corr]) ?_ hW
  simp only [State.releaseRadio]
  (repeat' split) <;> simp +decide

@[simp] theorem State.releaseEth_frame (s : State) (x1) (x2) (x3) (W : List Part)
    (hW : Part.within [.corr, .out] W = true) : (s.releaseEth x1 x2 x3).outside W = s.outside W := by
  refine State.outside_mono (V := [.corr, .out]) ?_ hW
  simp only [State.releaseEth]
  (repeat' split) <;> simp +decide

@[simp] theorem State.release_frame (s : State) (x1) (x2) (x3) (x4) (W : List Part)
    (hW : Part.within [.corr, .out] W = true) : (s.release x1 x2 x3 x4).outside W = s.outside W := by
  refine State.outside_mono (V := [.corr, .out]) ?_ hW
  unfold State.release
  (repeat' split) <;> simp +decide

@[simp] theorem State.ntripFail_frame (s : State) (W : List Part)
    (hW : Part.within [.corr] W = true) : (s.ntripFail).outside W = s.outside W := by
  refine State.outside_mono (V := [.corr]) ?_ hW
  unfold State.ntripFail
  simp +decide

@[simp] theorem State.fbcMaintain_frame (s : State) (W : List Part)
    (hW : Part.within [.tim] W = true) : (s.fbcMaintain).outside W = s.outside W := by
  refine State.outside_mono (V := [.tim]) ?_ hW
  unfold State.fbcMaintain
  simp +decide

@[simp] theorem State.evtFromOd_frame (s : State) (W : List Part)
    (hW : Part.within [.tim] W = true) : (s.evtFromOd).outside W = s.outside W := by
  refine State.outside_mono (V := [.tim]) ?_ hW
  unfold State.evtFromOd
  simp +decide

@[simp] theorem State.noteCheck_frame (s : State) (x1) (x2) (W : List Part)
    (hW : Part.within [.tsl] W = true) : (s.noteCheck x1 x2).outside W = s.outside W := by
  refine State.outside_mono (V := [.tsl]) ?_ hW
  unfold State.noteCheck
  (repeat' split) <;> simp +decide

@[simp] theorem State.passed_frame (s : State) (x1) (W : List Part)
    (hW : Part.within [.tsl, .dict, .evr, .out] W = true) : (s.passed x1).outside W = s.outside W := by
  refine State.outside_mono (V := [.tsl, .dict, .evr, .out]) ?_ hW
  simp only [State.passed]
  (repeat' split) <;> simp +decide

@[simp] theorem State.verdictVerified_frame (s : State) (x1) (x2) (W : List Part)
    (hW : Part.within [.corr, .tsl, .saf, .dict, .evr, .out] W = true) : (s.verdictVerified x1 x2).outside W =
    s.outside W := by
  refine State.outside_mono (V := [.corr, .tsl, .saf, .dict, .evr, .out]) ?_ hW
  simp only [State.verdictVerified]
  (repeat' split) <;> simp +decide

@[simp] theorem State.verdictUnverified_frame (s : State) (x1) (x2) (W : List Part)
    (hW : Part.within [.corr, .tsl, .saf, .dict, .evr, .out] W = true) : (s.verdictUnverified x1 x2).outside W =
    s.outside W := by
  refine State.outside_mono (V := [.corr, .tsl, .saf, .dict, .evr, .out]) ?_ hW
  unfold State.verdictUnverified
  (repeat' split) <;> simp +decide

@[simp] theorem State.navLeap_frame (s : State) (x1) (W : List Part)
    (hW : Part.within [.tim] W = true) : (s.navLeap x1).outside W = s.outside W := by
  refine State.outside_mono (V := [.tim]) ?_ hW
  unfold State.navLeap
  simp +decide

@[simp] theorem State.secondBoundary_frame (s : State) (x1) (x2) (x3) (W : List Part)
    (hW : Part.within [.gbb, .corr, .tsl, .tim, .cores, .evr, .start, .out] W = true) : (s.secondBoundary x1 x2
    x3).outside W = s.outside W := by
  refine State.outside_mono (V := [.gbb, .corr, .tsl, .tim, .cores, .evr, .start, .out]) ?_ hW
  simp only [State.secondBoundary]
  (repeat' split) <;> simp +decide

end Sys2Proof.Machine
end

