-- ==== Sys2Proof/Laws/Frames/Frb.lean ====
section
/-!
SUPPORT. What the operations of Machine/Frb.lean leave alone: one lemma each, for every part of the state the operation
does not write.
-/
namespace Sys2Proof.Machine

@[simp] theorem State.frbTake_frame (s : State) (x1) (W : List Part)
    (hW : Part.within [.frb] W = true) : (s.frbTake x1).outside W = s.outside W := by
  refine State.outside_mono (V := [.frb]) ?_ hW
  unfold State.frbTake
  simp +decide

@[simp] theorem State.frbDrop_frame (s : State) (W : List Part)
    (hW : Part.within [.cre, .frb, .cores, .ques, .evr, .out, .ans] W = true) : (s.frbDrop).outside W = s.outside W :=
    by
  refine State.outside_mono (V := [.cre, .frb, .cores, .ques, .evr, .out, .ans]) ?_ hW
  unfold State.frbDrop
  simp +decide

@[simp] theorem State.frbOff_frame (s : State) (W : List Part)
    (hW : Part.within [.cre, .frb, .cores, .ques, .evr, .out, .ans] W = true) : (s.frbOff).outside W = s.outside W :=
    by
  refine State.outside_mono (V := [.cre, .frb, .cores, .ques, .evr, .out, .ans]) ?_ hW
  unfold State.frbOff
  simp +decide

@[simp] theorem State.frameLate_frame (s : State) (x1) (x2) (W : List Part)
    (hW : Part.within [.fra, .frb, .cores, .ques] W = true) : (s.frameLate x1 x2).outside W = s.outside W := by
  refine State.outside_mono (V := [.fra, .frb, .cores, .ques]) ?_ hW
  unfold State.frameLate
  simp +decide

@[simp] theorem State.frbForbid_frame (s : State) (x1) (W : List Part)
    (hW : Part.within [.fra, .frb, .cores, .ques] W = true) : (s.frbForbid x1).outside W = s.outside W := by
  refine State.outside_mono (V := [.fra, .frb, .cores, .ques]) ?_ hW
  unfold State.frbForbid
  (repeat' split) <;> simp +decide

@[simp] theorem State.frbCounter_frame (s : State) (x1) (W : List Part)
    (hW : Part.within [.frames, .evr, .out] W = true) : (s.frbCounter x1).2.outside W = s.outside W := by
  refine State.outside_mono (V := [.frames, .evr, .out]) ?_ hW
  unfold State.frbCounter
  (repeat' split) <;> simp_all +decide

theorem State.frbCounter_via {s : State} {x1} {t : State} {y} (h : s.frbCounter x1 = (y, t)) (W : List Part)
    (hW : Part.within [.frames, .evr, .out] W = true) : t.outside W = s.outside W := by
  have H := State.frbCounter_frame s x1 W hW
  rwa [h] at H

@[simp] theorem State.nodeSent_frame (s : State) (x1) (x2) (x3) (W : List Part)
    (hW : Part.within [.frames] W = true) : (s.nodeSent x1 x2 x3).outside W = s.outside W := by
  refine State.outside_mono (V := [.frames]) ?_ hW
  unfold State.nodeSent
  (repeat' split) <;> simp +decide

@[simp] theorem State.frbBegun_frame (s : State) (x1) (W : List Part)
    (hW : Part.within [.fleet, .frames] W = true) : (s.frbBegun x1).outside W = s.outside W := by
  refine State.outside_mono (V := [.fleet, .frames]) ?_ hW
  unfold State.frbBegun
  (repeat' split) <;> simp +decide

@[simp] theorem State.frbSend_frame (s : State) (x1) (x2) (W : List Part)
    (hW : Part.within [.fleet, .fra, .frb, .frames, .cores, .ques, .evr, .out] W = true) : (s.frbSend x1 x2).outside W
    = s.outside W := by
  refine State.outside_mono (V := [.fleet, .fra, .frb, .frames, .cores, .ques, .evr, .out]) ?_ hW
  induction x2 generalizing s with
  | zero => simp +decide [State.frbSend]
  | succ n ih => simp only [State.frbSend]; (repeat' split) <;> simp_all +decide

@[simp] theorem State.frbListen_frame (s : State) (x1) (W : List Part)
    (hW : Part.within [.frb] W = true) : (s.frbListen x1).outside W = s.outside W := by
  refine State.outside_mono (V := [.frb]) ?_ hW
  unfold State.frbListen
  (repeat' split) <;> simp +decide

@[simp] theorem State.frbServe_frame (s : State) (W : List Part)
    (hW : Part.within [.fleet, .fra, .frb, .frames, .cores, .ques, .evr, .out] W = true) : (s.frbServe).outside W =
    s.outside W := by
  refine State.outside_mono (V := [.fleet, .fra, .frb, .frames, .cores, .ques, .evr, .out]) ?_ hW
  simp only [State.frbServe]
  (repeat' split) <;> simp +decide

@[simp] theorem State.frbLaunch_frame (s : State) (W : List Part)
    (hW : Part.within [.fleet, .fra, .frb, .frames, .tim, .cores, .ques, .evr, .out] W = true) : (s.frbLaunch).outside
    W = s.outside W := by
  refine State.outside_mono (V := [.fleet, .fra, .frb, .frames, .tim, .cores, .ques, .evr, .out]) ?_ hW
  simp only [State.frbLaunch]
  (repeat' split) <;> simp +decide

@[simp] theorem State.descTake_frame (s : State) (x1) (x2) (W : List Part)
    (hW : Part.within [.cores, .ques] W = true) : (s.descTake x1 x2).outside W = s.outside W := by
  refine State.outside_mono (V := [.cores, .ques]) ?_ hW
  simp only [State.descTake]
  (repeat' split) <;> simp +decide

@[simp] theorem State.descriptor_frame (s : State) (x1) (x2) (x3) (W : List Part)
    (hW : Part.within [.fleet, .fra, .frb, .frames, .cores, .ques, .evr, .out] W = true) : (s.descriptor x1 x2
    x3).outside W = s.outside W := by
  refine State.outside_mono (V := [.fleet, .fra, .frb, .frames, .cores, .ques, .evr, .out]) ?_ hW
  simp only [State.descriptor]
  (repeat' split) <;> simp +decide

@[simp] theorem State.slotClose_frame (s : State) (W : List Part)
    (hW : Part.within [.frb, .cores, .ques] W = true) : (s.slotClose).outside W = s.outside W := by
  refine State.outside_mono (V := [.frb, .cores, .ques]) ?_ hW
  unfold State.slotClose
  (repeat' split) <;> simp +decide (disch := first | decide | (intros; (repeat' split) <;> simp +decide))

@[simp] theorem State.fragsQueue_frame (s : State) (W : List Part)
    (hW : Part.within [.corr, .frb] W = true) : (s.fragsQueue).outside W = s.outside W := by
  refine State.outside_mono (V := [.corr, .frb]) ?_ hW
  unfold State.fragsQueue
  (repeat' split) <;> simp +decide

@[simp] theorem State.frbEnd_frame (s : State) (x1) (W : List Part)
    (hW : Part.within [.fleet, .fra, .frb, .frames, .tim, .cores, .ques, .evr, .out] W = true) : (s.frbEnd x1).outside
    W = s.outside W := by
  refine State.outside_mono (V := [.fleet, .fra, .frb, .frames, .tim, .cores, .ques, .evr, .out]) ?_ hW
  simp only [State.frbEnd]
  (repeat' split) <;> simp +decide

@[simp] theorem State.frbListenEnd_frame (s : State) (x1) (x2) (x3) (W : List Part)
    (hW : Part.within [.fleet, .fra, .frb, .frames, .tim, .cores, .ques, .evr, .out] W = true) : (s.frbListenEnd x1 x2
    x3).outside W = s.outside W := by
  refine State.outside_mono (V := [.fleet, .fra, .frb, .frames, .tim, .cores, .ques, .evr, .out]) ?_ hW
  simp only [State.frbListenEnd]
  (repeat' split) <;> simp +decide

@[simp] theorem State.frbFrameEnd_frame (s : State) (W : List Part)
    (hW : Part.within [.fleet, .fra, .frb, .frames, .tim, .cores, .ques, .evr, .out] W = true) :
    (s.frbFrameEnd).outside W = s.outside W := by
  refine State.outside_mono (V := [.fleet, .fra, .frb, .frames, .tim, .cores, .ques, .evr, .out]) ?_ hW
  unfold State.frbFrameEnd
  (repeat' split) <;> simp +decide

end Sys2Proof.Machine
end

