-- ==== Sys2Proof/Laws/Frames/Nodes.lean ====
section
/-!
SUPPORT. What the operations of Machine/Nodes.lean leave alone: one lemma each, for every part of the state the operation
does not write.
-/
namespace Sys2Proof.Machine

@[simp] theorem State.scheduleWrite_frame (s : State) (x1) (x2) (x3) (W : List Part)
    (hW : Part.within [.frames, .dict, .ans] W = true) : (s.scheduleWrite x1 x2 x3).outside W = s.outside W := by
  refine State.outside_mono (V := [.frames, .dict, .ans]) ?_ hW
  simp only [State.scheduleWrite]
  (repeat' split) <;> simp +decide

@[simp] theorem State.nodeClock_frame (s : State) (x1) (x2) (W : List Part)
    (hW : Part.within [.frames, .evr, .out] W = true) : (s.nodeClock x1 x2).outside W = s.outside W := by
  refine State.outside_mono (V := [.frames, .evr, .out]) ?_ hW
  simp only [State.nodeClock]
  (repeat' split) <;> simp +decide

@[simp] theorem State.callNode_frame (s : State) (x1) (W : List Part)
    (hW : Part.within [.fra, .frames] W = true) : (s.callNode x1).outside W = s.outside W := by
  refine State.outside_mono (V := [.fra, .frames]) ?_ hW
  simp only [State.callNode]
  (repeat' split) <;> simp +decide

@[simp] theorem State.nodeMiss_frame (s : State) (x1) (W : List Part)
    (hW : Part.within [.fra, .frames] W = true) : (s.nodeMiss x1).outside W = s.outside W := by
  refine State.outside_mono (V := [.fra, .frames]) ?_ hW
  simp only [State.nodeMiss]
  (repeat' split) <;> simp +decide

@[simp] theorem State.nodeMisses_frame (s : State) (W : List Part)
    (hW : Part.within [.fra, .frames] W = true) : (s.nodeMisses).outside W = s.outside W := by
  refine State.outside_mono (V := [.fra, .frames]) ?_ hW
  unfold State.nodeMisses
  simp +decide

@[simp] theorem State.nodeQueue_frame (s : State) (x1) (x2) (W : List Part)
    (hW : Part.within [.frb] W = true) : (s.nodeQueue x1 x2).outside W = s.outside W := by
  refine State.outside_mono (V := [.frb]) ?_ hW
  unfold State.nodeQueue
  simp +decide

@[simp] theorem State.tfcCancelled_frame (s : State) (x1) (W : List Part)
    (hW : Part.within [.fleet] W = true) : (s.tfcCancelled x1).outside W = s.outside W := by
  refine State.outside_mono (V := [.fleet]) ?_ hW
  unfold State.tfcCancelled
  (repeat' split) <;> simp +decide

@[simp] theorem State.syncAcked_frame (s : State) (x1) (W : List Part)
    (hW : Part.within [.fleet, .frames] W = true) : (s.syncAcked x1).outside W = s.outside W := by
  refine State.outside_mono (V := [.fleet, .frames]) ?_ hW
  simp only [State.syncAcked]
  (repeat' split) <;> simp +decide

@[simp] theorem State.nodeAnswer_frame (s : State) (x1) (x2) (x3) (W : List Part)
    (hW : Part.within [.fleet, .frames, .evr, .out] W = true) : (s.nodeAnswer x1 x2 x3).outside W = s.outside W := by
  refine State.outside_mono (V := [.fleet, .frames, .evr, .out]) ?_ hW
  unfold State.nodeAnswer
  (repeat' split) <;> simp +decide

@[simp] theorem State.freeSlot_frame (s : State) (W : List Part)
    (hW : Part.within [.frb] W = true) : (s.freeSlot).outside W = s.outside W := by
  refine State.outside_mono (V := [.frb]) ?_ hW
  unfold State.freeSlot
  (repeat' split) <;> simp +decide

end Sys2Proof.Machine
end

