-- ==== Sys2Proof/Laws/Frames/Keys.lean ====
section
/-!
SUPPORT. What the operations of Machine/Keys.lean leave alone: one lemma each, for every part of the state the operation
does not write.
-/
namespace Sys2Proof.Machine

@[simp] theorem State.setSec_frame (s : State) (x1) (W : List Part)
    (hW : Part.within [.sec] W = true) : (s.setSec x1).outside W = s.outside W := by
  refine State.outside_mono (V := [.sec]) ?_ hW
  unfold State.setSec
  simp +decide

@[simp] theorem State.noKeysCheck_frame (s : State) (W : List Part)
    (hW : Part.within [.dev] W = true) : (s.noKeysCheck).outside W = s.outside W := by
  refine State.outside_mono (V := [.dev]) ?_ hW
  unfold State.noKeysCheck
  (repeat' split) <;> simp +decide

@[simp] theorem State.putSlot_frame (s : State) (x1) (x2) (W : List Part)
    (hW : Part.within [.sec] W = true) : (s.putSlot x1 x2).outside W = s.outside W := by
  refine State.outside_mono (V := [.sec]) ?_ hW
  unfold State.putSlot
  simp +decide

@[simp] theorem State.loadFixed_frame (s : State) (W : List Part)
    (hW : Part.within [.sec] W = true) : (s.loadFixed).outside W = s.outside W := by
  refine State.outside_mono (V := [.sec]) ?_ hW
  simp only [State.loadFixed]
  (repeat' split) <;> simp +decide

@[simp] theorem State.keysChoose_frame (s : State) (W : List Part)
    (hW : Part.within [.dev, .frames, .sec] W = true) : (s.keysChoose).outside W = s.outside W := by
  refine State.outside_mono (V := [.dev, .frames, .sec]) ?_ hW
  unfold State.keysChoose
  (repeat' split) <;> simp +decide

@[simp] theorem State.keyStatus_frame (s : State) (x1) (W : List Part)
    (hW : Part.within [.sec, .ans] W = true) : (s.keyStatus x1).outside W = s.outside W := by
  refine State.outside_mono (V := [.sec, .ans]) ?_ hW
  unfold State.keyStatus
  simp +decide

@[simp] theorem State.keyRefusal_frame (s : State) (W : List Part)
    (hW : Part.within [.sec, .evr, .out] W = true) : (s.keyRefusal).outside W = s.outside W := by
  refine State.outside_mono (V := [.sec, .evr, .out]) ?_ hW
  simp only [State.keyRefusal]
  (repeat' split) <;> simp +decide

@[simp] theorem State.keyLoaded_frame (s : State) (x1) (x2) (W : List Part)
    (hW : Part.within [.sec, .evr, .out, .ans] W = true) : (s.keyLoaded x1 x2).outside W = s.outside W := by
  refine State.outside_mono (V := [.sec, .evr, .out, .ans]) ?_ hW
  unfold State.keyLoaded
  (repeat' split) <;> simp +decide

@[simp] theorem State.freshIv_frame (s : State) (W : List Part)
    (hW : Part.within [.free] W = true) : (s.freshIv).2.outside W = s.outside W := by
  refine State.outside_mono (V := [.free]) ?_ hW
  unfold State.freshIv
  simp +decide

theorem State.freshIv_via {s : State} {t : State} {y} (h : s.freshIv = (y, t)) (W : List Part)
    (hW : Part.within [.free] W = true) : t.outside W = s.outside W := by
  have H := State.freshIv_frame s W hW
  rwa [h] at H

@[simp] theorem State.keyPerform_frame (s : State) (x1) (W : List Part)
    (hW : Part.within [.mem, .sec, .evr, .out, .ans, .free] W = true) : (s.keyPerform x1).outside W = s.outside W :=
    by
  refine State.outside_mono (V := [.mem, .sec, .evr, .out, .ans, .free]) ?_ hW
  unfold State.keyPerform
  (repeat' split) <;> simp_all +decide

@[simp] theorem State.useSlot_frame (s : State) (x1) (W : List Part)
    (hW : Part.within [.sec] W = true) : (s.useSlot x1).outside W = s.outside W := by
  refine State.outside_mono (V := [.sec]) ?_ hW
  unfold State.useSlot
  simp +decide

@[simp] theorem State.keyCmd_frame (s : State) (x1) (x2) (x3) (x4) (x5) (W : List Part)
    (hW : Part.within [.cores, .sec, .evr, .out, .ans] W = true) : (s.keyCmd x1 x2 x3 x4 x5).outside W = s.outside W
    := by
  refine State.outside_mono (V := [.cores, .sec, .evr, .out, .ans]) ?_ hW
  unfold State.keyCmd; simp only [State.guarded]
  (repeat' split) <;> simp +decide

@[simp] theorem State.slotsClear_frame (s : State) (W : List Part)
    (hW : Part.within [.sec] W = true) : (s.slotsClear).outside W = s.outside W := by
  refine State.outside_mono (V := [.sec]) ?_ hW
  unfold State.slotsClear
  simp +decide

@[simp] theorem State.storeBlob_frame (s : State) (x1) (x2) (x3) (W : List Part)
    (hW : Part.within [.sec] W = true) : (s.storeBlob x1 x2 x3).1.outside W = s.outside W := by
  refine State.outside_mono (V := [.sec]) ?_ hW
  simp only [State.storeBlob]
  (repeat' split) <;> simp +decide

theorem State.storeBlob_via {s : State} {x1} {x2} {x3} {t : State} {y} (h : s.storeBlob x1 x2 x3 = (t, y)) (W : List
    Part)
    (hW : Part.within [.sec] W = true) : t.outside W = s.outside W := by
  have H := State.storeBlob_frame s x1 x2 x3 W hW
  rwa [h] at H

@[simp] theorem State.siteInForce_frame (s : State) (x1) (W : List Part)
    (hW : Part.within [.dev, .sec] W = true) : (s.siteInForce x1).outside W = s.outside W := by
  refine State.outside_mono (V := [.dev, .sec]) ?_ hW
  unfold State.siteInForce
  simp +decide

@[simp] theorem State.keyImport_frame (s : State) (x1) (W : List Part)
    (hW : Part.within [.dev, .sec, .evr, .out, .ans, .free] W = true) : (s.keyImport x1).outside W = s.outside W := by
  refine State.outside_mono (V := [.dev, .sec, .evr, .out, .ans, .free]) ?_ hW
  simp only [State.keyImport]
  (repeat' split) <;> simp_all +decide

@[simp] theorem State.freshKey_frame (s : State) (W : List Part)
    (hW : Part.within [.free] W = true) : (s.freshKey).2.outside W = s.outside W := by
  refine State.outside_mono (V := [.free]) ?_ hW
  unfold State.freshKey
  simp +decide

theorem State.freshKey_via {s : State} {t : State} {y} (h : s.freshKey = (y, t)) (W : List Part)
    (hW : Part.within [.free] W = true) : t.outside W = s.outside W := by
  have H := State.freshKey_frame s W hW
  rwa [h] at H

@[simp] theorem State.groupRenew_frame (s : State) (W : List Part)
    (hW : Part.within [.frames, .sec, .evr, .out, .free] W = true) : (s.groupRenew).1.outside W = s.outside W := by
  refine State.outside_mono (V := [.frames, .sec, .evr, .out, .free]) ?_ hW
  simp only [State.groupRenew]
  (repeat' split) <;> simp_all +decide

theorem State.groupRenew_via {s : State} {t : State} {y} (h : s.groupRenew = (t, y)) (W : List Part)
    (hW : Part.within [.frames, .sec, .evr, .out, .free] W = true) : t.outside W = s.outside W := by
  have H := State.groupRenew_frame s W hW
  rwa [h] at H

@[simp] theorem State.blobWrite_frame (s : State) (x1) (W : List Part)
    (hW : Part.within [.dev, .sec, .ans] W = true) : (s.blobWrite x1).outside W = s.outside W := by
  refine State.outside_mono (V := [.dev, .sec, .ans]) ?_ hW
  simp only [State.blobWrite]
  (repeat' split) <;> simp_all +decide

@[simp] theorem State.enrolMember_frame (s : State) (x1) (W : List Part)
    (hW : Part.within [.cre, .fleet, .frames, .sec, .evr, .out, .ans] W = true) : (s.enrolMember x1).outside W =
    s.outside W := by
  refine State.outside_mono (V := [.cre, .fleet, .frames, .sec, .evr, .out, .ans]) ?_ hW
  simp only [State.enrolMember]
  (repeat' split) <;> simp +decide

@[simp] theorem State.enrolNode_frame (s : State) (x1) (W : List Part)
    (hW : Part.within [.frames, .sec, .evr, .out, .ans] W = true) : (s.enrolNode x1).outside W = s.outside W := by
  refine State.outside_mono (V := [.frames, .sec, .evr, .out, .ans]) ?_ hW
  simp only [State.enrolNode]
  (repeat' split) <;> simp +decide

@[simp] theorem State.enrolRemove_frame (s : State) (x1) (W : List Part)
    (hW : Part.within [.fleet, .frames, .sec, .evr, .out, .ans] W = true) : (s.enrolRemove x1).outside W = s.outside W
    := by
  refine State.outside_mono (V := [.fleet, .frames, .sec, .evr, .out, .ans]) ?_ hW
  simp only [State.enrolRemove]
  (repeat' split) <;> simp +decide

@[simp] theorem State.certWrite_frame (s : State) (x1) (x2) (W : List Part)
    (hW : Part.within [.dev, .sec, .evr, .out, .ans] W = true) : (s.certWrite x1 x2).outside W = s.outside W := by
  refine State.outside_mono (V := [.dev, .sec, .evr, .out, .ans]) ?_ hW
  unfold State.certWrite
  (repeat' split) <;> simp +decide

@[simp] theorem State.groupActivate_frame (s : State) (W : List Part)
    (hW : Part.within [.frames, .sec] W = true) : (s.groupActivate).outside W = s.outside W := by
  refine State.outside_mono (V := [.frames, .sec]) ?_ hW
  unfold State.groupActivate
  (repeat' split) <;> simp +decide

@[simp] theorem State.keyAbort_frame (s : State) (W : List Part)
    (hW : Part.within [.sec] W = true) : (s.keyAbort).outside W = s.outside W := by
  refine State.outside_mono (V := [.sec]) ?_ hW
  unfold State.keyAbort
  (repeat' split) <;> simp +decide

@[simp] theorem State.keysReload_frame (s : State) (W : List Part)
    (hW : Part.within [.sec] W = true) : (s.keysReload).outside W = s.outside W := by
  refine State.outside_mono (V := [.sec]) ?_ hW
  simp only [State.keysReload]
  (repeat' split) <;> simp +decide

end Sys2Proof.Machine
end

