-- ==== Sys2Proof/Laws/Frames/Memory.lean ====
section
/-!
SUPPORT. What the operations of Machine/Memory.lean leave alone: one lemma each, for every part of the state the operation
does not write.
-/
namespace Sys2Proof.Machine

@[simp] theorem State.setCrc_frame (s : State) (x1) (x2) (W : List Part)
    (hW : Part.within [.ques] W = true) : (s.setCrc x1 x2).outside W = s.outside W := by
  refine State.outside_mono (V := [.ques]) ?_ hW
  unfold State.setCrc
  simp +decide

@[simp] theorem State.crcScanTo_frame (s : State) (x1) (x2) (W : List Part)
    (hW : Part.within [.ques] W = true) : (s.crcScanTo x1 x2).outside W = s.outside W := by
  refine State.outside_mono (V := [.ques]) ?_ hW
  unfold State.crcScanTo
  simp +decide

@[simp] theorem State.crcAbort_frame (s : State) (x1) (x2) (W : List Part)
    (hW : Part.within [.ques] W = true) : (s.crcAbort x1 x2).outside W = s.outside W := by
  refine State.outside_mono (V := [.ques]) ?_ hW
  simp only [State.crcAbort]
  (repeat' split) <;> simp +decide

@[simp] theorem State.secureWipe_frame (s : State) (W : List Part)
    (hW : Part.within [.mem] W = true) : (s.secureWipe).outside W = s.outside W := by
  refine State.outside_mono (V := [.mem]) ?_ hW
  unfold State.secureWipe
  simp +decide

@[simp] theorem State.crcCfgErr_frame (s : State) (W : List Part)
    (hW : Part.within [.ques] W = true) : (s.crcCfgErr).outside W = s.outside W := by
  refine State.outside_mono (V := [.ques]) ?_ hW
  unfold State.crcCfgErr
  simp +decide

@[simp] theorem State.crcData_frame (s : State) (x1) (x2) (x3) (W : List Part)
    (hW : Part.within [.ques] W = true) : (s.crcData x1 x2 x3).outside W = s.outside W := by
  refine State.outside_mono (V := [.ques]) ?_ hW
  unfold State.crcData
  (repeat' split) <;> simp +decide

@[simp] theorem State.memErr_frame (s : State) (W : List Part)
    (hW : Part.within [.mem] W = true) : (s.memErr).outside W = s.outside W := by
  refine State.outside_mono (V := [.mem]) ?_ hW
  unfold State.memErr
  simp +decide

@[simp] theorem State.putQueue_frame (s : State) (x1) (x2) (W : List Part)
    (hW : Part.within [.ques] W = true) : (s.putQueue x1 x2).outside W = s.outside W := by
  refine State.outside_mono (V := [.ques]) ?_ hW
  unfold State.putQueue
  simp +decide

@[simp] theorem State.metFull_frame (s : State) (x1) (x2) (W : List Part)
    (hW : Part.within [.ques] W = true) : (s.metFull x1 x2).outside W = s.outside W := by
  refine State.outside_mono (V := [.ques]) ?_ hW
  unfold State.metFull
  (repeat' split) <;> simp +decide

@[simp] theorem State.portWrite_frame (s : State) (x1) (x2) (x3) (x4) (W : List Part)
    (hW : Part.within [.cores, .ques] W = true) : (s.portWrite x1 x2 x3 x4).outside W = s.outside W := by
  refine State.outside_mono (V := [.cores, .ques]) ?_ hW
  simp only [State.portWrite]
  (repeat' split) <;> simp +decide

@[simp] theorem State.crcStart_frame (s : State) (x1) (W : List Part)
    (hW : Part.within [.ques] W = true) : (s.crcStart x1).outside W = s.outside W := by
  refine State.outside_mono (V := [.ques]) ?_ hW
  simp only [State.crcStart]
  (repeat' split) <;> simp +decide

@[simp] theorem State.crcPolyWrite_frame (s : State) (x1) (x2) (W : List Part)
    (hW : Part.within [.ques] W = true) : (s.crcPolyWrite x1 x2).outside W = s.outside W := by
  refine State.outside_mono (V := [.ques]) ?_ hW
  unfold State.crcPolyWrite
  (repeat' split) <;> simp +decide

@[simp] theorem State.crcReset_frame (s : State) (x1) (W : List Part)
    (hW : Part.within [.ques] W = true) : (s.crcReset x1).outside W = s.outside W := by
  refine State.outside_mono (V := [.ques]) ?_ hW
  unfold State.crcReset
  (repeat' split) <;> simp +decide

@[simp] theorem State.setBank_frame (s : State) (x1) (x2) (W : List Part)
    (hW : Part.within [.mem] W = true) : (s.setBank x1 x2).outside W = s.outside W := by
  refine State.outside_mono (V := [.mem]) ?_ hW
  unfold State.setBank
  simp +decide

@[simp] theorem State.bankPower_frame (s : State) (x1) (x2) (W : List Part)
    (hW : Part.within [.mem] W = true) : (s.bankPower x1 x2).outside W = s.outside W := by
  refine State.outside_mono (V := [.mem]) ?_ hW
  simp only [State.bankPower]
  (repeat' split) <;> simp +decide

@[simp] theorem State.portRead_frame (s : State) (x1) (x2) (x3) (W : List Part)
    (hW : Part.within [.ques, .ans] W = true) : (s.portRead x1 x2 x3).outside W = s.outside W := by
  refine State.outside_mono (V := [.ques, .ans]) ?_ hW
  simp only [State.portRead]
  (repeat' split) <;> simp +decide

@[simp] theorem State.secureWipeEnd_frame (s : State) (W : List Part)
    (hW : Part.within [.mem] W = true) : (s.secureWipeEnd).outside W = s.outside W := by
  refine State.outside_mono (V := [.mem]) ?_ hW
  unfold State.secureWipeEnd
  (repeat' split) <;> simp +decide

@[simp] theorem State.wordError_frame (s : State) (x1) (x2) (W : List Part)
    (hW : Part.within [.mem, .evr, .out] W = true) : (s.wordError x1 x2).outside W = s.outside W := by
  refine State.outside_mono (V := [.mem, .evr, .out]) ?_ hW
  unfold State.wordError
  (repeat' split) <;> simp +decide

end Sys2Proof.Machine
end

