-- ==== Sys2Proof/Laws/Frames/Blocks.lean ====
section
/-!
SUPPORT. What the operations of Machine/Blocks.lean leave alone: one lemma each, for every part of the state the operation
does not write.
-/
namespace Sys2Proof.Machine

@[simp] theorem State.setCtl_frame (s : State) (x1) (x2) (W : List Part)
    (hW : Part.within [.blk, .mot, .cores, .ques] W = true) : (s.setCtl x1 x2).outside W = s.outside W := by
  refine State.outside_mono (V := [.blk, .mot, .cores, .ques]) ?_ hW
  unfold State.setCtl
  (repeat' split) <;> simp +decide

@[simp] theorem State.gbbQuiesce_frame (s : State) (W : List Part)
    (hW : Part.within [.gbb, .corr, .tsl, .saf, .dict, .evr, .out] W = true) : (s.gbbQuiesce).outside W = s.outside W
    := by
  refine State.outside_mono (V := [.gbb, .corr, .tsl, .saf, .dict, .evr, .out]) ?_ hW
  unfold State.gbbQuiesce
  (repeat' split) <;> simp +decide

@[simp] theorem State.fraQuiesce_frame (s : State) (W : List Part)
    (hW : Part.within [.saf, .fra, .frb, .frames, .evr, .out] W = true) : (s.fraQuiesce).outside W = s.outside W := by
  refine State.outside_mono (V := [.saf, .fra, .frb, .frames, .evr, .out]) ?_ hW
  unfold State.fraQuiesce
  (repeat' split) <;> simp +decide

@[simp] theorem State.canQuiesce_frame (s : State) (x1) (W : List Part)
    (hW : Part.within [.dict] W = true) : (s.canQuiesce x1).outside W = s.outside W := by
  refine State.outside_mono (V := [.dict]) ?_ hW
  unfold State.canQuiesce
  simp +decide

@[simp] theorem State.pairQuiesce_frame (s : State) (W : List Part)
    (hW : Part.within [.saf, .fra, .frb, .frames, .pair, .evr, .out] W = true) : (s.pairQuiesce).outside W = s.outside
    W := by
  refine State.outside_mono (V := [.saf, .fra, .frb, .frames, .pair, .evr, .out]) ?_ hW
  unfold State.pairQuiesce
  simp +decide

@[simp] theorem State.blockQuiesce_frame (s : State) (x1) (W : List Part)
    (hW : Part.within [.gbb, .corr, .tsl, .cre, .saf, .fra, .frb, .frames, .pair, .mot, .cores, .ques, .dict, .evr,
    .out, .ans] W = true) : (s.blockQuiesce x1).outside W = s.outside W := by
  refine State.outside_mono (V := [.gbb, .corr, .tsl, .cre, .saf, .fra, .frb, .frames, .pair, .mot, .cores, .ques,
    .dict, .evr, .out, .ans]) ?_ hW
  unfold State.blockQuiesce
  (repeat' split) <;> simp +decide

@[simp] theorem State.enableOff_frame (s : State) (x1) (W : List Part)
    (hW : Part.within [.blk, .gbb, .corr, .tsl, .cre, .saf, .fra, .frb, .frames, .pair, .mot, .cores, .ques, .dict,
    .evr, .out, .ans] W = true) : (s.enableOff x1).1.outside W = s.outside W := by
  refine State.outside_mono (V := [.blk, .gbb, .corr, .tsl, .cre, .saf, .fra, .frb, .frames, .pair, .mot, .cores,
    .ques, .dict, .evr, .out, .ans]) ?_ hW
  unfold State.enableOff
  (repeat' split) <;> simp +decide

theorem State.enableOff_via {s : State} {x1} {t : State} {y} (h : s.enableOff x1 = (t, y)) (W : List Part)
    (hW : Part.within [.blk, .gbb, .corr, .tsl, .cre, .saf, .fra, .frb, .frames, .pair, .mot, .cores, .ques, .dict,
    .evr, .out, .ans] W = true) : t.outside W = s.outside W := by
  have H := State.enableOff_frame s x1 W hW
  rwa [h] at H

@[simp] theorem State.blockStarting_frame (s : State) (x1) (W : List Part)
    (hW : Part.within [.mot, .cores, .dict, .evr, .out] W = true) : (s.blockStarting x1).outside W = s.outside W := by
  refine State.outside_mono (V := [.mot, .cores, .dict, .evr, .out]) ?_ hW
  unfold State.blockStarting
  (repeat' split) <;> simp +decide

@[simp] theorem State.blockStart_frame (s : State) (x1) (W : List Part)
    (hW : Part.within [.blk, .mot, .cores, .ques, .dict, .evr, .out] W = true) : (s.blockStart x1).outside W =
    s.outside W := by
  refine State.outside_mono (V := [.blk, .mot, .cores, .ques, .dict, .evr, .out]) ?_ hW
  unfold State.blockStart
  simp +decide

@[simp] theorem State.enableOn_frame (s : State) (x1) (W : List Part)
    (hW : Part.within [.dev, .blk, .mot, .cores, .ques, .dict, .evr, .out] W = true) : (s.enableOn x1).1.outside W =
    s.outside W := by
  refine State.outside_mono (V := [.dev, .blk, .mot, .cores, .ques, .dict, .evr, .out]) ?_ hW
  unfold State.enableOn
  (repeat' split) <;> simp +decide

theorem State.enableOn_via {s : State} {x1} {t : State} {y} (h : s.enableOn x1 = (t, y)) (W : List Part)
    (hW : Part.within [.dev, .blk, .mot, .cores, .ques, .dict, .evr, .out] W = true) : t.outside W = s.outside W := by
  have H := State.enableOn_frame s x1 W hW
  rwa [h] at H

@[simp] theorem State.enableWrite_frame (s : State) (x1) (x2) (W : List Part)
    (hW : Part.within [.dev, .blk, .gbb, .corr, .tsl, .cre, .saf, .fra, .frb, .frames, .pair, .mot, .cores, .ques,
    .dict, .evr, .out, .ans] W = true) : (s.enableWrite x1 x2).1.outside W = s.outside W := by
  refine State.outside_mono (V := [.dev, .blk, .gbb, .corr, .tsl, .cre, .saf, .fra, .frb, .frames, .pair, .mot,
    .cores, .ques, .dict, .evr, .out, .ans]) ?_ hW
  unfold State.enableWrite
  (repeat' split) <;> simp_all +decide

theorem State.enableWrite_via {s : State} {x1} {x2} {t : State} {y} (h : s.enableWrite x1 x2 = (t, y)) (W : List Part)
    (hW : Part.within [.dev, .blk, .gbb, .corr, .tsl, .cre, .saf, .fra, .frb, .frames, .pair, .mot, .cores, .ques,
    .dict, .evr, .out, .ans] W = true) : t.outside W = s.outside W := by
  have H := State.enableWrite_frame s x1 x2 W hW
  rwa [h] at H

@[simp] theorem State.enableOd_frame (s : State) (x1) (x2) (x3) (W : List Part)
    (hW : Part.within [.dev, .blk, .gbb, .corr, .tsl, .cre, .saf, .fra, .frb, .frames, .pair, .mot, .cores, .ques,
    .dict, .evr, .out, .ans] W = true) : (s.enableOd x1 x2 x3).outside W = s.outside W := by
  refine State.outside_mono (V := [.dev, .blk, .gbb, .corr, .tsl, .cre, .saf, .fra, .frb, .frames, .pair, .mot,
    .cores, .ques, .dict, .evr, .out, .ans]) ?_ hW
  unfold State.enableOd; simp only [State.asRole]
  (repeat' split) <;> simp_all +decide

@[simp] theorem State.radiosAgain_frame (s : State) (W : List Part)
    (hW : Part.within [.dev, .blk, .fra, .frb, .mot, .cores, .ques, .dict, .evr, .out] W = true) :
    (s.radiosAgain).outside W = s.outside W := by
  refine State.outside_mono (V := [.dev, .blk, .fra, .frb, .mot, .cores, .ques, .dict, .evr, .out]) ?_ hW
  unfold State.radiosAgain
  (repeat' split) <;> simp +decide

@[simp] theorem State.radioRenew_frame (s : State) (W : List Part)
    (hW : Part.within [.dev, .blk, .gbb, .corr, .tsl, .cre, .saf, .fra, .frb, .frames, .pair, .mot, .cores, .ques,
    .dict, .evr, .out, .ans] W = true) : (s.radioRenew).outside W = s.outside W := by
  refine State.outside_mono (V := [.dev, .blk, .gbb, .corr, .tsl, .cre, .saf, .fra, .frb, .frames, .pair, .mot,
    .cores, .ques, .dict, .evr, .out, .ans]) ?_ hW
  unfold State.radioRenew
  simp +decide

@[simp] theorem State.blockOff_frame (s : State) (x1) (W : List Part)
    (hW : Part.within [.grf, .cre, .fra, .frb, .mot, .cores, .ques, .evr, .out, .ans] W = true) : (s.blockOff
    x1).outside W = s.outside W := by
  refine State.outside_mono (V := [.grf, .cre, .fra, .frb, .mot, .cores, .ques, .evr, .out, .ans]) ?_ hW
  unfold State.blockOff
  (repeat' split) <;> simp +decide

@[simp] theorem State.ethOn_frame (s : State) (x1) (W : List Part)
    (hW : Part.within [.dict] W = true) : (s.ethOn x1).outside W = s.outside W := by
  refine State.outside_mono (V := [.dict]) ?_ hW
  unfold State.ethOn
  simp +decide

@[simp] theorem State.canOn_frame (s : State) (x1) (W : List Part)
    (hW : Part.within [.dict, .out] W = true) : (s.canOn x1).outside W = s.outside W := by
  refine State.outside_mono (V := [.dict, .out]) ?_ hW
  unfold State.canOn
  (repeat' split) <;> simp +decide

@[simp] theorem State.blockOn_frame (s : State) (x1) (W : List Part)
    (hW : Part.within [.corr, .tsl, .cre, .frb, .cores, .dict, .evr, .start, .out] W = true) : (s.blockOn x1).outside
    W = s.outside W := by
  refine State.outside_mono (V := [.corr, .tsl, .cre, .frb, .cores, .dict, .evr, .start, .out]) ?_ hW
  unfold State.blockOn
  (repeat' split) <;> simp +decide

@[simp] theorem State.quiesceEnd_frame (s : State) (x1) (W : List Part)
    (hW : Part.within [.dev, .blk, .grf, .cre, .fra, .frb, .mot, .cores, .ques, .dict, .evr, .out, .ans] W = true) :
    (s.quiesceEnd x1).outside W = s.outside W := by
  refine State.outside_mono (V := [.dev, .blk, .grf, .cre, .fra, .frb, .mot, .cores, .ques, .dict, .evr, .out, .ans])
    ?_ hW
  simp only [State.quiesceEnd]
  (repeat' split) <;> simp +decide

end Sys2Proof.Machine
end

