-- ==== Sys2Proof/Laws/Frames/States.lean ====
section
/-!
SUPPORT. What the operations of Machine/States.lean leave alone: one lemma each, for every part of the state the operation
does not write.
-/
namespace Sys2Proof.Machine

@[simp] theorem State.setPair_frame (s : State) (x1) (W : List Part)
    (hW : Part.within [.pair] W = true) : (s.setPair x1).outside W = s.outside W := by
  refine State.outside_mono (V := [.pair]) ?_ hW
  unfold State.setPair
  simp +decide

@[simp] theorem State.askOff_frame (s : State) (x1) (W : List Part)
    (hW : Part.within [.blk, .gbb, .corr, .tsl, .cre, .saf, .fra, .frb, .frames, .pair, .mot, .cores, .ques, .dict,
    .evr, .out, .ans] W = true) : (s.askOff x1).outside W = s.outside W := by
  refine State.outside_mono (V := [.blk, .gbb, .corr, .tsl, .cre, .saf, .fra, .frb, .frames, .pair, .mot, .cores,
    .ques, .dict, .evr, .out, .ans]) ?_ hW
  unfold State.askOff
  (repeat' split) <;> simp_all +decide

@[simp] theorem State.clusterDown_frame (s : State) (W : List Part)
    (hW : Part.within [.cores] W = true) : (s.clusterDown).outside W = s.outside W := by
  refine State.outside_mono (V := [.cores]) ?_ hW
  unfold State.clusterDown
  simp +decide

@[simp] theorem State.devTo_frame (s : State) (x1) (W : List Part)
    (hW : Part.within [.dev, .gbb, .corr, .tsl, .cores, .dict, .evr, .pwr, .out] W = true) : (s.devTo x1).outside W =
    s.outside W := by
  refine State.outside_mono (V := [.dev, .gbb, .corr, .tsl, .cores, .dict, .evr, .pwr, .out]) ?_ hW
  simp only [State.devTo]
  (repeat' split) <;> simp +decide

@[simp] theorem State.setEligible_frame (s : State) (x1) (W : List Part)
    (hW : Part.within [.dev, .pair, .evr, .out] W = true) : (s.setEligible x1).outside W = s.outside W := by
  refine State.outside_mono (V := [.dev, .pair, .evr, .out]) ?_ hW
  unfold State.setEligible
  (repeat' split) <;> simp +decide

@[simp] theorem State.enterListening_frame (s : State) (W : List Part)
    (hW : Part.within [.dev, .gbb, .corr, .tsl, .pair, .cores, .dict, .evr, .pwr, .out] W = true) :
    (s.enterListening).outside W = s.outside W := by
  refine State.outside_mono (V := [.dev, .gbb, .corr, .tsl, .pair, .cores, .dict, .evr, .pwr, .out]) ?_ hW
  unfold State.enterListening
  simp +decide

@[simp] theorem State.askOn_frame (s : State) (x1) (W : List Part)
    (hW : Part.within [.dev, .blk, .mot, .cores, .ques, .dict, .evr, .out] W = true) : (s.askOn x1).outside W =
    s.outside W := by
  refine State.outside_mono (V := [.dev, .blk, .mot, .cores, .ques, .dict, .evr, .out]) ?_ hW
  unfold State.askOn
  simp +decide

@[simp] theorem State.enterRun_frame (s : State) (W : List Part)
    (hW : Part.within [.dev, .blk, .gbb, .corr, .tsl, .cre, .fleet, .mot, .cores, .ques, .dict, .evr, .pwr, .out] W =
    true) : (s.enterRun).outside W = s.outside W := by
  refine State.outside_mono (V := [.dev, .blk, .gbb, .corr, .tsl, .cre, .fleet, .mot, .cores, .ques, .dict, .evr,
    .pwr, .out]) ?_ hW
  unfold State.enterRun
  simp +decide

@[simp] theorem State.enterRunFresh_frame (s : State) (W : List Part)
    (hW : Part.within [.dev, .blk, .gbb, .corr, .tsl, .cre, .fleet, .mot, .cores, .ques, .dict, .evr, .pwr, .out] W =
    true) : (s.enterRunFresh).outside W = s.outside W := by
  refine State.outside_mono (V := [.dev, .blk, .gbb, .corr, .tsl, .cre, .fleet, .mot, .cores, .ques, .dict, .evr,
    .pwr, .out]) ?_ hW
  unfold State.enterRunFresh
  simp +decide

@[simp] theorem State.emptyCopies_frame (s : State) (W : List Part)
    (hW : Part.within [.cre, .fleet, .frames] W = true) : (s.emptyCopies).outside W = s.outside W := by
  refine State.outside_mono (V := [.cre, .fleet, .frames]) ?_ hW
  unfold State.emptyCopies
  simp +decide

@[simp] theorem State.shadowOn_frame (s : State) (x1) (W : List Part)
    (hW : Part.within [.mot] W = true) : (s.shadowOn x1).outside W = s.outside W := by
  refine State.outside_mono (V := [.mot]) ?_ hW
  unfold State.shadowOn
  simp +decide

@[simp] theorem State.allShadow_frame (s : State) (W : List Part)
    (hW : Part.within [.blk, .mot, .cores, .ques] W = true) : (s.allShadow).outside W = s.outside W := by
  refine State.outside_mono (V := [.blk, .mot, .cores, .ques]) ?_ hW
  unfold State.allShadow
  simp +decide

@[simp] theorem State.enterStandby_frame (s : State) (W : List Part)
    (hW : Part.within [.dev, .blk, .gbb, .corr, .tsl, .cre, .fleet, .frames, .pair, .mot, .cores, .ques, .dict, .evr,
    .pwr, .out] W = true) : (s.enterStandby).outside W = s.outside W := by
  refine State.outside_mono (V := [.dev, .blk, .gbb, .corr, .tsl, .cre, .fleet, .frames, .pair, .mot, .cores, .ques,
    .dict, .evr, .pwr, .out]) ?_ hW
  unfold State.enterStandby
  simp +decide

end Sys2Proof.Machine
end

