-- ==== Sys2Proof/Laws/Frames/StartUp.lean ====
section
/-!
SUPPORT. What the operations of Machine/StartUp.lean leave alone: one lemma each, for every part of the state the operation
does not write.
-/
namespace Sys2Proof.Machine

@[simp] theorem State.unpowered_frame (s : State) (x1) (W : List Part)
    (hW : Part.within [.dev, .blk, .grf, .gbb, .corr, .tsl, .cre, .fleet, .saf, .fra, .frb, .frames, .tim, .pair,
    .mot, .cores, .mem, .ques, .dict, .sec, .evr, .upd, .start, .pwr, .dbg] W = true) : (s.unpowered x1).outside W =
    s.outside W := by
  refine State.outside_mono (V := [.dev, .blk, .grf, .gbb, .corr, .tsl, .cre, .fleet, .saf, .fra, .frb, .frames, .tim,
    .pair, .mot, .cores, .mem, .ques, .dict, .sec, .evr, .upd, .start, .pwr, .dbg]) ?_ hW
  unfold State.unpowered
  (repeat' split) <;> simp +decide

@[simp] theorem State.rampFailed_frame (s : State) (x1) (W : List Part)
    (hW : Part.within [.evr, .start, .pwr, .out] W = true) : (s.rampFailed x1).outside W = s.outside W := by
  refine State.outside_mono (V := [.evr, .start, .pwr, .out]) ?_ hW
  simp only [State.rampFailed]
  (repeat' split) <;> simp +decide

@[simp] theorem State.clocked_frame (s : State) (x1) (W : List Part)
    (hW : Part.within [.tim, .evr] W = true) : (s.clocked x1).outside W = s.outside W := by
  refine State.outside_mono (V := [.tim, .evr]) ?_ hW
  unfold State.clocked
  simp +decide

@[simp] theorem State.storedCauses_frame (s : State) (W : List Part)
    (hW : Part.within [.dev, .sec] W = true) : (s.storedCauses).outside W = s.outside W := by
  refine State.outside_mono (V := [.dev, .sec]) ?_ hW
  simp only [State.storedCauses]
  (repeat' split) <;> simp +decide

@[simp] theorem State.loaderOnly_frame (s : State) (x1) (W : List Part)
    (hW : Part.within [.dev, .gbb, .corr, .tsl, .cores, .dict, .sec, .evr, .start, .pwr, .out] W = true) :
    (s.loaderOnly x1).outside W = s.outside W := by
  refine State.outside_mono (V := [.dev, .gbb, .corr, .tsl, .cores, .dict, .sec, .evr, .start, .pwr, .out]) ?_ hW
  unfold State.loaderOnly
  (repeat' split) <;> simp +decide

@[simp] theorem State.newNonce_frame (s : State) (W : List Part)
    (hW : Part.within [.dbg, .free] W = true) : (s.newNonce).outside W = s.outside W := by
  refine State.outside_mono (V := [.dbg, .free]) ?_ hW
  unfold State.newNonce
  simp +decide

@[simp] theorem State.strap_frame (s : State) (W : List Part)
    (hW : Part.within [.pair] W = true) : (s.strap).outside W = s.outside W := by
  refine State.outside_mono (V := [.pair]) ?_ hW
  unfold State.strap
  simp +decide

@[simp] theorem State.fleetBegin_frame (s : State) (W : List Part)
    (hW : Part.within [.cre, .fleet] W = true) : (s.fleetBegin).outside W = s.outside W := by
  refine State.outside_mono (V := [.cre, .fleet]) ?_ hW
  unfold State.fleetBegin
  simp +decide

@[simp] theorem State.selfTested_frame (s : State) (x1) (W : List Part)
    (hW : Part.within [.dev, .mem, .evr, .start, .out] W = true) : (s.selfTested x1).outside W = s.outside W := by
  refine State.outside_mono (V := [.dev, .mem, .evr, .start, .out]) ?_ hW
  simp only [State.selfTested]
  split
  · simp +decide
  · exact (State.setCause_frame _ _ _ rfl).trans (foldl_outside _ _ _ _ (fun s b => by split <;> simp +decide))

@[simp] theorem State.basesInit_frame (s : State) (W : List Part)
    (hW : Part.within [.dev, .tim] W = true) : (s.basesInit).outside W = s.outside W := by
  refine State.outside_mono (V := [.dev, .tim]) ?_ hW
  unfold State.basesInit
  simp +decide

@[simp] theorem State.lanesBegin_frame (s : State) (x1) (W : List Part)
    (hW : Part.within [.saf] W = true) : (s.lanesBegin x1).outside W = s.outside W := by
  refine State.outside_mono (V := [.saf]) ?_ hW
  unfold State.lanesBegin
  (repeat' split) <;> simp +decide

@[simp] theorem State.bootRecords_frame (s : State) (x1) (W : List Part)
    (hW : Part.within [.evr, .out] W = true) : (s.bootRecords x1).outside W = s.outside W := by
  refine State.outside_mono (V := [.evr, .out]) ?_ hW
  simp only [State.bootRecords]
  (repeat' split) <;> simp +decide

@[simp] theorem State.bootStages_frame (s : State) (x1) (W : List Part)
    (hW : Part.within [.dev, .grf, .gbb, .corr, .tsl, .cre, .fleet, .saf, .fra, .frb, .frames, .tim, .pair, .mot,
    .cores, .mem, .dict, .sec, .evr, .upd, .start, .pwr, .dbg, .out, .free] W = true) : (s.bootStages x1).outside W =
    s.outside W := by
  refine State.outside_mono (V := [.dev, .grf, .gbb, .corr, .tsl, .cre, .fleet, .saf, .fra, .frb, .frames, .tim,
    .pair, .mot, .cores, .mem, .dict, .sec, .evr, .upd, .start, .pwr, .dbg, .out, .free]) ?_ hW
  simp only [State.bootStages]
  (repeat' split) <;> simp +decide

@[simp] theorem State.startLocked_frame (s : State) (x1) (x2) (W : List Part)
    (hW : Part.within [.dev, .grf, .gbb, .corr, .tsl, .cre, .fleet, .saf, .fra, .frb, .frames, .tim, .pair, .mot,
    .cores, .mem, .dict, .sec, .evr, .upd, .start, .pwr, .dbg, .out, .free] W = true) : (s.startLocked x1 x2).outside
    W = s.outside W := by
  refine State.outside_mono (V := [.dev, .grf, .gbb, .corr, .tsl, .cre, .fleet, .saf, .fra, .frb, .frames, .tim,
    .pair, .mot, .cores, .mem, .dict, .sec, .evr, .upd, .start, .pwr, .dbg, .out, .free]) ?_ hW
  unfold State.startLocked
  (repeat' split) <;> simp +decide

@[simp] theorem State.startUp_frame (s : State) (x1) (x2) (x3) (W : List Part)
    (hW : Part.within [.dev, .blk, .grf, .gbb, .corr, .tsl, .cre, .fleet, .saf, .fra, .frb, .frames, .tim, .pair,
    .mot, .cores, .mem, .ques, .dict, .sec, .evr, .upd, .start, .pwr, .dbg, .out, .free] W = true) : (s.startUp x1 x2
    x3).outside W = s.outside W := by
  refine State.outside_mono (V := [.dev, .blk, .grf, .gbb, .corr, .tsl, .cre, .fleet, .saf, .fra, .frb, .frames, .tim,
    .pair, .mot, .cores, .mem, .ques, .dict, .sec, .evr, .upd, .start, .pwr, .dbg, .out, .free]) ?_ hW
  unfold State.startUp
  (repeat' split) <;> simp +decide

@[simp] theorem State.enterService_frame (s : State) (W : List Part)
    (hW : Part.within [.dev, .blk, .gbb, .corr, .tsl, .cre, .fleet, .frames, .pair, .mot, .cores, .ques, .dict, .evr,
    .pwr, .out] W = true) : (s.enterService).outside W = s.outside W := by
  refine State.outside_mono (V := [.dev, .blk, .gbb, .corr, .tsl, .cre, .fleet, .frames, .pair, .mot, .cores, .ques,
    .dict, .evr, .pwr, .out]) ?_ hW
  simp only [State.enterService]
  (repeat' split) <;> simp +decide

@[simp] theorem State.enterDebug_frame (s : State) (W : List Part)
    (hW : Part.within [.dev, .gbb, .corr, .tsl, .cores, .dict, .evr, .pwr, .out] W = true) : (s.enterDebug).outside W
    = s.outside W := by
  refine State.outside_mono (V := [.dev, .gbb, .corr, .tsl, .cores, .dict, .evr, .pwr, .out]) ?_ hW
  unfold State.enterDebug
  simp +decide

@[simp] theorem State.rampAgain_frame (s : State) (x1) (W : List Part)
    (hW : Part.within [.dev, .blk, .grf, .gbb, .corr, .tsl, .cre, .fleet, .saf, .fra, .frb, .frames, .tim, .pair,
    .mot, .cores, .mem, .ques, .dict, .sec, .evr, .upd, .start, .pwr, .dbg, .out, .free] W = true) : (s.rampAgain
    x1).outside W = s.outside W := by
  refine State.outside_mono (V := [.dev, .blk, .grf, .gbb, .corr, .tsl, .cre, .fleet, .saf, .fra, .frb, .frames, .tim,
    .pair, .mot, .cores, .mem, .ques, .dict, .sec, .evr, .upd, .start, .pwr, .dbg, .out, .free]) ?_ hW
  unfold State.rampAgain
  simp +decide

@[simp] theorem State.trialWindow_frame (s : State) (W : List Part)
    (hW : Part.within [.upd] W = true) : (s.trialWindow).outside W = s.outside W := by
  refine State.outside_mono (V := [.upd]) ?_ hW
  unfold State.trialWindow
  (repeat' split) <;> simp +decide

@[simp] theorem State.blocksBegin_frame (s : State) (W : List Part)
    (hW : Part.within [.dev, .blk, .mot, .cores, .ques, .dict, .evr, .out] W = true) : (s.blocksBegin).outside W =
    s.outside W := by
  refine State.outside_mono (V := [.dev, .blk, .mot, .cores, .ques, .dict, .evr, .out]) ?_ hW
  simp only [State.blocksBegin]
  (repeat' split) <;> simp +decide

@[simp] theorem State.fleetLoad_frame (s : State) (W : List Part)
    (hW : Part.within [.cores, .mem] W = true) : (s.fleetLoad).outside W = s.outside W := by
  refine State.outside_mono (V := [.cores, .mem]) ?_ hW
  unfold State.fleetLoad
  (repeat' split) <;> simp +decide

@[simp] theorem State.mapReload_frame (s : State) (W : List Part)
    (hW : Part.within [.dev, .cre, .mem] W = true) : (s.mapReload).outside W = s.outside W := by
  refine State.outside_mono (V := [.dev, .cre, .mem]) ?_ hW
  unfold State.mapReload
  (repeat' split) <;> simp +decide

@[simp] theorem State.startEnd_frame (s : State) (W : List Part)
    (hW : Part.within [.dev, .blk, .gbb, .corr, .tsl, .cre, .fleet, .frames, .pair, .mot, .cores, .mem, .ques, .dict,
    .evr, .upd, .start, .pwr, .out] W = true) : (s.startEnd).outside W = s.outside W := by
  refine State.outside_mono (V := [.dev, .blk, .gbb, .corr, .tsl, .cre, .fleet, .frames, .pair, .mot, .cores, .mem,
    .ques, .dict, .evr, .upd, .start, .pwr, .out]) ?_ hW
  simp only [State.startEnd]
  (repeat' split) <;> simp +decide

@[simp] theorem State.startTick_frame (s : State) (W : List Part)
    (hW : Part.within [.dev, .blk, .gbb, .corr, .tsl, .cre, .fleet, .frames, .pair, .mot, .cores, .mem, .ques, .dict,
    .evr, .upd, .start, .pwr, .out] W = true) : (s.startTick).outside W = s.outside W := by
  refine State.outside_mono (V := [.dev, .blk, .gbb, .corr, .tsl, .cre, .fleet, .frames, .pair, .mot, .cores, .mem,
    .ques, .dict, .evr, .upd, .start, .pwr, .out]) ?_ hW
  unfold State.startTick
  (repeat' split) <;> simp +decide

end Sys2Proof.Machine
end

