-- ==== Sys2Proof/Laws/Frames/Device.lean ====
section
/-!
SUPPORT. What the operations of Machine/Device.lean leave alone: one lemma each, for every part of the state the operation
does not write.
-/
namespace Sys2Proof.Machine

@[simp] theorem State.swapDrop_frame (s : State) (W : List Part)
    (hW : Part.within [.dev, .cre, .pair] W = true) : (s.swapDrop).outside W = s.outside W := by
  refine State.outside_mono (V := [.dev, .cre, .pair]) ?_ hW
  unfold State.swapDrop
  simp +decide

@[simp] theorem State.stopLines_frame (s : State) (W : List Part)
    (hW : Part.within [.dev, .saf, .fra, .frb, .frames, .pair, .evr, .out] W = true) : (s.stopLines).outside W =
    s.outside W := by
  refine State.outside_mono (V := [.dev, .saf, .fra, .frb, .frames, .pair, .evr, .out]) ?_ hW
  simp only [State.stopLines]
  (repeat' split) <;> simp +decide

@[simp] theorem State.askAllOff_frame (s : State) (x1) (W : List Part)
    (hW : Part.within [.blk, .gbb, .corr, .tsl, .cre, .saf, .fra, .frb, .frames, .pair, .mot, .cores, .ques, .dict,
    .evr, .out, .ans] W = true) : (s.askAllOff x1).outside W = s.outside W := by
  refine State.outside_mono (V := [.blk, .gbb, .corr, .tsl, .cre, .saf, .fra, .frb, .frames, .pair, .mot, .cores,
    .ques, .dict, .evr, .out, .ans]) ?_ hW
  simp +decide (disch := first | decide | (intros; (repeat' split) <;> simp +decide)) [State.askAllOff]

@[simp] theorem State.enterDormant_frame (s : State) (W : List Part)
    (hW : Part.within [.dev, .blk, .grf, .gbb, .corr, .tsl, .cre, .fleet, .saf, .fra, .frb, .frames, .tim, .pair,
    .mot, .cores, .mem, .ques, .dict, .sec, .evr, .upd, .start, .pwr, .dbg, .out] W = true) : (s.enterDormant).outside
    W = s.outside W := by
  refine State.outside_mono (V := [.dev, .blk, .grf, .gbb, .corr, .tsl, .cre, .fleet, .saf, .fra, .frb, .frames, .tim,
    .pair, .mot, .cores, .mem, .ques, .dict, .sec, .evr, .upd, .start, .pwr, .dbg, .out]) ?_ hW
  unfold State.enterDormant
  simp +decide

@[simp] theorem State.arrive_frame (s : State) (x1) (W : List Part)
    (hW : Part.within [.dev, .blk, .grf, .gbb, .corr, .tsl, .cre, .fleet, .saf, .fra, .frb, .frames, .tim, .pair,
    .mot, .cores, .mem, .ques, .dict, .sec, .evr, .upd, .start, .pwr, .dbg, .out, .free] W = true) : (s.arrive
    x1).outside W = s.outside W := by
  refine State.outside_mono (V := [.dev, .blk, .grf, .gbb, .corr, .tsl, .cre, .fleet, .saf, .fra, .frb, .frames, .tim,
    .pair, .mot, .cores, .mem, .ques, .dict, .sec, .evr, .upd, .start, .pwr, .dbg, .out, .free]) ?_ hW
  unfold State.arrive
  (repeat' split) <;> simp +decide

@[simp] theorem State.leaveAdvance_frame (s : State) (W : List Part)
    (hW : Part.within [.dev, .blk, .grf, .gbb, .corr, .tsl, .cre, .fleet, .saf, .fra, .frb, .frames, .tim, .pair,
    .mot, .cores, .mem, .ques, .dict, .sec, .evr, .upd, .start, .pwr, .dbg, .out, .ans, .free] W = true) :
    (s.leaveAdvance).outside W = s.outside W := by
  refine State.outside_mono (V := [.dev, .blk, .grf, .gbb, .corr, .tsl, .cre, .fleet, .saf, .fra, .frb, .frames, .tim,
    .pair, .mot, .cores, .mem, .ques, .dict, .sec, .evr, .upd, .start, .pwr, .dbg, .out, .ans, .free]) ?_ hW
  simp only [State.leaveAdvance]
  (repeat' split) <;> simp +decide

@[simp] theorem State.leaveRun_frame (s : State) (x1) (x2) (W : List Part)
    (hW : Part.within [.dev, .blk, .grf, .gbb, .corr, .tsl, .cre, .fleet, .saf, .fra, .frb, .frames, .tim, .pair,
    .mot, .cores, .mem, .ques, .dict, .sec, .evr, .upd, .start, .pwr, .dbg, .out, .ans, .free] W = true) : (s.leaveRun
    x1 x2).outside W = s.outside W := by
  refine State.outside_mono (V := [.dev, .blk, .grf, .gbb, .corr, .tsl, .cre, .fleet, .saf, .fra, .frb, .frames, .tim,
    .pair, .mot, .cores, .mem, .ques, .dict, .sec, .evr, .upd, .start, .pwr, .dbg, .out, .ans, .free]) ?_ hW
  unfold State.leaveRun
  simp +decide

@[simp] theorem State.cmdRun_frame (s : State) (W : List Part)
    (hW : Part.within [.dev, .blk, .gbb, .corr, .tsl, .cre, .fleet, .frames, .pair, .mot, .cores, .ques, .dict, .evr,
    .pwr, .out, .ans] W = true) : (s.cmdRun).outside W = s.outside W := by
  refine State.outside_mono (V := [.dev, .blk, .gbb, .corr, .tsl, .cre, .fleet, .frames, .pair, .mot, .cores, .ques,
    .dict, .evr, .pwr, .out, .ans]) ?_ hW
  unfold State.cmdRun
  (repeat' split) <;> simp +decide

@[simp] theorem State.leaveStandby_frame (s : State) (W : List Part)
    (hW : Part.within [.dev, .pair, .mot, .evr, .out] W = true) : (s.leaveStandby).outside W = s.outside W := by
  refine State.outside_mono (V := [.dev, .pair, .mot, .evr, .out]) ?_ hW
  unfold State.leaveStandby
  simp +decide

@[simp] theorem State.leaveOther_frame (s : State) (x1) (W : List Part)
    (hW : Part.within [.dev, .blk, .grf, .gbb, .corr, .tsl, .cre, .fleet, .saf, .fra, .frb, .frames, .tim, .pair,
    .mot, .cores, .mem, .ques, .dict, .sec, .evr, .upd, .start, .pwr, .dbg, .out, .ans, .free] W = true) :
    (s.leaveOther x1).outside W = s.outside W := by
  refine State.outside_mono (V := [.dev, .blk, .grf, .gbb, .corr, .tsl, .cre, .fleet, .saf, .fra, .frb, .frames, .tim,
    .pair, .mot, .cores, .mem, .ques, .dict, .sec, .evr, .upd, .start, .pwr, .dbg, .out, .ans, .free]) ?_ hW
  unfold State.leaveOther
  (repeat' split) <;> simp +decide

@[simp] theorem State.cmdListen_frame (s : State) (W : List Part)
    (hW : Part.within [.dev, .blk, .grf, .gbb, .corr, .tsl, .cre, .fleet, .saf, .fra, .frb, .frames, .tim, .pair,
    .mot, .cores, .mem, .ques, .dict, .sec, .evr, .upd, .start, .pwr, .dbg, .out, .ans, .free] W = true) :
    (s.cmdListen).outside W = s.outside W := by
  refine State.outside_mono (V := [.dev, .blk, .grf, .gbb, .corr, .tsl, .cre, .fleet, .saf, .fra, .frb, .frames, .tim,
    .pair, .mot, .cores, .mem, .ques, .dict, .sec, .evr, .upd, .start, .pwr, .dbg, .out, .ans, .free]) ?_ hW
  unfold State.cmdListen
  (repeat' split) <;> simp +decide

@[simp] theorem State.cmdDormant_frame (s : State) (W : List Part)
    (hW : Part.within [.dev, .blk, .grf, .gbb, .corr, .tsl, .cre, .fleet, .saf, .fra, .frb, .frames, .tim, .pair,
    .mot, .cores, .mem, .ques, .dict, .sec, .evr, .upd, .start, .pwr, .dbg, .out, .ans, .free] W = true) :
    (s.cmdDormant).outside W = s.outside W := by
  refine State.outside_mono (V := [.dev, .blk, .grf, .gbb, .corr, .tsl, .cre, .fleet, .saf, .fra, .frb, .frames, .tim,
    .pair, .mot, .cores, .mem, .ques, .dict, .sec, .evr, .upd, .start, .pwr, .dbg, .out, .ans, .free]) ?_ hW
  unfold State.cmdDormant
  (repeat' split) <;> simp +decide

@[simp] theorem State.restart_frame (s : State) (x1) (W : List Part)
    (hW : Part.within [.dev, .blk, .grf, .gbb, .corr, .tsl, .cre, .fleet, .saf, .fra, .frb, .frames, .tim, .pair,
    .mot, .cores, .mem, .ques, .dict, .sec, .evr, .upd, .start, .pwr, .dbg, .out, .ans, .free] W = true) : (s.restart
    x1).outside W = s.outside W := by
  refine State.outside_mono (V := [.dev, .blk, .grf, .gbb, .corr, .tsl, .cre, .fleet, .saf, .fra, .frb, .frames, .tim,
    .pair, .mot, .cores, .mem, .ques, .dict, .sec, .evr, .upd, .start, .pwr, .dbg, .out, .ans, .free]) ?_ hW
  unfold State.restart
  (repeat' split) <;> simp +decide

@[simp] theorem State.enableAsk_frame (s : State) (x1) (x2) (x3) (W : List Part)
    (hW : Part.within [.dev, .blk, .gbb, .corr, .tsl, .cre, .saf, .fra, .frb, .frames, .pair, .mot, .cores, .ques,
    .dict, .evr, .out, .ans] W = true) : (s.enableAsk x1 x2 x3).outside W = s.outside W := by
  refine State.outside_mono (V := [.dev, .blk, .gbb, .corr, .tsl, .cre, .saf, .fra, .frb, .frames, .pair, .mot,
    .cores, .ques, .dict, .evr, .out, .ans]) ?_ hW
  unfold State.enableAsk; simp only [State.guarded]
  (repeat' split) <;> simp_all +decide

@[simp] theorem State.standbySwitch_frame (s : State) (x1) (W : List Part)
    (hW : Part.within [.dev, .gbb, .corr, .tsl, .pair, .cores, .dict, .evr, .pwr, .out] W = true) : (s.standbySwitch
    x1).outside W = s.outside W := by
  refine State.outside_mono (V := [.dev, .gbb, .corr, .tsl, .pair, .cores, .dict, .evr, .pwr, .out]) ?_ hW
  unfold State.standbySwitch
  (repeat' split) <;> simp +decide

@[simp] theorem State.causeActs_frame (s : State) (W : List Part)
    (hW : Part.within [.dev, .blk, .grf, .gbb, .corr, .tsl, .cre, .fleet, .saf, .fra, .frb, .frames, .tim, .pair,
    .mot, .cores, .mem, .ques, .dict, .sec, .evr, .upd, .start, .pwr, .dbg, .out, .ans, .free] W = true) :
    (s.causeActs).outside W = s.outside W := by
  refine State.outside_mono (V := [.dev, .blk, .grf, .gbb, .corr, .tsl, .cre, .fleet, .saf, .fra, .frb, .frames, .tim,
    .pair, .mot, .cores, .mem, .ques, .dict, .sec, .evr, .upd, .start, .pwr, .dbg, .out, .ans, .free]) ?_ hW
  unfold State.causeActs
  (repeat' split) <;> simp +decide

@[simp] theorem State.stateTick_frame (s : State) (W : List Part)
    (hW : Part.within [.dev, .blk, .grf, .gbb, .corr, .tsl, .cre, .fleet, .saf, .fra, .frb, .frames, .tim, .pair,
    .mot, .cores, .mem, .ques, .dict, .sec, .evr, .upd, .start, .pwr, .dbg, .out, .ans, .free] W = true) :
    (s.stateTick).outside W = s.outside W := by
  refine State.outside_mono (V := [.dev, .blk, .grf, .gbb, .corr, .tsl, .cre, .fleet, .saf, .fra, .frb, .frames, .tim,
    .pair, .mot, .cores, .mem, .ques, .dict, .sec, .evr, .upd, .start, .pwr, .dbg, .out, .ans, .free]) ?_ hW
  simp only [State.stateTick]
  (repeat' split) <;> simp +decide

end Sys2Proof.Machine
end

