-- ==== Sys2Proof/Laws/Frames/Update.lean ====
section
/-!
SUPPORT. What the operations of Machine/Update.lean leave alone: one lemma each, for every part of the state the operation
does not write.
-/
namespace Sys2Proof.Machine

@[simp] theorem State.setArea_frame (s : State) (x1) (x2) (W : List Part)
    (hW : Part.within [.upd] W = true) : (s.setArea x1 x2).outside W = s.outside W := by
  refine State.outside_mono (V := [.upd]) ?_ hW
  unfold State.setArea
  simp +decide

@[simp] theorem State.imagePut_frame (s : State) (x1) (x2) (W : List Part)
    (hW : Part.within [.upd] W = true) : (s.imagePut x1 x2).outside W = s.outside W := by
  refine State.outside_mono (V := [.upd]) ?_ hW
  unfold State.imagePut
  (repeat' split) <;> simp +decide

@[simp] theorem State.imageDiscard_frame (s : State) (W : List Part)
    (hW : Part.within [.upd, .ans] W = true) : (s.imageDiscard).outside W = s.outside W := by
  refine State.outside_mono (V := [.upd, .ans]) ?_ hW
  unfold State.imageDiscard
  (repeat' split) <;> simp +decide

@[simp] theorem State.activateMain_frame (s : State) (x1) (W : List Part)
    (hW : Part.within [.dev, .blk, .grf, .gbb, .corr, .tsl, .cre, .fleet, .saf, .fra, .frb, .frames, .tim, .pair,
    .mot, .cores, .mem, .ques, .dict, .sec, .evr, .upd, .start, .pwr, .dbg, .out, .ans, .free] W = true) :
    (s.activateMain x1).outside W = s.outside W := by
  refine State.outside_mono (V := [.dev, .blk, .grf, .gbb, .corr, .tsl, .cre, .fleet, .saf, .fra, .frb, .frames, .tim,
    .pair, .mot, .cores, .mem, .ques, .dict, .sec, .evr, .upd, .start, .pwr, .dbg, .out, .ans, .free]) ?_ hW
  unfold State.activateMain
  simp +decide

@[simp] theorem State.activateEngine_frame (s : State) (x1) (x2) (W : List Part)
    (hW : Part.within [.upd, .ans] W = true) : (s.activateEngine x1 x2).outside W = s.outside W := by
  refine State.outside_mono (V := [.upd, .ans]) ?_ hW
  simp only [State.activateEngine, State.activate, State.asRole]
  repeat' split
  all_goals simp +decide

@[simp] theorem State.confirmMicrocode_frame (s : State) (W : List Part)
    (hW : Part.within [.upd] W = true) : (s.confirmMicrocode).outside W = s.outside W := by
  refine State.outside_mono (V := [.upd]) ?_ hW
  unfold State.confirmMicrocode
  simp +decide

@[simp] theorem State.oldHalfErase_frame (s : State) (W : List Part)
    (hW : Part.within [.dict] W = true) : (s.oldHalfErase).outside W = s.outside W := by
  refine State.outside_mono (V := [.dict]) ?_ hW
  simp only [State.oldHalfErase]
  (repeat' split) <;> simp +decide

@[simp] theorem State.confirmMain_frame (s : State) (W : List Part)
    (hW : Part.within [.dict, .upd] W = true) : (s.confirmMain).outside W = s.outside W := by
  refine State.outside_mono (V := [.dict, .upd]) ?_ hW
  unfold State.confirmMain
  (repeat' split) <;> simp +decide

@[simp] theorem State.imageChecked_frame (s : State) (x1) (x2) (W : List Part)
    (hW : Part.within [.upd] W = true) : (s.imageChecked x1 x2).outside W = s.outside W := by
  refine State.outside_mono (V := [.upd]) ?_ hW
  simp only [State.imageChecked]
  (repeat' split) <;> simp +decide

@[simp] theorem State.reachOpsec_frame (s : State) (x1) (W : List Part)
    (hW : Part.within [.tim, .evr] W = true) : (s.reachOpsec x1).outside W = s.outside W := by
  refine State.outside_mono (V := [.tim, .evr]) ?_ hW
  unfold State.reachOpsec
  (repeat' split) <;> simp +decide

@[simp] theorem State.pauseFrom_frame (s : State) (x1) (x2) (x3) (W : List Part)
    (hW : Part.within [.upd] W = true) : (s.pauseFrom x1 x2 x3).outside W = s.outside W := by
  refine State.outside_mono (V := [.upd]) ?_ hW
  unfold State.pauseFrom
  simp +decide

@[simp] theorem State.radioResume_frame (s : State) (W : List Part)
    (hW : Part.within [.saf, .fra, .frb, .frames, .evr, .out] W = true) : (s.radioResume).outside W = s.outside W :=
    by
  refine State.outside_mono (V := [.saf, .fra, .frb, .frames, .evr, .out]) ?_ hW
  unfold State.radioResume
  (repeat' split) <;> simp +decide

@[simp] theorem State.pauseGbb_frame (s : State) (x1) (W : List Part)
    (hW : Part.within [.gbb, .tim, .evr, .upd] W = true) : (s.pauseGbb x1).outside W = s.outside W := by
  refine State.outside_mono (V := [.gbb, .tim, .evr, .upd]) ?_ hW
  unfold State.pauseGbb
  simp +decide

@[simp] theorem State.engineLoaded_frame (s : State) (x1) (x2) (W : List Part)
    (hW : Part.within [.evr, .upd, .out] W = true) : (s.engineLoaded x1 x2).outside W = s.outside W := by
  refine State.outside_mono (V := [.evr, .upd, .out]) ?_ hW
  unfold State.engineLoaded
  (repeat' split) <;> simp +decide

@[simp] theorem State.pauseRadio_frame (s : State) (x1) (W : List Part)
    (hW : Part.within [.fra, .frb, .tim, .evr, .upd] W = true) : (s.pauseRadio x1).outside W = s.outside W := by
  refine State.outside_mono (V := [.fra, .frb, .tim, .evr, .upd]) ?_ hW
  unfold State.pauseRadio
  (repeat' split) <;> simp +decide

end Sys2Proof.Machine
end

