-- ==== Sys2Proof/Laws/Frames/Uplinks.lean ====
section
/-!
SUPPORT. What the operations of Machine/Uplinks.lean leave alone: one lemma each, for every part of the state the operation
does not write.
-/
namespace Sys2Proof.Machine

@[simp] theorem State.requestDecided_frame (s : State) (x1) (x2) (x3) (W : List Part)
    (hW : Part.within [.frames] W = true) : (s.requestDecided x1 x2 x3).outside W = s.outside W := by
  refine State.outside_mono (V := [.frames]) ?_ hW
  unfold State.requestDecided
  simp +decide

@[simp] theorem State.vetchVendorDone_frame (s : State) (x1) (W : List Part)
    (hW : Part.within [.frames] W = true) : (s.vetchVendorDone x1).outside W = s.outside W := by
  refine State.outside_mono (V := [.frames]) ?_ hW
  simp only [State.vetchVendorDone]
  (repeat' split) <;> simp +decide

@[simp] theorem State.vendorSubmit_frame (s : State) (x1) (x2) (W : List Part)
    (hW : Part.within [.cre, .frames, .cores, .ques, .evr, .out, .ans] W = true) : (s.vendorSubmit x1 x2).1.outside W
    = s.outside W := by
  refine State.outside_mono (V := [.cre, .frames, .cores, .ques, .evr, .out, .ans]) ?_ hW
  simp only [State.vendorSubmit]
  (repeat' split) <;> simp_all +decide

theorem State.vendorSubmit_via {s : State} {x1} {x2} {t : State} {y} (h : s.vendorSubmit x1 x2 = (t, y)) (W : List
    Part)
    (hW : Part.within [.cre, .frames, .cores, .ques, .evr, .out, .ans] W = true) : t.outside W = s.outside W := by
  have H := State.vendorSubmit_frame s x1 x2 W hW
  rwa [h] at H

@[simp] theorem State.vetchRow_frame (s : State) (x1) (x2) (x3) (W : List Part)
    (hW : Part.within [.cre, .frames, .cores, .ques, .evr, .out, .ans] W = true) : (s.vetchRow x1 x2 x3).outside W =
    s.outside W := by
  refine State.outside_mono (V := [.cre, .frames, .cores, .ques, .evr, .out, .ans]) ?_ hW
  simp only [State.vetchRow]
  (repeat' split) <;> simp_all +decide

@[simp] theorem State.decidedAge_frame (s : State) (W : List Part)
    (hW : Part.within [.frames] W = true) : (s.decidedAge).outside W = s.outside W := by
  refine State.outside_mono (V := [.frames]) ?_ hW
  unfold State.decidedAge
  simp +decide

@[simp] theorem State.requestSubmit_frame (s : State) (x1) (x2) (x3) (x4) (W : List Part)
    (hW : Part.within [.cre, .frames, .cores, .ques, .evr, .out, .ans] W = true) : (s.requestSubmit x1 x2 x3
    x4).outside W = s.outside W := by
  refine State.outside_mono (V := [.cre, .frames, .cores, .ques, .evr, .out, .ans]) ?_ hW
  unfold State.requestSubmit
  (repeat' split) <;> simp_all +decide

@[simp] theorem State.uplink_frame (s : State) (x1) (x2) (W : List Part)
    (hW : Part.within [.cre, .fleet, .frames, .cores, .ques, .evr, .out, .ans] W = true) : (s.uplink x1 x2).1.outside
    W = s.outside W := by
  refine State.outside_mono (V := [.cre, .fleet, .frames, .cores, .ques, .evr, .out, .ans]) ?_ hW
  simp only [State.uplink]
  (repeat' split) <;> simp_all +decide

theorem State.uplink_via {s : State} {x1} {x2} {t : State} {y} (h : s.uplink x1 x2 = (t, y)) (W : List Part)
    (hW : Part.within [.cre, .fleet, .frames, .cores, .ques, .evr, .out, .ans] W = true) : t.outside W = s.outside W
    := by
  have H := State.uplink_frame s x1 x2 W hW
  rwa [h] at H

@[simp] theorem State.segmentIn_frame (s : State) (x1) (x2) (x3) (W : List Part)
    (hW : Part.within [.frames] W = true) : (s.segmentIn x1 x2 x3).1.outside W = s.outside W := by
  refine State.outside_mono (V := [.frames]) ?_ hW
  unfold State.segmentIn
  (repeat' split) <;> simp +decide

theorem State.segmentIn_via {s : State} {x1} {x2} {x3} {t : State} {y} (h : s.segmentIn x1 x2 x3 = (t, y)) (W : List
    Part)
    (hW : Part.within [.frames] W = true) : t.outside W = s.outside W := by
  have H := State.segmentIn_frame s x1 x2 x3 W hW
  rwa [h] at H

@[simp] theorem State.asmDrop_frame (s : State) (x1) (W : List Part)
    (hW : Part.within [.frames] W = true) : (s.asmDrop x1).outside W = s.outside W := by
  refine State.outside_mono (V := [.frames]) ?_ hW
  unfold State.asmDrop
  simp +decide

@[simp] theorem State.segmentItem_frame (s : State) (x1) (x2) (x3) (W : List Part)
    (hW : Part.within [.cre, .frames, .pair, .cores, .ques, .evr, .out, .ans] W = true) : (s.segmentItem x1 x2
    x3).outside W = s.outside W := by
  refine State.outside_mono (V := [.cre, .frames, .pair, .cores, .ques, .evr, .out, .ans]) ?_ hW
  simp only [State.segmentItem]
  (repeat' split) <;> simp_all +decide

@[simp] theorem State.roleAcked_frame (s : State) (x1) (x2) (W : List Part)
    (hW : Part.within [.fleet, .frames, .pair] W = true) : (s.roleAcked x1 x2).outside W = s.outside W := by
  refine State.outside_mono (V := [.fleet, .frames, .pair]) ?_ hW
  simp only [State.roleAcked]
  (repeat' split) <;> simp +decide

@[simp] theorem State.vetchResultWrite_frame (s : State) (x1) (W : List Part)
    (hW : Part.within [.cre, .cores, .ques] W = true) : (s.vetchResultWrite x1).outside W = s.outside W := by
  refine State.outside_mono (V := [.cre, .cores, .ques]) ?_ hW
  unfold State.vetchResultWrite
  repeat' split
  · simp +decide
  · simp +decide
  · rename_i h
    have H0 := State.enginePush_frame h
    simp_all +decide

@[simp] theorem State.releaseStatus_frame (s : State) (x1) (x2) (x3) (W : List Part)
    (hW : Part.within [.frames] W = true) : (s.releaseStatus x1 x2 x3).outside W = s.outside W := by
  refine State.outside_mono (V := [.frames]) ?_ hW
  simp only [State.releaseStatus]
  (repeat' split) <;> simp +decide

end Sys2Proof.Machine
end

