-- ==== Sys2Proof/Laws/Frames/Yarrow.lean ====
section
/-!
SUPPORT. What the operations of Machine/Yarrow.lean leave alone: one lemma each, for every part of the state the operation
does not write.
-/
namespace Sys2Proof.Machine

@[simp] theorem State.setZones_frame (s : State) (x1) (W : List Part)
    (hW : Part.within [.saf] W = true) : (s.setZones x1).outside W = s.outside W := by
  refine State.outside_mono (V := [.saf]) ?_ hW
  unfold State.setZones
  simp +decide

@[simp] theorem State.safPass_frame (s : State) (x1) (x2) (W : List Part)
    (hW : Part.within [.saf] W = true) : (s.safPass x1 x2).outside W = s.outside W := by
  refine State.outside_mono (V := [.saf]) ?_ hW
  unfold State.safPass
  simp +decide

@[simp] theorem State.safWrite_frame (s : State) (x1) (x2) (x3) (x4) (W : List Part)
    (hW : Part.within [.saf, .out, .ans] W = true) : (s.safWrite x1 x2 x3 x4).outside W = s.outside W := by
  refine State.outside_mono (V := [.saf, .out, .ans]) ?_ hW
  unfold State.safWrite; simp only [State.asRole]
  (repeat' split) <;> simp +decide

@[simp] theorem State.safCommit_frame (s : State) (x1) (W : List Part)
    (hW : Part.within [.saf, .evr, .out] W = true) : (s.safCommit x1).outside W = s.outside W := by
  refine State.outside_mono (V := [.saf, .evr, .out]) ?_ hW
  unfold State.safCommit
  (repeat' split) <;> simp +decide

@[simp] theorem State.sf4Reset_frame (s : State) (W : List Part)
    (hW : Part.within [.saf, .evr, .out] W = true) : (s.sf4Reset).1.outside W = s.outside W := by
  refine State.outside_mono (V := [.saf, .evr, .out]) ?_ hW
  unfold State.sf4Reset
  (repeat' split) <;> simp +decide

theorem State.sf4Reset_via {s : State} {t : State} {y} (h : s.sf4Reset = (t, y)) (W : List Part)
    (hW : Part.within [.saf, .evr, .out] W = true) : t.outside W = s.outside W := by
  have H := State.sf4Reset_frame s W hW
  rwa [h] at H

@[simp] theorem State.safReply_frame (s : State) (x1) (x2) (W : List Part)
    (hW : Part.within [.saf, .dict, .out, .ans] W = true) : (s.safReply x1 x2).outside W = s.outside W := by
  refine State.outside_mono (V := [.saf, .dict, .out, .ans]) ?_ hW
  unfold State.safReply
  simp +decide

@[simp] theorem State.boundaryLost_frame (s : State) (W : List Part)
    (hW : Part.within [.dev, .saf, .fra, .frb, .frames, .pair, .dict, .evr, .out] W = true) : (s.boundaryLost).outside
    W = s.outside W := by
  refine State.outside_mono (V := [.dev, .saf, .fra, .frb, .frames, .pair, .dict, .evr, .out]) ?_ hW
  unfold State.boundaryLost
  (repeat' split) <;> simp +decide

@[simp] theorem State.sf1Settle_frame (s : State) (W : List Part)
    (hW : Part.within [.saf, .dict, .evr, .out] W = true) : (s.sf1Settle).outside W = s.outside W := by
  refine State.outside_mono (V := [.saf, .dict, .evr, .out]) ?_ hW
  simp only [State.sf1Settle]
  (repeat' split) <;> simp +decide

@[simp] theorem State.sf1Reset_frame (s : State) (W : List Part)
    (hW : Part.within [.saf, .evr, .out] W = true) : (s.sf1Reset).1.outside W = s.outside W := by
  refine State.outside_mono (V := [.saf, .evr, .out]) ?_ hW
  simp only [State.sf1Reset]
  (repeat' split) <;> simp +decide

theorem State.sf1Reset_via {s : State} {t : State} {y} (h : s.sf1Reset = (t, y)) (W : List Part)
    (hW : Part.within [.saf, .evr, .out] W = true) : t.outside W = s.outside W := by
  have H := State.sf1Reset_frame s W hW
  rwa [h] at H

@[simp] theorem State.safAct_frame (s : State) (x1) (x2) (W : List Part)
    (hW : Part.within [.saf, .evr, .out] W = true) : (s.safAct x1 x2).1.outside W = s.outside W := by
  refine State.outside_mono (V := [.saf, .evr, .out]) ?_ hW
  unfold State.safAct
  (repeat' split) <;> simp_all +decide

theorem State.safAct_via {s : State} {x1} {x2} {t : State} {y} (h : s.safAct x1 x2 = (t, y)) (W : List Part)
    (hW : Part.within [.saf, .evr, .out] W = true) : t.outside W = s.outside W := by
  have H := State.safAct_frame s x1 x2 W hW
  rwa [h] at H

@[simp] theorem State.safCommand_frame (s : State) (x1) (W : List Part)
    (hW : Part.within [.saf, .dict, .evr, .out, .ans] W = true) : (s.safCommand x1).outside W = s.outside W := by
  refine State.outside_mono (V := [.saf, .dict, .evr, .out, .ans]) ?_ hW
  unfold State.safCommand
  (repeat' split) <;> simp_all +decide

@[simp] theorem State.loopRelease_frame (s : State) (W : List Part)
    (hW : Part.within [.saf, .fra, .frb, .frames, .pair, .evr, .out] W = true) : (s.loopRelease).outside W = s.outside
    W := by
  refine State.outside_mono (V := [.saf, .fra, .frb, .frames, .pair, .evr, .out]) ?_ hW
  unfold State.loopRelease
  (repeat' split) <;> simp +decide

@[simp] theorem State.loopMissed_frame (s : State) (W : List Part)
    (hW : Part.within [.dev, .saf, .fra, .frb, .frames, .pair, .dict, .evr, .out] W = true) : (s.loopMissed).outside W
    = s.outside W := by
  refine State.outside_mono (V := [.dev, .saf, .fra, .frb, .frames, .pair, .dict, .evr, .out]) ?_ hW
  simp only [State.loopMissed]
  (repeat' split) <;> simp +decide

@[simp] theorem State.wordStale_frame (s : State) (W : List Part)
    (hW : Part.within [.tsl, .dict, .evr, .out] W = true) : (s.wordStale).outside W = s.outside W := by
  refine State.outside_mono (V := [.tsl, .dict, .evr, .out]) ?_ hW
  simp only [State.wordStale]
  (repeat' split) <;> simp +decide

@[simp] theorem State.laneBoundary_frame (s : State) (x1) (W : List Part)
    (hW : Part.within [.dev, .tsl, .saf, .fra, .frb, .frames, .pair, .dict, .evr, .out] W = true) : (s.laneBoundary
    x1).outside W = s.outside W := by
  refine State.outside_mono (V := [.dev, .tsl, .saf, .fra, .frb, .frames, .pair, .dict, .evr, .out]) ?_ hW
  simp only [State.laneBoundary]
  (repeat' split) <;> simp +decide

@[simp] theorem State.keepAliveSet_frame (s : State) (W : List Part)
    (hW : Part.within [.saf] W = true) : (s.keepAliveSet).outside W = s.outside W := by
  refine State.outside_mono (V := [.saf]) ?_ hW
  unfold State.keepAliveSet
  simp +decide

@[simp] theorem State.burstOnRise_frame (s : State) (x1) (W : List Part)
    (hW : Part.within [.saf, .fra, .frb, .frames, .evr, .out] W = true) : (s.burstOnRise x1).outside W = s.outside W
    := by
  refine State.outside_mono (V := [.saf, .fra, .frb, .frames, .evr, .out]) ?_ hW
  simp only [State.burstOnRise]
  (repeat' split) <;> simp +decide

@[simp] theorem State.outFault_frame (s : State) (x1) (x2) (W : List Part)
    (hW : Part.within [.dev, .saf, .fra, .frb, .frames, .pair, .dict, .evr, .out] W = true) : (s.outFault x1
    x2).outside W = s.outside W := by
  refine State.outside_mono (V := [.dev, .saf, .fra, .frb, .frames, .pair, .dict, .evr, .out]) ?_ hW
  unfold State.outFault
  simp +decide

@[simp] theorem State.laneApply_frame (s : State) (x1) (x2) (W : List Part)
    (hW : Part.within [.dev, .tsl, .saf, .fra, .frb, .frames, .pair, .dict, .evr, .out, .ans] W = true) : (s.laneApply
    x1 x2).outside W = s.outside W := by
  refine State.outside_mono (V := [.dev, .tsl, .saf, .fra, .frb, .frames, .pair, .dict, .evr, .out, .ans]) ?_ hW
  simp only [State.laneApply]
  (repeat' split) <;> simp +decide

@[simp] theorem State.laneDisagrees_frame (s : State) (x1) (W : List Part)
    (hW : Part.within [.saf, .evr, .out] W = true) : (s.laneDisagrees x1).outside W = s.outside W := by
  refine State.outside_mono (V := [.saf, .evr, .out]) ?_ hW
  simp only [State.laneDisagrees]
  (repeat' split) <;> simp +decide

@[simp] theorem State.laneVoted_frame (s : State) (x1) (x2) (W : List Part)
    (hW : Part.within [.saf, .evr, .out] W = true) : (s.laneVoted x1 x2).outside W = s.outside W := by
  refine State.outside_mono (V := [.saf, .evr, .out]) ?_ hW
  unfold State.laneVoted
  (repeat' split) <;> simp +decide

@[simp] theorem State.lanesApart_frame (s : State) (W : List Part)
    (hW : Part.within [.saf] W = true) : (s.lanesApart).outside W = s.outside W := by
  refine State.outside_mono (V := [.saf]) ?_ hW
  unfold State.lanesApart
  simp +decide

@[simp] theorem State.estopPaired_frame (s : State) (W : List Part)
    (hW : Part.within [.saf] W = true) : (s.estopPaired).outside W = s.outside W := by
  refine State.outside_mono (V := [.saf]) ?_ hW
  unfold State.estopPaired
  simp +decide

@[simp] theorem State.setEstop_frame (s : State) (x1) (x2) (W : List Part)
    (hW : Part.within [.saf] W = true) : (s.setEstop x1 x2).outside W = s.outside W := by
  refine State.outside_mono (V := [.saf]) ?_ hW
  unfold State.setEstop
  (repeat' split) <;> simp +decide

@[simp] theorem State.estopLatched_frame (s : State) (x1) (x2) (W : List Part)
    (hW : Part.within [.saf, .evr, .out] W = true) : (s.estopLatched x1 x2).outside W = s.outside W := by
  refine State.outside_mono (V := [.saf, .evr, .out]) ?_ hW
  unfold State.estopLatched
  simp +decide

end Sys2Proof.Machine
end

