-- ==== Sys2Proof/Laws/Frames/PairStream.lean ====
section
/-!
SUPPORT. What the operations of Machine/PairStream.lean leave alone: one lemma each, for every part of the state the operation
does not write.
-/
namespace Sys2Proof.Machine

@[simp] theorem State.eligUpdate_frame (s : State) (W : List Part)
    (hW : Part.within [.dev, .pair, .evr, .out] W = true) : (s.eligUpdate).outside W = s.outside W := by
  refine State.outside_mono (V := [.dev, .pair, .evr, .out]) ?_ hW
  unfold State.eligUpdate
  (repeat' split) <;> simp +decide

@[simp] theorem State.snapshotAsk_frame (s : State) (W : List Part)
    (hW : Part.within [.pair, .out] W = true) : (s.snapshotAsk).outside W = s.outside W := by
  refine State.outside_mono (V := [.pair, .out]) ?_ hW
  unfold State.snapshotAsk
  (repeat' split) <;> simp +decide

@[simp] theorem State.deltaGap_frame (s : State) (W : List Part)
    (hW : Part.within [.dev, .pair, .evr, .out] W = true) : (s.deltaGap).outside W = s.outside W := by
  refine State.outside_mono (V := [.dev, .pair, .evr, .out]) ?_ hW
  unfold State.deltaGap
  simp +decide

@[simp] theorem State.snapshotNeed_frame (s : State) (W : List Part)
    (hW : Part.within [.pair, .out] W = true) : (s.snapshotNeed).outside W = s.outside W := by
  refine State.outside_mono (V := [.pair, .out]) ?_ hW
  unfold State.snapshotNeed
  (repeat' split) <;> simp +decide

@[simp] theorem State.mirror_frame (s : State) (x1) (x2) (W : List Part)
    (hW : Part.within [.cre, .pair] W = true) : (s.mirror x1 x2).outside W = s.outside W := by
  refine State.outside_mono (V := [.cre, .pair]) ?_ hW
  unfold State.mirror
  (repeat' split) <;> simp +decide

@[simp] theorem State.groupApply_frame (s : State) (x1) (x2) (x3) (x4) (x5) (W : List Part)
    (hW : Part.within [.frames, .pair, .sec, .free] W = true) : (s.groupApply x1 x2 x3 x4 x5).outside W = s.outside W
    := by
  refine State.outside_mono (V := [.frames, .pair, .sec, .free]) ?_ hW
  simp only [State.groupApply]
  (repeat' split) <;> simp_all +decide

@[simp] theorem State.safeApply_frame (s : State) (x1) (W : List Part)
    (hW : Part.within [.saf] W = true) : (s.safeApply x1).outside W = s.outside W := by
  refine State.outside_mono (V := [.saf]) ?_ hW
  unfold State.safeApply
  (repeat' split) <;> simp +decide

@[simp] theorem State.axisApply_frame (s : State) (x1) (x2) (W : List Part)
    (hW : Part.within [.mot, .evr, .out] W = true) : (s.axisApply x1 x2).outside W = s.outside W := by
  refine State.outside_mono (V := [.mot, .evr, .out]) ?_ hW
  simp only [State.axisApply]
  (repeat' split) <;> simp +decide

@[simp] theorem State.recApply_frame (s : State) (x1) (W : List Part)
    (hW : Part.within [.cre, .fleet, .saf, .frames, .pair, .mot, .cores, .ques, .sec, .evr, .out, .ans, .free] W =
    true) : (s.recApply x1).outside W = s.outside W := by
  refine State.outside_mono (V := [.cre, .fleet, .saf, .frames, .pair, .mot, .cores, .ques, .sec, .evr, .out, .ans,
    .free]) ?_ hW
  unfold State.recApply
  (repeat' split) <;> simp +decide

@[simp] theorem State.recsApply_frame (s : State) (x1) (W : List Part)
    (hW : Part.within [.cre, .fleet, .saf, .frames, .pair, .mot, .cores, .ques, .sec, .evr, .out, .ans, .free] W =
    true) : (s.recsApply x1).outside W = s.outside W := by
  refine State.outside_mono (V := [.cre, .fleet, .saf, .frames, .pair, .mot, .cores, .ques, .sec, .evr, .out, .ans,
    .free]) ?_ hW
  unfold State.recsApply
  simp +decide

@[simp] theorem State.deltaApply_frame (s : State) (x1) (W : List Part)
    (hW : Part.within [.dev, .cre, .fleet, .saf, .frames, .pair, .mot, .cores, .ques, .sec, .evr, .out, .ans, .free] W
    = true) : (s.deltaApply x1).outside W = s.outside W := by
  refine State.outside_mono (V := [.dev, .cre, .fleet, .saf, .frames, .pair, .mot, .cores, .ques, .sec, .evr, .out,
    .ans, .free]) ?_ hW
  unfold State.deltaApply
  simp +decide

@[simp] theorem State.deltaIn_frame (s : State) (x1) (W : List Part)
    (hW : Part.within [.dev, .cre, .fleet, .saf, .frames, .pair, .mot, .cores, .ques, .sec, .evr, .out, .ans, .free] W
    = true) : (s.deltaIn x1).outside W = s.outside W := by
  refine State.outside_mono (V := [.dev, .cre, .fleet, .saf, .frames, .pair, .mot, .cores, .ques, .sec, .evr, .out,
    .ans, .free]) ?_ hW
  unfold State.deltaIn
  (repeat' split) <;> simp +decide

@[simp] theorem State.deltaSend_frame (s : State) (x1) (x2) (W : List Part)
    (hW : Part.within [.pair, .out] W = true) : (s.deltaSend x1 x2).outside W = s.outside W := by
  refine State.outside_mono (V := [.pair, .out]) ?_ hW
  unfold State.deltaSend
  simp +decide

@[simp] theorem State.rollingSend_frame (s : State) (W : List Part)
    (hW : Part.within [.pair, .out] W = true) : (s.rollingSend).outside W = s.outside W := by
  refine State.outside_mono (V := [.pair, .out]) ?_ hW
  unfold State.rollingSend
  simp +decide

@[simp] theorem State.snapshotSend_frame (s : State) (W : List Part)
    (hW : Part.within [.out] W = true) : (s.snapshotSend).outside W = s.outside W := by
  refine State.outside_mono (V := [.out]) ?_ hW
  unfold State.snapshotSend
  simp +decide

@[simp] theorem State.partClear_frame (s : State) (x1) (W : List Part)
    (hW : Part.within [.cre, .fleet, .frames] W = true) : (s.partClear x1).outside W = s.outside W := by
  refine State.outside_mono (V := [.cre, .fleet, .frames]) ?_ hW
  unfold State.partClear
  simp +decide

@[simp] theorem State.rollingIn_frame (s : State) (x1) (x2) (x3) (W : List Part)
    (hW : Part.within [.cre, .fleet, .saf, .frames, .pair, .mot, .cores, .ques, .sec, .evr, .out, .ans, .free] W =
    true) : (s.rollingIn x1 x2 x3).outside W = s.outside W := by
  refine State.outside_mono (V := [.cre, .fleet, .saf, .frames, .pair, .mot, .cores, .ques, .sec, .evr, .out, .ans,
    .free]) ?_ hW
  unfold State.rollingIn
  (repeat' split) <;> simp +decide

@[simp] theorem State.bufferedApply_frame (s : State) (x1) (W : List Part)
    (hW : Part.within [.dev, .cre, .fleet, .saf, .frames, .pair, .mot, .cores, .ques, .sec, .evr, .out, .ans, .free] W
    = true) : (s.bufferedApply x1).outside W = s.outside W := by
  refine State.outside_mono (V := [.dev, .cre, .fleet, .saf, .frames, .pair, .mot, .cores, .ques, .sec, .evr, .out,
    .ans, .free]) ?_ hW
  simp +decide (disch := first | decide | (intros; (repeat' split) <;> simp +decide)) [State.bufferedApply]

@[simp] theorem State.snapshotIn_frame (s : State) (x1) (x2) (x3) (x4) (W : List Part)
    (hW : Part.within [.dev, .cre, .fleet, .saf, .frames, .pair, .mot, .cores, .ques, .sec, .evr, .out, .ans, .free] W
    = true) : (s.snapshotIn x1 x2 x3 x4).outside W = s.outside W := by
  refine State.outside_mono (V := [.dev, .cre, .fleet, .saf, .frames, .pair, .mot, .cores, .ques, .sec, .evr, .out,
    .ans, .free]) ?_ hW
  unfold State.snapshotIn
  (repeat' split) <;> simp +decide

end Sys2Proof.Machine
end

