-- ==== Sys2Proof/Laws/Frames/PairCmds.lean ====
section
/-!
SUPPORT. What the operations of Machine/PairCmds.lean leave alone: one lemma each, for every part of the state the operation
does not write.
-/
namespace Sys2Proof.Machine

@[simp] theorem State.deposed_frame (s : State) (W : List Part)
    (hW : Part.within [.dev, .blk, .grf, .gbb, .corr, .tsl, .cre, .fleet, .saf, .fra, .frb, .frames, .tim, .pair,
    .mot, .cores, .mem, .ques, .dict, .sec, .evr, .upd, .start, .pwr, .dbg, .out, .ans, .free] W = true) :
    (s.deposed).outside W = s.outside W := by
  refine State.outside_mono (V := [.dev, .blk, .grf, .gbb, .corr, .tsl, .cre, .fleet, .saf, .fra, .frb, .frames, .tim,
    .pair, .mot, .cores, .mem, .ques, .dict, .sec, .evr, .upd, .start, .pwr, .dbg, .out, .ans, .free]) ?_ hW
  unfold State.deposed
  (repeat' split) <;> simp +decide

@[simp] theorem State.newerLink_frame (s : State) (x1) (W : List Part)
    (hW : Part.within [.dev, .blk, .grf, .gbb, .corr, .tsl, .cre, .fleet, .saf, .fra, .frb, .frames, .tim, .pair,
    .mot, .cores, .mem, .ques, .dict, .sec, .evr, .upd, .start, .pwr, .dbg, .out, .ans, .free] W = true) :
    (s.newerLink x1).outside W = s.outside W := by
  refine State.outside_mono (V := [.dev, .blk, .grf, .gbb, .corr, .tsl, .cre, .fleet, .saf, .fra, .frb, .frames, .tim,
    .pair, .mot, .cores, .mem, .ques, .dict, .sec, .evr, .upd, .start, .pwr, .dbg, .out, .ans, .free]) ?_ hW
  unfold State.newerLink
  (repeat' split) <;> simp +decide

@[simp] theorem State.cmdSwap_frame (s : State) (W : List Part)
    (hW : Part.within [.dev, .cre, .pair, .ans] W = true) : (s.cmdSwap).outside W = s.outside W := by
  refine State.outside_mono (V := [.dev, .cre, .pair, .ans]) ?_ hW
  unfold State.cmdSwap
  (repeat' split) <;> simp +decide

@[simp] theorem State.cellAlign_frame (s : State) (x1) (x2) (W : List Part)
    (hW : Part.within [.gbb] W = true) : (s.cellAlign x1 x2).outside W = s.outside W := by
  refine State.outside_mono (V := [.gbb]) ?_ hW
  unfold State.cellAlign State.eachChan
  exact foldl_outside _ _ _ _ (fun s p => by dsimp only; (repeat' split) <;> simp +decide)

@[simp] theorem State.swapRelease_frame (s : State) (W : List Part)
    (hW : Part.within [.dev, .blk, .gbb, .corr, .tsl, .saf, .fra, .frb, .frames, .pair, .mot, .cores, .ques, .dict,
    .evr, .pwr, .out] W = true) : (s.swapRelease).outside W = s.outside W := by
  refine State.outside_mono (V := [.dev, .blk, .gbb, .corr, .tsl, .saf, .fra, .frb, .frames, .pair, .mot, .cores,
    .ques, .dict, .evr, .pwr, .out]) ?_ hW
  unfold State.swapRelease
  simp +decide

@[simp] theorem State.swapTick_frame (s : State) (W : List Part)
    (hW : Part.within [.dev, .blk, .gbb, .corr, .tsl, .saf, .fra, .frb, .frames, .pair, .mot, .cores, .ques, .dict,
    .evr, .pwr, .out] W = true) : (s.swapTick).outside W = s.outside W := by
  refine State.outside_mono (V := [.dev, .blk, .gbb, .corr, .tsl, .saf, .fra, .frb, .frames, .pair, .mot, .cores,
    .ques, .dict, .evr, .pwr, .out]) ?_ hW
  unfold State.swapTick
  (repeat' split) <;> simp +decide

@[simp] theorem State.linkDown_frame (s : State) (W : List Part)
    (hW : Part.within [.dev, .cre, .pair, .evr, .out] W = true) : (s.linkDown).outside W = s.outside W := by
  refine State.outside_mono (V := [.dev, .cre, .pair, .evr, .out]) ?_ hW
  simp only [State.linkDown]
  (repeat' split) <;> simp +decide

@[simp] theorem State.partnerHeard_frame (s : State) (x1) (x2) (x3) (W : List Part)
    (hW : Part.within [.saf, .pair] W = true) : (s.partnerHeard x1 x2 x3).outside W = s.outside W := by
  refine State.outside_mono (V := [.saf, .pair]) ?_ hW
  simp only [State.partnerHeard]
  (repeat' split) <;> simp +decide

@[simp] theorem State.hbSeen_frame (s : State) (W : List Part)
    (hW : Part.within [.pair] W = true) : (s.hbSeen).outside W = s.outside W := by
  refine State.outside_mono (V := [.pair]) ?_ hW
  unfold State.hbSeen
  simp +decide

@[simp] theorem State.staleLink_frame (s : State) (x1) (W : List Part)
    (hW : Part.within [.pair, .out] W = true) : (s.staleLink x1).outside W = s.outside W := by
  refine State.outside_mono (V := [.pair, .out]) ?_ hW
  unfold State.staleLink
  (repeat' split) <;> simp +decide

@[simp] theorem State.slipAll_frame (s : State) (x1) (W : List Part)
    (hW : Part.within [.gbb] W = true) : (s.slipAll x1).outside W = s.outside W := by
  refine State.outside_mono (V := [.gbb]) ?_ hW
  unfold State.slipAll State.eachChan
  exact foldl_outside _ _ _ _ (fun s p => by dsimp only; (repeat' split) <;> simp +decide)

@[simp] theorem State.takeoverPhase_frame (s : State) (x1) (W : List Part)
    (hW : Part.within [.gbb, .corr] W = true) : (s.takeoverPhase x1).outside W = s.outside W := by
  refine State.outside_mono (V := [.gbb, .corr]) ?_ hW
  simp only [State.takeoverPhase]
  (repeat' split) <;> simp +decide

@[simp] theorem State.takeoverRoles_frame (s : State) (W : List Part)
    (hW : Part.within [.fleet, .frames, .pair, .cores, .ques] W = true) : (s.takeoverRoles).outside W = s.outside W :=
    by
  refine State.outside_mono (V := [.fleet, .frames, .pair, .cores, .ques]) ?_ hW
  simp +decide (disch := first | decide | (intros; (repeat' split) <;> simp +decide)) [State.takeoverRoles]

@[simp] theorem State.axisClaim_frame (s : State) (x1) (W : List Part)
    (hW : Part.within [.blk, .cre, .mot, .cores, .ques, .evr, .out] W = true) : (s.axisClaim x1).outside W = s.outside
    W := by
  refine State.outside_mono (V := [.blk, .cre, .mot, .cores, .ques, .evr, .out]) ?_ hW
  simp only [State.axisClaim]
  (repeat' split) <;> simp +decide

@[simp] theorem State.takeover_frame (s : State) (W : List Part)
    (hW : Part.within [.dev, .blk, .gbb, .corr, .tsl, .cre, .fleet, .frames, .pair, .mot, .cores, .ques, .dict, .evr,
    .pwr, .out] W = true) : (s.takeover).outside W = s.outside W := by
  refine State.outside_mono (V := [.dev, .blk, .gbb, .corr, .tsl, .cre, .fleet, .frames, .pair, .mot, .cores, .ques,
    .dict, .evr, .pwr, .out]) ?_ hW
  unfold State.takeover
  simp +decide

@[simp] theorem State.claimDone_frame (s : State) (W : List Part)
    (hW : Part.within [.dev, .blk, .gbb, .corr, .tsl, .cre, .fleet, .frames, .pair, .mot, .cores, .ques, .dict, .evr,
    .pwr, .out] W = true) : (s.claimDone).outside W = s.outside W := by
  refine State.outside_mono (V := [.dev, .blk, .gbb, .corr, .tsl, .cre, .fleet, .frames, .pair, .mot, .cores, .ques,
    .dict, .evr, .pwr, .out]) ?_ hW
  simp only [State.claimDone]
  (repeat' split) <;> simp +decide

@[simp] theorem State.holdInSet_frame (s : State) (x1) (W : List Part)
    (hW : Part.within [.dev, .blk, .gbb, .corr, .tsl, .cre, .fleet, .saf, .fra, .frb, .frames, .pair, .mot, .cores,
    .ques, .dict, .evr, .pwr, .out] W = true) : (s.holdInSet x1).outside W = s.outside W := by
  refine State.outside_mono (V := [.dev, .blk, .gbb, .corr, .tsl, .cre, .fleet, .saf, .fra, .frb, .frames, .pair,
    .mot, .cores, .ques, .dict, .evr, .pwr, .out]) ?_ hW
  simp only [State.holdInSet]
  (repeat' split) <;> simp +decide

@[simp] theorem State.cellsAlign_frame (s : State) (x1) (W : List Part)
    (hW : Part.within [.gbb] W = true) : (s.cellsAlign x1).outside W = s.outside W := by
  refine State.outside_mono (V := [.gbb]) ?_ hW
  simp +decide [State.cellsAlign]

@[simp] theorem State.signalAlign_frame (s : State) (x1) (x2) (W : List Part)
    (hW : Part.within [.gbb, .pair] W = true) : (s.signalAlign x1 x2).outside W = s.outside W := by
  refine State.outside_mono (V := [.gbb, .pair]) ?_ hW
  simp +decide [State.signalAlign]

@[simp] theorem State.phaseIn_frame (s : State) (x1) (W : List Part)
    (hW : Part.within [.dev, .gbb, .pair, .evr, .out] W = true) : (s.phaseIn x1).outside W = s.outside W := by
  refine State.outside_mono (V := [.dev, .gbb, .pair, .evr, .out]) ?_ hW
  unfold State.phaseIn
  simp +decide

@[simp] theorem State.hbLost_frame (s : State) (W : List Part)
    (hW : Part.within [.dev, .fleet, .fra, .frb, .frames, .tim, .pair, .cores, .ques, .evr, .out] W = true) :
    (s.hbLost).outside W = s.outside W := by
  refine State.outside_mono (V := [.dev, .fleet, .fra, .frb, .frames, .tim, .pair, .cores, .ques, .evr, .out]) ?_ hW
  simp only [State.hbLost]
  (repeat' split) <;> simp +decide

@[simp] theorem State.thetaNew_frame (s : State) (x1) (x2) (W : List Part)
    (hW : Part.within [.tim, .evr, .out] W = true) : (s.thetaNew x1 x2).outside W = s.outside W := by
  refine State.outside_mono (V := [.tim, .evr, .out]) ?_ hW
  simp only [State.thetaNew]
  (repeat' split) <;> simp +decide

end Sys2Proof.Machine
end

