-- ==== Sys2Proof/Laws/Frames/Tamper.lean ====
section
/-!
SUPPORT. What the operations of Machine/Tamper.lean leave alone: one lemma each, for every part of the state the operation
does not write.
-/
namespace Sys2Proof.Machine

@[simp] theorem State.sessionsObserver_frame (s : State) (W : List Part)
    (hW : Part.within [.dict] W = true) : (s.sessionsObserver).outside W = s.outside W := by
  refine State.outside_mono (V := [.dict]) ?_ hW
  unfold State.sessionsObserver
  simp +decide

@[simp] theorem State.lifeCycleChange_frame (s : State) (x1) (x2) (W : List Part)
    (hW : Part.within [.dev, .blk, .grf, .gbb, .corr, .tsl, .cre, .fleet, .saf, .fra, .frb, .frames, .tim, .pair,
    .mot, .cores, .mem, .ques, .dict, .sec, .evr, .upd, .start, .pwr, .dbg, .out, .ans, .free] W = true) :
    (s.lifeCycleChange x1 x2).outside W = s.outside W := by
  refine State.outside_mono (V := [.dev, .blk, .grf, .gbb, .corr, .tsl, .cre, .fleet, .saf, .fra, .frb, .frames, .tim,
    .pair, .mot, .cores, .mem, .ques, .dict, .sec, .evr, .upd, .start, .pwr, .dbg, .out, .ans, .free]) ?_ hW
  unfold State.lifeCycleChange
  simp +decide

@[simp] theorem State.setTmp_frame (s : State) (x1) (W : List Part)
    (hW : Part.within [.sec] W = true) : (s.setTmp x1).outside W = s.outside W := by
  refine State.outside_mono (V := [.sec]) ?_ hW
  unfold State.setTmp
  simp +decide

@[simp] theorem State.tamperClear_frame (s : State) (W : List Part)
    (hW : Part.within [.dev, .sec, .evr, .out, .ans] W = true) : (s.tamperClear).outside W = s.outside W := by
  refine State.outside_mono (V := [.dev, .sec, .evr, .out, .ans]) ?_ hW
  unfold State.tamperClear; simp only [State.inListening]
  (repeat' split) <;> simp +decide

@[simp] theorem State.wipeCore_frame (s : State) (W : List Part)
    (hW : Part.within [.mem, .sec] W = true) : (s.wipeCore).outside W = s.outside W := by
  refine State.outside_mono (V := [.mem, .sec]) ?_ hW
  unfold State.wipeCore
  simp +decide

@[simp] theorem State.kwkClear_frame (s : State) (W : List Part)
    (hW : Part.within [.sec] W = true) : (s.kwkClear).outside W = s.outside W := by
  refine State.outside_mono (V := [.sec]) ?_ hW
  unfold State.kwkClear
  simp +decide

@[simp] theorem State.tamperFire_frame (s : State) (x1) (W : List Part)
    (hW : Part.within [.dev, .mem, .sec, .evr, .out] W = true) : (s.tamperFire x1).outside W = s.outside W := by
  refine State.outside_mono (V := [.dev, .mem, .sec, .evr, .out]) ?_ hW
  simp only [State.tamperFire]
  (repeat' split) <;> simp +decide

end Sys2Proof.Machine
end

