-- ==== Sys2Proof/Laws/Frames/Power.lean ====
section
/-!
SUPPORT. What the operations of Machine/Power.lean leave alone: one lemma each, for every part of the state the operation
does not write.
-/
namespace Sys2Proof.Machine

@[simp] theorem State.vstopGone_frame (s : State) (W : List Part)
    (hW : Part.within [.saf] W = true) : (s.vstopGone).outside W = s.outside W := by
  refine State.outside_mono (V := [.saf]) ?_ hW
  unfold State.vstopGone
  simp +decide

@[simp] theorem State.calClear_frame (s : State) (x1) (W : List Part)
    (hW : Part.within [.corr, .tim, .dict, .evr, .out, .ans] W = true) : (s.calClear x1).outside W = s.outside W := by
  refine State.outside_mono (V := [.corr, .tim, .dict, .evr, .out, .ans]) ?_ hW
  simp only [State.calClear]
  (repeat' split) <;> simp +decide

@[simp] theorem State.setPwr_frame (s : State) (x1) (W : List Part)
    (hW : Part.within [.pwr] W = true) : (s.setPwr x1).outside W = s.outside W := by
  refine State.outside_mono (V := [.pwr]) ?_ hW
  unfold State.setPwr
  simp +decide

@[simp] theorem State.domainFilled_frame (s : State) (x1) (W : List Part)
    (hW : Part.within [.grf, .gbb, .cre, .fra, .frb, .mot] W = true) : (s.domainFilled x1).outside W = s.outside W :=
    by
  refine State.outside_mono (V := [.grf, .gbb, .cre, .fra, .frb, .mot]) ?_ hW
  unfold State.domainFilled
  (repeat' split) <;> simp +decide

@[simp] theorem State.domainLost_frame (s : State) (x1) (W : List Part)
    (hW : Part.within [.grf, .gbb, .cre, .fra, .frb, .mot, .cores, .mem] W = true) : (s.domainLost x1).outside W =
    s.outside W := by
  refine State.outside_mono (V := [.grf, .gbb, .cre, .fra, .frb, .mot, .cores, .mem]) ?_ hW
  unfold State.domainLost
  (repeat' split) <;> simp +decide

@[simp] theorem State.domainReq_frame (s : State) (x1) (W : List Part)
    (hW : Part.within [.grf, .gbb, .cre, .fra, .frb, .mot, .cores, .mem, .pwr] W = true) : (s.domainReq x1).outside W
    = s.outside W := by
  refine State.outside_mono (V := [.grf, .gbb, .cre, .fra, .frb, .mot, .cores, .mem, .pwr]) ?_ hW
  unfold State.domainReq
  simp +decide

@[simp] theorem State.aonLost_frame (s : State) (W : List Part)
    (hW : Part.within [.tim, .sec, .evr, .upd, .start, .pwr] W = true) : (s.aonLost).outside W = s.outside W := by
  refine State.outside_mono (V := [.tim, .sec, .evr, .upd, .start, .pwr]) ?_ hW
  unfold State.aonLost
  simp +decide

@[simp] theorem State.brownOut_frame (s : State) (x1) (W : List Part)
    (hW : Part.within [.dev, .blk, .grf, .gbb, .corr, .tsl, .cre, .fleet, .saf, .fra, .frb, .frames, .tim, .pair,
    .mot, .cores, .mem, .ques, .dict, .sec, .evr, .upd, .start, .pwr, .dbg] W = true) : (s.brownOut x1).outside W =
    s.outside W := by
  refine State.outside_mono (V := [.dev, .blk, .grf, .gbb, .corr, .tsl, .cre, .fleet, .saf, .fra, .frb, .frames, .tim,
    .pair, .mot, .cores, .mem, .ques, .dict, .sec, .evr, .upd, .start, .pwr, .dbg]) ?_ hW
  unfold State.brownOut
  (repeat' split) <;> simp +decide

end Sys2Proof.Machine
end

