-- ==== Sys2Proof/Laws/Frames/Cores.lean ====
section
/-!
SUPPORT. What the operations of Machine/Cores.lean leave alone: one lemma each, for every part of the state the operation
does not write.
-/
namespace Sys2Proof.Machine

@[simp] theorem State.setCore_frame (s : State) (x1) (x2) (W : List Part)
    (hW : Part.within [.cores] W = true) : (s.setCore x1 x2).outside W = s.outside W := by
  refine State.outside_mono (V := [.cores]) ?_ hW
  unfold State.setCore
  simp +decide

@[simp] theorem State.endJob_frame (s : State) (x1) (W : List Part)
    (hW : Part.within [.cores] W = true) : (s.endJob x1).outside W = s.outside W := by
  refine State.outside_mono (V := [.cores]) ?_ hW
  unfold State.endJob
  simp +decide

@[simp] theorem State.coreDone_frame (s : State) (x1) (W : List Part)
    (hW : Part.within [.cores] W = true) : (s.coreDone x1).outside W = s.outside W := by
  refine State.outside_mono (V := [.cores]) ?_ hW
  unfold State.coreDone
  (repeat' split) <;> simp +decide

@[simp] theorem State.intAck_frame (s : State) (x1) (x2) (x3) (W : List Part)
    (hW : Part.within [.cores] W = true) : (s.intAck x1 x2 x3).outside W = s.outside W := by
  refine State.outside_mono (V := [.cores]) ?_ hW
  unfold State.intAck
  exact foldl_outside _ _ _ _ (fun s b => by split <;> simp +decide)

@[simp] theorem State.fleetMonitor_frame (s : State) (W : List Part)
    (hW : Part.within [.cores, .dict, .evr, .out] W = true) : (s.fleetMonitor).outside W = s.outside W := by
  refine State.outside_mono (V := [.cores, .dict, .evr, .out]) ?_ hW
  simp only [State.fleetMonitor]
  (repeat' split) <;> simp +decide

@[simp] theorem State.monitorEvent_frame (s : State) (x1) (W : List Part)
    (hW : Part.within [.cores, .dict, .evr, .out] W = true) : (s.monitorEvent x1).outside W = s.outside W := by
  refine State.outside_mono (V := [.cores, .dict, .evr, .out]) ?_ hW
  simp only [State.monitorEvent]
  (repeat' split) <;> simp +decide

end Sys2Proof.Machine
end

