-- ==== Sys2Proof/Laws/Frames/Radio.lean ====
section
/-!
SUPPORT. What the operations of Machine/Radio.lean leave alone: one lemma each, for every part of the state the operation
does not write.
-/
namespace Sys2Proof.Machine

@[simp] theorem State.stopEnd_frame (s : State) (x1) (W : List Part)
    (hW : Part.within [.dev, .saf, .fra, .frb, .frames, .tim, .pair, .dict, .evr, .out] W = true) : (s.stopEnd
    x1).outside W = s.outside W := by
  refine State.outside_mono (V := [.dev, .saf, .fra, .frb, .frames, .tim, .pair, .dict, .evr, .out]) ?_ hW
  unfold State.stopEnd
  simp +decide

@[simp] theorem State.fraFrameEnd_frame (s : State) (x1) (W : List Part)
    (hW : Part.within [.dev, .saf, .fra, .frb, .frames, .tim, .pair, .cores, .ques, .dict, .evr, .upd, .start, .out] W
    = true) : (s.fraFrameEnd x1).outside W = s.outside W := by
  refine State.outside_mono (V := [.dev, .saf, .fra, .frb, .frames, .tim, .pair, .cores, .ques, .dict, .evr, .upd,
    .start, .out]) ?_ hW
  simp only [State.fraFrameEnd]
  (repeat' split) <;> simp +decide

@[simp] theorem State.radioSet_frame (s : State) (x1) (x2) (x3) (x4) (W : List Part)
    (hW : Part.within [.dev, .blk, .gbb, .corr, .tsl, .cre, .saf, .fra, .frb, .frames, .pair, .mot, .cores, .ques,
    .dict, .evr, .out, .ans] W = true) : (s.radioSet x1 x2 x3 x4).outside W = s.outside W := by
  refine State.outside_mono (V := [.dev, .blk, .gbb, .corr, .tsl, .cre, .saf, .fra, .frb, .frames, .pair, .mot,
    .cores, .ques, .dict, .evr, .out, .ans]) ?_ hW
  unfold State.radioSet; simp only [State.inListening]
  (repeat' split) <;> simp +decide

@[simp] theorem State.fraLaunch_frame (s : State) (W : List Part)
    (hW : Part.within [.fra, .frb, .frames, .tim, .cores, .ques, .evr, .out] W = true) : (s.fraLaunch).outside W =
    s.outside W := by
  refine State.outside_mono (V := [.fra, .frb, .frames, .tim, .cores, .ques, .evr, .out]) ?_ hW
  simp only [State.fraLaunch]
  (repeat' split) <;> simp +decide

@[simp] theorem State.cowslipListenEnd_frame (s : State) (x1) (W : List Part)
    (hW : Part.within [.fra, .frb, .frames, .tim, .evr, .out] W = true) : (s.cowslipListenEnd x1).outside W =
    s.outside W := by
  refine State.outside_mono (V := [.fra, .frb, .frames, .tim, .evr, .out]) ?_ hW
  simp only [State.cowslipListenEnd]
  (repeat' split) <;> simp +decide

@[simp] theorem State.fraListenEnd_frame (s : State) (x1) (x2) (x3) (x4) (W : List Part)
    (hW : Part.within [.dev, .saf, .fra, .frb, .frames, .tim, .pair, .dict, .evr, .out] W = true) : (s.fraListenEnd x1
    x2 x3 x4).outside W = s.outside W := by
  refine State.outside_mono (V := [.dev, .saf, .fra, .frb, .frames, .tim, .pair, .dict, .evr, .out]) ?_ hW
  simp only [State.fraListenEnd]
  (repeat' split) <;> simp +decide

end Sys2Proof.Machine
end

