-- ==== Sys2Proof/Laws/Frames/Registers.lean ====
section
/-!
SUPPORT. What the operations of Machine/Registers.lean leave alone: one lemma each, for every part of the state the operation
does not write.
-/
namespace Sys2Proof.Machine

@[simp] theorem State.setTim_frame (s : State) (x1) (W : List Part)
    (hW : Part.within [.tim] W = true) : (s.setTim x1).outside W = s.outside W := by
  refine State.outside_mono (V := [.tim]) ?_ hW
  unfold State.setTim
  simp +decide

@[simp] theorem State.timErr_frame (s : State) (W : List Part)
    (hW : Part.within [.tim] W = true) : (s.timErr).outside W = s.outside W := by
  refine State.outside_mono (V := [.tim]) ?_ hW
  unfold State.timErr
  simp +decide

@[simp] theorem State.radioOffWrite_frame (s : State) (x1) (x2) (x3) (W : List Part)
    (hW : Part.within [.fra, .frb] W = true) : (s.radioOffWrite x1 x2 x3).outside W = s.outside W := by
  refine State.outside_mono (V := [.fra, .frb]) ?_ hW
  simp only [State.radioOffWrite]
  (repeat' split) <;> simp +decide

@[simp] theorem State.tbRate_frame (s : State) (x1) (x2) (W : List Part)
    (hW : Part.within [.tim] W = true) : (s.tbRate x1 x2).outside W = s.outside W := by
  refine State.outside_mono (V := [.tim]) ?_ hW
  unfold State.tbRate
  (repeat' split) <;> simp +decide

@[simp] theorem State.tbSlewRt_frame (s : State) (x1) (x2) (W : List Part)
    (hW : Part.within [.tim] W = true) : (s.tbSlewRt x1 x2).outside W = s.outside W := by
  refine State.outside_mono (V := [.tim]) ?_ hW
  unfold State.tbSlewRt
  (repeat' split) <;> simp +decide

@[simp] theorem State.tbWrite_frame (s : State) (x1) (x2) (x3) (W : List Part)
    (hW : Part.within [.tim] W = true) : (s.tbWrite x1 x2 x3).outside W = s.outside W := by
  refine State.outside_mono (V := [.tim]) ?_ hW
  unfold State.tbWrite
  (repeat' split) <;> simp +decide

@[simp] theorem State.setPps_frame (s : State) (x1) (x2) (W : List Part)
    (hW : Part.within [.tim] W = true) : (s.setPps x1 x2).outside W = s.outside W := by
  refine State.outside_mono (V := [.tim]) ?_ hW
  unfold State.setPps
  simp +decide

@[simp] theorem State.ppsCfg_frame (s : State) (x1) (x2) (W : List Part)
    (hW : Part.within [.tim] W = true) : (s.ppsCfg x1 x2).outside W = s.outside W := by
  refine State.outside_mono (V := [.tim]) ?_ hW
  simp only [State.ppsCfg]
  (repeat' split) <;> simp +decide

@[simp] theorem State.ppsWrite_frame (s : State) (x1) (x2) (x3) (W : List Part)
    (hW : Part.within [.tim] W = true) : (s.ppsWrite x1 x2 x3).outside W = s.outside W := by
  refine State.outside_mono (V := [.tim]) ?_ hW
  simp only [State.ppsWrite]
  (repeat' split) <;> simp +decide

@[simp] theorem State.evtWrite_frame (s : State) (x1) (x2) (W : List Part)
    (hW : Part.within [.tim] W = true) : (s.evtWrite x1 x2).outside W = s.outside W := by
  refine State.outside_mono (V := [.tim]) ?_ hW
  simp only [State.evtWrite]
  (repeat' split) <;> simp +decide

@[simp] theorem State.fbcIncH_frame (s : State) (x1) (W : List Part)
    (hW : Part.within [.tim] W = true) : (s.fbcIncH x1).outside W = s.outside W := by
  refine State.outside_mono (V := [.tim]) ?_ hW
  simp only [State.fbcIncH]
  (repeat' split) <;> simp +decide

@[simp] theorem State.timWrite_frame (s : State) (x1) (x2) (W : List Part)
    (hW : Part.within [.tim, .evr] W = true) : (s.timWrite x1 x2).outside W = s.outside W := by
  refine State.outside_mono (V := [.tim, .evr]) ?_ hW
  unfold State.timWrite
  (repeat' split) <;> simp +decide

@[simp] theorem State.queErr_frame (s : State) (W : List Part)
    (hW : Part.within [.ques] W = true) : (s.queErr).outside W = s.outside W := by
  refine State.outside_mono (V := [.ques]) ?_ hW
  unfold State.queErr
  simp +decide

@[simp] theorem State.keyWrite_frame (s : State) (x1) (x2) (W : List Part)
    (hW : Part.within [.sec] W = true) : (s.keyWrite x1 x2).outside W = s.outside W := by
  refine State.outside_mono (V := [.sec]) ?_ hW
  unfold State.keyWrite
  (repeat' split) <;> simp +decide

@[simp] theorem State.ctrlEnable_frame (s : State) (x1) (x2) (W : List Part)
    (hW : Part.within [.dev, .blk, .gbb, .corr, .tsl, .cre, .saf, .fra, .frb, .frames, .pair, .mot, .cores, .ques,
    .dict, .evr, .out, .ans] W = true) : (s.ctrlEnable x1 x2).outside W = s.outside W := by
  refine State.outside_mono (V := [.dev, .blk, .gbb, .corr, .tsl, .cre, .saf, .fra, .frb, .frames, .pair, .mot,
    .cores, .ques, .dict, .evr, .out, .ans]) ?_ hW
  unfold State.ctrlEnable
  simp +decide

@[simp] theorem State.statusWrite_frame (s : State) (x1) (x2) (W : List Part)
    (hW : Part.within [.blk, .mot, .cores, .ques] W = true) : (s.statusWrite x1 x2).outside W = s.outside W := by
  refine State.outside_mono (V := [.blk, .mot, .cores, .ques]) ?_ hW
  unfold State.statusWrite
  (repeat' split) <;> simp +decide

@[simp] theorem State.queCfg_frame (s : State) (x1) (x2) (W : List Part)
    (hW : Part.within [.ques] W = true) : (s.queCfg x1 x2).outside W = s.outside W := by
  refine State.outside_mono (V := [.ques]) ?_ hW
  simp only [State.queCfg]
  (repeat' split) <;> simp +decide

@[simp] theorem State.queRegWrite_frame (s : State) (x1) (x2) (x3) (W : List Part)
    (hW : Part.within [.dev, .blk, .gbb, .corr, .tsl, .cre, .saf, .fra, .frb, .frames, .pair, .mot, .cores, .ques,
    .dict, .evr, .out, .ans] W = true) : (s.queRegWrite x1 x2 x3).outside W = s.outside W := by
  refine State.outside_mono (V := [.dev, .blk, .gbb, .corr, .tsl, .cre, .saf, .fra, .frb, .frames, .pair, .mot,
    .cores, .ques, .dict, .evr, .out, .ans]) ?_ hW
  simp only [State.queRegWrite]
  (repeat' split) <;> simp +decide

@[simp] theorem State.sysWrite_frame (s : State) (x1) (x2) (x3) (W : List Part)
    (hW : Part.within [.cores] W = true) : (s.sysWrite x1 x2 x3).outside W = s.outside W := by
  refine State.outside_mono (V := [.cores]) ?_ hW
  unfold State.sysWrite
  (repeat' split) <;> simp +decide

@[simp] theorem State.clkWrite_frame (s : State) (x1) (x2) (W : List Part)
    (hW : Part.within [.pwr] W = true) : (s.clkWrite x1 x2).outside W = s.outside W := by
  refine State.outside_mono (V := [.pwr]) ?_ hW
  unfold State.clkWrite
  (repeat' split) <;> simp +decide

@[simp] theorem State.pmuWrite_frame (s : State) (x1) (x2) (W : List Part)
    (hW : Part.within [.grf, .gbb, .cre, .fra, .frb, .mot, .cores, .mem, .pwr] W = true) : (s.pmuWrite x1 x2).outside
    W = s.outside W := by
  refine State.outside_mono (V := [.grf, .gbb, .cre, .fra, .frb, .mot, .cores, .mem, .pwr]) ?_ hW
  simp only [State.pmuWrite]
  (repeat' split) <;> simp +decide

@[simp] theorem State.jdxWrite_frame (s : State) (x1) (x2) (x3) (W : List Part)
    (hW : Part.within [.cores] W = true) : (s.jdxWrite x1 x2 x3).outside W = s.outside W := by
  refine State.outside_mono (V := [.cores]) ?_ hW
  simp only [State.jdxWrite]
  (repeat' split) <;> simp +decide

@[simp] theorem State.ethWrite_frame (s : State) (x1) (x2) (x3) (W : List Part)
    (hW : Part.within [.dev, .blk, .gbb, .corr, .tsl, .cre, .saf, .fra, .frb, .frames, .tim, .pair, .mot, .cores,
    .ques, .dict, .evr, .out, .ans] W = true) : (s.ethWrite x1 x2 x3).outside W = s.outside W := by
  refine State.outside_mono (V := [.dev, .blk, .gbb, .corr, .tsl, .cre, .saf, .fra, .frb, .frames, .tim, .pair, .mot,
    .cores, .ques, .dict, .evr, .out, .ans]) ?_ hW
  unfold State.ethWrite
  (repeat' split) <;> simp +decide

@[simp] theorem State.radioWrite_frame (s : State) (x1) (x2) (x3) (W : List Part)
    (hW : Part.within [.dev, .blk, .gbb, .corr, .tsl, .cre, .saf, .fra, .frb, .frames, .pair, .mot, .cores, .ques,
    .dict, .evr, .out, .ans] W = true) : (s.radioWrite x1 x2 x3).outside W = s.outside W := by
  refine State.outside_mono (V := [.dev, .blk, .gbb, .corr, .tsl, .cre, .saf, .fra, .frb, .frames, .pair, .mot,
    .cores, .ques, .dict, .evr, .out, .ans]) ?_ hW
  simp only [State.radioWrite]
  (repeat' split) <;> simp +decide

@[simp] theorem State.canWrite_frame (s : State) (x1) (x2) (x3) (W : List Part)
    (hW : Part.within [.dev, .blk, .gbb, .corr, .tsl, .cre, .saf, .fra, .frb, .frames, .pair, .mot, .cores, .ques,
    .dict, .evr, .out, .ans] W = true) : (s.canWrite x1 x2 x3).outside W = s.outside W := by
  refine State.outside_mono (V := [.dev, .blk, .gbb, .corr, .tsl, .cre, .saf, .fra, .frb, .frames, .pair, .mot,
    .cores, .ques, .dict, .evr, .out, .ans]) ?_ hW
  simp only [State.canWrite]
  (repeat' split) <;> simp +decide

@[simp] theorem State.motBlockWrite_frame (s : State) (x1) (x2) (W : List Part)
    (hW : Part.within [.dev, .blk, .gbb, .corr, .tsl, .cre, .saf, .fra, .frb, .frames, .pair, .mot, .cores, .ques,
    .dict, .evr, .out, .ans] W = true) : (s.motBlockWrite x1 x2).outside W = s.outside W := by
  refine State.outside_mono (V := [.dev, .blk, .gbb, .corr, .tsl, .cre, .saf, .fra, .frb, .frames, .pair, .mot,
    .cores, .ques, .dict, .evr, .out, .ans]) ?_ hW
  unfold State.motBlockWrite
  (repeat' split) <;> simp +decide

@[simp] theorem State.safRegWrite_frame (s : State) (x1) (x2) (W : List Part)
    (hW : Part.within [.saf, .evr, .out] W = true) : (s.safRegWrite x1 x2).outside W = s.outside W := by
  refine State.outside_mono (V := [.saf, .evr, .out]) ?_ hW
  simp only [State.safRegWrite]
  (repeat' split) <;> simp +decide

@[simp] theorem State.pairWrite_frame (s : State) (x1) (x2) (W : List Part)
    (hW : Part.within [.dev, .blk, .gbb, .corr, .tsl, .cre, .saf, .fra, .frb, .frames, .pair, .mot, .cores, .ques,
    .dict, .evr, .out, .ans] W = true) : (s.pairWrite x1 x2).outside W = s.outside W := by
  refine State.outside_mono (V := [.dev, .blk, .gbb, .corr, .tsl, .cre, .saf, .fra, .frb, .frames, .pair, .mot,
    .cores, .ques, .dict, .evr, .out, .ans]) ?_ hW
  unfold State.pairWrite
  (repeat' split) <;> simp +decide

@[simp] theorem State.crcCfg_frame (s : State) (x1) (x2) (W : List Part)
    (hW : Part.within [.ques] W = true) : (s.crcCfg x1 x2).outside W = s.outside W := by
  refine State.outside_mono (V := [.ques]) ?_ hW
  simp only [State.crcCfg]
  (repeat' split) <;> simp +decide

@[simp] theorem State.crcChanWrite_frame (s : State) (x1) (x2) (x3) (W : List Part)
    (hW : Part.within [.dev, .blk, .gbb, .corr, .tsl, .cre, .saf, .fra, .frb, .frames, .pair, .mot, .cores, .ques,
    .dict, .evr, .out, .ans] W = true) : (s.crcChanWrite x1 x2 x3).outside W = s.outside W := by
  refine State.outside_mono (V := [.dev, .blk, .gbb, .corr, .tsl, .cre, .saf, .fra, .frb, .frames, .pair, .mot,
    .cores, .ques, .dict, .evr, .out, .ans]) ?_ hW
  unfold State.crcChanWrite
  (repeat' split) <;> simp +decide

@[simp] theorem State.crcWrite_frame (s : State) (x1) (x2) (W : List Part)
    (hW : Part.within [.dev, .blk, .gbb, .corr, .tsl, .cre, .saf, .fra, .frb, .frames, .pair, .mot, .cores, .ques,
    .dict, .evr, .out, .ans] W = true) : (s.crcWrite x1 x2).outside W = s.outside W := by
  refine State.outside_mono (V := [.dev, .blk, .gbb, .corr, .tsl, .cre, .saf, .fra, .frb, .frames, .pair, .mot,
    .cores, .ques, .dict, .evr, .out, .ans]) ?_ hW
  unfold State.crcWrite
  (repeat' split) <;> simp +decide

@[simp] theorem State.quePortWrite_frame (s : State) (x1) (x2) (x3) (x4) (W : List Part)
    (hW : Part.within [.cores, .ques] W = true) : (s.quePortWrite x1 x2 x3 x4).outside W = s.outside W := by
  refine State.outside_mono (V := [.cores, .ques]) ?_ hW
  unfold State.quePortWrite
  (repeat' split) <;> simp +decide

@[simp] theorem State.queWrite_frame (s : State) (x1) (x2) (x3) (W : List Part)
    (hW : Part.within [.dev, .blk, .gbb, .corr, .tsl, .cre, .saf, .fra, .frb, .frames, .pair, .mot, .cores, .ques,
    .dict, .evr, .out, .ans] W = true) : (s.queWrite x1 x2 x3).outside W = s.outside W := by
  refine State.outside_mono (V := [.dev, .blk, .gbb, .corr, .tsl, .cre, .saf, .fra, .frb, .frames, .pair, .mot,
    .cores, .ques, .dict, .evr, .out, .ans]) ?_ hW
  unfold State.queWrite
  (repeat' split) <;> simp +decide

@[simp] theorem State.memRegWrite_frame (s : State) (x1) (x2) (W : List Part)
    (hW : Part.within [.mem] W = true) : (s.memRegWrite x1 x2).outside W = s.outside W := by
  refine State.outside_mono (V := [.mem]) ?_ hW
  simp only [State.memRegWrite]
  (repeat' split) <;> simp +decide

@[simp] theorem State.tmpWrite_frame (s : State) (x1) (x2) (W : List Part)
    (hW : Part.within [.dev, .sec, .evr, .out, .ans] W = true) : (s.tmpWrite x1 x2).outside W = s.outside W := by
  refine State.outside_mono (V := [.dev, .sec, .evr, .out, .ans]) ?_ hW
  unfold State.tmpWrite
  (repeat' split) <;> simp +decide

@[simp] theorem State.intCfgErr_frame (s : State) (W : List Part)
    (hW : Part.within [.cores] W = true) : (s.intCfgErr).outside W = s.outside W := by
  refine State.outside_mono (V := [.cores]) ?_ hW
  unfold State.intCfgErr
  simp +decide

@[simp] theorem State.srcWrite_frame (s : State) (x1) (x2) (W : List Part)
    (hW : Part.within [.cores] W = true) : (s.srcWrite x1 x2).outside W = s.outside W := by
  refine State.outside_mono (V := [.cores]) ?_ hW
  simp only [State.srcWrite]
  (repeat' split) <;> simp +decide

@[simp] theorem State.tplWrite_frame (s : State) (x1) (x2) (x3) (W : List Part)
    (hW : Part.within [.cores] W = true) : (s.tplWrite x1 x2 x3).outside W = s.outside W := by
  refine State.outside_mono (V := [.cores]) ?_ hW
  unfold State.tplWrite
  (repeat' split) <;> simp +decide

@[simp] theorem State.intWrite_frame (s : State) (x1) (x2) (W : List Part)
    (hW : Part.within [.cores] W = true) : (s.intWrite x1 x2).outside W = s.outside W := by
  refine State.outside_mono (V := [.cores]) ?_ hW
  unfold State.intWrite
  (repeat' split) <;> simp +decide

@[simp] theorem State.periphWrite_frame (s : State) (x1) (x2) (x3) (x4) (W : List Part)
    (hW : Part.within [.dev, .blk, .grf, .gbb, .corr, .tsl, .cre, .saf, .fra, .frb, .frames, .tim, .pair, .mot,
    .cores, .mem, .ques, .dict, .sec, .evr, .upd, .pwr, .out, .ans] W = true) : (s.periphWrite x1 x2 x3 x4).outside W
    = s.outside W := by
  refine State.outside_mono (V := [.dev, .blk, .grf, .gbb, .corr, .tsl, .cre, .saf, .fra, .frb, .frames, .tim, .pair,
    .mot, .cores, .mem, .ques, .dict, .sec, .evr, .upd, .pwr, .out, .ans]) ?_ hW
  unfold State.periphWrite; simp only [State.blockWrite]
  (repeat' split) <;> simp +decide

@[simp] theorem State.sramWrite_frame (s : State) (x1) (x2) (W : List Part)
    (hW : Part.within [.ques] W = true) : (s.sramWrite x1 x2).outside W = s.outside W := by
  refine State.outside_mono (V := [.ques]) ?_ hW
  simp only [State.sramWrite]
  (repeat' split) <;> simp +decide

@[simp] theorem State.wordWrite_frame (s : State) (x1) (x2) (W : List Part)
    (hW : Part.within [.mem, .ques] W = true) : (s.wordWrite x1 x2).outside W = s.outside W := by
  refine State.outside_mono (V := [.mem, .ques]) ?_ hW
  unfold State.wordWrite
  (repeat' split) <;> simp +decide

@[simp] theorem State.busWrite_frame (s : State) (x1) (x2) (x3) (W : List Part)
    (hW : Part.within [.dev, .blk, .grf, .gbb, .corr, .tsl, .cre, .saf, .fra, .frb, .frames, .tim, .pair, .mot,
    .cores, .mem, .ques, .dict, .sec, .evr, .upd, .pwr, .out, .ans] W = true) : (s.busWrite x1 x2 x3).outside W =
    s.outside W := by
  refine State.outside_mono (V := [.dev, .blk, .grf, .gbb, .corr, .tsl, .cre, .saf, .fra, .frb, .frames, .tim, .pair,
    .mot, .cores, .mem, .ques, .dict, .sec, .evr, .upd, .pwr, .out, .ans]) ?_ hW
  unfold State.busWrite
  (repeat' split) <;> simp +decide

end Sys2Proof.Machine
end

