-- ==== Sys2Proof/Laws/Frames/Views.lean ====
section
/-!
SUPPORT. What the operations of Machine/Views.lean leave alone: one lemma each, for every part of the state the operation
does not write.
-/
namespace Sys2Proof.Machine

@[simp] theorem State.busRead_frame (s : State) (x1) (x2) (W : List Part)
    (hW : Part.within [.tim, .ques, .ans] W = true) : (s.busRead x1 x2).outside W = s.outside W := by
  refine State.outside_mono (V := [.tim, .ques, .ans]) ?_ hW
  simp only [State.busRead]
  (repeat' split) <;> simp +decide

end Sys2Proof.Machine
end

