-- ==== Sys2Proof/Laws/Frames/Debug.lean ====
section
/-!
SUPPORT. What the operations of Machine/Debug.lean leave alone: one lemma each, for every part of the state the operation
does not write.
-/
namespace Sys2Proof.Machine

@[simp] theorem State.coreHalted_frame (s : State) (x1) (x2) (W : List Part)
    (hW : Part.within [.cores] W = true) : (s.coreHalted x1 x2).outside W = s.outside W := by
  refine State.outside_mono (V := [.cores]) ?_ hW
  unfold State.coreHalted
  (repeat' split) <;> simp +decide

@[simp] theorem State.setDbg_frame (s : State) (x1) (W : List Part)
    (hW : Part.within [.dbg] W = true) : (s.setDbg x1).outside W = s.outside W := by
  refine State.outside_mono (V := [.dbg]) ?_ hW
  unfold State.setDbg
  simp +decide

@[simp] theorem State.setHart_frame (s : State) (x1) (x2) (W : List Part)
    (hW : Part.within [.dbg] W = true) : (s.setHart x1 x2).outside W = s.outside W := by
  refine State.outside_mono (V := [.dbg]) ?_ hW
  unfold State.setHart
  simp +decide

@[simp] theorem State.hartHalt_frame (s : State) (x1) (W : List Part)
    (hW : Part.within [.cores, .dbg] W = true) : (s.hartHalt x1).outside W = s.outside W := by
  refine State.outside_mono (V := [.cores, .dbg]) ?_ hW
  unfold State.hartHalt
  (repeat' split) <;> simp +decide

@[simp] theorem State.tapSelect_frame (s : State) (x1) (x2) (W : List Part)
    (hW : Part.within [.dbg] W = true) : (s.tapSelect x1 x2).outside W = s.outside W := by
  refine State.outside_mono (V := [.dbg]) ?_ hW
  unfold State.tapSelect
  simp +decide

@[simp] theorem State.tapBypass_frame (s : State) (W : List Part)
    (hW : Part.within [.dbg] W = true) : (s.tapBypass).outside W = s.outside W := by
  refine State.outside_mono (V := [.dbg]) ?_ hW
  unfold State.tapBypass
  simp +decide

@[simp] theorem State.hartSelect_frame (s : State) (x1) (W : List Part)
    (hW : Part.within [.dbg] W = true) : (s.hartSelect x1).outside W = s.outside W := by
  refine State.outside_mono (V := [.dbg]) ?_ hW
  unfold State.hartSelect
  simp +decide

@[simp] theorem State.hartRead_frame (s : State) (x1) (x2) (W : List Part)
    (hW : Part.within [.dbg, .free] W = true) : (s.hartRead x1 x2).2.outside W = s.outside W := by
  refine State.outside_mono (V := [.dbg, .free]) ?_ hW
  simp only [State.hartRead]
  (repeat' split) <;> simp_all +decide

theorem State.hartRead_via {s : State} {x1} {x2} {t : State} {y} (h : s.hartRead x1 x2 = (y, t)) (W : List Part)
    (hW : Part.within [.dbg, .free] W = true) : t.outside W = s.outside W := by
  have H := State.hartRead_frame s x1 x2 W hW
  rwa [h] at H

@[simp] theorem State.hartWrite_frame (s : State) (x1) (x2) (x3) (W : List Part)
    (hW : Part.within [.dbg] W = true) : (s.hartWrite x1 x2 x3).outside W = s.outside W := by
  refine State.outside_mono (V := [.dbg]) ?_ hW
  unfold State.hartWrite
  (repeat' split) <;> simp +decide

@[simp] theorem State.abstractCmd_frame (s : State) (x1) (x2) (x3) (x4) (x5) (x6) (W : List Part)
    (hW : Part.within [.dbg, .ans, .free] W = true) : (s.abstractCmd x1 x2 x3 x4 x5 x6).outside W = s.outside W := by
  refine State.outside_mono (V := [.dbg, .ans, .free]) ?_ hW
  unfold State.abstractCmd
  (repeat' split) <;> simp_all +decide

@[simp] theorem State.dmCommand_frame (s : State) (x1) (W : List Part)
    (hW : Part.within [.dbg, .ans, .free] W = true) : (s.dmCommand x1).outside W = s.outside W := by
  refine State.outside_mono (V := [.dbg, .ans, .free]) ?_ hW
  unfold State.dmCommand; simp only [State.onHart]
  (repeat' split) <;> simp +decide

@[simp] theorem State.jobShift_frame (s : State) (x1) (x2) (W : List Part)
    (hW : Part.within [.cores] W = true) : (s.jobShift x1 x2).outside W = s.outside W := by
  refine State.outside_mono (V := [.cores]) ?_ hW
  unfold State.jobShift
  simp +decide

@[simp] theorem State.tokenFails_frame (s : State) (W : List Part)
    (hW : Part.within [.evr, .dbg, .out, .free] W = true) : (s.tokenFails).outside W = s.outside W := by
  refine State.outside_mono (V := [.evr, .dbg, .out, .free]) ?_ hW
  unfold State.tokenFails
  simp +decide

@[simp] theorem State.systemBus_frame (s : State) (x1) (x2) (x3) (W : List Part)
    (hW : Part.within [.dev, .blk, .grf, .gbb, .corr, .tsl, .cre, .saf, .fra, .frb, .frames, .tim, .pair, .mot,
    .cores, .mem, .ques, .dict, .sec, .evr, .upd, .pwr, .dbg, .out, .ans] W = true) : (s.systemBus x1 x2 x3).outside W
    = s.outside W := by
  refine State.outside_mono (V := [.dev, .blk, .grf, .gbb, .corr, .tsl, .cre, .saf, .fra, .frb, .frames, .tim, .pair,
    .mot, .cores, .mem, .ques, .dict, .sec, .evr, .upd, .pwr, .dbg, .out, .ans]) ?_ hW
  simp only [State.systemBus]
  (repeat' split) <;> simp +decide

@[simp] theorem State.debugEnable_frame (s : State) (W : List Part)
    (hW : Part.within [.dev, .gbb, .corr, .tsl, .cores, .mem, .dict, .sec, .evr, .pwr, .dbg, .out] W = true) :
    (s.debugEnable).outside W = s.outside W := by
  refine State.outside_mono (V := [.dev, .gbb, .corr, .tsl, .cores, .mem, .dict, .sec, .evr, .pwr, .dbg, .out]) ?_ hW
  simp only [State.debugEnable]
  (repeat' split) <;> simp +decide

@[simp] theorem State.hartResume_frame (s : State) (x1) (W : List Part)
    (hW : Part.within [.cores, .dbg] W = true) : (s.hartResume x1).outside W = s.outside W := by
  refine State.outside_mono (V := [.cores, .dbg]) ?_ hW
  simp only [State.hartResume]
  (repeat' split) <;> simp +decide

@[simp] theorem State.dmControl_frame (s : State) (x1) (W : List Part)
    (hW : Part.within [.cores, .dbg] W = true) : (s.dmControl x1).outside W = s.outside W := by
  refine State.outside_mono (V := [.cores, .dbg]) ?_ hW
  unfold State.dmControl; simp only [State.onHart]
  (repeat' split) <;> simp +decide

@[simp] theorem State.dmWrite_frame (s : State) (x1) (x2) (W : List Part)
    (hW : Part.within [.dev, .blk, .grf, .gbb, .corr, .tsl, .cre, .saf, .fra, .frb, .frames, .tim, .pair, .mot,
    .cores, .mem, .ques, .dict, .sec, .evr, .upd, .pwr, .dbg, .out, .ans, .free] W = true) : (s.dmWrite x1 x2).outside
    W = s.outside W := by
  refine State.outside_mono (V := [.dev, .blk, .grf, .gbb, .corr, .tsl, .cre, .saf, .fra, .frb, .frames, .tim, .pair,
    .mot, .cores, .mem, .ques, .dict, .sec, .evr, .upd, .pwr, .dbg, .out, .ans, .free]) ?_ hW
  unfold State.dmWrite
  (repeat' split) <;> simp +decide

@[simp] theorem State.dmiDone_frame (s : State) (x1) (x2) (x3) (W : List Part)
    (hW : Part.within [.dbg, .ans] W = true) : (s.dmiDone x1 x2 x3).outside W = s.outside W := by
  refine State.outside_mono (V := [.dbg, .ans]) ?_ hW
  unfold State.dmiDone
  (repeat' split) <;> simp +decide

end Sys2Proof.Machine
end

