-- ==== Sys2Proof/Laws/Frames/TaskCalls.lean ====
section
/-!
SUPPORT. What the operations of Machine/TaskCalls.lean leave alone: one lemma each, for every part of the state the operation
does not write.
-/
namespace Sys2Proof.Machine

@[simp] theorem State.callResult_frame (s : State) (x1) (x2) (x3) (x4) (x5) (W : List Part)
    (hW : Part.within [.fleet, .cores, .ques, .ans] W = true) : (s.callResult x1 x2 x3 x4 x5).outside W = s.outside W
    := by
  refine State.outside_mono (V := [.fleet, .cores, .ques, .ans]) ?_ hW
  unfold State.callResult
  split <;> simp +decide

@[simp] theorem State.bindTfcs_frame (s : State) (x1) (x2) (W : List Part)
    (hW : Part.within [.fleet] W = true) : (s.bindTfcs x1 x2).outside W = s.outside W := by
  refine State.outside_mono (V := [.fleet]) ?_ hW
  simp +decide (disch := first | decide | (intros; (repeat' split) <;> simp +decide)) [State.bindTfcs]

@[simp] theorem State.callStale_frame (s : State) (x1) (x2) (W : List Part)
    (hW : Part.within [.fleet, .evr, .out] W = true) : (s.callStale x1 x2).outside W = s.outside W := by
  refine State.outside_mono (V := [.fleet, .evr, .out]) ?_ hW
  unfold State.callStale
  (repeat' split) <;> simp +decide

@[simp] theorem State.defaultPolicy_frame (s : State) (W : List Part)
    (hW : Part.within [.fleet, .frames, .cores, .ques] W = true) : (s.defaultPolicy).outside W = s.outside W := by
  refine State.outside_mono (V := [.fleet, .frames, .cores, .ques]) ?_ hW
  simp +decide (disch := first | decide | (intros; (repeat' split) <;> simp +decide)) [State.defaultPolicy]

end Sys2Proof.Machine
end

