-- ==== Sys2Proof/Laws/Frames/Ran.lean ====
section
/-!
SUPPORT. What the commands that a dictionary write can run leave alone: one lemma each, for every part of the state the
command does not write.
-/
namespace Sys2Proof.Machine

@[simp] theorem ran_next (s t : State) : ran s (.next t) = t := rfl

@[simp] theorem execActivateCle_frame (x0) (s : State) (W : List Part)
    (hW : Part.within [.upd, .ans] W = true) : (ran s (execActivateCle x0 s)).outside W = s.outside W := by
  refine State.outside_mono (V := [.upd, .ans]) ?_ hW
  unfold execActivateCle
  simp +decide

@[simp] theorem execActivateGbb_frame (x0) (s : State) (W : List Part)
    (hW : Part.within [.upd, .ans] W = true) : (ran s (execActivateGbb x0 s)).outside W = s.outside W := by
  refine State.outside_mono (V := [.upd, .ans]) ?_ hW
  unfold execActivateGbb
  simp +decide

@[simp] theorem execActivateMain_frame (x0) (x1) (s : State) (W : List Part)
    (hW : Part.within [.dev, .blk, .grf, .gbb, .corr, .tsl, .cre, .fleet, .saf, .fra, .frb, .frames, .tim, .pair,
    .mot, .cores, .mem, .ques, .dict, .sec, .evr, .upd, .start, .pwr, .dbg, .out, .ans, .free] W = true) : (ran s
    (execActivateMain x0 x1 s)).outside W = s.outside W := by
  refine State.outside_mono (V := [.dev, .blk, .grf, .gbb, .corr, .tsl, .cre, .fleet, .saf, .fra, .frb, .frames, .tim,
    .pair, .mot, .cores, .mem, .ques, .dict, .sec, .evr, .upd, .start, .pwr, .dbg, .out, .ans, .free]) ?_ hW
  unfold execActivateMain; simp only [State.activate, State.asRole]
  (repeat' split) <;> simp +decide

@[simp] theorem execActivateRadio_frame (x0) (s : State) (W : List Part)
    (hW : Part.within [.upd, .ans] W = true) : (ran s (execActivateRadio x0 s)).outside W = s.outside W := by
  refine State.outside_mono (V := [.upd, .ans]) ?_ hW
  unfold execActivateRadio
  simp +decide

@[simp] theorem execAllot_frame (x0) (s : State) (W : List Part)
    (hW : Part.within [.fleet, .frames, .cores, .ques, .evr, .out, .ans] W = true) : (ran s (execAllot x0 s)).outside
    W = s.outside W := by
  refine State.outside_mono (V := [.fleet, .frames, .cores, .ques, .evr, .out, .ans]) ?_ hW
  unfold execAllot; simp only [State.taskCall]
  (repeat' split) <;> simp +decide

@[simp] theorem execBaselineSurveyAbort_frame (x0) (s : State) (W : List Part)
    (hW : Part.within [.tsl, .ans] W = true) : (ran s (execBaselineSurveyAbort x0 s)).outside W = s.outside W := by
  refine State.outside_mono (V := [.tsl, .ans]) ?_ hW
  unfold execBaselineSurveyAbort; simp only [State.asRole]
  (repeat' split) <;> simp +decide

@[simp] theorem execBaselineSurveyAdopt_frame (x0) (s : State) (W : List Part)
    (hW : Part.within [.tsl, .dict, .evr, .out, .ans] W = true) : (ran s (execBaselineSurveyAdopt x0 s)).outside W =
    s.outside W := by
  refine State.outside_mono (V := [.tsl, .dict, .evr, .out, .ans]) ?_ hW
  unfold execBaselineSurveyAdopt; simp only [State.asRole]
  (repeat' split) <;> simp +decide

@[simp] theorem execBaselineSurveyStart_frame (x0) (s : State) (W : List Part)
    (hW : Part.within [.tsl, .ans] W = true) : (ran s (execBaselineSurveyStart x0 s)).outside W = s.outside W := by
  refine State.outside_mono (V := [.tsl, .ans]) ?_ hW
  unfold execBaselineSurveyStart; simp only [State.asRole]
  (repeat' split) <;> simp +decide

@[simp] theorem execBaselineWrite_frame (x0) (x1) (x2) (s : State) (W : List Part)
    (hW : Part.within [.tsl, .dict, .evr, .out, .ans] W = true) : (ran s (execBaselineWrite x0 x1 x2 s)).outside W =
    s.outside W := by
  refine State.outside_mono (V := [.tsl, .dict, .evr, .out, .ans]) ?_ hW
  unfold execBaselineWrite; simp only [State.asRole]
  (repeat' split) <;> simp +decide

@[simp] theorem execCalibrationClear_frame (x0) (x1) (s : State) (W : List Part)
    (hW : Part.within [.corr, .tim, .dict, .evr, .out, .ans] W = true) : (ran s (execCalibrationClear x0 x1
    s)).outside W = s.outside W := by
  refine State.outside_mono (V := [.corr, .tim, .dict, .evr, .out, .ans]) ?_ hW
  unfold execCalibrationClear; simp only [State.asRole, State.inListening]
  (repeat' split) <;> simp +decide

@[simp] theorem execCancel_frame (x0) (s : State) (W : List Part)
    (hW : Part.within [.fleet, .frames, .cores, .ques, .evr, .out, .ans] W = true) : (ran s (execCancel x0 s)).outside
    W = s.outside W := by
  refine State.outside_mono (V := [.fleet, .frames, .cores, .ques, .evr, .out, .ans]) ?_ hW
  unfold execCancel; simp only [State.taskCall]
  (repeat' split) <;> simp +decide

@[simp] theorem execCaptureAbort_frame (x0) (s : State) (W : List Part)
    (hW : Part.within [.mot, .ans] W = true) : (ran s (execCaptureAbort x0 s)).outside W = s.outside W := by
  refine State.outside_mono (V := [.mot, .ans]) ?_ hW
  unfold execCaptureAbort; simp only [State.asRole]
  (repeat' split) <;> simp +decide

@[simp] theorem execCaptureArm_frame (x0) (s : State) (W : List Part)
    (hW : Part.within [.mot, .ans] W = true) : (ran s (execCaptureArm x0 s)).outside W = s.outside W := by
  refine State.outside_mono (V := [.mot, .ans]) ?_ hW
  unfold execCaptureArm; simp only [State.asRole]
  (repeat' split) <;> simp +decide

@[simp] theorem execCertificateWrite_frame (x0) (x1) (x2) (s : State) (W : List Part)
    (hW : Part.within [.dev, .sec, .evr, .out, .ans] W = true) : (ran s (execCertificateWrite x0 x1 x2 s)).outside W =
    s.outside W := by
  refine State.outside_mono (V := [.dev, .sec, .evr, .out, .ans]) ?_ hW
  unfold execCertificateWrite; simp only [State.asRole, State.inListening]
  (repeat' split) <;> simp +decide

@[simp] theorem execCoefficientCommit_frame (x0) (x1) (s : State) (W : List Part)
    (hW : Part.within [.mot, .ans] W = true) : (ran s (execCoefficientCommit x0 x1 s)).outside W = s.outside W := by
  refine State.outside_mono (V := [.mot, .ans]) ?_ hW
  unfold execCoefficientCommit; simp only [State.asRole]
  (repeat' split) <;> simp +decide

@[simp] theorem execConfirm_frame (x0) (x1) (s : State) (W : List Part)
    (hW : Part.within [.dict, .upd, .ans] W = true) : (ran s (execConfirm x0 x1 s)).outside W = s.outside W := by
  refine State.outside_mono (V := [.dict, .upd, .ans]) ?_ hW
  unfold execConfirm; simp only [State.asRole]
  (repeat' split) <;> simp +decide

@[simp] theorem execCreate_frame (x0) (s : State) (W : List Part)
    (hW : Part.within [.fleet, .cores, .ques, .ans] W = true) : (ran s (execCreate x0 s)).outside W = s.outside W :=
    by
  refine State.outside_mono (V := [.fleet, .cores, .ques, .ans]) ?_ hW
  simp only [execCreate]
  (repeat' split) <;> simp +decide

@[simp] theorem execDebugArm_frame (x0) (x1) (s : State) (W : List Part)
    (hW : Part.within [.dbg, .ans] W = true) : (ran s (execDebugArm x0 x1 s)).outside W = s.outside W := by
  refine State.outside_mono (V := [.dbg, .ans]) ?_ hW
  unfold execDebugArm; simp only [State.asRole, State.inListening]
  (repeat' split) <;> simp +decide

@[simp] theorem execDelete_frame (x0) (s : State) (W : List Part)
    (hW : Part.within [.fleet, .cores, .ques, .evr, .out, .ans] W = true) : (ran s (execDelete x0 s)).outside W =
    s.outside W := by
  refine State.outside_mono (V := [.fleet, .cores, .ques, .evr, .out, .ans]) ?_ hW
  unfold execDelete; simp only [State.taskCall]
  (repeat' split) <;> simp +decide

@[simp] theorem execDiscardStoredImage_frame (x0) (s : State) (W : List Part)
    (hW : Part.within [.upd, .ans] W = true) : (ran s (execDiscardStoredImage x0 s)).outside W = s.outside W := by
  refine State.outside_mono (V := [.upd, .ans]) ?_ hW
  unfold execDiscardStoredImage; simp only [State.asRole]
  (repeat' split) <;> simp +decide

@[simp] theorem execEnableWrite_frame (x0) (x1) (x2) (s : State) (W : List Part)
    (hW : Part.within [.dev, .blk, .gbb, .corr, .tsl, .cre, .saf, .fra, .frb, .frames, .pair, .mot, .cores, .ques,
    .dict, .evr, .out, .ans] W = true) : (ran s (execEnableWrite x0 x1 x2 s)).outside W = s.outside W := by
  refine State.outside_mono (V := [.dev, .blk, .gbb, .corr, .tsl, .cre, .saf, .fra, .frb, .frames, .pair, .mot,
    .cores, .ques, .dict, .evr, .out, .ans]) ?_ hW
  unfold execEnableWrite
  simp +decide

@[simp] theorem execEnrolMember_frame (x0) (x1) (s : State) (W : List Part)
    (hW : Part.within [.cre, .fleet, .frames, .sec, .evr, .out, .ans] W = true) : (ran s (execEnrolMember x0 x1
    s)).outside W = s.outside W := by
  refine State.outside_mono (V := [.cre, .fleet, .frames, .sec, .evr, .out, .ans]) ?_ hW
  unfold execEnrolMember; simp only [State.asRole]
  (repeat' split) <;> simp +decide

@[simp] theorem execEnrolNode_frame (x0) (x1) (s : State) (W : List Part)
    (hW : Part.within [.frames, .sec, .evr, .out, .ans] W = true) : (ran s (execEnrolNode x0 x1 s)).outside W =
    s.outside W := by
  refine State.outside_mono (V := [.frames, .sec, .evr, .out, .ans]) ?_ hW
  unfold execEnrolNode; simp only [State.asRole]
  (repeat' split) <;> simp +decide

@[simp] theorem execFlush_frame (x0) (s : State) (W : List Part)
    (hW : Part.within [.cores, .evr, .out, .ans] W = true) : (ran s (execFlush x0 s)).outside W = s.outside W := by
  refine State.outside_mono (V := [.cores, .evr, .out, .ans]) ?_ hW
  unfold execFlush
  simp +decide

@[simp] theorem execGroupKeyRenewal_frame (x0) (s : State) (W : List Part)
    (hW : Part.within [.frames, .sec, .evr, .out, .ans, .free] W = true) : (ran s (execGroupKeyRenewal x0 s)).outside
    W = s.outside W := by
  refine State.outside_mono (V := [.frames, .sec, .evr, .out, .ans, .free]) ?_ hW
  unfold execGroupKeyRenewal; simp only [State.asRole]
  (repeat' split) <;> simp_all +decide

@[simp] theorem execInjStart_frame (x0) (s : State) (W : List Part)
    (hW : Part.within [.mot, .ans] W = true) : (ran s (execInjStart x0 s)).outside W = s.outside W := by
  refine State.outside_mono (V := [.mot, .ans]) ?_ hW
  unfold execInjStart; simp only [State.asRole]
  (repeat' split) <;> simp +decide

@[simp] theorem execInjStop_frame (x0) (s : State) (W : List Part)
    (hW : Part.within [.mot, .ans] W = true) : (ran s (execInjStop x0 s)).outside W = s.outside W := by
  refine State.outside_mono (V := [.mot, .ans]) ?_ hW
  unfold execInjStop; simp only [State.asRole]
  (repeat' split) <;> simp +decide

@[simp] theorem execKeyImport_frame (x0) (x1) (s : State) (W : List Part)
    (hW : Part.within [.dev, .sec, .evr, .out, .ans, .free] W = true) : (ran s (execKeyImport x0 x1 s)).outside W =
    s.outside W := by
  refine State.outside_mono (V := [.dev, .sec, .evr, .out, .ans, .free]) ?_ hW
  unfold execKeyImport; simp only [State.asRole, State.inListening]
  (repeat' split) <;> simp +decide

@[simp] theorem execLifeCycleCommand_frame (x0) (x1) (x2) (s : State) (W : List Part)
    (hW : Part.within [.dev, .blk, .grf, .gbb, .corr, .tsl, .cre, .fleet, .saf, .fra, .frb, .frames, .tim, .pair,
    .mot, .cores, .mem, .ques, .dict, .sec, .evr, .upd, .start, .pwr, .dbg, .out, .ans, .free] W = true) : (ran s
    (execLifeCycleCommand x0 x1 x2 s)).outside W = s.outside W := by
  refine State.outside_mono (V := [.dev, .blk, .grf, .gbb, .corr, .tsl, .cre, .fleet, .saf, .fra, .frb, .frames, .tim,
    .pair, .mot, .cores, .mem, .ques, .dict, .sec, .evr, .upd, .start, .pwr, .dbg, .out, .ans, .free]) ?_ hW
  unfold execLifeCycleCommand; simp only [State.asRole, State.inListening]
  (repeat' split) <;> simp +decide

@[simp] theorem execLogTest_frame (x0) (x1) (s : State) (W : List Part)
    (hW : Part.within [.evr, .out, .ans] W = true) : (ran s (execLogTest x0 x1 s)).outside W = s.outside W := by
  refine State.outside_mono (V := [.evr, .out, .ans]) ?_ hW
  unfold execLogTest; simp only [State.asRole]
  (repeat' split) <;> simp +decide

@[simp] theorem execMismatchAcknowledge_frame (x0) (s : State) (W : List Part)
    (hW : Part.within [.corr, .ans] W = true) : (ran s (execMismatchAcknowledge x0 s)).outside W = s.outside W := by
  refine State.outside_mono (V := [.corr, .ans]) ?_ hW
  unfold execMismatchAcknowledge; simp only [State.asRole]
  (repeat' split) <;> simp +decide

@[simp] theorem execNodeScheduleWrite_frame (x0) (x1) (x2) (x3) (s : State) (W : List Part)
    (hW : Part.within [.frames, .dict, .ans] W = true) : (ran s (execNodeScheduleWrite x0 x1 x2 x3 s)).outside W =
    s.outside W := by
  refine State.outside_mono (V := [.frames, .dict, .ans]) ?_ hW
  unfold execNodeScheduleWrite; simp only [State.asRole]
  (repeat' split) <;> simp +decide

@[simp] theorem execRadioConfigWrite_frame (x0) (x1) (x2) (x3) (s : State) (W : List Part)
    (hW : Part.within [.dev, .blk, .gbb, .corr, .tsl, .cre, .saf, .fra, .frb, .frames, .pair, .mot, .cores, .ques,
    .dict, .evr, .out, .ans] W = true) : (ran s (execRadioConfigWrite x0 x1 x2 x3 s)).outside W = s.outside W := by
  refine State.outside_mono (V := [.dev, .blk, .gbb, .corr, .tsl, .cre, .saf, .fra, .frb, .frames, .pair, .mot,
    .cores, .ques, .dict, .evr, .out, .ans]) ?_ hW
  unfold execRadioConfigWrite; simp only [State.asRole]
  (repeat' split) <;> simp +decide

@[simp] theorem execReinstate_frame (x0) (x1) (s : State) (W : List Part)
    (hW : Part.within [.fleet, .cores, .ques, .ans] W = true) : (ran s (execReinstate x0 x1 s)).outside W = s.outside
    W := by
  refine State.outside_mono (V := [.fleet, .cores, .ques, .ans]) ?_ hW
  unfold execReinstate; simp only [State.memberCmd, State.asRole]
  (repeat' split) <;> simp +decide

@[simp] theorem execReleaseFrozen_frame (x0) (x1) (s : State) (W : List Part)
    (hW : Part.within [.cre, .fleet, .cores, .ques, .evr, .out, .ans] W = true) : (ran s (execReleaseFrozen x0 x1
    s)).outside W = s.outside W := by
  refine State.outside_mono (V := [.cre, .fleet, .cores, .ques, .evr, .out, .ans]) ?_ hW
  unfold execReleaseFrozen; simp only [State.memberCmd, State.asRole]
  (repeat' split) <;> simp +decide

@[simp] theorem execRemoveEnrolment_frame (x0) (x1) (s : State) (W : List Part)
    (hW : Part.within [.fleet, .frames, .sec, .evr, .out, .ans] W = true) : (ran s (execRemoveEnrolment x0 x1
    s)).outside W = s.outside W := by
  refine State.outside_mono (V := [.fleet, .frames, .sec, .evr, .out, .ans]) ?_ hW
  unfold execRemoveEnrolment; simp only [State.asRole, State.inListening]
  (repeat' split) <;> simp +decide

@[simp] theorem execRestart_frame (x0) (x1) (s : State) (W : List Part)
    (hW : Part.within [.dev, .blk, .grf, .gbb, .corr, .tsl, .cre, .fleet, .saf, .fra, .frb, .frames, .tim, .pair,
    .mot, .cores, .mem, .ques, .dict, .sec, .evr, .upd, .start, .pwr, .dbg, .out, .ans, .free] W = true) : (ran s
    (execRestart x0 x1 s)).outside W = s.outside W := by
  refine State.outside_mono (V := [.dev, .blk, .grf, .gbb, .corr, .tsl, .cre, .fleet, .saf, .fra, .frb, .frames, .tim,
    .pair, .mot, .cores, .mem, .ques, .dict, .sec, .evr, .upd, .start, .pwr, .dbg, .out, .ans, .free]) ?_ hW
  unfold execRestart; simp only [State.stateCmd, State.asRole]
  (repeat' split) <;> simp +decide

@[simp] theorem execRetire_frame (x0) (x1) (s : State) (W : List Part)
    (hW : Part.within [.cre, .fleet, .frames, .cores, .ques, .evr, .out, .ans] W = true) : (ran s (execRetire x0 x1
    s)).outside W = s.outside W := by
  refine State.outside_mono (V := [.cre, .fleet, .frames, .cores, .ques, .evr, .out, .ans]) ?_ hW
  unfold execRetire; simp only [State.memberCmd, State.asRole]
  (repeat' split) <;> simp +decide

@[simp] theorem execRoleChangeRequest_frame (x0) (x1) (x2) (s : State) (W : List Part)
    (hW : Part.within [.fleet, .frames, .ans] W = true) : (ran s (execRoleChangeRequest x0 x1 x2 s)).outside W =
    s.outside W := by
  refine State.outside_mono (V := [.fleet, .frames, .ans]) ?_ hW
  unfold execRoleChangeRequest; simp only [State.asRole]
  (repeat' split) <;> simp +decide

@[simp] theorem execSelfSurveyAbort_frame (x0) (s : State) (W : List Part)
    (hW : Part.within [.corr, .ans] W = true) : (ran s (execSelfSurveyAbort x0 s)).outside W = s.outside W := by
  refine State.outside_mono (V := [.corr, .ans]) ?_ hW
  unfold execSelfSurveyAbort; simp only [State.asRole]
  (repeat' split) <;> simp +decide

@[simp] theorem execSelfSurveyAdopt_frame (x0) (s : State) (W : List Part)
    (hW : Part.within [.corr, .dict, .evr, .out, .ans] W = true) : (ran s (execSelfSurveyAdopt x0 s)).outside W =
    s.outside W := by
  refine State.outside_mono (V := [.corr, .dict, .evr, .out, .ans]) ?_ hW
  unfold execSelfSurveyAdopt; simp only [State.asRole]
  (repeat' split) <;> simp +decide

@[simp] theorem execSelfSurveyStart_frame (x0) (s : State) (W : List Part)
    (hW : Part.within [.corr, .ans] W = true) : (ran s (execSelfSurveyStart x0 s)).outside W = s.outside W := by
  refine State.outside_mono (V := [.corr, .ans]) ?_ hW
  unfold execSelfSurveyStart; simp only [State.asRole]
  (repeat' split) <;> simp +decide

@[simp] theorem execServiceModeWrite_frame (x0) (x1) (x2) (s : State) (W : List Part)
    (hW : Part.within [.mot, .ans] W = true) : (ran s (execServiceModeWrite x0 x1 x2 s)).outside W = s.outside W := by
  refine State.outside_mono (V := [.mot, .ans]) ?_ hW
  unfold execServiceModeWrite; simp only [State.asRole]
  (repeat' split) <;> simp +decide

@[simp] theorem execSetPrio_frame (x0) (s : State) (W : List Part)
    (hW : Part.within [.fleet, .cores, .ques, .evr, .out, .ans] W = true) : (ran s (execSetPrio x0 s)).outside W =
    s.outside W := by
  refine State.outside_mono (V := [.fleet, .cores, .ques, .evr, .out, .ans]) ?_ hW
  unfold execSetPrio; simp only [State.taskCall]
  (repeat' split) <;> simp +decide

@[simp] theorem execSetRole_frame (x0) (s : State) (W : List Part)
    (hW : Part.within [.fleet, .frames, .cores, .ques, .ans] W = true) : (ran s (execSetRole x0 s)).outside W =
    s.outside W := by
  refine State.outside_mono (V := [.fleet, .frames, .cores, .ques, .ans]) ?_ hW
  unfold execSetRole; simp only [State.taskCall]
  (repeat' split) <;> simp +decide

@[simp] theorem execSiteKeyBlobWrite_frame (x0) (x1) (s : State) (W : List Part)
    (hW : Part.within [.dev, .sec, .ans] W = true) : (ran s (execSiteKeyBlobWrite x0 x1 s)).outside W = s.outside W :=
    by
  refine State.outside_mono (V := [.dev, .sec, .ans]) ?_ hW
  unfold execSiteKeyBlobWrite; simp only [State.asRole, State.inListening]
  (repeat' split) <;> simp +decide

@[simp] theorem execStandbyModeWrite_frame (x0) (x1) (s : State) (W : List Part)
    (hW : Part.within [.dev, .gbb, .corr, .tsl, .pair, .cores, .dict, .evr, .pwr, .out, .ans] W = true) : (ran s
    (execStandbyModeWrite x0 x1 s)).outside W = s.outside W := by
  refine State.outside_mono (V := [.dev, .gbb, .corr, .tsl, .pair, .cores, .dict, .evr, .pwr, .out, .ans]) ?_ hW
  unfold execStandbyModeWrite; simp only [State.asRole]
  (repeat' split) <;> simp +decide

@[simp] theorem execStationPositionWrite_frame (x0) (x1) (x2) (s : State) (W : List Part)
    (hW : Part.within [.corr, .dict, .evr, .out, .ans] W = true) : (ran s (execStationPositionWrite x0 x1 x2
    s)).outside W = s.outside W := by
  refine State.outside_mono (V := [.corr, .dict, .evr, .out, .ans]) ?_ hW
  unfold execStationPositionWrite; simp only [State.asRole]
  (repeat' split) <;> simp +decide

@[simp] theorem execStepCommand_frame (x0) (x1) (x2) (s : State) (W : List Part)
    (hW : Part.within [.tim, .cores, .ans] W = true) : (ran s (execStepCommand x0 x1 x2 s)).outside W = s.outside W :=
    by
  refine State.outside_mono (V := [.tim, .cores, .ans]) ?_ hW
  unfold execStepCommand; simp only [State.asRole]
  (repeat' split) <;> simp +decide

@[simp] theorem execTamperClear_frame (x0) (x1) (x2) (s : State) (W : List Part)
    (hW : Part.within [.dev, .sec, .evr, .out, .ans] W = true) : (ran s (execTamperClear x0 x1 x2 s)).outside W =
    s.outside W := by
  refine State.outside_mono (V := [.dev, .sec, .evr, .out, .ans]) ?_ hW
  unfold execTamperClear; simp only [State.asRole]
  (repeat' split) <;> simp +decide

@[simp] theorem execTeaselModeWrite_frame (x0) (x1) (s : State) (W : List Part)
    (hW : Part.within [.tsl, .dict, .evr, .out, .ans] W = true) : (ran s (execTeaselModeWrite x0 x1 s)).outside W =
    s.outside W := by
  refine State.outside_mono (V := [.tsl, .dict, .evr, .out, .ans]) ?_ hW
  unfold execTeaselModeWrite; simp only [State.asRole]
  (repeat' split) <;> simp +decide

@[simp] theorem execTfcSubmit_frame (x0) (x1) (s : State) (W : List Part)
    (hW : Part.within [.fleet, .cores, .ques, .ans] W = true) : (ran s (execTfcSubmit x0 x1 s)).outside W = s.outside
    W := by
  refine State.outside_mono (V := [.fleet, .cores, .ques, .ans]) ?_ hW
  simp only [execTfcSubmit]
  (repeat' split) <;> simp +decide

@[simp] theorem execWithdraw_frame (x0) (s : State) (W : List Part)
    (hW : Part.within [.fleet, .frames, .cores, .ques, .evr, .out, .ans] W = true) : (ran s (execWithdraw x0
    s)).outside W = s.outside W := by
  refine State.outside_mono (V := [.fleet, .frames, .cores, .ques, .evr, .out, .ans]) ?_ hW
  unfold execWithdraw; simp only [State.taskCall]
  (repeat' split) <;> simp +decide

end Sys2Proof.Machine
end

