-- ==== Sys2Proof/Laws/Frames/OdWrite.lean ====
section
/-!
SUPPORT. What the operations of Machine/OdWrite.lean leave alone: one lemma each, for every part of the state the operation
does not write.
-/
namespace Sys2Proof.Machine

@[simp] theorem State.challenge_frame (s : State) (x1) (W : List Part)
    (hW : Part.within [.dict, .ans, .free] W = true) : (s.challenge x1).outside W = s.outside W := by
  refine State.outside_mono (V := [.dict, .ans, .free]) ?_ hW
  unfold State.challenge
  simp +decide

@[simp] theorem State.odRead_frame (s : State) (x1) (x2) (x3) (x4) (x5) (W : List Part)
    (hW : Part.within [.cores, .dict, .evr, .ans, .free] W = true) : (s.odRead x1 x2 x3 x4 x5).outside W = s.outside W
    := by
  refine State.outside_mono (V := [.cores, .dict, .evr, .ans, .free]) ?_ hW
  unfold State.odRead
  (repeat' split) <;> simp +decide

@[simp] theorem State.keep_frame (s : State) (x1) (W : List Part)
    (hW : Part.within [.dict, .ans] W = true) : (s.keep x1).outside W = s.outside W := by
  refine State.outside_mono (V := [.dict, .ans]) ?_ hW
  unfold State.keep
  simp +decide

@[simp] theorem State.writeMapping_frame (s : State) (x1) (W : List Part)
    (hW : Part.within [.dict, .ans] W = true) : (s.writeMapping x1).outside W = s.outside W := by
  refine State.outside_mono (V := [.dict, .ans]) ?_ hW
  simp only [State.writeMapping]
  (repeat' split) <;> simp +decide

@[simp] theorem State.restoreDefaults_frame (s : State) (x1) (W : List Part)
    (hW : Part.within [.dict, .ans] W = true) : (s.restoreDefaults x1).outside W = s.outside W := by
  refine State.outside_mono (V := [.dict, .ans]) ?_ hW
  unfold State.restoreDefaults; simp only [State.inListening]
  (repeat' split) <;> simp +decide

@[simp] theorem execRestoreDefaults_frame (x0) (x1) (s : State) (W : List Part)
    (hW : Part.within [.dict, .ans] W = true) : (ran s (execRestoreDefaults x0 x1 s)).outside W = s.outside W := by
  refine State.outside_mono (V := [.dict, .ans]) ?_ hW
  unfold execRestoreDefaults; simp only [State.asRole]
  (repeat' split) <;> simp +decide

@[simp] theorem State.writeComm_frame (s : State) (x1) (W : List Part)
    (hW : Part.within [.dev, .blk, .gbb, .corr, .tsl, .cre, .saf, .fra, .frb, .frames, .pair, .mot, .cores, .ques,
    .dict, .evr, .out, .ans] W = true) : (s.writeComm x1).outside W = s.outside W := by
  refine State.outside_mono (V := [.dev, .blk, .gbb, .corr, .tsl, .cre, .saf, .fra, .frb, .frames, .pair, .mot,
    .cores, .ques, .dict, .evr, .out, .ans]) ?_ hW
  unfold State.writeComm; simp only [State.inListening]
  (repeat' split) <;> simp +decide

@[simp] theorem State.writeStateCommand_frame (s : State) (x1) (W : List Part)
    (hW : Part.within [.dev, .blk, .grf, .gbb, .corr, .tsl, .cre, .fleet, .saf, .fra, .frb, .frames, .tim, .pair,
    .mot, .cores, .mem, .ques, .dict, .sec, .evr, .upd, .start, .pwr, .dbg, .out, .ans, .free] W = true) :
    (s.writeStateCommand x1).outside W = s.outside W := by
  refine State.outside_mono (V := [.dev, .blk, .grf, .gbb, .corr, .tsl, .cre, .fleet, .saf, .fra, .frb, .frames, .tim,
    .pair, .mot, .cores, .mem, .ques, .dict, .sec, .evr, .upd, .start, .pwr, .dbg, .out, .ans, .free]) ?_ hW
  unfold State.writeStateCommand; simp only [State.stateCmd, State.asRole]
  (repeat' split) <;> simp +decide

@[simp] theorem State.keepLater_frame (s : State) (x1) (W : List Part)
    (hW : Part.within [.dict, .ans] W = true) : (s.keepLater x1).outside W = s.outside W := by
  refine State.outside_mono (V := [.dict, .ans]) ?_ hW
  unfold State.keepLater
  simp +decide

@[simp] theorem State.writeUnit_frame (s : State) (x1) (W : List Part)
    (hW : Part.within [.dev, .blk, .grf, .gbb, .corr, .tsl, .cre, .fleet, .saf, .fra, .frb, .frames, .tim, .pair,
    .mot, .cores, .mem, .ques, .dict, .sec, .evr, .upd, .start, .pwr, .dbg, .out, .ans, .free] W = true) :
    (s.writeUnit x1).outside W = s.outside W := by
  refine State.outside_mono (V := [.dev, .blk, .grf, .gbb, .corr, .tsl, .cre, .fleet, .saf, .fra, .frb, .frames, .tim,
    .pair, .mot, .cores, .mem, .ques, .dict, .sec, .evr, .upd, .start, .pwr, .dbg, .out, .ans, .free]) ?_ hW
  unfold State.writeUnit; simp only [State.inListening]
  (repeat' split) <;> simp +decide

@[simp] theorem State.writeCores_frame (s : State) (x1) (W : List Part)
    (hW : Part.within [.cores, .dict, .ans] W = true) : (s.writeCores x1).outside W = s.outside W := by
  refine State.outside_mono (V := [.cores, .dict, .ans]) ?_ hW
  unfold State.writeCores; simp only [State.inListening]
  (repeat' split) <;> simp +decide

@[simp] theorem State.writeUpdate_frame (s : State) (x1) (W : List Part)
    (hW : Part.within [.dev, .blk, .grf, .gbb, .corr, .tsl, .cre, .fleet, .saf, .fra, .frb, .frames, .tim, .pair,
    .mot, .cores, .mem, .ques, .dict, .sec, .evr, .upd, .start, .pwr, .dbg, .out, .ans, .free] W = true) :
    (s.writeUpdate x1).outside W = s.outside W := by
  refine State.outside_mono (V := [.dev, .blk, .grf, .gbb, .corr, .tsl, .cre, .fleet, .saf, .fra, .frb, .frames, .tim,
    .pair, .mot, .cores, .mem, .ques, .dict, .sec, .evr, .upd, .start, .pwr, .dbg, .out, .ans, .free]) ?_ hW
  unfold State.writeUpdate; simp only [State.inListening]
  (repeat' split) <;> simp +decide

@[simp] theorem State.writeSystem_frame (s : State) (x1) (W : List Part)
    (hW : Part.within [.dev, .blk, .grf, .gbb, .corr, .tsl, .cre, .fleet, .saf, .fra, .frb, .frames, .tim, .pair,
    .mot, .cores, .mem, .ques, .dict, .sec, .evr, .upd, .start, .pwr, .dbg, .out, .ans, .free] W = true) :
    (s.writeSystem x1).outside W = s.outside W := by
  refine State.outside_mono (V := [.dev, .blk, .grf, .gbb, .corr, .tsl, .cre, .fleet, .saf, .fra, .frb, .frames, .tim,
    .pair, .mot, .cores, .mem, .ques, .dict, .sec, .evr, .upd, .start, .pwr, .dbg, .out, .ans, .free]) ?_ hW
  unfold State.writeSystem; simp only [OdReq.one]
  (repeat' split) <;> simp +decide

@[simp] theorem State.writePath_frame (s : State) (x1) (W : List Part)
    (hW : Part.within [.dict, .ans] W = true) : (s.writePath x1).outside W = s.outside W := by
  refine State.outside_mono (V := [.dict, .ans]) ?_ hW
  simp only [State.writePath]
  (repeat' split) <;> simp +decide

@[simp] theorem State.writeService_frame (s : State) (x1) (W : List Part)
    (hW : Part.within [.corr, .dict, .out, .ans] W = true) : (s.writeService x1).outside W = s.outside W := by
  refine State.outside_mono (V := [.corr, .dict, .out, .ans]) ?_ hW
  unfold State.writeService
  (repeat' split) <;> simp +decide

@[simp] theorem State.writeFront_frame (s : State) (x1) (W : List Part)
    (hW : Part.within [.grf, .gbb, .dict, .ans] W = true) : (s.writeFront x1).outside W = s.outside W := by
  refine State.outside_mono (V := [.grf, .gbb, .dict, .ans]) ?_ hW
  unfold State.writeFront
  (repeat' split) <;> simp +decide

@[simp] theorem State.writeGnss_frame (s : State) (x1) (W : List Part)
    (hW : Part.within [.grf, .gbb, .corr, .tsl, .dict, .evr, .out, .ans] W = true) : (s.writeGnss x1).outside W =
    s.outside W := by
  refine State.outside_mono (V := [.grf, .gbb, .corr, .tsl, .dict, .evr, .out, .ans]) ?_ hW
  unfold State.writeGnss; simp only [OdReq.one, State.inListening, OdReq.pick]
  (repeat' split) <;> simp +decide

@[simp] theorem State.writeTime_frame (s : State) (x1) (W : List Part)
    (hW : Part.within [.tim, .cores, .dict, .ans] W = true) : (s.writeTime x1).outside W = s.outside W := by
  refine State.outside_mono (V := [.tim, .cores, .dict, .ans]) ?_ hW
  unfold State.writeTime; simp only [State.inListening]
  (repeat' split) <;> simp +decide

@[simp] theorem State.writeWake_frame (s : State) (x1) (x2) (W : List Part)
    (hW : Part.within [.frames, .sec, .ans] W = true) : (s.writeWake x1 x2).outside W = s.outside W := by
  refine State.outside_mono (V := [.frames, .sec, .ans]) ?_ hW
  unfold State.writeWake
  (repeat' split) <;> simp +decide

@[simp] theorem State.writeRadio_frame (s : State) (x1) (W : List Part)
    (hW : Part.within [.dev, .blk, .gbb, .corr, .tsl, .cre, .saf, .fra, .frb, .frames, .pair, .mot, .cores, .ques,
    .dict, .sec, .evr, .out, .ans] W = true) : (s.writeRadio x1).outside W = s.outside W := by
  refine State.outside_mono (V := [.dev, .blk, .gbb, .corr, .tsl, .cre, .saf, .fra, .frb, .frames, .pair, .mot,
    .cores, .ques, .dict, .sec, .evr, .out, .ans]) ?_ hW
  unfold State.writeRadio; simp only [State.inListening]
  (repeat' split) <;> simp +decide

@[simp] theorem State.writeClass_frame (s : State) (x1) (W : List Part)
    (hW : Part.within [.cre, .dict, .ans] W = true) : (s.writeClass x1).outside W = s.outside W := by
  refine State.outside_mono (V := [.cre, .dict, .ans]) ?_ hW
  unfold State.writeClass; simp only [State.inListening]
  (repeat' split) <;> simp +decide

@[simp] theorem State.writeMemberClass_frame (s : State) (x1) (x2) (W : List Part)
    (hW : Part.within [.cre, .fleet, .sec, .ans] W = true) : (s.writeMemberClass x1 x2).outside W = s.outside W := by
  refine State.outside_mono (V := [.cre, .fleet, .sec, .ans]) ?_ hW
  unfold State.writeMemberClass
  (repeat' split) <;> simp +decide

@[simp] theorem State.writeMemberCommand_frame (s : State) (x1) (W : List Part)
    (hW : Part.within [.cre, .fleet, .frames, .cores, .ques, .evr, .out, .ans] W = true) : (s.writeMemberCommand
    x1).outside W = s.outside W := by
  refine State.outside_mono (V := [.cre, .fleet, .frames, .cores, .ques, .evr, .out, .ans]) ?_ hW
  unfold State.writeMemberCommand
  (repeat' split) <;> simp +decide

@[simp] theorem State.writeCall_frame (s : State) (x1) (W : List Part)
    (hW : Part.within [.fleet, .frames, .cores, .ques, .evr, .out, .ans] W = true) : (s.writeCall x1).outside W =
    s.outside W := by
  refine State.outside_mono (V := [.fleet, .frames, .cores, .ques, .evr, .out, .ans]) ?_ hW
  unfold State.writeCall
  (repeat' split) <;> simp +decide

@[simp] theorem State.writePolicy_frame (s : State) (x1) (W : List Part)
    (hW : Part.within [.dict, .ans] W = true) : (s.writePolicy x1).outside W = s.outside W := by
  refine State.outside_mono (V := [.dict, .ans]) ?_ hW
  unfold State.writePolicy; simp only [State.inListening]
  (repeat' split) <;> simp +decide

@[simp] theorem State.writeTraffic_frame (s : State) (x1) (W : List Part)
    (hW : Part.within [.cre, .fleet, .frames, .cores, .ques, .dict, .sec, .evr, .out, .ans] W = true) :
    (s.writeTraffic x1).outside W = s.outside W := by
  refine State.outside_mono (V := [.cre, .fleet, .frames, .cores, .ques, .dict, .sec, .evr, .out, .ans]) ?_ hW
  simp only [State.writeTraffic]
  (repeat' split) <;> simp +decide

@[simp] theorem State.writeSafetyCommand_frame (s : State) (x1) (W : List Part)
    (hW : Part.within [.saf, .out, .ans] W = true) : (s.writeSafetyCommand x1).outside W = s.outside W := by
  refine State.outside_mono (V := [.saf, .out, .ans]) ?_ hW
  unfold State.writeSafetyCommand
  (repeat' split) <;> simp +decide

@[simp] theorem State.writeSafetyCfg_frame (s : State) (x1) (W : List Part)
    (hW : Part.within [.saf, .dict, .evr, .out, .ans] W = true) : (s.writeSafetyCfg x1).outside W = s.outside W := by
  refine State.outside_mono (V := [.saf, .dict, .evr, .out, .ans]) ?_ hW
  unfold State.writeSafetyCfg; simp only [State.inListening]
  (repeat' split) <;> simp +decide

@[simp] theorem State.writeSafety_frame (s : State) (x1) (W : List Part)
    (hW : Part.within [.saf, .dict, .evr, .out, .ans] W = true) : (s.writeSafety x1).outside W = s.outside W := by
  refine State.outside_mono (V := [.saf, .dict, .evr, .out, .ans]) ?_ hW
  unfold State.writeSafety
  (repeat' split) <;> simp +decide

@[simp] theorem State.writeAxisCfg_frame (s : State) (x1) (x2) (W : List Part)
    (hW : Part.within [.mot, .dict, .ans] W = true) : (s.writeAxisCfg x1 x2).outside W = s.outside W := by
  refine State.outside_mono (V := [.mot, .dict, .ans]) ?_ hW
  simp only [State.writeAxisCfg]
  (repeat' split) <;> simp +decide

@[simp] theorem State.writeAxis_frame (s : State) (x1) (x2) (W : List Part)
    (hW : Part.within [.dev, .blk, .gbb, .corr, .tsl, .cre, .saf, .fra, .frb, .frames, .pair, .mot, .cores, .ques,
    .dict, .evr, .out, .ans] W = true) : (s.writeAxis x1 x2).outside W = s.outside W := by
  refine State.outside_mono (V := [.dev, .blk, .gbb, .corr, .tsl, .cre, .saf, .fra, .frb, .frames, .pair, .mot,
    .cores, .ques, .dict, .evr, .out, .ans]) ?_ hW
  unfold State.writeAxis
  (repeat' split) <;> simp +decide

@[simp] theorem State.writeLoop_frame (s : State) (x1) (x2) (W : List Part)
    (hW : Part.within [.mot, .dict, .ans] W = true) : (s.writeLoop x1 x2).outside W = s.outside W := by
  refine State.outside_mono (V := [.mot, .dict, .ans]) ?_ hW
  unfold State.writeLoop; simp only [OdReq.one]
  (repeat' split) <;> simp_all +decide

@[simp] theorem State.writeInjection_frame (s : State) (x1) (W : List Part)
    (hW : Part.within [.mot, .ans] W = true) : (s.writeInjection x1).outside W = s.outside W := by
  refine State.outside_mono (V := [.mot, .ans]) ?_ hW
  simp only [State.writeInjection]
  (repeat' split) <;> simp_all +decide

@[simp] theorem State.writeCapture_frame (s : State) (x1) (W : List Part)
    (hW : Part.within [.mot, .ans] W = true) : (s.writeCapture x1).outside W = s.outside W := by
  refine State.outside_mono (V := [.mot, .ans]) ?_ hW
  unfold State.writeCapture
  (repeat' split) <;> simp +decide

@[simp] theorem State.writeMotion_frame (s : State) (x1) (W : List Part)
    (hW : Part.within [.dev, .blk, .gbb, .corr, .tsl, .cre, .saf, .fra, .frb, .frames, .pair, .mot, .cores, .ques,
    .dict, .evr, .out, .ans] W = true) : (s.writeMotion x1).outside W = s.outside W := by
  refine State.outside_mono (V := [.dev, .blk, .gbb, .corr, .tsl, .cre, .saf, .fra, .frb, .frames, .pair, .mot,
    .cores, .ques, .dict, .evr, .out, .ans]) ?_ hW
  simp only [State.writeMotion]
  (repeat' split) <;> simp_all +decide

@[simp] theorem State.writePair_frame (s : State) (x1) (W : List Part)
    (hW : Part.within [.dev, .gbb, .corr, .tsl, .pair, .cores, .dict, .evr, .pwr, .out, .ans] W = true) : (s.writePair
    x1).outside W = s.outside W := by
  refine State.outside_mono (V := [.dev, .gbb, .corr, .tsl, .pair, .cores, .dict, .evr, .pwr, .out, .ans]) ?_ hW
  unfold State.writePair; simp only [State.inListening]
  (repeat' split) <;> simp +decide

@[simp] theorem State.loginDone_frame (s : State) (x1) (x2) (x3) (W : List Part)
    (hW : Part.within [.dict, .ans] W = true) : (s.loginDone x1 x2 x3).outside W = s.outside W := by
  refine State.outside_mono (V := [.dict, .ans]) ?_ hW
  unfold State.loginDone
  (repeat' split) <;> simp +decide

@[simp] theorem State.loginFails_frame (s : State) (x1) (x2) (W : List Part)
    (hW : Part.within [.dict, .evr, .out, .ans] W = true) : (s.loginFails x1 x2).outside W = s.outside W := by
  refine State.outside_mono (V := [.dict, .evr, .out, .ans]) ?_ hW
  unfold State.loginFails
  simp +decide

@[simp] theorem State.login_frame (s : State) (x1) (x2) (W : List Part)
    (hW : Part.within [.dict, .evr, .out, .ans] W = true) : (s.login x1 x2).outside W = s.outside W := by
  refine State.outside_mono (V := [.dict, .evr, .out, .ans]) ?_ hW
  simp only [State.login]
  (repeat' split) <;> simp +decide

@[simp] theorem State.logout_frame (s : State) (x1) (x2) (W : List Part)
    (hW : Part.within [.dict, .ans] W = true) : (s.logout x1 x2).outside W = s.outside W := by
  refine State.outside_mono (V := [.dict, .ans]) ?_ hW
  unfold State.logout
  (repeat' split) <;> simp +decide

@[simp] theorem State.writeKeys_frame (s : State) (x1) (W : List Part)
    (hW : Part.within [.dev, .cre, .fleet, .frames, .dict, .sec, .evr, .out, .ans, .free] W = true) : (s.writeKeys
    x1).outside W = s.outside W := by
  refine State.outside_mono (V := [.dev, .cre, .fleet, .frames, .dict, .sec, .evr, .out, .ans, .free]) ?_ hW
  unfold State.writeKeys; simp only [OdReq.one, State.inListening]
  (repeat' split) <;> simp +decide

@[simp] theorem State.writeSecure_frame (s : State) (x1) (W : List Part)
    (hW : Part.within [.dev, .cre, .fleet, .frames, .dict, .sec, .evr, .dbg, .out, .ans, .free] W = true) :
    (s.writeSecure x1).outside W = s.outside W := by
  refine State.outside_mono (V := [.dev, .cre, .fleet, .frames, .dict, .sec, .evr, .dbg, .out, .ans, .free]) ?_ hW
  unfold State.writeSecure
  (repeat' split) <;> simp +decide

@[simp] theorem State.writeCal_frame (s : State) (x1) (W : List Part)
    (hW : Part.within [.corr, .tim, .dict, .evr, .out, .ans] W = true) : (s.writeCal x1).outside W = s.outside W := by
  refine State.outside_mono (V := [.corr, .tim, .dict, .evr, .out, .ans]) ?_ hW
  unfold State.writeCal; simp only [State.inListening]
  (repeat' split) <;> simp +decide

@[simp] theorem State.odAct_frame (s : State) (x1) (W : List Part)
    (hW : Part.within [.dev, .blk, .grf, .gbb, .corr, .tsl, .cre, .fleet, .saf, .fra, .frb, .frames, .tim, .pair,
    .mot, .cores, .mem, .ques, .dict, .sec, .evr, .upd, .start, .pwr, .dbg, .out, .ans, .free] W = true) : (s.odAct
    x1).outside W = s.outside W := by
  refine State.outside_mono (V := [.dev, .blk, .grf, .gbb, .corr, .tsl, .cre, .fleet, .saf, .fra, .frb, .frames, .tim,
    .pair, .mot, .cores, .mem, .ques, .dict, .sec, .evr, .upd, .start, .pwr, .dbg, .out, .ans, .free]) ?_ hW
  unfold State.odAct
  (repeat' split) <;> simp +decide

@[simp] theorem State.odWrite_frame (s : State) (x1) (x2) (x3) (x4) (x5) (x6) (x7) (W : List Part)
    (hW : Part.within [.dev, .blk, .grf, .gbb, .corr, .tsl, .cre, .fleet, .saf, .fra, .frb, .frames, .tim, .pair,
    .mot, .cores, .mem, .ques, .dict, .sec, .evr, .upd, .start, .pwr, .dbg, .out, .ans, .free] W = true) : (s.odWrite
    x1 x2 x3 x4 x5 x6 x7).1.outside W = s.outside W := by
  refine State.outside_mono (V := [.dev, .blk, .grf, .gbb, .corr, .tsl, .cre, .fleet, .saf, .fra, .frb, .frames, .tim,
    .pair, .mot, .cores, .mem, .ques, .dict, .sec, .evr, .upd, .start, .pwr, .dbg, .out, .ans, .free]) ?_ hW
  simp only [State.odWrite]
  (repeat' split) <;> simp +decide

theorem State.odWrite_via {s : State} {x1} {x2} {x3} {x4} {x5} {x6} {x7} {t : State} {y} (h : s.odWrite x1 x2 x3 x4 x5
    x6 x7 = (t, y)) (W : List Part)
    (hW : Part.within [.dev, .blk, .grf, .gbb, .corr, .tsl, .cre, .fleet, .saf, .fra, .frb, .frames, .tim, .pair,
    .mot, .cores, .mem, .ques, .dict, .sec, .evr, .upd, .start, .pwr, .dbg, .out, .ans, .free] W = true) : t.outside W
    = s.outside W := by
  have H := State.odWrite_frame s x1 x2 x3 x4 x5 x6 x7 W hW
  rwa [h] at H

end Sys2Proof.Machine
end

