-- ==== Sys2Proof/Laws/Frames/Sessions.lean ====
section
/-!
SUPPORT. What the operations of Machine/Sessions.lean leave alone: one lemma each, for every part of the state the operation
does not write.
-/
namespace Sys2Proof.Machine

@[simp] theorem State.domainHand_frame (s : State) (x1) (x2) (W : List Part)
    (hW : Part.within [.cre, .upd, .ans] W = true) : (s.domainHand x1 x2).outside W = s.outside W := by
  refine State.outside_mono (V := [.cre, .upd, .ans]) ?_ hW
  unfold State.domainHand
  (repeat' split) <;> simp +decide

@[simp] theorem State.nzRead_frame (s : State) (x1) (x2) (x3) (W : List Part)
    (hW : Part.within [.cores, .dict, .evr, .ans, .free] W = true) : (s.nzRead x1 x2 x3).outside W = s.outside W := by
  refine State.outside_mono (V := [.cores, .dict, .evr, .ans, .free]) ?_ hW
  simp only [State.nzRead]
  (repeat' split) <;> simp +decide

theorem State.domainRefused_frame {s : State} {x1} {x2} {x3} {t : State} (h : s.domainRefused x1 x2 x3 = some t) (W :
    List Part)
    (hW : Part.within [.ans] W = true) : t.outside W = s.outside W := by
  refine State.outside_mono (V := [.ans]) ?_ hW
  unfold State.domainRefused at h
  (repeat' split at h) <;> first | (obtain rfl := Option.some.inj h; simp +decide) | cases h

@[simp] theorem State.domainOpen_frame (s : State) (x1) (x2) (x3) (x4) (W : List Part)
    (hW : Part.within [.dict, .upd, .ans] W = true) : (s.domainOpen x1 x2 x3 x4).outside W = s.outside W := by
  refine State.outside_mono (V := [.dict, .upd, .ans]) ?_ hW
  unfold State.domainOpen
  (repeat' split) <;> simp +decide

@[simp] theorem State.domainBegin_frame (s : State) (x1) (x2) (x3) (x4) (x5) (W : List Part)
    (hW : Part.within [.dict, .upd, .ans] W = true) : (s.domainBegin x1 x2 x3 x4 x5).outside W = s.outside W := by
  refine State.outside_mono (V := [.dict, .upd, .ans]) ?_ hW
  unfold State.domainBegin
  split
  · simp +decide
  · cases h : s.domainRefused x1 x3 x4 with
    | none => simp +decide
    | some t => have := State.domainRefused_frame h; simp_all +decide

@[simp] theorem State.setTransfer_frame (s : State) (x1) (x2) (W : List Part)
    (hW : Part.within [.dict] W = true) : (s.setTransfer x1 x2).outside W = s.outside W := by
  refine State.outside_mono (V := [.dict]) ?_ hW
  unfold State.setTransfer
  simp +decide

@[simp] theorem State.domainData_frame (s : State) (x1) (x2) (x3) (x4) (x5) (W : List Part)
    (hW : Part.within [.dict, .ans] W = true) : (s.domainData x1 x2 x3 x4 x5).outside W = s.outside W := by
  refine State.outside_mono (V := [.dict, .ans]) ?_ hW
  unfold State.domainData
  (repeat' split) <;> simp +decide

@[simp] theorem State.dropTransfer_frame (s : State) (x1) (W : List Part)
    (hW : Part.within [.dict] W = true) : (s.dropTransfer x1).outside W = s.outside W := by
  refine State.outside_mono (V := [.dict]) ?_ hW
  unfold State.dropTransfer
  simp +decide

@[simp] theorem State.dlSettled_frame (s : State) (W : List Part)
    (hW : Part.within [.upd] W = true) : (s.dlSettled).outside W = s.outside W := by
  refine State.outside_mono (V := [.upd]) ?_ hW
  unfold State.dlSettled
  (repeat' split) <;> simp +decide

@[simp] theorem State.domainEnd_frame (s : State) (x1) (x2) (x3) (x4) (W : List Part)
    (hW : Part.within [.cre, .dict, .upd, .ans] W = true) : (s.domainEnd x1 x2 x3 x4).outside W = s.outside W := by
  refine State.outside_mono (V := [.cre, .dict, .upd, .ans]) ?_ hW
  unfold State.domainEnd
  (repeat' split) <;> simp +decide

@[simp] theorem State.nzAct_frame (s : State) (x1) (x2) (x3) (x4) (W : List Part)
    (hW : Part.within [.dev, .blk, .grf, .gbb, .corr, .tsl, .cre, .fleet, .saf, .fra, .frb, .frames, .tim, .pair,
    .mot, .cores, .mem, .ques, .dict, .sec, .evr, .upd, .start, .pwr, .dbg, .out, .ans, .free] W = true) : (s.nzAct x1
    x2 x3 x4).1.outside W = s.outside W := by
  refine State.outside_mono (V := [.dev, .blk, .grf, .gbb, .corr, .tsl, .cre, .fleet, .saf, .fra, .frb, .frames, .tim,
    .pair, .mot, .cores, .mem, .ques, .dict, .sec, .evr, .upd, .start, .pwr, .dbg, .out, .ans, .free]) ?_ hW
  unfold State.nzAct
  (repeat' split) <;> simp_all +decide

theorem State.nzAct_via {s : State} {x1} {x2} {x3} {x4} {t : State} {y} (h : s.nzAct x1 x2 x3 x4 = (t, y)) (W : List
    Part)
    (hW : Part.within [.dev, .blk, .grf, .gbb, .corr, .tsl, .cre, .fleet, .saf, .fra, .frb, .frames, .tim, .pair,
    .mot, .cores, .mem, .ques, .dict, .sec, .evr, .upd, .start, .pwr, .dbg, .out, .ans, .free] W = true) : t.outside W
    = s.outside W := by
  have H := State.nzAct_frame s x1 x2 x3 x4 W hW
  rwa [h] at H

@[simp] theorem State.touch_frame (s : State) (x1) (W : List Part)
    (hW : Part.within [.dict] W = true) : (s.touch x1).outside W = s.outside W := by
  refine State.outside_mono (V := [.dict]) ?_ hW
  unfold State.touch
  simp +decide

@[simp] theorem State.endWork_frame (s : State) (x1) (W : List Part)
    (hW : Part.within [.dict] W = true) : (s.endWork x1).outside W = s.outside W := by
  refine State.outside_mono (V := [.dict]) ?_ hW
  unfold State.endWork
  simp +decide

@[simp] theorem State.endSession_frame (s : State) (x1) (W : List Part)
    (hW : Part.within [.dict, .upd] W = true) : (s.endSession x1).outside W = s.outside W := by
  refine State.outside_mono (V := [.dict, .upd]) ?_ hW
  unfold State.endSession
  simp +decide

@[simp] theorem State.nzPerform_frame (s : State) (x1) (x2) (x3) (x4) (W : List Part)
    (hW : Part.within [.dev, .blk, .grf, .gbb, .corr, .tsl, .cre, .fleet, .saf, .fra, .frb, .frames, .tim, .pair,
    .mot, .cores, .mem, .ques, .dict, .sec, .evr, .upd, .start, .pwr, .dbg, .out, .ans, .free] W = true) :
    (s.nzPerform x1 x2 x3 x4).outside W = s.outside W := by
  refine State.outside_mono (V := [.dev, .blk, .grf, .gbb, .corr, .tsl, .cre, .fleet, .saf, .fra, .frb, .frames, .tim,
    .pair, .mot, .cores, .mem, .ques, .dict, .sec, .evr, .upd, .start, .pwr, .dbg, .out, .ans, .free]) ?_ hW
  simp only [State.nzPerform]
  (repeat' split) <;> simp_all +decide

@[simp] theorem State.nzSequence_frame (s : State) (x1) (x2) (x3) (x4) (W : List Part)
    (hW : Part.within [.dev, .blk, .grf, .gbb, .corr, .tsl, .cre, .fleet, .saf, .fra, .frb, .frames, .tim, .pair,
    .mot, .cores, .mem, .ques, .dict, .sec, .evr, .upd, .start, .pwr, .dbg, .out, .ans, .free] W = true) :
    (s.nzSequence x1 x2 x3 x4).outside W = s.outside W := by
  refine State.outside_mono (V := [.dev, .blk, .grf, .gbb, .corr, .tsl, .cre, .fleet, .saf, .fra, .frb, .frames, .tim,
    .pair, .mot, .cores, .mem, .ques, .dict, .sec, .evr, .upd, .start, .pwr, .dbg, .out, .ans, .free]) ?_ hW
  unfold State.nzSequence
  (repeat' split) <;> simp +decide

@[simp] theorem State.nzDiscard_frame (s : State) (W : List Part)
    (hW : Part.within [.dict] W = true) : (s.nzDiscard).outside W = s.outside W := by
  refine State.outside_mono (V := [.dict]) ?_ hW
  unfold State.nzDiscard
  simp +decide

@[simp] theorem State.serviceMessage_frame (s : State) (x1) (x2) (W : List Part)
    (hW : Part.within [.dev, .blk, .grf, .gbb, .corr, .tsl, .cre, .fleet, .saf, .fra, .frb, .frames, .tim, .pair,
    .mot, .cores, .mem, .ques, .dict, .sec, .evr, .upd, .start, .pwr, .dbg, .out, .ans, .free] W = true) :
    (s.serviceMessage x1 x2).outside W = s.outside W := by
  refine State.outside_mono (V := [.dev, .blk, .grf, .gbb, .corr, .tsl, .cre, .fleet, .saf, .fra, .frb, .frames, .tim,
    .pair, .mot, .cores, .mem, .ques, .dict, .sec, .evr, .upd, .start, .pwr, .dbg, .out, .ans, .free]) ?_ hW
  unfold State.serviceMessage
  (repeat' split) <;> simp +decide

@[simp] theorem State.nzCount_frame (s : State) (W : List Part)
    (hW : Part.within [.dict] W = true) : (s.nzCount).outside W = s.outside W := by
  refine State.outside_mono (V := [.dict]) ?_ hW
  unfold State.nzCount
  simp +decide

@[simp] theorem State.nzToSession_frame (s : State) (x1) (x2) (x3) (W : List Part)
    (hW : Part.within [.dev, .blk, .grf, .gbb, .corr, .tsl, .cre, .fleet, .saf, .fra, .frb, .frames, .tim, .pair,
    .mot, .cores, .mem, .ques, .dict, .sec, .evr, .upd, .start, .pwr, .dbg, .out, .ans, .free] W = true) :
    (s.nzToSession x1 x2 x3).outside W = s.outside W := by
  refine State.outside_mono (V := [.dev, .blk, .grf, .gbb, .corr, .tsl, .cre, .fleet, .saf, .fra, .frb, .frames, .tim,
    .pair, .mot, .cores, .mem, .ques, .dict, .sec, .evr, .upd, .start, .pwr, .dbg, .out, .ans, .free]) ?_ hW
  simp only [State.nzToSession]
  (repeat' split) <;> simp +decide

@[simp] theorem State.beginSession_frame (s : State) (x1) (W : List Part)
    (hW : Part.within [.dict] W = true) : (s.beginSession x1).outside W = s.outside W := by
  refine State.outside_mono (V := [.dict]) ?_ hW
  unfold State.beginSession
  simp +decide

@[simp] theorem State.nzOpen_frame (s : State) (x1) (W : List Part)
    (hW : Part.within [.dict, .out, .ans] W = true) : (s.nzOpen x1).outside W = s.outside W := by
  refine State.outside_mono (V := [.dict, .out, .ans]) ?_ hW
  unfold State.nzOpen
  (repeat' split) <;> simp +decide

end Sys2Proof.Machine
end

