-- ==== Sys2Proof/Laws/Frames/Can.lean ====
section
/-!
SUPPORT. What the operations of Machine/Can.lean leave alone: one lemma each, for every part of the state the operation
does not write.
-/
namespace Sys2Proof.Machine

@[simp] theorem State.sdoSend_frame (s : State) (x1) (x2) (W : List Part)
    (hW : Part.within [.out] W = true) : (s.sdoSend x1 x2).outside W = s.outside W := by
  refine State.outside_mono (V := [.out]) ?_ hW
  unfold State.sdoSend
  simp +decide

@[simp] theorem State.nmtTo_frame (s : State) (x1) (x2) (W : List Part)
    (hW : Part.within [.dict] W = true) : (s.nmtTo x1 x2).outside W = s.outside W := by
  refine State.outside_mono (V := [.dict]) ?_ hW
  unfold State.nmtTo
  simp +decide

@[simp] theorem State.tpdoSend_frame (s : State) (x1) (x2) (x3) (x4) (W : List Part)
    (hW : Part.within [.tim, .dict, .evr, .out] W = true) : (s.tpdoSend x1 x2 x3 x4).outside W = s.outside W := by
  refine State.outside_mono (V := [.tim, .dict, .evr, .out]) ?_ hW
  unfold State.tpdoSend
  simp +decide

theorem State.rpdoWrites_frame {s : State} {x1} {x2} {x3} {x4} {t : State} (h : s.rpdoWrites x1 x2 x3 x4 = some t) (W
    : List Part)
    (hW : Part.within [.dev, .blk, .grf, .gbb, .corr, .tsl, .cre, .fleet, .saf, .fra, .frb, .frames, .tim, .pair,
    .mot, .cores, .mem, .ques, .dict, .sec, .evr, .upd, .start, .pwr, .dbg, .out, .ans, .free] W = true) : t.outside W
    = s.outside W := by
  refine State.outside_mono (V := [.dev, .blk, .grf, .gbb, .corr, .tsl, .cre, .fleet, .saf, .fra, .frb, .frames, .tim,
    .pair, .mot, .cores, .mem, .ques, .dict, .sec, .evr, .upd, .start, .pwr, .dbg, .out, .ans, .free]) ?_ hW
  induction x3 generalizing s x4 with
  | nil => simp only [State.rpdoWrites, Option.some.injEq] at h; simp +decide [h]
  | cons e es ih =>
    simp only [State.rpdoWrites] at h
    (repeat' split at h) <;> first | cases h | (have := ih h; simp_all +decide)

@[simp] theorem State.setSdo_frame (s : State) (x1) (x2) (W : List Part)
    (hW : Part.within [.dict] W = true) : (s.setSdo x1 x2).outside W = s.outside W := by
  refine State.outside_mono (V := [.dict]) ?_ hW
  unfold State.setSdo
  simp +decide

@[simp] theorem State.sdoAbandon_frame (s : State) (x1) (W : List Part)
    (hW : Part.within [.dict, .upd] W = true) : (s.sdoAbandon x1).outside W = s.outside W := by
  refine State.outside_mono (V := [.dict, .upd]) ?_ hW
  unfold State.sdoAbandon
  simp +decide

@[simp] theorem State.sdoWrite_frame (s : State) (x1) (x2) (x3) (x4) (x5) (x6) (W : List Part)
    (hW : Part.within [.dev, .blk, .grf, .gbb, .corr, .tsl, .cre, .fleet, .saf, .fra, .frb, .frames, .tim, .pair,
    .mot, .cores, .mem, .ques, .dict, .sec, .evr, .upd, .start, .pwr, .dbg, .out, .ans, .free] W = true) : (s.sdoWrite
    x1 x2 x3 x4 x5 x6).outside W = s.outside W := by
  refine State.outside_mono (V := [.dev, .blk, .grf, .gbb, .corr, .tsl, .cre, .fleet, .saf, .fra, .frb, .frames, .tim,
    .pair, .mot, .cores, .mem, .ques, .dict, .sec, .evr, .upd, .start, .pwr, .dbg, .out, .ans, .free]) ?_ hW
  simp only [State.sdoWrite]
  (repeat' split) <;> simp_all +decide

@[simp] theorem State.sdoAbort_frame (s : State) (x1) (x2) (x3) (x4) (W : List Part)
    (hW : Part.within [.dict, .upd, .out, .ans] W = true) : (s.sdoAbort x1 x2 x3 x4).outside W = s.outside W := by
  refine State.outside_mono (V := [.dict, .upd, .out, .ans]) ?_ hW
  unfold State.sdoAbort
  simp +decide

@[simp] theorem State.sdoBegin_frame (s : State) (x1) (x2) (x3) (x4) (W : List Part)
    (hW : Part.within [.dict, .upd, .out, .ans] W = true) : (s.sdoBegin x1 x2 x3 x4).outside W = s.outside W := by
  refine State.outside_mono (V := [.dict, .upd, .out, .ans]) ?_ hW
  simp only [State.sdoBegin]
  (repeat' split) <;> simp +decide

@[simp] theorem State.sdoDownload_frame (s : State) (x1) (x2) (x3) (x4) (x5) (x6) (W : List Part)
    (hW : Part.within [.dev, .blk, .grf, .gbb, .corr, .tsl, .cre, .fleet, .saf, .fra, .frb, .frames, .tim, .pair,
    .mot, .cores, .mem, .ques, .dict, .sec, .evr, .upd, .start, .pwr, .dbg, .out, .ans, .free] W = true) :
    (s.sdoDownload x1 x2 x3 x4 x5 x6).outside W = s.outside W := by
  refine State.outside_mono (V := [.dev, .blk, .grf, .gbb, .corr, .tsl, .cre, .fleet, .saf, .fra, .frb, .frames, .tim,
    .pair, .mot, .cores, .mem, .ques, .dict, .sec, .evr, .upd, .start, .pwr, .dbg, .out, .ans, .free]) ?_ hW
  unfold State.sdoDownload
  (repeat' split) <;> simp +decide

@[simp] theorem State.nmtReset_frame (s : State) (x1) (W : List Part)
    (hW : Part.within [.dict, .upd, .out] W = true) : (s.nmtReset x1).outside W = s.outside W := by
  refine State.outside_mono (V := [.dict, .upd, .out]) ?_ hW
  unfold State.nmtReset
  (repeat' split) <;> simp +decide

@[simp] theorem State.sdoEnd_frame (s : State) (x1) (x2) (x3) (x4) (W : List Part)
    (hW : Part.within [.dev, .blk, .grf, .gbb, .corr, .tsl, .cre, .fleet, .saf, .fra, .frb, .frames, .tim, .pair,
    .mot, .cores, .mem, .ques, .dict, .sec, .evr, .upd, .start, .pwr, .dbg, .out, .ans, .free] W = true) : (s.sdoEnd
    x1 x2 x3 x4).outside W = s.outside W := by
  refine State.outside_mono (V := [.dev, .blk, .grf, .gbb, .corr, .tsl, .cre, .fleet, .saf, .fra, .frb, .frames, .tim,
    .pair, .mot, .cores, .mem, .ques, .dict, .sec, .evr, .upd, .start, .pwr, .dbg, .out, .ans, .free]) ?_ hW
  simp only [State.sdoEnd]
  (repeat' split) <;> simp +decide

@[simp] theorem State.sdoDownSeg_frame (s : State) (x1) (x2) (x3) (x4) (W : List Part)
    (hW : Part.within [.dev, .blk, .grf, .gbb, .corr, .tsl, .cre, .fleet, .saf, .fra, .frb, .frames, .tim, .pair,
    .mot, .cores, .mem, .ques, .dict, .sec, .evr, .upd, .start, .pwr, .dbg, .out, .ans, .free] W = true) :
    (s.sdoDownSeg x1 x2 x3 x4).outside W = s.outside W := by
  refine State.outside_mono (V := [.dev, .blk, .grf, .gbb, .corr, .tsl, .cre, .fleet, .saf, .fra, .frb, .frames, .tim,
    .pair, .mot, .cores, .mem, .ques, .dict, .sec, .evr, .upd, .start, .pwr, .dbg, .out, .ans, .free]) ?_ hW
  simp only [State.sdoDownSeg]
  (repeat' split) <;> simp +decide

@[simp] theorem State.sdoUpload_frame (s : State) (x1) (x2) (x3) (x4) (W : List Part)
    (hW : Part.within [.cores, .dict, .evr, .upd, .out, .ans, .free] W = true) : (s.sdoUpload x1 x2 x3 x4).outside W =
    s.outside W := by
  refine State.outside_mono (V := [.cores, .dict, .evr, .upd, .out, .ans, .free]) ?_ hW
  simp only [State.sdoUpload]
  (repeat' split) <;> simp +decide

@[simp] theorem State.sdoUpSeg_frame (s : State) (x1) (x2) (W : List Part)
    (hW : Part.within [.dict, .upd, .out, .ans] W = true) : (s.sdoUpSeg x1 x2).outside W = s.outside W := by
  refine State.outside_mono (V := [.dict, .upd, .out, .ans]) ?_ hW
  unfold State.sdoUpSeg
  (repeat' split) <;> simp +decide

@[simp] theorem State.sdoFrame_frame (s : State) (x1) (x2) (x3) (x4) (W : List Part)
    (hW : Part.within [.dev, .blk, .grf, .gbb, .corr, .tsl, .cre, .fleet, .saf, .fra, .frb, .frames, .tim, .pair,
    .mot, .cores, .mem, .ques, .dict, .sec, .evr, .upd, .start, .pwr, .dbg, .out, .ans, .free] W = true) : (s.sdoFrame
    x1 x2 x3 x4).outside W = s.outside W := by
  refine State.outside_mono (V := [.dev, .blk, .grf, .gbb, .corr, .tsl, .cre, .fleet, .saf, .fra, .frb, .frames, .tim,
    .pair, .mot, .cores, .mem, .ques, .dict, .sec, .evr, .upd, .start, .pwr, .dbg, .out, .ans, .free]) ?_ hW
  unfold State.sdoFrame; simp only [State.canFrame]
  (repeat' split) <;> simp +decide

@[simp] theorem State.canErrors_frame (s : State) (x1) (x2) (x3) (W : List Part)
    (hW : Part.within [.dict] W = true) : (s.canErrors x1 x2 x3).outside W = s.outside W := by
  refine State.outside_mono (V := [.dict]) ?_ hW
  unfold State.canErrors
  simp +decide

@[simp] theorem State.hbLoses_frame (s : State) (x1) (x2) (x3) (x4) (W : List Part)
    (hW : Part.within [.dict, .evr, .out] W = true) : (s.hbLoses x1 x2 x3 x4).outside W = s.outside W := by
  refine State.outside_mono (V := [.dict, .evr, .out]) ?_ hW
  simp only [State.hbLoses]
  (repeat' split) <;> simp +decide

end Sys2Proof.Machine
end

