-- ==== Sys2Proof/Laws/Frames/Cycle.lean ====
section
/-!
SUPPORT. What the operations of Machine/Cycle.lean leave alone: one lemma each, for every part of the state the operation
does not write.
-/
namespace Sys2Proof.Machine

@[simp] theorem State.cycleStandby_frame (s : State) (W : List Part)
    (hW : Part.within [.pair, .mot] W = true) : (s.cycleStandby).outside W = s.outside W := by
  refine State.outside_mono (V := [.pair, .mot]) ?_ hW
  unfold State.cycleStandby
  (repeat' split) <;> simp +decide

@[simp] theorem State.groupAuto_frame (s : State) (W : List Part)
    (hW : Part.within [.frames, .sec, .evr, .out, .free] W = true) : (s.groupAuto).outside W = s.outside W := by
  refine State.outside_mono (V := [.frames, .sec, .evr, .out, .free]) ?_ hW
  unfold State.groupAuto
  (repeat' split) <;> simp_all +decide

@[simp] theorem State.cycleFleet_frame (s : State) (W : List Part)
    (hW : Part.within [.fleet, .fra, .frames] W = true) : (s.cycleFleet).outside W = s.outside W := by
  refine State.outside_mono (V := [.fleet, .fra, .frames]) ?_ hW
  unfold State.cycleFleet
  (repeat' split) <;> simp +decide

@[simp] theorem State.cyclePermit_frame (s : State) (W : List Part)
    (hW : Part.within [.fra] W = true) : (s.cyclePermit).outside W = s.outside W := by
  refine State.outside_mono (V := [.fra]) ?_ hW
  unfold State.cyclePermit
  simp +decide

@[simp] theorem State.rebuildHeard_frame (s : State) (x1) (W : List Part)
    (hW : Part.within [.cre, .frames, .pair, .cores, .ques, .evr, .out, .ans] W = true) : (s.rebuildHeard x1).outside
    W = s.outside W := by
  refine State.outside_mono (V := [.cre, .frames, .pair, .cores, .ques, .evr, .out, .ans]) ?_ hW
  unfold State.rebuildHeard
  (repeat' split) <;> simp +decide

@[simp] theorem State.windowClose_frame (s : State) (W : List Part)
    (hW : Part.within [.cre, .frames, .pair, .cores, .ques, .evr, .out, .ans] W = true) : (s.windowClose).outside W =
    s.outside W := by
  refine State.outside_mono (V := [.cre, .frames, .pair, .cores, .ques, .evr, .out, .ans]) ?_ hW
  unfold State.windowClose
  (repeat' split) <;> simp +decide

@[simp] theorem State.cycleHop_frame (s : State) (W : List Part)
    (hW : Part.within [.fra, .frb] W = true) : (s.cycleHop).outside W = s.outside W := by
  refine State.outside_mono (V := [.fra, .frb]) ?_ hW
  simp only [State.cycleHop]
  (repeat' split) <;> simp +decide

@[simp] theorem State.cycleRoles_frame (s : State) (W : List Part)
    (hW : Part.within [.fleet, .sec] W = true) : (s.cycleRoles).outside W = s.outside W := by
  refine State.outside_mono (V := [.fleet, .sec]) ?_ hW
  unfold State.cycleRoles
  (repeat' split) <;> simp +decide

@[simp] theorem State.cycleBegin_frame (s : State) (x1) (W : List Part)
    (hW : Part.within [.dev, .cre, .fleet, .fra, .frb, .frames, .pair, .mot, .cores, .ques, .sec, .evr, .out, .ans,
    .free] W = true) : (s.cycleBegin x1).outside W = s.outside W := by
  refine State.outside_mono (V := [.dev, .cre, .fleet, .fra, .frb, .frames, .pair, .mot, .cores, .ques, .sec, .evr,
    .out, .ans, .free]) ?_ hW
  unfold State.cycleBegin
  simp +decide

@[simp] theorem State.cycleStream_frame (s : State) (x1) (W : List Part)
    (hW : Part.within [.pair, .out] W = true) : (s.cycleStream x1).outside W = s.outside W := by
  refine State.outside_mono (V := [.pair, .out]) ?_ hW
  simp only [State.cycleStream]
  (repeat' split) <;> simp +decide

@[simp] theorem State.cycleClose_frame (s : State) (W : List Part)
    (hW : Part.within [.saf, .fra, .frb, .cores, .ques] W = true) : (s.cycleClose).outside W = s.outside W := by
  refine State.outside_mono (V := [.saf, .fra, .frb, .cores, .ques]) ?_ hW
  unfold State.cycleClose
  (repeat' split) <;> simp +decide

@[simp] theorem State.tickWord_frame (s : State) (W : List Part)
    (hW : Part.within [.saf] W = true) : (s.tickWord).outside W = s.outside W := by
  refine State.outside_mono (V := [.saf]) ?_ hW
  simp only [State.tickWord]
  (repeat' split) <;> simp +decide

@[simp] theorem State.tickActs_frame (s : State) (W : List Part)
    (hW : Part.within [.dev, .blk, .grf, .gbb, .corr, .tsl, .cre, .fleet, .saf, .fra, .frb, .frames, .tim, .pair,
    .mot, .cores, .mem, .ques, .dict, .sec, .evr, .upd, .start, .pwr, .dbg, .out, .ans, .free] W = true) :
    (s.tickActs).outside W = s.outside W := by
  refine State.outside_mono (V := [.dev, .blk, .grf, .gbb, .corr, .tsl, .cre, .fleet, .saf, .fra, .frb, .frames, .tim,
    .pair, .mot, .cores, .mem, .ques, .dict, .sec, .evr, .upd, .start, .pwr, .dbg, .out, .ans, .free]) ?_ hW
  unfold State.tickActs
  simp +decide

end Sys2Proof.Machine
end

