-- ==== Sys2Proof/Laws/Memory.lean ====
section
/-!
SUPPORT. Tables by key and the byte memory: reading after writing, and that every operation keeps the canonical form.
-/
namespace Sys2Proof.Machine

/-! ### Tables -/

@[simp] theorem tabGet_tabPut {α : Type} (t : List (Nat × α)) (i j : Nat) (v : α) :
    tabGet (tabPut t i v) j = if j = i then some v else tabGet t j := by
  induction t with
  | nil => simp [tabPut, tabGet]
  | cons p t ih =>
    obtain ⟨k, w⟩ := p
    by_cases h1 : i < k
    · simp only [tabPut, h1, if_true, tabGet]
    · by_cases h2 : i = k
      · subst h2
        by_cases h3 : j = i <;> simp [tabPut, tabGet, h3]
      · simp only [tabPut, h1, h2, if_false, tabGet, ih]
        by_cases h3 : j = k
        · have : j ≠ i := by omega
          simp [h3, Ne.symm h2]
        · simp [h3]

theorem tabDel_cons {α : Type} (k i : Nat) (w : α) (t : List (Nat × α)) :
    tabDel ((k, w) :: t) i = if k = i then tabDel t i else (k, w) :: tabDel t i := by
  by_cases h : k = i <;> simp [tabDel, h]

@[simp] theorem tabGet_tabDel {α : Type} (t : List (Nat × α)) (i j : Nat) :
    tabGet (tabDel t i) j = if j = i then none else tabGet t j := by
  induction t with
  | nil => simp [tabDel, tabGet]
  | cons p t ih =>
    obtain ⟨k, w⟩ := p
    rw [tabDel_cons, tabGet]
    split
    · rename_i h
      subst h
      rw [ih]
      split <;> rfl
    · rename_i h
      rw [tabGet, ih]
      split
      · rename_i h2
        rw [if_neg (h2 ▸ h)]
      · rfl

@[simp] theorem tabGetD_tabSet {α : Type} [DecidableEq α] (d : α) (t : List (Nat × α)) (i j : Nat) (v : α) :
    tabGetD d (tabSet d t i v) j = if j = i then v else tabGetD d t j := by
  unfold tabGetD tabSet
  by_cases h : v = d <;> by_cases h2 : j = i <;> simp [h, h2]

/-- Keys rise strictly from a bound on. -/
theorem tabSorted_cons {α : Type} (p : Nat × α) (t : List (Nat × α)) :
    tabSorted (p :: t) = true ↔ tabSorted t = true ∧ ∀ q ∈ t, p.1 < q.1 := by
  induction t generalizing p with
  | nil => simp [tabSorted]
  | cons q t ih =>
    obtain ⟨a, x⟩ := p
    obtain ⟨b, y⟩ := q
    constructor
    · intro h
      rw [tabSorted, Bool.and_eq_true, decide_eq_true_eq] at h
      have h2 := (ih (b, y)).1 h.2
      refine ⟨h.2, fun q hq => ?_⟩
      rcases List.mem_cons.1 hq with rfl | hq
      · exact h.1
      · exact Nat.lt_trans h.1 (h2.2 q hq)
    · intro h
      rw [tabSorted, Bool.and_eq_true, decide_eq_true_eq]
      exact ⟨h.2 (b, y) (List.mem_cons_self ..), h.1⟩

theorem mem_tabPut {α : Type} {t : List (Nat × α)} {i : Nat} {v : α} {q : Nat × α} (h : q ∈ tabPut t i v) :
    q = (i, v) ∨ q ∈ t := by
  induction t with
  | nil => simpa [tabPut] using h
  | cons p t ih =>
    obtain ⟨k, w⟩ := p
    rw [tabPut] at h
    split at h
    · simpa using h
    · split at h
      · rcases List.mem_cons.1 h with h | h
        · exact .inl h
        · exact .inr (List.mem_cons_of_mem _ h)
      · rcases List.mem_cons.1 h with h | h
        · exact .inr (h ▸ List.mem_cons_self ..)
        · exact (ih h).imp id (List.mem_cons_of_mem _)

theorem tabPut_sorted {α : Type} (t : List (Nat × α)) (i : Nat) (v : α) (h : tabSorted t = true) :
    tabSorted (tabPut t i v) = true := by
  induction t with
  | nil => rfl
  | cons p t ih =>
    obtain ⟨k, w⟩ := p
    have hs := (tabSorted_cons (k, w) t).1 h
    rw [tabPut]
    split
    · rename_i hk
      refine (tabSorted_cons _ _).2 ⟨h, fun q hq => ?_⟩
      rcases List.mem_cons.1 hq with rfl | hq
      · exact hk
      · exact Nat.lt_trans hk (hs.2 q hq)
    · split
      · rename_i hk
        exact (tabSorted_cons _ _).2 ⟨hs.1, fun q hq => hk ▸ hs.2 q hq⟩
      · refine (tabSorted_cons _ _).2 ⟨ih hs.1, fun q hq => ?_⟩
        rcases mem_tabPut hq with rfl | hq
        · show k < i
          omega
        · exact hs.2 q hq

theorem filter_sorted {α : Type} (f : Nat × α → Bool) (t : List (Nat × α)) (h : tabSorted t = true) :
    tabSorted (t.filter f) = true := by
  induction t with
  | nil => rfl
  | cons p t ih =>
    have hs := (tabSorted_cons p t).1 h
    rw [List.filter_cons]
    split
    · exact (tabSorted_cons _ _).2 ⟨ih hs.1, fun q hq => hs.2 q (List.mem_filter.1 hq).1⟩
    · exact ih hs.1

/-! ### The byte memory -/

@[simp] theorem Mem.get_put (m : Mem) (a x : Nat) (b : Byte) : (m.put a b).get x = if x = a then b else m.get x := by
  simp [Mem.get, Mem.put]

/-- A write leaves every octet outside its range alone. -/
theorem Mem.get_write_outside (m : Mem) (a x : Nat) (l : List Byte) (h : x < a ∨ a + l.length ≤ x) :
    (m.write a l).get x = m.get x := by
  induction l generalizing m a with
  | nil => rfl
  | cons b t ih =>
    rw [Mem.write, ih, Mem.get_put, if_neg]
    · rw [List.length_cons] at h; omega
    · rw [List.length_cons] at h; omega

/-- A write stores each octet at its place. -/
theorem Mem.get_write (m : Mem) (a i : Nat) (l : List Byte) (h : i < l.length) : (m.write a l).get (a + i) = l[i] := by
  induction l generalizing m a i with
  | nil => simp at h
  | cons b t ih =>
    cases i with
    | zero => rw [Mem.write, Mem.get_write_outside _ _ _ _ (by omega)]; simp
    | succ i =>
      rw [Mem.write, show a + (i + 1) = a + 1 + i by omega, ih _ _ _ (by simpa using h)]
      simp

theorem Mem.wf_put (m : Mem) (a : Nat) (b : Byte) (h : m.wf = true) : (m.put a b).wf = true := by
  simp only [Mem.wf, Bool.and_eq_true, List.all_eq_true, Mem.put, tabSet] at *
  split
  · exact ⟨filter_sorted _ _ h.1, fun c hc => h.2 c (List.mem_filter.1 hc).1⟩
  · rename_i hb
    refine ⟨tabPut_sorted _ _ _ h.1, fun c hc => ?_⟩
    rcases mem_tabPut hc with rfl | hc
    · simpa using hb
    · exact h.2 c hc

theorem Mem.wf_write (m : Mem) (a : Nat) (l : List Byte) (h : m.wf = true) : (m.write a l).wf = true := by
  induction l generalizing m a with
  | nil => exact h
  | cons b t ih => exact ih _ _ (m.wf_put a b h)

theorem Mem.wf_filter (m : Mem) (f : Nat × Byte → Bool) (h : m.wf = true) :
    ({ m with bytes := m.bytes.filter f } : Mem).wf = true := by
  simp only [Mem.wf, Bool.and_eq_true, List.all_eq_true] at *
  exact ⟨filter_sorted _ _ h.1, fun c hc => h.2 c (List.mem_filter.1 hc).1⟩

theorem Mem.wf_clear (m : Mem) (a n : Nat) (h : m.wf = true) : (m.clear a n).wf = true := m.wf_filter _ h

end Sys2Proof.Machine
end

