-- ==== Sys2Proof/Laws/State.lean ====
section
/-!
SUPPORT. Each update of the state, field by field, true by rfl; and for the parts that stand in a vector or a table, what
the part reads as after it is put back.
-/
namespace Sys2Proof.Machine

variable (s : State)

/-! ### setFra -/

@[simp] theorem State.setFra_pending (f : Fra → Fra) : (s.setFra f).pending = s.pending := rfl
@[simp] theorem State.setFra_dev (f : Fra → Fra) : (s.setFra f).dev = s.dev := rfl
@[simp] theorem State.setFra_blk (f : Fra → Fra) : (s.setFra f).blk = s.blk := rfl
@[simp] theorem State.setFra_grf (f : Fra → Fra) : (s.setFra f).grf = s.grf := rfl
@[simp] theorem State.setFra_gbb (f : Fra → Fra) : (s.setFra f).gbb = s.gbb := rfl
@[simp] theorem State.setFra_corr (f : Fra → Fra) : (s.setFra f).corr = s.corr := rfl
@[simp] theorem State.setFra_tsl (f : Fra → Fra) : (s.setFra f).tsl = s.tsl := rfl
@[simp] theorem State.setFra_cre (f : Fra → Fra) : (s.setFra f).cre = s.cre := rfl
@[simp] theorem State.setFra_fleet (f : Fra → Fra) : (s.setFra f).fleet = s.fleet := rfl
@[simp] theorem State.setFra_saf (f : Fra → Fra) : (s.setFra f).saf = s.saf := rfl
@[simp] theorem State.setFra_fra (f : Fra → Fra) : (s.setFra f).fra = f s.fra := rfl
@[simp] theorem State.setFra_frb (f : Fra → Fra) : (s.setFra f).frb = s.frb := rfl
@[simp] theorem State.setFra_frames (f : Fra → Fra) : (s.setFra f).frames = s.frames := rfl
@[simp] theorem State.setFra_tim (f : Fra → Fra) : (s.setFra f).tim = s.tim := rfl
@[simp] theorem State.setFra_pair (f : Fra → Fra) : (s.setFra f).pair = s.pair := rfl
@[simp] theorem State.setFra_mot (f : Fra → Fra) : (s.setFra f).mot = s.mot := rfl
@[simp] theorem State.setFra_cores (f : Fra → Fra) : (s.setFra f).cores = s.cores := rfl
@[simp] theorem State.setFra_mem (f : Fra → Fra) : (s.setFra f).mem = s.mem := rfl
@[simp] theorem State.setFra_ques (f : Fra → Fra) : (s.setFra f).ques = s.ques := rfl
@[simp] theorem State.setFra_dict (f : Fra → Fra) : (s.setFra f).dict = s.dict := rfl
@[simp] theorem State.setFra_sec (f : Fra → Fra) : (s.setFra f).sec = s.sec := rfl
@[simp] theorem State.setFra_evr (f : Fra → Fra) : (s.setFra f).evr = s.evr := rfl
@[simp] theorem State.setFra_upd (f : Fra → Fra) : (s.setFra f).upd = s.upd := rfl
@[simp] theorem State.setFra_start (f : Fra → Fra) : (s.setFra f).start = s.start := rfl
@[simp] theorem State.setFra_pwr (f : Fra → Fra) : (s.setFra f).pwr = s.pwr := rfl
@[simp] theorem State.setFra_dbg (f : Fra → Fra) : (s.setFra f).dbg = s.dbg := rfl
@[simp] theorem State.setFra_out (f : Fra → Fra) : (s.setFra f).out = s.out := rfl
@[simp] theorem State.setFra_ans (f : Fra → Fra) : (s.setFra f).ans = s.ans := rfl
@[simp] theorem State.setFra_free (f : Fra → Fra) : (s.setFra f).free = s.free := rfl

/-! ### setFrb -/

@[simp] theorem State.setFrb_pending (f : Frb → Frb) : (s.setFrb f).pending = s.pending := rfl
@[simp] theorem State.setFrb_dev (f : Frb → Frb) : (s.setFrb f).dev = s.dev := rfl
@[simp] theorem State.setFrb_blk (f : Frb → Frb) : (s.setFrb f).blk = s.blk := rfl
@[simp] theorem State.setFrb_grf (f : Frb → Frb) : (s.setFrb f).grf = s.grf := rfl
@[simp] theorem State.setFrb_gbb (f : Frb → Frb) : (s.setFrb f).gbb = s.gbb := rfl
@[simp] theorem State.setFrb_corr (f : Frb → Frb) : (s.setFrb f).corr = s.corr := rfl
@[simp] theorem State.setFrb_tsl (f : Frb → Frb) : (s.setFrb f).tsl = s.tsl := rfl
@[simp] theorem State.setFrb_cre (f : Frb → Frb) : (s.setFrb f).cre = s.cre := rfl
@[simp] theorem State.setFrb_fleet (f : Frb → Frb) : (s.setFrb f).fleet = s.fleet := rfl
@[simp] theorem State.setFrb_saf (f : Frb → Frb) : (s.setFrb f).saf = s.saf := rfl
@[simp] theorem State.setFrb_fra (f : Frb → Frb) : (s.setFrb f).fra = s.fra := rfl
@[simp] theorem State.setFrb_frb (f : Frb → Frb) : (s.setFrb f).frb = f s.frb := rfl
@[simp] theorem State.setFrb_frames (f : Frb → Frb) : (s.setFrb f).frames = s.frames := rfl
@[simp] theorem State.setFrb_tim (f : Frb → Frb) : (s.setFrb f).tim = s.tim := rfl
@[simp] theorem State.setFrb_pair (f : Frb → Frb) : (s.setFrb f).pair = s.pair := rfl
@[simp] theorem State.setFrb_mot (f : Frb → Frb) : (s.setFrb f).mot = s.mot := rfl
@[simp] theorem State.setFrb_cores (f : Frb → Frb) : (s.setFrb f).cores = s.cores := rfl
@[simp] theorem State.setFrb_mem (f : Frb → Frb) : (s.setFrb f).mem = s.mem := rfl
@[simp] theorem State.setFrb_ques (f : Frb → Frb) : (s.setFrb f).ques = s.ques := rfl
@[simp] theorem State.setFrb_dict (f : Frb → Frb) : (s.setFrb f).dict = s.dict := rfl
@[simp] theorem State.setFrb_sec (f : Frb → Frb) : (s.setFrb f).sec = s.sec := rfl
@[simp] theorem State.setFrb_evr (f : Frb → Frb) : (s.setFrb f).evr = s.evr := rfl
@[simp] theorem State.setFrb_upd (f : Frb → Frb) : (s.setFrb f).upd = s.upd := rfl
@[simp] theorem State.setFrb_start (f : Frb → Frb) : (s.setFrb f).start = s.start := rfl
@[simp] theorem State.setFrb_pwr (f : Frb → Frb) : (s.setFrb f).pwr = s.pwr := rfl
@[simp] theorem State.setFrb_dbg (f : Frb → Frb) : (s.setFrb f).dbg = s.dbg := rfl
@[simp] theorem State.setFrb_out (f : Frb → Frb) : (s.setFrb f).out = s.out := rfl
@[simp] theorem State.setFrb_ans (f : Frb → Frb) : (s.setFrb f).ans = s.ans := rfl
@[simp] theorem State.setFrb_free (f : Frb → Frb) : (s.setFrb f).free = s.free := rfl

/-! ### setSaf -/

@[simp] theorem State.setSaf_pending (f : Saf → Saf) : (s.setSaf f).pending = s.pending := rfl
@[simp] theorem State.setSaf_dev (f : Saf → Saf) : (s.setSaf f).dev = s.dev := rfl
@[simp] theorem State.setSaf_blk (f : Saf → Saf) : (s.setSaf f).blk = s.blk := rfl
@[simp] theorem State.setSaf_grf (f : Saf → Saf) : (s.setSaf f).grf = s.grf := rfl
@[simp] theorem State.setSaf_gbb (f : Saf → Saf) : (s.setSaf f).gbb = s.gbb := rfl
@[simp] theorem State.setSaf_corr (f : Saf → Saf) : (s.setSaf f).corr = s.corr := rfl
@[simp] theorem State.setSaf_tsl (f : Saf → Saf) : (s.setSaf f).tsl = s.tsl := rfl
@[simp] theorem State.setSaf_cre (f : Saf → Saf) : (s.setSaf f).cre = s.cre := rfl
@[simp] theorem State.setSaf_fleet (f : Saf → Saf) : (s.setSaf f).fleet = s.fleet := rfl
@[simp] theorem State.setSaf_saf (f : Saf → Saf) : (s.setSaf f).saf = f s.saf := rfl
@[simp] theorem State.setSaf_fra (f : Saf → Saf) : (s.setSaf f).fra = s.fra := rfl
@[simp] theorem State.setSaf_frb (f : Saf → Saf) : (s.setSaf f).frb = s.frb := rfl
@[simp] theorem State.setSaf_frames (f : Saf → Saf) : (s.setSaf f).frames = s.frames := rfl
@[simp] theorem State.setSaf_tim (f : Saf → Saf) : (s.setSaf f).tim = s.tim := rfl
@[simp] theorem State.setSaf_pair (f : Saf → Saf) : (s.setSaf f).pair = s.pair := rfl
@[simp] theorem State.setSaf_mot (f : Saf → Saf) : (s.setSaf f).mot = s.mot := rfl
@[simp] theorem State.setSaf_cores (f : Saf → Saf) : (s.setSaf f).cores = s.cores := rfl
@[simp] theorem State.setSaf_mem (f : Saf → Saf) : (s.setSaf f).mem = s.mem := rfl
@[simp] theorem State.setSaf_ques (f : Saf → Saf) : (s.setSaf f).ques = s.ques := rfl
@[simp] theorem State.setSaf_dict (f : Saf → Saf) : (s.setSaf f).dict = s.dict := rfl
@[simp] theorem State.setSaf_sec (f : Saf → Saf) : (s.setSaf f).sec = s.sec := rfl
@[simp] theorem State.setSaf_evr (f : Saf → Saf) : (s.setSaf f).evr = s.evr := rfl
@[simp] theorem State.setSaf_upd (f : Saf → Saf) : (s.setSaf f).upd = s.upd := rfl
@[simp] theorem State.setSaf_start (f : Saf → Saf) : (s.setSaf f).start = s.start := rfl
@[simp] theorem State.setSaf_pwr (f : Saf → Saf) : (s.setSaf f).pwr = s.pwr := rfl
@[simp] theorem State.setSaf_dbg (f : Saf → Saf) : (s.setSaf f).dbg = s.dbg := rfl
@[simp] theorem State.setSaf_out (f : Saf → Saf) : (s.setSaf f).out = s.out := rfl
@[simp] theorem State.setSaf_ans (f : Saf → Saf) : (s.setSaf f).ans = s.ans := rfl
@[simp] theorem State.setSaf_free (f : Saf → Saf) : (s.setSaf f).free = s.free := rfl

/-! ### setDbg -/

@[simp] theorem State.setDbg_pending (f : Dbg → Dbg) : (s.setDbg f).pending = s.pending := rfl
@[simp] theorem State.setDbg_dev (f : Dbg → Dbg) : (s.setDbg f).dev = s.dev := rfl
@[simp] theorem State.setDbg_blk (f : Dbg → Dbg) : (s.setDbg f).blk = s.blk := rfl
@[simp] theorem State.setDbg_grf (f : Dbg → Dbg) : (s.setDbg f).grf = s.grf := rfl
@[simp] theorem State.setDbg_gbb (f : Dbg → Dbg) : (s.setDbg f).gbb = s.gbb := rfl
@[simp] theorem State.setDbg_corr (f : Dbg → Dbg) : (s.setDbg f).corr = s.corr := rfl
@[simp] theorem State.setDbg_tsl (f : Dbg → Dbg) : (s.setDbg f).tsl = s.tsl := rfl
@[simp] theorem State.setDbg_cre (f : Dbg → Dbg) : (s.setDbg f).cre = s.cre := rfl
@[simp] theorem State.setDbg_fleet (f : Dbg → Dbg) : (s.setDbg f).fleet = s.fleet := rfl
@[simp] theorem State.setDbg_saf (f : Dbg → Dbg) : (s.setDbg f).saf = s.saf := rfl
@[simp] theorem State.setDbg_fra (f : Dbg → Dbg) : (s.setDbg f).fra = s.fra := rfl
@[simp] theorem State.setDbg_frb (f : Dbg → Dbg) : (s.setDbg f).frb = s.frb := rfl
@[simp] theorem State.setDbg_frames (f : Dbg → Dbg) : (s.setDbg f).frames = s.frames := rfl
@[simp] theorem State.setDbg_tim (f : Dbg → Dbg) : (s.setDbg f).tim = s.tim := rfl
@[simp] theorem State.setDbg_pair (f : Dbg → Dbg) : (s.setDbg f).pair = s.pair := rfl
@[simp] theorem State.setDbg_mot (f : Dbg → Dbg) : (s.setDbg f).mot = s.mot := rfl
@[simp] theorem State.setDbg_cores (f : Dbg → Dbg) : (s.setDbg f).cores = s.cores := rfl
@[simp] theorem State.setDbg_mem (f : Dbg → Dbg) : (s.setDbg f).mem = s.mem := rfl
@[simp] theorem State.setDbg_ques (f : Dbg → Dbg) : (s.setDbg f).ques = s.ques := rfl
@[simp] theorem State.setDbg_dict (f : Dbg → Dbg) : (s.setDbg f).dict = s.dict := rfl
@[simp] theorem State.setDbg_sec (f : Dbg → Dbg) : (s.setDbg f).sec = s.sec := rfl
@[simp] theorem State.setDbg_evr (f : Dbg → Dbg) : (s.setDbg f).evr = s.evr := rfl
@[simp] theorem State.setDbg_upd (f : Dbg → Dbg) : (s.setDbg f).upd = s.upd := rfl
@[simp] theorem State.setDbg_start (f : Dbg → Dbg) : (s.setDbg f).start = s.start := rfl
@[simp] theorem State.setDbg_pwr (f : Dbg → Dbg) : (s.setDbg f).pwr = s.pwr := rfl
@[simp] theorem State.setDbg_dbg (f : Dbg → Dbg) : (s.setDbg f).dbg = f s.dbg := rfl
@[simp] theorem State.setDbg_out (f : Dbg → Dbg) : (s.setDbg f).out = s.out := rfl
@[simp] theorem State.setDbg_ans (f : Dbg → Dbg) : (s.setDbg f).ans = s.ans := rfl
@[simp] theorem State.setDbg_free (f : Dbg → Dbg) : (s.setDbg f).free = s.free := rfl

/-! ### setUpd -/

@[simp] theorem State.setUpd_pending (f : Upd → Upd) : (s.setUpd f).pending = s.pending := rfl
@[simp] theorem State.setUpd_dev (f : Upd → Upd) : (s.setUpd f).dev = s.dev := rfl
@[simp] theorem State.setUpd_blk (f : Upd → Upd) : (s.setUpd f).blk = s.blk := rfl
@[simp] theorem State.setUpd_grf (f : Upd → Upd) : (s.setUpd f).grf = s.grf := rfl
@[simp] theorem State.setUpd_gbb (f : Upd → Upd) : (s.setUpd f).gbb = s.gbb := rfl
@[simp] theorem State.setUpd_corr (f : Upd → Upd) : (s.setUpd f).corr = s.corr := rfl
@[simp] theorem State.setUpd_tsl (f : Upd → Upd) : (s.setUpd f).tsl = s.tsl := rfl
@[simp] theorem State.setUpd_cre (f : Upd → Upd) : (s.setUpd f).cre = s.cre := rfl
@[simp] theorem State.setUpd_fleet (f : Upd → Upd) : (s.setUpd f).fleet = s.fleet := rfl
@[simp] theorem State.setUpd_saf (f : Upd → Upd) : (s.setUpd f).saf = s.saf := rfl
@[simp] theorem State.setUpd_fra (f : Upd → Upd) : (s.setUpd f).fra = s.fra := rfl
@[simp] theorem State.setUpd_frb (f : Upd → Upd) : (s.setUpd f).frb = s.frb := rfl
@[simp] theorem State.setUpd_frames (f : Upd → Upd) : (s.setUpd f).frames = s.frames := rfl
@[simp] theorem State.setUpd_tim (f : Upd → Upd) : (s.setUpd f).tim = s.tim := rfl
@[simp] theorem State.setUpd_pair (f : Upd → Upd) : (s.setUpd f).pair = s.pair := rfl
@[simp] theorem State.setUpd_mot (f : Upd → Upd) : (s.setUpd f).mot = s.mot := rfl
@[simp] theorem State.setUpd_cores (f : Upd → Upd) : (s.setUpd f).cores = s.cores := rfl
@[simp] theorem State.setUpd_mem (f : Upd → Upd) : (s.setUpd f).mem = s.mem := rfl
@[simp] theorem State.setUpd_ques (f : Upd → Upd) : (s.setUpd f).ques = s.ques := rfl
@[simp] theorem State.setUpd_dict (f : Upd → Upd) : (s.setUpd f).dict = s.dict := rfl
@[simp] theorem State.setUpd_sec (f : Upd → Upd) : (s.setUpd f).sec = s.sec := rfl
@[simp] theorem State.setUpd_evr (f : Upd → Upd) : (s.setUpd f).evr = s.evr := rfl
@[simp] theorem State.setUpd_upd (f : Upd → Upd) : (s.setUpd f).upd = f s.upd := rfl
@[simp] theorem State.setUpd_start (f : Upd → Upd) : (s.setUpd f).start = s.start := rfl
@[simp] theorem State.setUpd_pwr (f : Upd → Upd) : (s.setUpd f).pwr = s.pwr := rfl
@[simp] theorem State.setUpd_dbg (f : Upd → Upd) : (s.setUpd f).dbg = s.dbg := rfl
@[simp] theorem State.setUpd_out (f : Upd → Upd) : (s.setUpd f).out = s.out := rfl
@[simp] theorem State.setUpd_ans (f : Upd → Upd) : (s.setUpd f).ans = s.ans := rfl
@[simp] theorem State.setUpd_free (f : Upd → Upd) : (s.setUpd f).free = s.free := rfl

/-! ### setSec -/

@[simp] theorem State.setSec_pending (f : Security → Security) : (s.setSec f).pending = s.pending := rfl
@[simp] theorem State.setSec_dev (f : Security → Security) : (s.setSec f).dev = s.dev := rfl
@[simp] theorem State.setSec_blk (f : Security → Security) : (s.setSec f).blk = s.blk := rfl
@[simp] theorem State.setSec_grf (f : Security → Security) : (s.setSec f).grf = s.grf := rfl
@[simp] theorem State.setSec_gbb (f : Security → Security) : (s.setSec f).gbb = s.gbb := rfl
@[simp] theorem State.setSec_corr (f : Security → Security) : (s.setSec f).corr = s.corr := rfl
@[simp] theorem State.setSec_tsl (f : Security → Security) : (s.setSec f).tsl = s.tsl := rfl
@[simp] theorem State.setSec_cre (f : Security → Security) : (s.setSec f).cre = s.cre := rfl
@[simp] theorem State.setSec_fleet (f : Security → Security) : (s.setSec f).fleet = s.fleet := rfl
@[simp] theorem State.setSec_saf (f : Security → Security) : (s.setSec f).saf = s.saf := rfl
@[simp] theorem State.setSec_fra (f : Security → Security) : (s.setSec f).fra = s.fra := rfl
@[simp] theorem State.setSec_frb (f : Security → Security) : (s.setSec f).frb = s.frb := rfl
@[simp] theorem State.setSec_frames (f : Security → Security) : (s.setSec f).frames = s.frames := rfl
@[simp] theorem State.setSec_tim (f : Security → Security) : (s.setSec f).tim = s.tim := rfl
@[simp] theorem State.setSec_pair (f : Security → Security) : (s.setSec f).pair = s.pair := rfl
@[simp] theorem State.setSec_mot (f : Security → Security) : (s.setSec f).mot = s.mot := rfl
@[simp] theorem State.setSec_cores (f : Security → Security) : (s.setSec f).cores = s.cores := rfl
@[simp] theorem State.setSec_mem (f : Security → Security) : (s.setSec f).mem = s.mem := rfl
@[simp] theorem State.setSec_ques (f : Security → Security) : (s.setSec f).ques = s.ques := rfl
@[simp] theorem State.setSec_dict (f : Security → Security) : (s.setSec f).dict = s.dict := rfl
@[simp] theorem State.setSec_sec (f : Security → Security) : (s.setSec f).sec = f s.sec := rfl
@[simp] theorem State.setSec_evr (f : Security → Security) : (s.setSec f).evr = s.evr := rfl
@[simp] theorem State.setSec_upd (f : Security → Security) : (s.setSec f).upd = s.upd := rfl
@[simp] theorem State.setSec_start (f : Security → Security) : (s.setSec f).start = s.start := rfl
@[simp] theorem State.setSec_pwr (f : Security → Security) : (s.setSec f).pwr = s.pwr := rfl
@[simp] theorem State.setSec_dbg (f : Security → Security) : (s.setSec f).dbg = s.dbg := rfl
@[simp] theorem State.setSec_out (f : Security → Security) : (s.setSec f).out = s.out := rfl
@[simp] theorem State.setSec_ans (f : Security → Security) : (s.setSec f).ans = s.ans := rfl
@[simp] theorem State.setSec_free (f : Security → Security) : (s.setSec f).free = s.free := rfl

/-! ### setPwr -/

@[simp] theorem State.setPwr_pending (f : Pwr → Pwr) : (s.setPwr f).pending = s.pending := rfl
@[simp] theorem State.setPwr_dev (f : Pwr → Pwr) : (s.setPwr f).dev = s.dev := rfl
@[simp] theorem State.setPwr_blk (f : Pwr → Pwr) : (s.setPwr f).blk = s.blk := rfl
@[simp] theorem State.setPwr_grf (f : Pwr → Pwr) : (s.setPwr f).grf = s.grf := rfl
@[simp] theorem State.setPwr_gbb (f : Pwr → Pwr) : (s.setPwr f).gbb = s.gbb := rfl
@[simp] theorem State.setPwr_corr (f : Pwr → Pwr) : (s.setPwr f).corr = s.corr := rfl
@[simp] theorem State.setPwr_tsl (f : Pwr → Pwr) : (s.setPwr f).tsl = s.tsl := rfl
@[simp] theorem State.setPwr_cre (f : Pwr → Pwr) : (s.setPwr f).cre = s.cre := rfl
@[simp] theorem State.setPwr_fleet (f : Pwr → Pwr) : (s.setPwr f).fleet = s.fleet := rfl
@[simp] theorem State.setPwr_saf (f : Pwr → Pwr) : (s.setPwr f).saf = s.saf := rfl
@[simp] theorem State.setPwr_fra (f : Pwr → Pwr) : (s.setPwr f).fra = s.fra := rfl
@[simp] theorem State.setPwr_frb (f : Pwr → Pwr) : (s.setPwr f).frb = s.frb := rfl
@[simp] theorem State.setPwr_frames (f : Pwr → Pwr) : (s.setPwr f).frames = s.frames := rfl
@[simp] theorem State.setPwr_tim (f : Pwr → Pwr) : (s.setPwr f).tim = s.tim := rfl
@[simp] theorem State.setPwr_pair (f : Pwr → Pwr) : (s.setPwr f).pair = s.pair := rfl
@[simp] theorem State.setPwr_mot (f : Pwr → Pwr) : (s.setPwr f).mot = s.mot := rfl
@[simp] theorem State.setPwr_cores (f : Pwr → Pwr) : (s.setPwr f).cores = s.cores := rfl
@[simp] theorem State.setPwr_mem (f : Pwr → Pwr) : (s.setPwr f).mem = s.mem := rfl
@[simp] theorem State.setPwr_ques (f : Pwr → Pwr) : (s.setPwr f).ques = s.ques := rfl
@[simp] theorem State.setPwr_dict (f : Pwr → Pwr) : (s.setPwr f).dict = s.dict := rfl
@[simp] theorem State.setPwr_sec (f : Pwr → Pwr) : (s.setPwr f).sec = s.sec := rfl
@[simp] theorem State.setPwr_evr (f : Pwr → Pwr) : (s.setPwr f).evr = s.evr := rfl
@[simp] theorem State.setPwr_upd (f : Pwr → Pwr) : (s.setPwr f).upd = s.upd := rfl
@[simp] theorem State.setPwr_start (f : Pwr → Pwr) : (s.setPwr f).start = s.start := rfl
@[simp] theorem State.setPwr_pwr (f : Pwr → Pwr) : (s.setPwr f).pwr = f s.pwr := rfl
@[simp] theorem State.setPwr_dbg (f : Pwr → Pwr) : (s.setPwr f).dbg = s.dbg := rfl
@[simp] theorem State.setPwr_out (f : Pwr → Pwr) : (s.setPwr f).out = s.out := rfl
@[simp] theorem State.setPwr_ans (f : Pwr → Pwr) : (s.setPwr f).ans = s.ans := rfl
@[simp] theorem State.setPwr_free (f : Pwr → Pwr) : (s.setPwr f).free = s.free := rfl

/-! ### setEvr -/

@[simp] theorem State.setEvr_pending (f : Evr → Evr) : (s.setEvr f).pending = s.pending := rfl
@[simp] theorem State.setEvr_dev (f : Evr → Evr) : (s.setEvr f).dev = s.dev := rfl
@[simp] theorem State.setEvr_blk (f : Evr → Evr) : (s.setEvr f).blk = s.blk := rfl
@[simp] theorem State.setEvr_grf (f : Evr → Evr) : (s.setEvr f).grf = s.grf := rfl
@[simp] theorem State.setEvr_gbb (f : Evr → Evr) : (s.setEvr f).gbb = s.gbb := rfl
@[simp] theorem State.setEvr_corr (f : Evr → Evr) : (s.setEvr f).corr = s.corr := rfl
@[simp] theorem State.setEvr_tsl (f : Evr → Evr) : (s.setEvr f).tsl = s.tsl := rfl
@[simp] theorem State.setEvr_cre (f : Evr → Evr) : (s.setEvr f).cre = s.cre := rfl
@[simp] theorem State.setEvr_fleet (f : Evr → Evr) : (s.setEvr f).fleet = s.fleet := rfl
@[simp] theorem State.setEvr_saf (f : Evr → Evr) : (s.setEvr f).saf = s.saf := rfl
@[simp] theorem State.setEvr_fra (f : Evr → Evr) : (s.setEvr f).fra = s.fra := rfl
@[simp] theorem State.setEvr_frb (f : Evr → Evr) : (s.setEvr f).frb = s.frb := rfl
@[simp] theorem State.setEvr_frames (f : Evr → Evr) : (s.setEvr f).frames = s.frames := rfl
@[simp] theorem State.setEvr_tim (f : Evr → Evr) : (s.setEvr f).tim = s.tim := rfl
@[simp] theorem State.setEvr_pair (f : Evr → Evr) : (s.setEvr f).pair = s.pair := rfl
@[simp] theorem State.setEvr_mot (f : Evr → Evr) : (s.setEvr f).mot = s.mot := rfl
@[simp] theorem State.setEvr_cores (f : Evr → Evr) : (s.setEvr f).cores = s.cores := rfl
@[simp] theorem State.setEvr_mem (f : Evr → Evr) : (s.setEvr f).mem = s.mem := rfl
@[simp] theorem State.setEvr_ques (f : Evr → Evr) : (s.setEvr f).ques = s.ques := rfl
@[simp] theorem State.setEvr_dict (f : Evr → Evr) : (s.setEvr f).dict = s.dict := rfl
@[simp] theorem State.setEvr_sec (f : Evr → Evr) : (s.setEvr f).sec = s.sec := rfl
@[simp] theorem State.setEvr_evr (f : Evr → Evr) : (s.setEvr f).evr = f s.evr := rfl
@[simp] theorem State.setEvr_upd (f : Evr → Evr) : (s.setEvr f).upd = s.upd := rfl
@[simp] theorem State.setEvr_start (f : Evr → Evr) : (s.setEvr f).start = s.start := rfl
@[simp] theorem State.setEvr_pwr (f : Evr → Evr) : (s.setEvr f).pwr = s.pwr := rfl
@[simp] theorem State.setEvr_dbg (f : Evr → Evr) : (s.setEvr f).dbg = s.dbg := rfl
@[simp] theorem State.setEvr_out (f : Evr → Evr) : (s.setEvr f).out = s.out := rfl
@[simp] theorem State.setEvr_ans (f : Evr → Evr) : (s.setEvr f).ans = s.ans := rfl
@[simp] theorem State.setEvr_free (f : Evr → Evr) : (s.setEvr f).free = s.free := rfl

/-! ### setTim -/

@[simp] theorem State.setTim_pending (f : Tim → Tim) : (s.setTim f).pending = s.pending := rfl
@[simp] theorem State.setTim_dev (f : Tim → Tim) : (s.setTim f).dev = s.dev := rfl
@[simp] theorem State.setTim_blk (f : Tim → Tim) : (s.setTim f).blk = s.blk := rfl
@[simp] theorem State.setTim_grf (f : Tim → Tim) : (s.setTim f).grf = s.grf := rfl
@[simp] theorem State.setTim_gbb (f : Tim → Tim) : (s.setTim f).gbb = s.gbb := rfl
@[simp] theorem State.setTim_corr (f : Tim → Tim) : (s.setTim f).corr = s.corr := rfl
@[simp] theorem State.setTim_tsl (f : Tim → Tim) : (s.setTim f).tsl = s.tsl := rfl
@[simp] theorem State.setTim_cre (f : Tim → Tim) : (s.setTim f).cre = s.cre := rfl
@[simp] theorem State.setTim_fleet (f : Tim → Tim) : (s.setTim f).fleet = s.fleet := rfl
@[simp] theorem State.setTim_saf (f : Tim → Tim) : (s.setTim f).saf = s.saf := rfl
@[simp] theorem State.setTim_fra (f : Tim → Tim) : (s.setTim f).fra = s.fra := rfl
@[simp] theorem State.setTim_frb (f : Tim → Tim) : (s.setTim f).frb = s.frb := rfl
@[simp] theorem State.setTim_frames (f : Tim → Tim) : (s.setTim f).frames = s.frames := rfl
@[simp] theorem State.setTim_tim (f : Tim → Tim) : (s.setTim f).tim = f s.tim := rfl
@[simp] theorem State.setTim_pair (f : Tim → Tim) : (s.setTim f).pair = s.pair := rfl
@[simp] theorem State.setTim_mot (f : Tim → Tim) : (s.setTim f).mot = s.mot := rfl
@[simp] theorem State.setTim_cores (f : Tim → Tim) : (s.setTim f).cores = s.cores := rfl
@[simp] theorem State.setTim_mem (f : Tim → Tim) : (s.setTim f).mem = s.mem := rfl
@[simp] theorem State.setTim_ques (f : Tim → Tim) : (s.setTim f).ques = s.ques := rfl
@[simp] theorem State.setTim_dict (f : Tim → Tim) : (s.setTim f).dict = s.dict := rfl
@[simp] theorem State.setTim_sec (f : Tim → Tim) : (s.setTim f).sec = s.sec := rfl
@[simp] theorem State.setTim_evr (f : Tim → Tim) : (s.setTim f).evr = s.evr := rfl
@[simp] theorem State.setTim_upd (f : Tim → Tim) : (s.setTim f).upd = s.upd := rfl
@[simp] theorem State.setTim_start (f : Tim → Tim) : (s.setTim f).start = s.start := rfl
@[simp] theorem State.setTim_pwr (f : Tim → Tim) : (s.setTim f).pwr = s.pwr := rfl
@[simp] theorem State.setTim_dbg (f : Tim → Tim) : (s.setTim f).dbg = s.dbg := rfl
@[simp] theorem State.setTim_out (f : Tim → Tim) : (s.setTim f).out = s.out := rfl
@[simp] theorem State.setTim_ans (f : Tim → Tim) : (s.setTim f).ans = s.ans := rfl
@[simp] theorem State.setTim_free (f : Tim → Tim) : (s.setTim f).free = s.free := rfl

/-! ### setPair -/

@[simp] theorem State.setPair_pending (f : Pair → Pair) : (s.setPair f).pending = s.pending := rfl
@[simp] theorem State.setPair_dev (f : Pair → Pair) : (s.setPair f).dev = s.dev := rfl
@[simp] theorem State.setPair_blk (f : Pair → Pair) : (s.setPair f).blk = s.blk := rfl
@[simp] theorem State.setPair_grf (f : Pair → Pair) : (s.setPair f).grf = s.grf := rfl
@[simp] theorem State.setPair_gbb (f : Pair → Pair) : (s.setPair f).gbb = s.gbb := rfl
@[simp] theorem State.setPair_corr (f : Pair → Pair) : (s.setPair f).corr = s.corr := rfl
@[simp] theorem State.setPair_tsl (f : Pair → Pair) : (s.setPair f).tsl = s.tsl := rfl
@[simp] theorem State.setPair_cre (f : Pair → Pair) : (s.setPair f).cre = s.cre := rfl
@[simp] theorem State.setPair_fleet (f : Pair → Pair) : (s.setPair f).fleet = s.fleet := rfl
@[simp] theorem State.setPair_saf (f : Pair → Pair) : (s.setPair f).saf = s.saf := rfl
@[simp] theorem State.setPair_fra (f : Pair → Pair) : (s.setPair f).fra = s.fra := rfl
@[simp] theorem State.setPair_frb (f : Pair → Pair) : (s.setPair f).frb = s.frb := rfl
@[simp] theorem State.setPair_frames (f : Pair → Pair) : (s.setPair f).frames = s.frames := rfl
@[simp] theorem State.setPair_tim (f : Pair → Pair) : (s.setPair f).tim = s.tim := rfl
@[simp] theorem State.setPair_pair (f : Pair → Pair) : (s.setPair f).pair = f s.pair := rfl
@[simp] theorem State.setPair_mot (f : Pair → Pair) : (s.setPair f).mot = s.mot := rfl
@[simp] theorem State.setPair_cores (f : Pair → Pair) : (s.setPair f).cores = s.cores := rfl
@[simp] theorem State.setPair_mem (f : Pair → Pair) : (s.setPair f).mem = s.mem := rfl
@[simp] theorem State.setPair_ques (f : Pair → Pair) : (s.setPair f).ques = s.ques := rfl
@[simp] theorem State.setPair_dict (f : Pair → Pair) : (s.setPair f).dict = s.dict := rfl
@[simp] theorem State.setPair_sec (f : Pair → Pair) : (s.setPair f).sec = s.sec := rfl
@[simp] theorem State.setPair_evr (f : Pair → Pair) : (s.setPair f).evr = s.evr := rfl
@[simp] theorem State.setPair_upd (f : Pair → Pair) : (s.setPair f).upd = s.upd := rfl
@[simp] theorem State.setPair_start (f : Pair → Pair) : (s.setPair f).start = s.start := rfl
@[simp] theorem State.setPair_pwr (f : Pair → Pair) : (s.setPair f).pwr = s.pwr := rfl
@[simp] theorem State.setPair_dbg (f : Pair → Pair) : (s.setPair f).dbg = s.dbg := rfl
@[simp] theorem State.setPair_out (f : Pair → Pair) : (s.setPair f).out = s.out := rfl
@[simp] theorem State.setPair_ans (f : Pair → Pair) : (s.setPair f).ans = s.ans := rfl
@[simp] theorem State.setPair_free (f : Pair → Pair) : (s.setPair f).free = s.free := rfl

/-! ### setCorr -/

@[simp] theorem State.setCorr_pending (f : Corrections → Corrections) : (s.setCorr f).pending = s.pending := rfl
@[simp] theorem State.setCorr_dev (f : Corrections → Corrections) : (s.setCorr f).dev = s.dev := rfl
@[simp] theorem State.setCorr_blk (f : Corrections → Corrections) : (s.setCorr f).blk = s.blk := rfl
@[simp] theorem State.setCorr_grf (f : Corrections → Corrections) : (s.setCorr f).grf = s.grf := rfl
@[simp] theorem State.setCorr_gbb (f : Corrections → Corrections) : (s.setCorr f).gbb = s.gbb := rfl
@[simp] theorem State.setCorr_corr (f : Corrections → Corrections) : (s.setCorr f).corr = f s.corr := rfl
@[simp] theorem State.setCorr_tsl (f : Corrections → Corrections) : (s.setCorr f).tsl = s.tsl := rfl
@[simp] theorem State.setCorr_cre (f : Corrections → Corrections) : (s.setCorr f).cre = s.cre := rfl
@[simp] theorem State.setCorr_fleet (f : Corrections → Corrections) : (s.setCorr f).fleet = s.fleet := rfl
@[simp] theorem State.setCorr_saf (f : Corrections → Corrections) : (s.setCorr f).saf = s.saf := rfl
@[simp] theorem State.setCorr_fra (f : Corrections → Corrections) : (s.setCorr f).fra = s.fra := rfl
@[simp] theorem State.setCorr_frb (f : Corrections → Corrections) : (s.setCorr f).frb = s.frb := rfl
@[simp] theorem State.setCorr_frames (f : Corrections → Corrections) : (s.setCorr f).frames = s.frames := rfl
@[simp] theorem State.setCorr_tim (f : Corrections → Corrections) : (s.setCorr f).tim = s.tim := rfl
@[simp] theorem State.setCorr_pair (f : Corrections → Corrections) : (s.setCorr f).pair = s.pair := rfl
@[simp] theorem State.setCorr_mot (f : Corrections → Corrections) : (s.setCorr f).mot = s.mot := rfl
@[simp] theorem State.setCorr_cores (f : Corrections → Corrections) : (s.setCorr f).cores = s.cores := rfl
@[simp] theorem State.setCorr_mem (f : Corrections → Corrections) : (s.setCorr f).mem = s.mem := rfl
@[simp] theorem State.setCorr_ques (f : Corrections → Corrections) : (s.setCorr f).ques = s.ques := rfl
@[simp] theorem State.setCorr_dict (f : Corrections → Corrections) : (s.setCorr f).dict = s.dict := rfl
@[simp] theorem State.setCorr_sec (f : Corrections → Corrections) : (s.setCorr f).sec = s.sec := rfl
@[simp] theorem State.setCorr_evr (f : Corrections → Corrections) : (s.setCorr f).evr = s.evr := rfl
@[simp] theorem State.setCorr_upd (f : Corrections → Corrections) : (s.setCorr f).upd = s.upd := rfl
@[simp] theorem State.setCorr_start (f : Corrections → Corrections) : (s.setCorr f).start = s.start := rfl
@[simp] theorem State.setCorr_pwr (f : Corrections → Corrections) : (s.setCorr f).pwr = s.pwr := rfl
@[simp] theorem State.setCorr_dbg (f : Corrections → Corrections) : (s.setCorr f).dbg = s.dbg := rfl
@[simp] theorem State.setCorr_out (f : Corrections → Corrections) : (s.setCorr f).out = s.out := rfl
@[simp] theorem State.setCorr_ans (f : Corrections → Corrections) : (s.setCorr f).ans = s.ans := rfl
@[simp] theorem State.setCorr_free (f : Corrections → Corrections) : (s.setCorr f).free = s.free := rfl

/-! ### setTsl -/

@[simp] theorem State.setTsl_pending (f : Teasel → Teasel) : (s.setTsl f).pending = s.pending := rfl
@[simp] theorem State.setTsl_dev (f : Teasel → Teasel) : (s.setTsl f).dev = s.dev := rfl
@[simp] theorem State.setTsl_blk (f : Teasel → Teasel) : (s.setTsl f).blk = s.blk := rfl
@[simp] theorem State.setTsl_grf (f : Teasel → Teasel) : (s.setTsl f).grf = s.grf := rfl
@[simp] theorem State.setTsl_gbb (f : Teasel → Teasel) : (s.setTsl f).gbb = s.gbb := rfl
@[simp] theorem State.setTsl_corr (f : Teasel → Teasel) : (s.setTsl f).corr = s.corr := rfl
@[simp] theorem State.setTsl_tsl (f : Teasel → Teasel) : (s.setTsl f).tsl = f s.tsl := rfl
@[simp] theorem State.setTsl_cre (f : Teasel → Teasel) : (s.setTsl f).cre = s.cre := rfl
@[simp] theorem State.setTsl_fleet (f : Teasel → Teasel) : (s.setTsl f).fleet = s.fleet := rfl
@[simp] theorem State.setTsl_saf (f : Teasel → Teasel) : (s.setTsl f).saf = s.saf := rfl
@[simp] theorem State.setTsl_fra (f : Teasel → Teasel) : (s.setTsl f).fra = s.fra := rfl
@[simp] theorem State.setTsl_frb (f : Teasel → Teasel) : (s.setTsl f).frb = s.frb := rfl
@[simp] theorem State.setTsl_frames (f : Teasel → Teasel) : (s.setTsl f).frames = s.frames := rfl
@[simp] theorem State.setTsl_tim (f : Teasel → Teasel) : (s.setTsl f).tim = s.tim := rfl
@[simp] theorem State.setTsl_pair (f : Teasel → Teasel) : (s.setTsl f).pair = s.pair := rfl
@[simp] theorem State.setTsl_mot (f : Teasel → Teasel) : (s.setTsl f).mot = s.mot := rfl
@[simp] theorem State.setTsl_cores (f : Teasel → Teasel) : (s.setTsl f).cores = s.cores := rfl
@[simp] theorem State.setTsl_mem (f : Teasel → Teasel) : (s.setTsl f).mem = s.mem := rfl
@[simp] theorem State.setTsl_ques (f : Teasel → Teasel) : (s.setTsl f).ques = s.ques := rfl
@[simp] theorem State.setTsl_dict (f : Teasel → Teasel) : (s.setTsl f).dict = s.dict := rfl
@[simp] theorem State.setTsl_sec (f : Teasel → Teasel) : (s.setTsl f).sec = s.sec := rfl
@[simp] theorem State.setTsl_evr (f : Teasel → Teasel) : (s.setTsl f).evr = s.evr := rfl
@[simp] theorem State.setTsl_upd (f : Teasel → Teasel) : (s.setTsl f).upd = s.upd := rfl
@[simp] theorem State.setTsl_start (f : Teasel → Teasel) : (s.setTsl f).start = s.start := rfl
@[simp] theorem State.setTsl_pwr (f : Teasel → Teasel) : (s.setTsl f).pwr = s.pwr := rfl
@[simp] theorem State.setTsl_dbg (f : Teasel → Teasel) : (s.setTsl f).dbg = s.dbg := rfl
@[simp] theorem State.setTsl_out (f : Teasel → Teasel) : (s.setTsl f).out = s.out := rfl
@[simp] theorem State.setTsl_ans (f : Teasel → Teasel) : (s.setTsl f).ans = s.ans := rfl
@[simp] theorem State.setTsl_free (f : Teasel → Teasel) : (s.setTsl f).free = s.free := rfl

/-! ### setDict -/

@[simp] theorem State.setDict_pending (f : Dict → Dict) : (s.setDict f).pending = s.pending := rfl
@[simp] theorem State.setDict_dev (f : Dict → Dict) : (s.setDict f).dev = s.dev := rfl
@[simp] theorem State.setDict_blk (f : Dict → Dict) : (s.setDict f).blk = s.blk := rfl
@[simp] theorem State.setDict_grf (f : Dict → Dict) : (s.setDict f).grf = s.grf := rfl
@[simp] theorem State.setDict_gbb (f : Dict → Dict) : (s.setDict f).gbb = s.gbb := rfl
@[simp] theorem State.setDict_corr (f : Dict → Dict) : (s.setDict f).corr = s.corr := rfl
@[simp] theorem State.setDict_tsl (f : Dict → Dict) : (s.setDict f).tsl = s.tsl := rfl
@[simp] theorem State.setDict_cre (f : Dict → Dict) : (s.setDict f).cre = s.cre := rfl
@[simp] theorem State.setDict_fleet (f : Dict → Dict) : (s.setDict f).fleet = s.fleet := rfl
@[simp] theorem State.setDict_saf (f : Dict → Dict) : (s.setDict f).saf = s.saf := rfl
@[simp] theorem State.setDict_fra (f : Dict → Dict) : (s.setDict f).fra = s.fra := rfl
@[simp] theorem State.setDict_frb (f : Dict → Dict) : (s.setDict f).frb = s.frb := rfl
@[simp] theorem State.setDict_frames (f : Dict → Dict) : (s.setDict f).frames = s.frames := rfl
@[simp] theorem State.setDict_tim (f : Dict → Dict) : (s.setDict f).tim = s.tim := rfl
@[simp] theorem State.setDict_pair (f : Dict → Dict) : (s.setDict f).pair = s.pair := rfl
@[simp] theorem State.setDict_mot (f : Dict → Dict) : (s.setDict f).mot = s.mot := rfl
@[simp] theorem State.setDict_cores (f : Dict → Dict) : (s.setDict f).cores = s.cores := rfl
@[simp] theorem State.setDict_mem (f : Dict → Dict) : (s.setDict f).mem = s.mem := rfl
@[simp] theorem State.setDict_ques (f : Dict → Dict) : (s.setDict f).ques = s.ques := rfl
@[simp] theorem State.setDict_dict (f : Dict → Dict) : (s.setDict f).dict = f s.dict := rfl
@[simp] theorem State.setDict_sec (f : Dict → Dict) : (s.setDict f).sec = s.sec := rfl
@[simp] theorem State.setDict_evr (f : Dict → Dict) : (s.setDict f).evr = s.evr := rfl
@[simp] theorem State.setDict_upd (f : Dict → Dict) : (s.setDict f).upd = s.upd := rfl
@[simp] theorem State.setDict_start (f : Dict → Dict) : (s.setDict f).start = s.start := rfl
@[simp] theorem State.setDict_pwr (f : Dict → Dict) : (s.setDict f).pwr = s.pwr := rfl
@[simp] theorem State.setDict_dbg (f : Dict → Dict) : (s.setDict f).dbg = s.dbg := rfl
@[simp] theorem State.setDict_out (f : Dict → Dict) : (s.setDict f).out = s.out := rfl
@[simp] theorem State.setDict_ans (f : Dict → Dict) : (s.setDict f).ans = s.ans := rfl
@[simp] theorem State.setDict_free (f : Dict → Dict) : (s.setDict f).free = s.free := rfl

/-! ### answerValue -/

@[simp] theorem State.answerValue_pending (v : List Byte) : (s.answerValue v).pending = s.pending := rfl
@[simp] theorem State.answerValue_dev (v : List Byte) : (s.answerValue v).dev = s.dev := rfl
@[simp] theorem State.answerValue_blk (v : List Byte) : (s.answerValue v).blk = s.blk := rfl
@[simp] theorem State.answerValue_grf (v : List Byte) : (s.answerValue v).grf = s.grf := rfl
@[simp] theorem State.answerValue_gbb (v : List Byte) : (s.answerValue v).gbb = s.gbb := rfl
@[simp] theorem State.answerValue_corr (v : List Byte) : (s.answerValue v).corr = s.corr := rfl
@[simp] theorem State.answerValue_tsl (v : List Byte) : (s.answerValue v).tsl = s.tsl := rfl
@[simp] theorem State.answerValue_cre (v : List Byte) : (s.answerValue v).cre = s.cre := rfl
@[simp] theorem State.answerValue_fleet (v : List Byte) : (s.answerValue v).fleet = s.fleet := rfl
@[simp] theorem State.answerValue_saf (v : List Byte) : (s.answerValue v).saf = s.saf := rfl
@[simp] theorem State.answerValue_fra (v : List Byte) : (s.answerValue v).fra = s.fra := rfl
@[simp] theorem State.answerValue_frb (v : List Byte) : (s.answerValue v).frb = s.frb := rfl
@[simp] theorem State.answerValue_frames (v : List Byte) : (s.answerValue v).frames = s.frames := rfl
@[simp] theorem State.answerValue_tim (v : List Byte) : (s.answerValue v).tim = s.tim := rfl
@[simp] theorem State.answerValue_pair (v : List Byte) : (s.answerValue v).pair = s.pair := rfl
@[simp] theorem State.answerValue_mot (v : List Byte) : (s.answerValue v).mot = s.mot := rfl
@[simp] theorem State.answerValue_cores (v : List Byte) : (s.answerValue v).cores = s.cores := rfl
@[simp] theorem State.answerValue_mem (v : List Byte) : (s.answerValue v).mem = s.mem := rfl
@[simp] theorem State.answerValue_ques (v : List Byte) : (s.answerValue v).ques = s.ques := rfl
@[simp] theorem State.answerValue_dict (v : List Byte) : (s.answerValue v).dict = s.dict := rfl
@[simp] theorem State.answerValue_sec (v : List Byte) : (s.answerValue v).sec = s.sec := rfl
@[simp] theorem State.answerValue_evr (v : List Byte) : (s.answerValue v).evr = s.evr := rfl
@[simp] theorem State.answerValue_upd (v : List Byte) : (s.answerValue v).upd = s.upd := rfl
@[simp] theorem State.answerValue_start (v : List Byte) : (s.answerValue v).start = s.start := rfl
@[simp] theorem State.answerValue_pwr (v : List Byte) : (s.answerValue v).pwr = s.pwr := rfl
@[simp] theorem State.answerValue_dbg (v : List Byte) : (s.answerValue v).dbg = s.dbg := rfl
@[simp] theorem State.answerValue_out (v : List Byte) : (s.answerValue v).out = s.out := rfl
@[simp] theorem State.answerValue_ans (v : List Byte) : (s.answerValue v).ans = { status := .ok, value := v } := rfl
@[simp] theorem State.answerValue_free (v : List Byte) : (s.answerValue v).free = s.free := rfl

/-! ### answer -/

@[simp] theorem State.answer_pending (st : Status) : (s.answer st).pending = s.pending := rfl
@[simp] theorem State.answer_dev (st : Status) : (s.answer st).dev = s.dev := rfl
@[simp] theorem State.answer_blk (st : Status) : (s.answer st).blk = s.blk := rfl
@[simp] theorem State.answer_grf (st : Status) : (s.answer st).grf = s.grf := rfl
@[simp] theorem State.answer_gbb (st : Status) : (s.answer st).gbb = s.gbb := rfl
@[simp] theorem State.answer_corr (st : Status) : (s.answer st).corr = s.corr := rfl
@[simp] theorem State.answer_tsl (st : Status) : (s.answer st).tsl = s.tsl := rfl
@[simp] theorem State.answer_cre (st : Status) : (s.answer st).cre = s.cre := rfl
@[simp] theorem State.answer_fleet (st : Status) : (s.answer st).fleet = s.fleet := rfl
@[simp] theorem State.answer_saf (st : Status) : (s.answer st).saf = s.saf := rfl
@[simp] theorem State.answer_fra (st : Status) : (s.answer st).fra = s.fra := rfl
@[simp] theorem State.answer_frb (st : Status) : (s.answer st).frb = s.frb := rfl
@[simp] theorem State.answer_frames (st : Status) : (s.answer st).frames = s.frames := rfl
@[simp] theorem State.answer_tim (st : Status) : (s.answer st).tim = s.tim := rfl
@[simp] theorem State.answer_pair (st : Status) : (s.answer st).pair = s.pair := rfl
@[simp] theorem State.answer_mot (st : Status) : (s.answer st).mot = s.mot := rfl
@[simp] theorem State.answer_cores (st : Status) : (s.answer st).cores = s.cores := rfl
@[simp] theorem State.answer_mem (st : Status) : (s.answer st).mem = s.mem := rfl
@[simp] theorem State.answer_ques (st : Status) : (s.answer st).ques = s.ques := rfl
@[simp] theorem State.answer_dict (st : Status) : (s.answer st).dict = s.dict := rfl
@[simp] theorem State.answer_sec (st : Status) : (s.answer st).sec = s.sec := rfl
@[simp] theorem State.answer_evr (st : Status) : (s.answer st).evr = s.evr := rfl
@[simp] theorem State.answer_upd (st : Status) : (s.answer st).upd = s.upd := rfl
@[simp] theorem State.answer_start (st : Status) : (s.answer st).start = s.start := rfl
@[simp] theorem State.answer_pwr (st : Status) : (s.answer st).pwr = s.pwr := rfl
@[simp] theorem State.answer_dbg (st : Status) : (s.answer st).dbg = s.dbg := rfl
@[simp] theorem State.answer_out (st : Status) : (s.answer st).out = s.out := rfl
@[simp] theorem State.answer_ans (st : Status) : (s.answer st).ans = { status := st, detail := detailOf st } := rfl
@[simp] theorem State.answer_free (st : Status) : (s.answer st).free = s.free := rfl

/-! ### deny -/

@[simp] theorem State.deny_pending (d : Detail) : (s.deny d).pending = s.pending := rfl
@[simp] theorem State.deny_dev (d : Detail) : (s.deny d).dev = s.dev := rfl
@[simp] theorem State.deny_blk (d : Detail) : (s.deny d).blk = s.blk := rfl
@[simp] theorem State.deny_grf (d : Detail) : (s.deny d).grf = s.grf := rfl
@[simp] theorem State.deny_gbb (d : Detail) : (s.deny d).gbb = s.gbb := rfl
@[simp] theorem State.deny_corr (d : Detail) : (s.deny d).corr = s.corr := rfl
@[simp] theorem State.deny_tsl (d : Detail) : (s.deny d).tsl = s.tsl := rfl
@[simp] theorem State.deny_cre (d : Detail) : (s.deny d).cre = s.cre := rfl
@[simp] theorem State.deny_fleet (d : Detail) : (s.deny d).fleet = s.fleet := rfl
@[simp] theorem State.deny_saf (d : Detail) : (s.deny d).saf = s.saf := rfl
@[simp] theorem State.deny_fra (d : Detail) : (s.deny d).fra = s.fra := rfl
@[simp] theorem State.deny_frb (d : Detail) : (s.deny d).frb = s.frb := rfl
@[simp] theorem State.deny_frames (d : Detail) : (s.deny d).frames = s.frames := rfl
@[simp] theorem State.deny_tim (d : Detail) : (s.deny d).tim = s.tim := rfl
@[simp] theorem State.deny_pair (d : Detail) : (s.deny d).pair = s.pair := rfl
@[simp] theorem State.deny_mot (d : Detail) : (s.deny d).mot = s.mot := rfl
@[simp] theorem State.deny_cores (d : Detail) : (s.deny d).cores = s.cores := rfl
@[simp] theorem State.deny_mem (d : Detail) : (s.deny d).mem = s.mem := rfl
@[simp] theorem State.deny_ques (d : Detail) : (s.deny d).ques = s.ques := rfl
@[simp] theorem State.deny_dict (d : Detail) : (s.deny d).dict = s.dict := rfl
@[simp] theorem State.deny_sec (d : Detail) : (s.deny d).sec = s.sec := rfl
@[simp] theorem State.deny_evr (d : Detail) : (s.deny d).evr = s.evr := rfl
@[simp] theorem State.deny_upd (d : Detail) : (s.deny d).upd = s.upd := rfl
@[simp] theorem State.deny_start (d : Detail) : (s.deny d).start = s.start := rfl
@[simp] theorem State.deny_pwr (d : Detail) : (s.deny d).pwr = s.pwr := rfl
@[simp] theorem State.deny_dbg (d : Detail) : (s.deny d).dbg = s.dbg := rfl
@[simp] theorem State.deny_out (d : Detail) : (s.deny d).out = s.out := rfl
@[simp] theorem State.deny_ans (d : Detail) : (s.deny d).ans = { status := .denied, detail := d.code } := rfl
@[simp] theorem State.deny_free (d : Detail) : (s.deny d).free = s.free := rfl

/-! ### emit -/

@[simp] theorem State.emit_pending (o : Out) : (s.emit o).pending = s.pending := rfl
@[simp] theorem State.emit_dev (o : Out) : (s.emit o).dev = s.dev := rfl
@[simp] theorem State.emit_blk (o : Out) : (s.emit o).blk = s.blk := rfl
@[simp] theorem State.emit_grf (o : Out) : (s.emit o).grf = s.grf := rfl
@[simp] theorem State.emit_gbb (o : Out) : (s.emit o).gbb = s.gbb := rfl
@[simp] theorem State.emit_corr (o : Out) : (s.emit o).corr = s.corr := rfl
@[simp] theorem State.emit_tsl (o : Out) : (s.emit o).tsl = s.tsl := rfl
@[simp] theorem State.emit_cre (o : Out) : (s.emit o).cre = s.cre := rfl
@[simp] theorem State.emit_fleet (o : Out) : (s.emit o).fleet = s.fleet := rfl
@[simp] theorem State.emit_saf (o : Out) : (s.emit o).saf = s.saf := rfl
@[simp] theorem State.emit_fra (o : Out) : (s.emit o).fra = s.fra := rfl
@[simp] theorem State.emit_frb (o : Out) : (s.emit o).frb = s.frb := rfl
@[simp] theorem State.emit_frames (o : Out) : (s.emit o).frames = s.frames := rfl
@[simp] theorem State.emit_tim (o : Out) : (s.emit o).tim = s.tim := rfl
@[simp] theorem State.emit_pair (o : Out) : (s.emit o).pair = s.pair := rfl
@[simp] theorem State.emit_mot (o : Out) : (s.emit o).mot = s.mot := rfl
@[simp] theorem State.emit_cores (o : Out) : (s.emit o).cores = s.cores := rfl
@[simp] theorem State.emit_mem (o : Out) : (s.emit o).mem = s.mem := rfl
@[simp] theorem State.emit_ques (o : Out) : (s.emit o).ques = s.ques := rfl
@[simp] theorem State.emit_dict (o : Out) : (s.emit o).dict = s.dict := rfl
@[simp] theorem State.emit_sec (o : Out) : (s.emit o).sec = s.sec := rfl
@[simp] theorem State.emit_evr (o : Out) : (s.emit o).evr = s.evr := rfl
@[simp] theorem State.emit_upd (o : Out) : (s.emit o).upd = s.upd := rfl
@[simp] theorem State.emit_start (o : Out) : (s.emit o).start = s.start := rfl
@[simp] theorem State.emit_pwr (o : Out) : (s.emit o).pwr = s.pwr := rfl
@[simp] theorem State.emit_dbg (o : Out) : (s.emit o).dbg = s.dbg := rfl
@[simp] theorem State.emit_out (o : Out) : (s.emit o).out = o :: s.out := rfl
@[simp] theorem State.emit_ans (o : Out) : (s.emit o).ans = s.ans := rfl
@[simp] theorem State.emit_free (o : Out) : (s.emit o).free = s.free := rfl

/-! ### Parts of vectors and tables -/

@[simp] theorem State.axis_setAxis (n m : Fin 8) (a : Axis) : (s.setAxis n a).axis m = if m = n then a else s.axis m := by
  by_cases h : m = n
  · subst h; simp [State.axis, State.setAxis]
  · have : n.val ≠ m.val := fun e => h (Fin.ext e.symm)
    simp [State.axis, State.setAxis, h, Vector.getElem_set_ne, this]
@[simp] theorem State.tb_setTb (n m : Fin 5) (f : Base → Base) :
    (s.setTb n f).tb m = if m = n then f (s.tb n) else s.tb m := by
  by_cases h : m = n
  · subst h; simp [State.tb, State.setTb]
  · have : n.val ≠ m.val := fun e => h (Fin.ext e.symm)
    simp [State.tb, State.setTb, h, Vector.getElem_set_ne, this]
@[simp] theorem State.core_setCore (n m : Fin 16) (f : Core' → Core') :
    (s.setCore n f).cores.core[m] = if m = n then f s.cores.core[n] else s.cores.core[m] := by
  by_cases h : m = n
  · subst h; simp [State.setCore]
  · have : n.val ≠ m.val := fun e => h (Fin.ext e.symm)
    simp [State.setCore, h, Vector.getElem_set_ne, this]
@[simp] theorem State.loop_setLoop (n m : Fin 8) (f : Loop → Loop) :
    (s.setLoop n f).mot.loop[m] = if m = n then f s.mot.loop[n] else s.mot.loop[m] := by
  by_cases h : m = n
  · subst h; simp [State.setLoop]
  · have : n.val ≠ m.val := fun e => h (Fin.ext e.symm)
    simp [State.setLoop, h, Vector.getElem_set_ne, this]
@[simp] theorem State.bank_setBank (n m : Fin 16) (f : Bank → Bank) :
    (s.setBank n f).mem.bank[m] = if m = n then f s.mem.bank[n] else s.mem.bank[m] := by
  by_cases h : m = n
  · subst h; simp [State.setBank]
  · have : n.val ≠ m.val := fun e => h (Fin.ext e.symm)
    simp [State.setBank, h, Vector.getElem_set_ne, this]
@[simp] theorem State.crc_setCrc (n m : Fin 4) (f : CrcChan → CrcChan) :
    (s.setCrc n f).ques.crc[m] = if m = n then f s.ques.crc[n] else s.ques.crc[m] := by
  by_cases h : m = n
  · subst h; simp [State.setCrc]
  · have : n.val ≠ m.val := fun e => h (Fin.ext e.symm)
    simp [State.setCrc, h, Vector.getElem_set_ne, this]
@[simp] theorem State.can_setCan (n m : Fin 2) (f : Can → Can) :
    (s.setCan n f).dict.can[m] = if m = n then f s.dict.can[n] else s.dict.can[m] := by
  by_cases h : m = n
  · subst h; simp [State.setCan]
  · have : n.val ≠ m.val := fun e => h (Fin.ext e.symm)
    simp [State.setCan, h, Vector.getElem_set_ne, this]
@[simp] theorem State.sess_setSess (n m : Fin 11) (f : Session → Session) :
    (s.setSess n f).dict.sess[m] = if m = n then f s.dict.sess[n] else s.dict.sess[m] := by
  by_cases h : m = n
  · subst h; simp [State.setSess]
  · have : n.val ≠ m.val := fun e => h (Fin.ext e.symm)
    simp [State.setSess, h, Vector.getElem_set_ne, this]
@[simp] theorem State.hart_setHart (n m : Fin 17) (f : Hart → Hart) :
    (s.setHart n f).dbg.hart[m] = if m = n then f s.dbg.hart[n] else s.dbg.hart[m] := by
  by_cases h : m = n
  · subst h; simp [State.setHart]
  · have : n.val ≠ m.val := fun e => h (Fin.ext e.symm)
    simp [State.setHart, h, Vector.getElem_set_ne, this]
@[simp] theorem State.member_setMember (m k : Nat) (x : Member) :
    (s.setMember m x).member k = if k = m then x else s.member k := by simp [State.member, State.setMember]
@[simp] theorem State.task_setTask (i k : Nat) (x : Task) :
    (s.setTask i x).task k = if k = i then x else s.task k := by simp [State.task, State.setTask]
@[simp] theorem State.tfc_setTfc (i k : Nat) (x : Tfc) :
    (s.setTfc i x).tfc k = if k = i then x else s.tfc k := by simp [State.tfc, State.setTfc]
@[simp] theorem State.node_setNode (n k : Nat) (x : Node) :
    (s.setNode n x).node k = if k = n then x else s.node k := by simp [State.node, State.setNode]
@[simp] theorem State.link_setLink (m k : Nat) (x : MemberLink) :
    (s.setLink m x).link k = if k = m then x else s.link k := by simp [State.link, State.setLink]

end Sys2Proof.Machine
end

