-- ==== Sys2Proof/WellFormed.lean ====
section
/-!
DEFINITION. Well-formed commands: operands that the hardware's fields can carry. A meaning is total, so exec runs an ill-formed
command too; statements that need a field's range take this as a premise.
-/
namespace Sys2Proof

/-- Member IDs (R286, R557). -/
def memberId (m : Nat) : Bool := 1 ≤ m && m ≤ 256

/-- Field nodes (R286, R546). -/
def nodeNumber (n : Nat) : Bool := 1 ≤ n && n ≤ 1024

/-- Lengths of an NZ-OD datagram: data of at most 1,400 octets, and a tag of 16 or none (R518, R520). -/
def datagram (q : NzReq) : Bool := q.data.length ≤ 1400 && (q.tag.length = 0 || q.tag.length = 16)

/-- The command's operands fit the fields that carry them. -/
def Instr.wellFormed (i : Instr) : Bool :=
  match i with
  | .cycleBoundary => true
  | .managementTick => true
  | .run _ => true
  | .listen _ => true
  | .dormant _ => true
  | .swap _ => true
  | .restart _ _ => true
  | .standbyModeWrite _ _ => true
  | .vinValid _ _ _ => true
  | .dormantWakeDelayExpiry _ => true
  | .wakeUpCall _ _ _ => true
  | .watchdogExpiry _ _ => true
  | .enableWrite _ _ _ => true
  | .blockStartComplete _ => true
  | .quiesceComplete _ => true
  | .registerWrite _ addr _ => addr < 2 ^ 32 && addr % 4 = 0
  | .biasShort _ => true
  | .biasOpen _ _ => true
  | .biasRetry _ => true
  | .chainReady _ => true
  | .channelEnable _ _ _ => true
  | .channelStart _ => true
  | .channelDisable _ _ _ => true
  | .stagedWordWrite _ _ _ _ => true
  | .baseBoundary _ sums => sums.toList.all fun v => -(2 ^ 23 : Int) ≤ v && v < 2 ^ 23
  | .channelLockWrite _ _ _ _ => true
  | .slip _ _ => true
  | .cycAdj _ _ _ => true
  | .locktPreset _ _ _ => true
  | .acqSubmit _ _ => true
  | .acqSnapshotEnd => true
  | .acqProcessingEnd _ => true
  | .acqResultWrite => true
  | .latchEdge => true
  | .latchTableComplete => true
  | .latchRelease _ _ => true
  | .tb0SecondBoundary _ _ _ => true
  | .burstChainPowerUp => true
  | .burstStart => true
  | .burstEnd => true
  | .selfSurveyStart _ => true
  | .selfSurveyAbort _ => true
  | .selfSurveyAdopt _ => true
  | .stationPositionWrite _ _ v => v.length ≤ 1400
  | .mismatchAcknowledge _ => true
  | .teaselVerdict _ => true
  | .verdictDeadline => true
  | .staleVerdict => true
  | .ntripResponse code => code.all fun k => k < 1000
  | .ntripConnectionLost => true
  | .ntripBackoffExpiry => true
  | .tcpClientConnect _ => true
  | .baselineWrite _ _ _ => true
  | .baselineSurveyStart _ => true
  | .baselineSurveyAbort _ => true
  | .baselineSurveyAdopt _ => true
  | .teaselModeWrite _ _ => true
  | .mapValidationEnd => true
  | .mapStoreCopyComplete => true
  | .request _ _ cells => cells.length ≤ 32
  | .releaseCells _ _ => true
  | .release _ _ => true
  | .freeze _ _ => true
  | .thaw _ _ => true
  | .releaseMember _ _ => true
  | .restore _ _ cells => cells.length ≤ 32
  | .markResyncDiscard _ _ => true
  | .vetchResultWrite _ => true
  | .overdueScan => true
  | .agedScan => true
  | .tabIdxLatch _ _ => true
  | .join f _ _ => memberId f.member
  | .joiningTimeout m => memberId m
  | .report f _ _ => memberId f.member
  | .minislotEnd m => memberId m
  | .retire _ m => memberId m
  | .reinstate _ m => memberId m
  | .releaseFrozen _ m => memberId m
  | .roleChangeRequest _ m _ => memberId m
  | .roleChangeTimeout m => memberId m
  | .create _ => true
  | .allot _ => true
  | .withdraw _ => true
  | .cancel _ => true
  | .delete _ => true
  | .setPrio _ => true
  | .setRole _ => true
  | .tfcSubmit _ rec => rec.all fun r => r.length ≤ 1400
  | .taskDeadline id => id < 2 ^ 16
  | .allotmentTick => true
  | .resyncEvent => true
  | .silentWithdrawTimeout m => memberId m
  | .tfcAckDeadline i => i < 4096
  | .tfcExecuteTime i => i < 4096
  | .tfcRevertTime i => i < 4096
  | .tfcFreeTimeout i => i < 4096
  | .lanePeriod _ _ _ _ => true
  | .degradedTimeLimit => true
  | .keepaliveTimeout => true
  | .stopOutTestPulse _ _ => true
  | .permitGateClose => true
  | .permitLoopback _ _ _ => true
  | .estopTestPulse _ _ _ _ => true
  | .estopFilterExpiry _ _ => true
  | .estopUnstable _ => true
  | .estopStable _ => true
  | .discrepancyTimeout => true
  | .sf1Stop _ _ => true
  | .sf1Reset _ => true
  | .zoneStop _ _ _ => true
  | .zoneReset _ _ => true
  | .sf4Reset _ => true
  | .safCfgCommit _ _ => true
  | .permitWindowStart _ _ => true
  | .listenEnd _ _ _ _ _ => true
  | .listenRetry => true
  | .dataSlotStart _ => true
  | .frameTxEnd _ => true
  | .cowslipWindowStart => true
  | .txDescriptor _ _ _ => true
  | .launchTime _ => true
  | .stopFrameEnd _ => true
  | .radioConfigWrite _ idx sub _ => idx < 2 ^ 16 && sub < 2 ^ 8
  | .uplinkRequestItem f _ seg => memberId f.member && seg.cells.length ≤ 32
  | .uplinkRestoreItem f _ seg => memberId f.member && seg.cells.length ≤ 32
  | .uplinkReleaseItem f _ _ => memberId f.member
  | .roleAck f _ _ => memberId f.member
  | .requestSegmentTimeout m _ => memberId m
  | .itemRepeat => true
  | .nodeRendezvous n => nodeNumber n
  | .nodeAck n _ _ _ _ nclk => nodeNumber n && -128 ≤ nclk && nclk < 128
  | .nodeRecoveryTimeout n => nodeNumber n
  | .nodeScheduleWrite _ n sub _ => nodeNumber n && sub < 2 ^ 8
  | .standbyHeardPermit _ _ _ _ _ _ => true
  | .sourceMeasurement _ _ _ => true
  | .sourceLost _ => true
  | .stepCommand _ _ _ => true
  | .stepArm _ _ _ => true
  | .stepApply _ => true
  | .slewWrite _ _ _ => true
  | .tbNsRead _ _ => true
  | .timeValidityChange _ => true
  | .ppsPulse _ => true
  | .evtCapture _ _ => true
  | .leapSecondApply => true
  | .fbcLoad _ => true
  | .clockFailure _ _ => true
  | .heartbeatSend => true
  | .heartbeatReceived _ => true
  | .heartbeatMissed => true
  | .ptpSyncInterval _ => true
  | .ptpAnnounceInterval _ => true
  | .ptpMessageReceived _ _ => true
  | .pairHoldInChange _ => true
  | .claimAssert => true
  | .claimComplete => true
  | .pairKaWrite _ _ => true
  | .pairKaTimeout => true
  | .holdRelease _ => true
  | .holdConflict => true
  | .linkUp _ _ => true
  | .linkDown _ _ _ => true
  | .hello _ _ => true
  | .deltaReceived _ _ _ => true
  | .deltaAckReceived _ => true
  | .snapshotRequest => true
  | .snapshotPartReceived _ _ _ _ _ _ _ => true
  | .phaseStream _ _ _ => true
  | .mirrorWrite _ _ => true
  | .roleStaleReceived => true
  | .swapClaimTimeout => true
  | .axisMove _ _ _ => true
  | .axisVel _ _ _ => true
  | .axisStop _ _ => true
  | .axisGear _ _ => true
  | .gearArm _ _ => true
  | .axisHome _ _ _ _ => true
  | .axisLock _ _ => true
  | .axisUnlock _ _ => true
  | .clrflt _ _ => true
  | .profileTick _ _ _ => true
  | .switchInputFiltered _ _ _ _ => true
  | .inputUnstable _ _ => true
  | .inputStable _ _ => true
  | .encoderIllegalTransition _ => true
  | .stallDetect _ => true
  | .serviceModeWrite _ _ _ => true
  | .sampleEdge _ _ _ => true
  | .coefficientCommit _ _ => true
  | .injStart _ => true
  | .injStop _ => true
  | .captureArm _ => true
  | .captureAbort _ => true
  | .jdxSubmit _ _ _ => true
  | .jdxTrysub _ _ _ => true
  | .submitStallRelease _ => true
  | .jobDelivery _ => true
  | .jdxGet _ => true
  | .jdxDone _ => true
  | .affinityWaitExpiry _ => true
  | .jobDue _ => true
  | .jobTimeLimit _ => true
  | .intAck _ _ _ _ => true
  | .accessViolation _ addr _ => addr < 2 ^ 32
  | .monitorTrap _ => true
  | .scrubInterval _ => true
  | .portBRetry _ addr _ _ => addr < 2 ^ 32
  | .bankPowerWrite _ _ _ => true
  | .bankFillComplete _ => true
  | .secureWipeComplete => true
  | .queueWrite _ _ _ => true
  | .queueRead _ _ => true
  | .tryRead _ _ => true
  | .tryWrite _ _ _ => true
  | .queueHandover _ => true
  | .stalledAccessComplete _ => true
  | .engineRecordWrite _ ws => 1 ≤ ws.length && ws.length ≤ 16
  | .crcPolyWrite _ _ _ => true
  | .crcReset _ _ => true
  | .crcData _ _ _ _ => true
  | .crcStart _ _ => true
  | .crcAbort _ _ pos => pos < 2 ^ 32
  | .crcScanDone _ busError => busError.all fun a => a < 2 ^ 32
  | .sdoInitiateDownload _ _ _ _ _ _ => true
  | .sdoDownloadSegment _ _ _ _ => true
  | .sdoInitiateUpload _ _ _ _ _ => true
  | .sdoUploadSegment _ _ => true
  | .sdoSegmentTimeout _ => true
  | .openSession q => datagram q
  | .closeSession q => datagram q
  | .nzRead q _ => datagram q
  | .nzWrite q _ => datagram q
  | .domainBegin q => datagram q
  | .domainData q => datagram q
  | .domainEnd q => datagram q
  | .keepalive q => datagram q
  | .domainTransferTimeout _ => true
  | .loginChallenge _ => true
  | .loginResponse _ v => v.length ≤ 1400
  | .logout _ _ => true
  | .sessionIdleTimeout _ => true
  | .nmtStartRemoteNode _ _ => true
  | .nmtStopRemoteNode _ _ => true
  | .nmtEnterPreOperational _ _ => true
  | .nmtResetCommunication _ _ => true
  | .nmtResetNode _ _ => true
  | .canHeartbeatProduce _ => true
  | .canHeartbeatLoss _ _ => true
  | .tpdoTransmit _ _ => true
  | .rpdoReceived _ _ data _ => data.length ≤ 64
  | .canErrorStateChange _ tec _ => tec < 512
  | .restoreDefaults _ _ => true
  | .keyLoad _ _ _ _ => true
  | .keyClear _ _ _ _ => true
  | .keyDerive _ _ _ _ => true
  | .keyEnc _ _ _ _ => true
  | .keyDec _ _ _ _ => true
  | .keyMac _ _ _ _ => true
  | .keySign _ _ _ _ => true
  | .keyEcdh _ _ _ _ => true
  | .keyWrap _ _ _ _ => true
  | .keyOperationDone => true
  | .keyWipe _ => true
  | .keyImport _ msg => msg.length ≤ 1400
  | .siteKeyBlobWrite _ blob => blob.length ≤ 1400
  | .groupKeyRenewal _ => true
  | .enrolMember _ v => v.length ≤ 1400
  | .enrolNode _ v => v.length ≤ 1400
  | .removeEnrolment _ _ => true
  | .certificateWrite _ sub v => sub < 2 ^ 8 && v.length ≤ 1400
  | .lifeCycleCommand _ _ _ => true
  | .tamperFire _ => true
  | .tamperClear _ _ _ => true
  | .recordCommit _ => true
  | .flush _ => true
  | .flushPeriodExpiry => true
  | .flushComplete _ => true
  | .powerFail _ => true
  | .logTest _ _ => true
  | .logRecordRead _ _ => true
  | .serviceFrame _ frame _ => frame.length ≤ 1458
  | .imageCheckComplete _ => true
  | .discardStoredImage _ => true
  | .activateMain _ _ => true
  | .activateGbb _ => true
  | .activateRadio _ => true
  | .activateCle _ => true
  | .microcodePauseStart => true
  | .microcodePauseEnd => true
  | .confirm _ _ => true
  | .confirmationWindowExpiry _ => true
  | .pllLockTimeout _ => true
  | .startUpRetry _ => true
  | .calibrationClear _ _ => true
  | .brownOut _ => true
  | .vstopLow _ => true
  | .voutOverload _ => true
  | .powerDomainRequest _ _ => true
  | .powerDomainOn _ => true
  | .ref10Qualified _ => true
  | .ref10Lost => true
  | .ref10ReturnTimeout => true
  | .temperatureWarning _ => true
  | .tapReset => true
  | .extest _ => true
  | .idcode => true
  | .samplePreload _ => true
  | .clamp => true
  | .highz => true
  | .dtmcs _ _ => true
  | .dmi _ _ _ => true
  | .dbgChal => true
  | .dbgToken t _ => t.length = 72
  | .bypass => true
  | .hartHalt _ => true
  | .hartResume _ => true
  | .singleStep _ => true
  | .abstractCommand _ _ _ _ _ _ => true
  | .systemBusAccess _ _ _ => true
  | .triggerHit _ _ _ => true
  | .debugArm _ _ => true
  | .debugArmExpiry => true
  | .servicePortConnectionOpen _ => true
  | .servicePortConnectionClose => true
  | .canHeartbeatReceived _ _ => true
  | .powerFailCleared _ => true
  | .vstopRestored _ => true
  | .vbatLoss _ => true
  | .pllSlewComplete => true
  | .slewComplete _ => true
  | .ptpDelayReqInterval _ => true
  | .rxFrameFcsFailed _ => true
  | .mrxRetune _ => true

end Sys2Proof
end

