-- ==== Sys2Proof/Tests/Slice0.lean ====
section
/-!
SUPPORT. Small tests. The smoke test of WellFormed: one ill-formed command for each of its checks. Witnesses: for the statements
with hypotheses, states and operands that meet them. Expected results are the hypotheses' own, or the spec's where a rule is named.
-/
namespace Sys2Proof.Tests
open Sys2Proof Sys2Proof.Machine

set_option maxRecDepth 100000

/-! ### Ill-formed commands -/

/-- A bus master of the Vendor world with the secure bit. -/
def vendorBus : Bus := ⟨16, 0, true⟩

/-- A bus master of the Service world. -/
def serviceBus : Bus := ⟨15, 2, false⟩

/-- A received frame of a member. -/
def frameOf (m : Nat) : RxFrame := ⟨m, 1, true, true⟩

/-- A request datagram. -/
def datagramOf (session : BitVec 16) (data : List Byte) : NzReq :=
  { eth1 := false, version := 1, session := session, seq := 1, index := 0x6000, sub := 0, arg := 0, data := data, tag := [] }

/-- An uplink segment with `n` cells. -/
def segmentOf (n : Nat) : UpSegment :=
  { tag := 1, total := 1, index := 0, head := none, corridor := 0, firstCell := 0, cells := List.replicate n ⟨0, 1, 1, 1⟩ }

theorem test_illformed_address : (Instr.registerWrite vendorBus 2 0).wellFormed = false := by decide
theorem test_illformed_sums : (Instr.baseBoundary 0 (Vector.replicate 8 8388608)).wellFormed = false := by decide
theorem test_illformed_ntrip : (Instr.ntripResponse (some 1000)).wellFormed = false := by decide
theorem test_illformed_cells : (Instr.request true 0 (List.replicate 33 (0, 0))).wellFormed = false ∧
    (Instr.restore true 0 (List.replicate 33 (0, 0))).wellFormed = false := by decide
theorem test_illformed_member : (Instr.join (frameOf 0) 0 0).wellFormed = false ∧
    (Instr.joiningTimeout 257).wellFormed = false ∧ (Instr.minislotEnd 0).wellFormed = false ∧
    (Instr.retire .operator 0).wellFormed = false ∧ (Instr.reinstate .operator 257).wellFormed = false ∧
    (Instr.releaseFrozen .operator 0).wellFormed = false ∧ (Instr.roleChangeRequest .operator 0 1).wellFormed = false ∧
    (Instr.roleChangeTimeout 0).wellFormed = false ∧ (Instr.silentWithdrawTimeout 0).wellFormed = false ∧
    (Instr.uplinkReleaseItem (frameOf 0) true 0).wellFormed = false ∧ (Instr.roleAck (frameOf 300) true 0).wellFormed = false ∧
    (Instr.requestSegmentTimeout 0 0).wellFormed = false := by decide
theorem test_illformed_segment : (Instr.uplinkRequestItem (frameOf 1) true (segmentOf 33)).wellFormed = false ∧
    (Instr.uplinkRestoreItem (frameOf 0) true (segmentOf 1)).wellFormed = false := by decide
theorem test_illformed_task : (Instr.taskDeadline 65536).wellFormed = false ∧ (Instr.tfcAckDeadline 4096).wellFormed = false ∧
    (Instr.tfcExecuteTime 4096).wellFormed = false ∧ (Instr.tfcRevertTime 4096).wellFormed = false ∧
    (Instr.tfcFreeTimeout 4096).wellFormed = false := by decide
theorem test_illformed_object : (Instr.radioConfigWrite .engineer 65536 1 0).wellFormed = false ∧
    (Instr.radioConfigWrite .engineer 1 256 0).wellFormed = false := by decide
theorem test_illformed_node : (Instr.nodeRendezvous 0).wellFormed = false ∧
    (Instr.nodeRecoveryTimeout 1025).wellFormed = false ∧ (Instr.nodeScheduleWrite .engineer 1 256 0).wellFormed = false := by decide
theorem test_illformed_access : (Instr.accessViolation vendorBus (2 ^ 32) .read).wellFormed = false ∧
    (Instr.portBRetry 0 (2 ^ 32) 0 true).wellFormed = false := by decide
theorem test_illformed_record : (Instr.engineRecordWrite 0 []).wellFormed = false ∧
    (Instr.engineRecordWrite 0 (List.replicate 17 0)).wellFormed = false := by decide
theorem test_illformed_check_value : (Instr.crcAbort vendorBus 0 (2 ^ 32)).wellFormed = false ∧
    (Instr.crcScanDone 0 (some (2 ^ 32))).wellFormed = false := by decide
theorem test_illformed_datagram : ∀ i ∈ [Instr.openSession (datagramOf 0 (List.replicate 1401 0)),
    .closeSession (datagramOf 0 (List.replicate 1401 0)), .domainBegin (datagramOf 0 (List.replicate 1401 0)),
    .domainData (datagramOf 0 (List.replicate 1401 0)), .domainEnd (datagramOf 0 (List.replicate 1401 0)),
    .keepalive (datagramOf 0 (List.replicate 1401 0))], i.wellFormed = false := by decide
theorem test_illformed_login : (Instr.loginResponse 0 (List.replicate 1401 0)).wellFormed = false := by decide
theorem test_illformed_can : (Instr.canErrorStateChange 0 512 0).wellFormed = false := by decide
theorem test_illformed_blob : (Instr.keyImport .engineer (List.replicate 1401 0)).wellFormed = false ∧
    (Instr.siteKeyBlobWrite .engineer (List.replicate 1401 0)).wellFormed = false ∧
    (Instr.enrolMember .engineer (List.replicate 1401 0)).wellFormed = false ∧
    (Instr.enrolNode .engineer (List.replicate 1401 0)).wellFormed = false ∧
    (Instr.certificateWrite .engineer 256 []).wellFormed = false := by decide
theorem test_illformed_token : (Instr.dbgToken [] none).wellFormed = false := by decide
theorem test_wellformed : (Instr.registerWrite vendorBus 4 0).wellFormed = true ∧ (Instr.join (frameOf 256) 0 0).wellFormed = true ∧
    (Instr.crcScanDone 0 none).wellFormed = true ∧ (Instr.dbgToken (List.replicate 72 0) none).wellFormed = true := by decide

/-- What a start-up meets when nothing fails. -/
def cleanStart : StartInput := ⟨true, 0, 0, false, 0, true, false, 100, 2000⟩

/-- What a dictionary access meets when nothing fails. -/
def cleanAccess : OdInput := ⟨cleanStart, true, none, 0, .ok, true⟩

theorem test_illformed_report :
    (Instr.report (frameOf 257) 0 ⟨0, 0, 0, [], 0, 0, 0, 0, 0, 0, 0⟩).wellFormed = false := by decide
theorem test_illformed_ack : (Instr.nodeAck 1 1 true true 0 128).wellFormed = false := by decide
theorem test_illformed_value : (Instr.stationPositionWrite .engineer 1 (List.replicate 1401 0)).wellFormed = false ∧
    (Instr.rpdoReceived 0 0 (List.replicate 65 0) cleanAccess).wellFormed = false ∧
    (Instr.serviceFrame true (List.replicate 1459 0) cleanAccess).wellFormed = false ∧
    (Instr.nzRead (datagramOf 0 (List.replicate 1401 0)) cleanAccess).wellFormed = false ∧
    (Instr.nzWrite (datagramOf 0 (List.replicate 1401 0)) cleanAccess).wellFormed = false := by decide
theorem test_illformed_submission :
    (Instr.tfcSubmit ⟨.fleet, 0, 0, 0, 0, 0⟩ (some (List.replicate 1401 0))).wellFormed = false := by decide

/-! ### States for the witnesses -/

/-- A block that is ON. -/
def blockOn : BlockCtl := { enable := true, st := .on }

/-- A unit that runs in a device state, with its single blocks ON. -/
def unit (d : DevState) : State where
  dev := { powered := true, dstate := d }
  start := { answers := true }
  pwr := { pllLock := true, vinOk := true }
  blk := { gbb := blockOn, grf := blockOn, fra := blockOn, frb := blockOn, eth0 := blockOn, eth1 := blockOn, can0 := blockOn,
           can1 := blockOn, cre := blockOn, cle := blockOn, pair := blockOn }

/-- A member that is enrolled, in a state. -/
def memberIn (st : MemberState) : Member := { enrolled := true, st := st }

/-- The unit with member 1 in a state. -/
def withMember (d : DevState) (st : MemberState) : State := { unit d with fleet := { members := [(1, memberIn st)] } }

/-- The unit with task 0 as given. -/
def withTask (t : Task) : State := { unit .run with fleet := { tasks := [(0, t)] } }

/-- The unit with timed command 0 as given. -/
def withTfc (t : Tfc) : State := { unit .run with fleet := { tfcs := [(0, t)] } }

/-- A task call of the Fleet queue on task 0 and member 1. -/
def callOf (epoch : BitVec 32) : CallIn := ⟨.fleet, 0, 1, 0, epoch, 0⟩

/-! ### Witnesses: the machine as a whole -/

theorem witness_StepRunsFront :
    step { State.reset with pending := [.idcode] } = exec .idcode State.reset := by rfl
theorem witness_StepIdles : State.reset.pending = [] := by rfl
theorem witness_QueueUntouched : ∃ t, exec .idcode State.reset = .next t := ⟨_, rfl⟩
theorem witness_StepKeepsMemoryForm : State.reset.mem.wf = true ∧
    ∃ t, step { State.reset with pending := [.idcode] } = .next t := ⟨by decide, _, rfl⟩
theorem witness_StepKeepsLifeCycleTable : ∃ t, step { unit .listening with pending := [.lifeCycleCommand .vendor 1 cleanStart] } =
    .next t := ⟨_, rfl⟩
theorem witness_FramesNarrow : (touches .idcode).length ≤ 4 := by decide
theorem witness_FramesWide : 4 < (touches .managementTick).length := by decide
theorem witness_StoredOctets : ({ State.reset with gbb := { latched := some ⟨false, 0, 0, 0, 0, 0, false, false, false, false, 0, []⟩ } } :
      State).gbb.latched ≠ none ∧
    ({ State.reset with cre := { store := { validating := some [] } } } : State).cre.store.validating = some [] ∧
    mapCheck [] ≠ 0 := by decide

/-! ### Witnesses: the device, its blocks and registers -/

theorem witness_CycleAndTick : (unit .listening).runsClocks = true ∧ State.reset.runsClocks = false ∧
    (unit .listening).start.input = none ∧ (unit .listening).pair.swapAsk = false ∧ (unit .listening).pair.swap = none ∧
    (unit .listening).dev.target = none ∧ (unit .listening).dev.dstate = .listening := by decide
theorem witness_StateCommands : (unit .listening).takesCommands .engineer ∧ (unit .listening).dev.cause &&& 0xBF = 0 ∧
    (unit .listening).dev.paired = false ∧ (unit .run).takesCommands .engineer ∧ (unit .hotStandby).takesCommands .engineer ∧
    Role.operator.rank < Role.engineer.rank ∧ (1 : Nat) < 2 := by
  refine ⟨⟨?_, ?_, ?_, ?_, ?_⟩, ?_, ?_, ⟨?_, ?_, ?_, ?_, ?_⟩, ⟨?_, ?_, ?_, ?_, ?_⟩, ?_, ?_⟩ <;> decide
theorem witness_StateCommands_swap :
    let s := { unit .run with pair := { paired := true, link := true, partner := { eligible := true } } }
    s.takesCommands .engineer ∧ s.dev.dstate = .run ∧ s.pair.paired = true ∧ s.pair.link = true ∧
      s.pair.partner.eligible = true := by
  refine ⟨⟨?_, ?_, ?_, ?_, ?_⟩, ?_⟩ <;> decide
theorem witness_StartAndSupply : State.reset.dev.powered = false ∧ (unit .run).dev.powered = true ∧
    (unit .run).vendorHalted = false ∧ (unit .run).pwr.pllLock = true ∧ clearKeys 0xFFFFFFFF ≠ [] ∧ clearKeys 0 = [] ∧
    (1799 : BitVec 16).toNat < 1800 ∧ Role.engineer.rank ≤ Role.engineer.rank := by decide
theorem witness_StartAndSupply_dormant :
    let s := { unit .dormant with dev := { powered := true, dstate := .dormant, wakeAt := some 5 } }
    s.dev.dstate = .dormant ∧ s.dev.wakeAt ≠ none ∧ (1 : BitVec 16) = s.dev.wakeAddr := by decide
theorem witness_BlockEnables : (unit .listening).allows vendorBus (BlockId.addr .gbb) .write = true ∧
    ((unit .listening).ctl .gbb).st = .on ∧ (unit .listening).offRefused .gbb = none ∧ (State.reset.ctl .gbb).st = .off ∧
    State.reset.heldOff .gbb = false ∧ State.reset.allows vendorBus (BlockId.addr .gbb) .write = true := by decide
theorem witness_BlockEnables_refused :
    let s := { unit .run with pair := { paired := true } }
    (s.ctl .pair).st = .on ∧ s.offRefused .pair = some .denied ∧ s.allows vendorBus (BlockId.addr .pair) .write = true := by decide
theorem witness_BlockEnables_states :
    let s : State := { State.reset with blk := { gbb := { st := .starting }, eth0 := { st := .quiescing, enPend := true } } }
    (s.ctl .gbb).st = .starting ∧ s.mayStart .eth1 = true ∧ (s.ctl .eth0).st = .quiescing ∧ s.mayEnd .eth0 = true ∧
      (s.ctl .eth0).enPend = true := by decide
theorem witness_RegisterWriteChecked : (unit .run).allows serviceBus 0x40050000 .write = false ∧
    (unit .run).allows vendorBus 0x89000000 .write = true ∧ (unit .run).allows vendorBus 0x9FFFFFFC .write = true ∧
    (unit .run).pwr.pdStat.getLsbD 11 = true := by decide

/-! ### Witnesses: GNSS -/

theorem witness_GnssChannels : State.reset.allows vendorBus (chanAddr 0 0) .write = true ∧
    (∀ reg < 8, State.reset.allows vendorBus (chanAddr 671 reg) .write = true) ∧ sigRow 15 255 = none ∧
    (sigRow 1 32).isSome = true ∧ (State.reset.chan 0).en = false := by decide
theorem witness_GnssChannels_started :
    let s := { unit .run with gbb := { chans := [(0, { en := true })] } }
    (s.chan 0).en = true ∧ (s.chan 0).started = false ∧ s.blk.gbb.st = .on := by decide
theorem witness_Acquisition : State.reset.allows vendorBus 0x4005010C .write = true ∧ State.reset.gbb.acq.queue.length < 64 ∧
    (AcqReq.mk 0xFFFFFFFF 0 0).ok = false := by decide
theorem witness_Acquisition_full :
    64 ≤ ({ State.reset with gbb := { acq := { queue := List.replicate 64 ⟨0, 0, 0⟩ } } } : State).gbb.acq.queue.length := by decide
theorem witness_Acquisition_service :
    let s (p : AcqPhase) : State := { unit .run with gbb := { acq := { queue := [⟨0, 0, 0⟩], phase := some p } } }
    (s .snapshot).gbb.acq.phase = some .snapshot ∧ (s .snapshot).gbb.acq.queue ≠ [] ∧ (s .snapshot).upd.paused ≠ some .gbb ∧
      (s .processing).gbb.acq.phase = some .processing ∧ (s .result).gbb.acq.phase = some .result := by decide
theorem witness_LatchedTables : (unit .run).blk.gbb.st = .on ∧ (unit .run).gbb.burstNow = false ∧
    (unit .run).upd.paused ≠ some .gbb ∧ (unit .run).gbb.last = true ∧ (unit .run).gbb.held0 = false ∧
    (unit .run).allows vendorBus 0x40050028 .write = true := by decide
theorem witness_StationPosition : Role.engineer.rank ≤ Role.engineer.rank ∧ (unit .listening).dev.dstate = .listening ∧
    (unit .run).dev.dstate ≠ .listening ∧ (List.replicate 8 (1 : Byte)).length = 8 ∧
    (unit .listening).odHeld (odKey 0xA810 1) (leBytes 8 0) ≠ List.replicate 8 1 := by decide
theorem witness_CorrectionSources :
    let s := { unit .run with corr := { epoch := some ⟨false, 0, 0, 0, 0, 0, false, true, false, false, 0, []⟩, ntrip := .connecting }
                              tsl := { staleFrom := some 0 } }
    s.corr.epoch ≠ none ∧ s.verifies = true ∧ s.verified = true ∧ s.posInForce = false ∧ s.corr.ntrip = .connecting ∧
      s.tsl.staleFrom = some 0 ∧ State.reset.verifies = false := by decide
theorem witness_CorrectionSources_tcp :
    let s := { unit .run with dict := { od := [(odKey 0x3030 9, [1])] } }
    s.od 0x3030 9 1 = 1 ∧ s.ethUp = true ∧ s.transmits = true ∧ s.corr.tcp.length < 4 := by decide
theorem witness_BaselineAndTeasel : (-2147483648 : Int) ≤ 1000 ∧ (1000 : Int) ≤ 2147483647 ∧ (unit .run).dev.dstate ≠ .listening ∧
    (unit .listening).dev.dstate = .listening ∧ (unit .listening).sf4On = false ∧ (1 : Nat) ≤ 1 ∧
    (unit .listening).od 0x3800 1 0 ≠ 1 := by decide

/-! ### Witnesses: zones and tasks -/

/-- A header word with a valid MARK for an operation of a member. -/
def headerFor (member corr : Nat) : Dword := BitVec.ofNat 64 (member * 2 ^ 16 + 0x29 * 2 ^ 26 + corr * 2 ^ 48)

theorem witness_ReservationEngine :
    let s := { unit .run with cre := { store := { validating := some [], copying := some [] } } }
    s.cre.store.validating = some [] ∧ s.cre.store.copying = some [] ∧ mapCheck [] ≠ 0 ∧ s.creTakes (withOp (headerFor 1 0) 4) ∧
      s.allows vendorBus 0x40040030 .write = true ∧ (VHeader.ofWord 0).mark ≠ 0x29 ∧ s.cre.results.length < 1024 := by
  refine ⟨?_, ?_, ?_, ⟨?_, ?_, ?_⟩, ?_⟩ <;> decide
theorem witness_Membership : (withMember .run .unknown).memberOk 1 = true ∧ (withMember .run .unknown).blk.frb.st = .on ∧
    fresher ((withMember .run .unknown).link 1).rxEnrol 1 = true ∧ ((withMember .run .unknown).member 1).st ≠ .retired ∧
    (withMember .run .unknown).cre.ncorr 1 = 0 ∧ (withMember .run .unknown).memberOk 2 = false ∧
    (withMember .run .unknown).dev.cycle.toNat % 8 = (1 - 1) % 8 ∧ (withMember .run .idle).upd.paused ≠ some .radio ∧
    ((withMember .run .idle).member 1).st.watched = true ∧ ((withMember .run .idle).member 1).heard = false := by decide
theorem witness_Membership_report :
    let s := { withMember .run .joining with frames := { links := [(1, { paired := true })] } }
    (s.link 1).paired = true ∧ fresher (s.link 1).rx 1 = true ∧ (s.member 1).st = .joining ∧
      s.reportStale ⟨0, 0, 0, [], 0, 0, 0, 0, 0, 0, 0⟩ = false := by decide
theorem witness_MemberCommands : Role.operator.rank ≤ Role.operator.rank ∧ (withMember .run .silent).standby = false ∧
    (withMember .run .silent).memberOk 1 = true ∧ (withMember .hotStandby .silent).standby = true ∧
    ((withMember .run .silent).member 1).st = .silent ∧ (withMember .run .idle).roleCheck 1 3 = .ok := by decide
theorem witness_TaskCalls : (withTask { st := .allotted }).callAllowed (callOf 0) = true ∧
    (withTask { st := .allotted }).taskCheck (callOf 0) TaskState.holding = .ok ∧
    (withTask { st := .opened }).taskCheck (callOf 0) (fun k => k = .opened || k.holding) = .ok ∧
    (withTask { st := .done }).taskCheck (callOf 0) TaskState.finished = .ok ∧
    (withTask { st := .opened }).taskCheck (callOf 0) (fun k => k ≠ .free) = .ok ∧
    (unit .hotStandby).callAllowed (callOf 0) = false ∧
    epochCheck ((withTask { st := .opened }).task 0).epoch 1 ≠ .ok := by decide
theorem witness_TaskEvents : (withTask { st := .opened }).standby = false ∧ ((withTask { st := .opened }).task 0).st = .opened ∧
    ((withTask { st := .active }).task 0).deadlineTold = false ∧ ((withTfc { st := .pending }).tfc 0).st = .pending ∧
    ((withTfc { st := .acked }).tfc 0).revCode = 0 ∧ ((withTfc { st := .acked, revCode := 1 }).tfc 0).revCode ≠ 0 ∧
    ((withTfc { st := .ended }).tfc 0).st.terminal = true ∧ ((withTfc { st := .ended }).tfc 0).owner = none ∧
    (unit .run).tfcCheck [] ≠ .ok := by decide

/-! ### Witnesses: safety -/

theorem witness_LanePeriod :
    let s := { unit .run with saf := { cmds := [⟨1, 0, 1⟩] } }
    s.saf.voted #v[.good, .good, .good] = true ∧ s.saf.voted #v[.absent, .absent, .absent] = false ∧
      s.saf.cmds.any (fun m => m.code = 1) = true := by decide
theorem witness_LanePeriod_disagrees :
    let l : Lane := { included := true, disagreed := true }
    let s := { unit .run with saf := { lanes := #v[l, {}, {}] } }
    s.saf.lanes[(0 : Fin 3)].included = true ∧ s.saf.lanes[(0 : Fin 3)].disagreed = true ∧
      s.saf.voted #v[.wrong, .good, .good] = true := by decide
theorem witness_StopOutputs :
    let s := { unit .run with saf := { degradedAt := some 0, outA := true, outB := true, discSince := some 0
                                       estA := { unstableNow := true } } }
    s.saf.degradedAt ≠ none ∧ s.saf.keepAlive = false ∧ s.saf.outA = true ∧ s.saf.discSince ≠ none ∧
      (s.estop false).unstableNow = true ∧ s.saf.cfg.mode = 0 := by decide
theorem witness_PermitLoopback :
    let s := { unit .run with saf := { loopback := .awaited, loopConsec := 2 }, fra := { permitDue := true } }
    s.saf.loopback = .awaited ∧ s.saf.loopConsec = 2 ∧ s.fra.permitDue = true := by decide
theorem witness_SafetyCommands : (15 : Nat) ≤ 15 ∧ Role.observer.rank < Role.operator.rank ∧ (unit .run).standby = false ∧
    (unit .hotStandby).standby = true ∧ ({ unit .hotStandby with pair := { link := true } } : State).pair.link = true ∧
    (unit .listening).allows vendorBus 0x400F0180 .write = true ∧ (unit .listening).runLine = false ∧
    (unit .run).runLine = true ∧ (unit .run).allows serviceBus 0x400F0180 .write = false := by decide

/-! ### Witnesses: radio -/

theorem witness_ChannelAccess : ({ unit .run with upd := { paused := some .radio } } : State).upd.paused = some .radio ∧
    (unit .run).upd.paused ≠ some .radio ∧ (unit .run).na = false ∧
    ({ unit .run with fra := { regs := { na := true } } } : State).na = true ∧ (1 : Fin 3) ≠ 0 ∧ (unit .run).transmits = true ∧
    (unit .run).frbMay = true ∧ (unit .run).nextSegment = none ∧ (unit .listening).transmits = false := by decide
theorem witness_ChannelAccess_listens :
    let s := { unit .run with fra := { listen := some (.permit 0) }, frb := { listening := true, busyAt := some 0 } }
    s.fra.listen = some (.permit 0) ∧ s.frb.listening = true ∧ s.fra.regs.busy 100 = true ∧ s.frb.regs.busy 100 = true ∧
      s.frb.busyAt ≠ none ∧ s.frb.slot = none := by decide
theorem witness_FramesOnAir : (unit .run).blk.fra.st = .on ∧ descBad false 0xFFFFFFFFFFFFFFFF 0 = true ∧
    (unit .run).frb.onAir = none ∧ (∀ f ∈ (unit .run).frb.queue, f.ripe = true) := by decide
theorem witness_RadioSettings : (unit .run).radioObj 0 0 = none ∧ (unit .run).dev.dstate ≠ .listening := by decide
theorem witness_RadioSettings_items :
    let s := { withMember .run .idle with frames := { links := [(1, { paired := true, rx := some 1 })] } }
    s.blk.frb.st = .on ∧ s.transmits = true ∧ (s.link 1).rx = some 1 ∧
      (s.segmentIn 1 none { segmentOf 1 with total := 2 }).2.complete = none := by decide
theorem witness_RadioSettings_change :
    let m : Member := { enrolled := true, st := .idle, change := some ⟨3, 100, false⟩ }
    let s := { unit .run with fleet := { members := [(1, m)] } }
    (s.member 1).change = some ⟨3, 100, false⟩ ∧ (3 : BitVec 5).setWidth 8 = (3 : BitVec 8) := by decide
theorem witness_FieldNodes :
    let s := { unit .run with frames := { nodes := [(1, { enrolled := true, recoverUntil := some 0 })] } }
    s.transmits = true ∧ (s.node 1).enrolled = true ∧ fresher (s.node 1).rx 1 = true ∧ (s.node 1).recoverUntil = some 0 ∧
      cycleReached s.dev.cycle 0 = true ∧ (s.node 1).owed ≠ some s.dev.cycle ∧ (s.node 2).enrolled = false ∧
      Role.engineer.rank ≤ Role.engineer.rank := by decide
theorem witness_FieldNodes_permit : (unit .hotStandby).standby = true ∧ (unit .hotStandby).blk.frb.st = .on ∧
    (0 : BitVec 8) = (unit .hotStandby).pair.partner.unit ∧ (1 : BitVec 8) ≠ (unit .hotStandby).pair.partner.unit ∧
    fresher (unit .hotStandby).pair.rxPartner 1 = true := by decide

/-! ### Witnesses: time and the pair -/

theorem witness_TimeSources : (State.reset.tb 0).track = false ∧ (State.reset.tb 0).st = .free ∧ (0 : Fin 5).val ≠ 4 ∧
    vendorBus.world = 0 ∧ serviceBus.world ≠ 0 ∧ (State.reset.tb 0).step = none ∧ (State.reset.tb 0).slew = 0 ∧
    State.reset.allows vendorBus (0x40070100 + 0x40 * 5) .read = true := by decide
theorem witness_TimeSources_locked :
    let b : Base := { st := .locked, step := some 5, slew := 7, slewRt := 1 }
    let r : Base := { st := .refused, track := true }
    let s : State := { State.reset with tim := { base := #v[b, r, {}, {}, {}] } }
    (s.tb 0).st = .locked ∧ (0 : Int).natAbs ≤ s.jumpThreshold 0 ∧ (s.tb 0).step = some 5 ∧ (s.tb 0).slew ≠ 0 ∧
      (s.tb 1).track = true ∧ (s.tb 1).st = .refused := by decide
theorem witness_TimeEvents :
    let p : Pps := { en := true, gate := true }
    let e : Evt := { en := true, edge := 3 }
    let s : State := { unit .run with tim := { pps := #v[p, { p with omit' := true }], evt := #v[e, { e with prev := some 0 }, {}, {}]
                                               leapPend := 1 } }
    baseOf s.tim.pps[(0 : Fin 2)].src ≠ none ∧ s.tim.pps[(0 : Fin 2)].odPend = false ∧ s.tim.pps[(0 : Fin 2)].en = true ∧
      s.tim.pps[(0 : Fin 2)].omit' = false ∧ s.tim.pps[(0 : Fin 2)].gate = true ∧ s.tim.pps[(1 : Fin 2)].omit' = true ∧
      s.tim.evt[(0 : Fin 4)].prev = none ∧ s.tim.evt[(0 : Fin 4)].edge.getLsbD 0 = true ∧
      s.tim.evt[(1 : Fin 4)].prev = some 0 ∧ s.tb5ns < 0 + 100 ∧ s.tim.leapPend ≠ 0 ∧ s.alive = true := by decide
theorem witness_Pair :
    let s := { unit .run with pair := { paired := true, arm := true, holdIn := false, sampling := true, link := true
                                        hbDue := some 0, miss := 2, swapRel := some 0 } }
    s.pairOn = true ∧ s.pair.arm = true ∧ s.pair.holding = false ∧ s.pair.holdIn = false ∧ s.saf.safe = false ∧
      s.pair.sampling = true ∧ s.pair.pos = false ∧ s.allows vendorBus 0x40100014 .write = true ∧
      s.allows vendorBus 0x40100000 .write = true ∧ s.pair.hbDue = some 0 ∧ s.pair.miss = 2 ∧ s.pair.swapRel ≠ none ∧
      s.blk.pair.st = .on ∧ (true ≠ s.pair.pos) ∧ s.dev.target = none := by decide
theorem witness_Pair_holds :
    let s := { unit .run with pair := { holding := true, sampling := true, claimDone := true, holdIn := true } }
    s.pair.holding = true ∧ s.pair.sampling = true ∧ s.standby = false ∧ s.dev.target = none ∧ s.pair.claimDone = true ∧
      s.pair.holdIn = true ∧ s.pair.conflict = false := by decide
theorem witness_Pair_stream :
    let s := { unit .hotStandby with pair := { link := true, fmt := true, snapDone := true }, cre := { recon := true }
                                     fleet := { roleEpoch := 5 } }
    s.linkTakes 5 true = true ∧ s.standby = true ∧ s.pair.fmt = true ∧ s.pair.snapAwait = false ∧ s.pair.snapDone = true ∧
      precedes 4 s.fleet.roleEpoch = true ∧ s.allows vendorBus 0x40100050 .write = true ∧ s.cre.recon = true ∧
      s.dev.dstate = .hotStandby := by decide

/-! ### Witnesses: axes -/

theorem witness_AxisCommands : (unit .run).axisRole.rank ≤ Role.operator.rank ∧ ((unit .run).axis 0).cmd = none ∧
    (0 : BitVec 16) = (unit .run).mot.seq ∧ ({ cmd := some ⟨3, 0, 0, 0⟩ } : Axis).cmd = some ⟨3, 0, 0, 0⟩ ∧
    ({ fault := true } : Axis).fault = true := by decide
theorem witness_AxisEvents : (unit .run).pwr.pdStat.getLsbD 9 = true ∧ ((unit .run).axis 0).mo.homing = none ∧
    (((unit .run).axis 0).inp 0).unstable = false ∧ (unit .run).blk.cle.st = .on ∧
    (unit .run).mem.bank[(unit .run).mot.cap.bank].st = .on ∧ (unit .run).mot.cap.armed = false ∧
    notchStable ((unit .run).mot.loop[(0 : Fin 8)]).staged.n1 = true := by decide

/-! ### Witnesses: cores, memory, queues -/

theorem witness_Jobs : (unit .run).cores.inService 0 = none ∧ (unit .run).cores.core[(0 : Fin 16)].stalled = none ∧
    (unit .run).cores.jobCount 0 < jobQuota 0 := by decide
theorem witness_Jobs_delivery :
    let k : Core' := { running := true, idle := true }
    let s : State := { unit .run with cores := { core := (Vector.replicate 16 {}).set 0 k
                                                 jobs := [⟨0, {}, .ready 0 false 0⟩] } }
    s.cores.core[(0 : Fin 16)].idle = true ∧ s.cores.core[(0 : Fin 16)].halted = false ∧ s.coreUp 0 = true ∧
      s.cores.pick 0 = some ⟨0, {}, .ready 0 false 0⟩ := by decide
theorem witness_InterruptsAndViolations : (unit .run).allows vendorBus 0x40190400 .write = true ∧
    (unit .run).allows ⟨0, 0, false⟩ 0x400F0000 .write = true ∧ (unit .run).allows ⟨15, 2, false⟩ 0x400F0000 .write = false ∧
    (unit .run).cores.worldOf 0 = 0 ∧ (unit .run).cores.worldOf 15 = 2 ∧ coreOf 0 = some 0 := by decide
theorem witness_TryPorts :
    let q : Queue := { ctl := blockOn }
    let s : State := { unit .run with ques := { q := (Vector.replicate 32 {}).set 0 q } }
    ((s.queue 0).settle s.tb5c).ctl.st = .on ∧ s.allows vendorBus (queuePort 0 0x10) .read = true ∧
      s.allows vendorBus (queuePort 0 8) .read = true ∧ s.allows vendorBus (queuePort 0 0x14) .write = true ∧
      s.allows vendorBus (queuePort 0 4) .write = true ∧ ((s.queue 0).settle s.tb5c).avail = [] ∧
      0 < ((s.queue 0).settle s.tb5c).room ∧ ((s.queue 0).settle s.tb5c).waiting true = 0 := by decide
theorem witness_QueuePorts :
    let q : Queue := { ctl := blockOn, size := 4, avail := [1] }
    let s : State := { unit .run with ques := { q := (Vector.replicate 32 {}).set 31 q } }
    ((s.queue 31).settle s.tb5c).avail = [1] ∧ ((s.queue 31).settle s.tb5c).waiting false = 0 ∧
      ((s.queue 31).settle s.tb5c).pingPong = false ∧ s.allows vendorBus (queuePort 31 4) .write = true ∧
      ((s.queue 0).settle s.tb5c).ctl.st ≠ .on := by decide
theorem witness_MemoryAndCheckValues : State.reset.allows vendorBus (0x40150000 + 4 * 15) .write = true ∧
    State.reset.bankHeld 15 = false ∧ (0 : BitVec 2) ≠ State.reset.mem.bank[(15 : Fin 16)].pwr ∧
    State.reset.mem.bank[(15 : Fin 16)].portB = none ∧ State.reset.mem.scrub ≠ 0 ∧
    State.reset.allows vendorBus (crcReg 0 8) .write = true ∧ State.reset.allows vendorBus (crcReg 3 0x2C) .write = true ∧
    State.reset.ques.crc[(0 : Fin 4)].busy = false ∧ State.reset.ques.crc[(0 : Fin 4)].ctl.st = .off := by decide
theorem witness_MemoryAndCheckValues_busy :
    let c : CrcChan := { ctl := blockOn, busy := true }
    let s : State := { State.reset with ques := { crc := #v[c, {}, {}, {}] }
                                        mem := { wiping := true, bank := (Vector.replicate 16 {}).set 0 { st := .filling } } }
    s.ques.crc[(0 : Fin 4)].busy = true ∧ s.mem.wiping = true ∧ s.mem.bank[(0 : Fin 16)].st = .filling := by decide

/-! ### Witnesses: the wired network and the dictionary -/

/-- The unit with CAN channel 0 in *Operational*. -/
def canUnit (t : Option SdoTransfer) : State :=
  { unit .run with dict := { can := #v[{ nmt := .operational, sdo := t }, {}] } }

theorem witness_SdoTransfers : (canUnit none).canTakes 0 = true ∧ (canUnit none).canServes 0 = true ∧
    (0x20 : BitVec 8).toNat / 32 = 1 ∧ bitAt (0x20 : BitVec 8).toNat 1 = false ∧ bitAt (0x20 : BitVec 8).toNat 0 = false ∧
    bitAt (0x21 : BitVec 8).toNat 0 = true ∧ bitAt (0x23 : BitVec 8).toNat 1 = true ∧ (canUnit none).dict.can[(0 : Fin 2)].sdo = none ∧
    State.reset.canUp 0 = false := by decide
theorem witness_SdoTransfers_segment :
    let u : SdoTransfer := ⟨true, 0, 0, [], 8, false, 0⟩
    (canUnit (some u)).canTakes 0 = true ∧ (canUnit (some u)).dict.can[(0 : Fin 2)].sdo = some u ∧
      bitAt (0x10 : BitVec 8).toNat 4 ≠ u.toggle ∧ bitAt (0 : BitVec 8).toNat 4 = u.toggle ∧ u.data.length + 7 ≤ u.size := by decide
theorem witness_CanNetwork : (canUnit none).canTakes 0 = true ∧ (5 : BitVec 8) ≠ 0 ∧
    (5 : BitVec 8) ≠ (canUnit none).dict.can[(0 : Fin 2)].nodeId ∧ (32 : BitVec 8) = (canUnit none).dict.can[(0 : Fin 2)].nodeId ∧
    (canUnit none).hbEntry 0 0 = none ∧ (canUnit none).dict.can[(0 : Fin 2)].nmt ≠ .initialisation ∧ (canUnit none).alive = true ∧
    ((canUnit none).canCtl 0).st = .on ∧ (canUnit none).served = true := by decide
theorem witness_DictionarySessions :
    let q : NzReq := { datagramOf 1 [] with index := 0x6000 }
    let s := { unit .run with dict := { sess := (Vector.replicate 11 ({} : Session)).set 3 { opened := true, challenge := some ([], 30000) } } }
    s.nzReaches q = true ∧ (3 : Fin 11).val = q.session.toNat + 2 ∧ 1 ≤ q.session.toNat ∧
      s.dict.sess[(3 : Fin 11)].opened = true ∧ s.dict.sess[(3 : Fin 11)].key = none ∧ s.lastSeq 3 = none ∧ s.served = true ∧
      roleOf 1 ≠ none ∧ s.tb5ms ≤ 30000 ∧ s.dict.sess[(3 : Fin 11)].lockout = none ∧ s.freeSession ≠ none ∧
      State.reset.nzReaches q = false := by decide

/-! ### Witnesses: keys and life cycle -/

theorem witness_KeyEngine : (unit .listening).allows vendorBus 0x40130000 .write = true ∧
    (unit .listening).allows vendorBus 0x40130020 .write = true ∧ (unit .listening).sec.busy = none ∧
    (unit .listening).keyDenies .enc 0 0 = true ∧ ({ unit .listening with sec := { slots := (Vector.replicate 32 ({} : KeySlot)).set 3 { valid := true } } } :
      State).keyDenies .clear 3 0 = false ∧
    Role.engineer.rank ≤ Role.engineer.rank ∧ ([] : List Byte).length ≠ 111 ∧ (unit .listening).sec.renewing = false := by decide
theorem witness_Enrolment : (unit .listening).enrolOpen = true ∧ (unit .dormant).enrolOpen = false ∧
    leNat (([1, 0, 1, 0, 0, 0, 0, 0, 0, 0, 3, 4] : List Byte).take 2) = 1 ∧
    (unit .listening).sec.addrTaken 1 false 1 = false ∧ (unit .listening).sec.members = [] := by decide
theorem witness_LifeCycleAndTamper : (unit .listening).sec.changeTo 1 ≠ none ∧ (unit .run).dev.dstate ≠ .listening ∧
    (unit .run).tamperWatched .loop0 = false ∧ (unit .run).tamperWatched .temp = true ∧
    ((unit .listening).setTmp fun x => { x with active := 0 }).lockActive = false := by decide

/-! ### Witnesses: recorder, update, supply, debug -/

theorem witness_Recorder : (unit .run).allows vendorBus (evrBase + 0x108) .write = true ∧
    (unit .run).allows vendorBus (evrBase + 8) .write = true ∧ (unit .run).alive = true ∧ (unit .run).pwr.pfailNow = false ∧
    (unit .run).evr.degr = false ∧ (unit .run).dict.sess[(3 : Fin 11)].opened = false := by decide
theorem witness_ServiceAndUpdate :
    let s := { unit .listening with upd := { checking := some [], ready := some 1 } }
    s.alive = true ∧ s.upd.checking = some [] ∧ s.upd.ready = some 1 ∧ s.upd.act = none ∧ s.dev.target = none ∧
      ({ unit .listening with upd := { ready := some 1 } } : State).activateStatus 1 = .ok ∧ servicePayload [] = none ∧ s.anyTrial = false := by decide
theorem witness_DebugClosed : State.reset.dbg.enabled = false ∧ State.reset.debugQuiet ∧
    ∃ t, step { State.reset with pending := [.dmi 2 0x10 0x80000001] } = .next t :=
  ⟨by decide, fun _ => by decide, _, rfl⟩
theorem witness_DebugArming :
    let s := { unit .listening with sec := { deploy := true, returns := 1 } }
    s.sec.lifeCycle = .serviceReturn ∧ s.dev.dstate = .listening ∧ s.dbg.locked = false ∧
      ({ s with dbg := { armedTo := some 5 } } : State).dbg.armedTo ≠ none ∧ (0 : Nat) ≠ 1 := by decide
theorem witness_DebugPortAndModule :
    let s := { unit .debugSession with dbg := { enabled := true } }
    s.dbg.enabled = true ∧ s.dbg.dmiStat = 0 ∧ s.hartOk 15 = true ∧ s.hartOk 16 = true ∧ s.hartOk 17 = false ∧
      s.dbg.cmdErr = 0 ∧ s.dbg.sberror = 0 ∧ s.dbg.hart[(0 : Fin 17)].halted = false ∧
      s.allows debugMaster 0x0C000000 .read = false ∧ s.allows debugMaster 0x80000000 .read = true := by decide
theorem witness_DebugUnlock : (unit .listening).tokenAvailable = true ∧ (unit .listening).tokenTaken = true ∧
    (unit .listening).tokenPasses [0x4E, 0x5A, 0x44, 0x47, 0, 0, 0, 0] = true ∧
    (unit .listening).tokenPasses [] = false ∧ (unit .run).tokenTaken = false := by decide

/-! ### What single commands do -/

theorem test_hart_halt :
    (match exec (.hartHalt 3) { unit .debugSession with dbg := { enabled := true } } with
     | .next t => t.dbg.hart[(3 : Fin 17)].halted
     | _ => false) = true := by decide
theorem test_memory_write :
    (match exec (.registerWrite vendorBus 0x89000000 0x04030201) (unit .run) with
     | .next t => t.mem.read 0x89000000 4
     | _ => []) = [1, 2, 3, 4] := by decide
theorem test_dmi_closed :
    (match exec (.dmi 1 0x11 0) (unit .run) with
     | .next t => t.dbg.dr % 4
     | _ => 0) = 2 := by decide

end Sys2Proof.Tests
end

section
/-!
PROOFS. The safety commands of R244 and R387, and the commit of the safety configuration of R254.
-/
namespace Sys2Proof.Machine

/-! ### A safety command at the dictionary (R13, R244, R387) -/

theorem State.safWrite_of_lower_role (s : State) {role : Role} (code zone : Nat) (reply : Status)
    (hrole : role.rank < Role.operator.rank) : s.safWrite role code zone reply = s.deny .role :=
  if_neg (Nat.not_le.mpr hrole)

/-- R244: a unit that is no standby passes the command to the lanes. -/
theorem State.safWrite_of_active (s : State) {role : Role} (code : Nat) {zone : Nat} (reply : Status)
    (hrole : Role.operator.rank ≤ role.rank) (hzone : zone ≤ 15) (hactive : s.standby = false) :
    s.safWrite role code zone reply = s.safPass code zone := by
  simp [safWrite, asRole, hrole, Nat.not_lt.mpr hzone, hactive]

/-- R387: a standby whose link is up passes a stop on and answers with the active unit's reply. -/
theorem State.safWrite_stop_of_standby (s : State) {role : Role} {code zone : Nat} (reply : Status)
    (hrole : Role.operator.rank ≤ role.rank) (hzone : zone ≤ 15) (hstandby : s.standby = true)
    (hstop : code = 1 ∨ code = 3) (hlink : s.pair.link = true) :
    s.safWrite role code zone reply = (s.emit (.safetyStop code zone)).answer reply := by
  simp [safWrite, asRole, hrole, Nat.not_lt.mpr hzone, hstandby, hstop, hlink]

/-- R387: a standby denies resets, and stops while its link is down. -/
theorem State.safWrite_denied_of_standby (s : State) {role : Role} {code zone : Nat} (reply : Status)
    (hrole : Role.operator.rank ≤ role.rank) (hzone : zone ≤ 15) (hstandby : s.standby = true)
    (hdenied : (code ≠ 1 ∧ code ≠ 3) ∨ s.pair.link = false) :
    s.safWrite role code zone reply = s.deny .state := by
  have hnotPassed : ¬ ((code = 1 ∨ code = 3) ∧ s.pair.link = true) := by
    rintro ⟨hstop, hlink⟩
    rcases hdenied with hreset | hdown
    · exact hstop.elim hreset.1 hreset.2
    · simp [hdown] at hlink
  simp [safWrite, asRole, hrole, Nat.not_lt.mpr hzone, hstandby, hnotPassed]

/-- The safety commands of R244, each with the code and the zone that it writes to SAF_CMD. -/
def dictionarySafetyCommands (role : Role) (zone : Nat) (reply : Status) : List (Nat × Nat × Instr) :=
  [(1, 0, .sf1Stop role reply), (2, 0, .sf1Reset role), (3, zone, .zoneStop role zone reply),
    (4, zone, .zoneReset role zone), (5, 0, .sf4Reset role)]

/-- Each safety command writes its code and zone to SAF_CMD; a stop carries the active unit's reply. -/
theorem exec_safetyCommand (s : State) {role : Role} {zone : Nat} {reply : Status} (hzone : zone ≤ 15)
    {p : Nat × Nat × Instr} (hp : p ∈ dictionarySafetyCommands role zone reply) :
    ∃ r, exec p.2.2 s = .next (s.safWrite role p.1 p.2.1 r) ∧ p.2.1 ≤ 15 ∧ (p.1 = 1 ∨ p.1 = 3 → r = reply) := by
  simp only [dictionarySafetyCommands, List.mem_cons, List.not_mem_nil, or_false] at hp
  obtain rfl | rfl | rfl | rfl | rfl := hp
  · exact ⟨reply, rfl, Nat.zero_le _, fun _ => rfl⟩
  · exact ⟨.denied, rfl, Nat.zero_le _, by simp⟩
  · exact ⟨reply, rfl, hzone, fun _ => rfl⟩
  · exact ⟨.denied, rfl, hzone, by simp⟩
  · exact ⟨.denied, rfl, Nat.zero_le _, by simp⟩

/-! ### The commit of the safety configuration (R254, R454) -/

@[simp] theorem State.event_saf (s : State) (e : Event) (n : List Nat) : (s.event e n).saf = s.saf :=
  State.saf_of_outside (s.event_frame e n [.evr, .out] (by decide))

@[simp] theorem State.violation_saf (s : State) (b : Bus) (a : Nat) (k : AccessKind) :
    (s.violation b a k).saf = s.saf :=
  State.saf_of_outside (s.violation_frame b a k [.cores, .evr, .out] (by decide))

theorem State.safCommit_of_runLine (s : State) (agree : Bool) (hrun : s.runLine = true) : s.safCommit agree = s :=
  if_pos hrun

/-- R254: the three CRCs agree, and the buffer is in force; log 51: the CRC is over its raw 16 octets. -/
theorem State.safCommit_agree_saf (s : State) (hrun : s.runLine = false) :
    (s.safCommit true).saf = { s.saf with cfg := SafCfg.ofOctets s.saf.cfgBuf.toList, cfgOk := true
                                          cfgCrc := crc32c s.saf.cfgBuf.toList } := by
  simp [safCommit, hrun]

/-- R254: the three CRCs do not agree, and the configuration in force stays. -/
theorem State.safCommit_disagree_saf (s : State) (hrun : s.runLine = false) :
    (s.safCommit false).saf = { s.saf with cfgOk := false } := by
  simp [safCommit, hrun]

theorem exec_safCfgCommit_of_allows {s : State} {b : Bus} (agree : Bool) (hpass : s.allows b 0x400F0180 .write = true) :
    exec (.safCfgCommit b agree) s = .next (s.safCommit agree) :=
  congrArg Host.Outcome.next (if_pos hpass)

theorem exec_safCfgCommit_of_stopped {s : State} {b : Bus} (agree : Bool)
    (hstopped : s.allows b 0x400F0180 .write = false) :
    exec (.safCfgCommit b agree) s = .next (s.violation b 0x400F0180 .write) :=
  congrArg Host.Outcome.next (if_neg (by simp [hstopped]))

/-! ### The statement -/

/-- Settles O31: the dictionary's write of a safety command by role and by kind of unit, and the commit of the configuration
by the firewall, the run line and the agreement of the lanes. -/
theorem safetyCommands : Obligations.SafetyCommands := by
  unfold Obligations.SafetyCommands
  refine ⟨fun s role zone reply hzone p hp => ?_, fun s b agree => ?_⟩
  · obtain ⟨r, hexec, hzone', hreply⟩ := exec_safetyCommand s hzone hp
    refine ⟨_, hexec, fun hlow => s.safWrite_of_lower_role _ _ _ hlow, fun hrole hactive => ?_,
      fun hrole hstandby => ⟨fun ⟨hstop, hlink⟩ => ?_, s.safWrite_denied_of_standby _ hrole hzone' hstandby⟩⟩
    · rw [s.safWrite_of_active _ _ hrole hzone' hactive]
      exact ⟨rfl, rfl, s.safPass_frame _ _ _ (by decide)⟩
    · rw [s.safWrite_stop_of_standby _ hrole hzone' hstandby hstop hlink]
      exact ⟨hreply hstop, by simp⟩
  · cases hpass : s.allows b 0x400F0180 .write with
    | false => exact ⟨_, exec_safCfgCommit_of_stopped agree hpass, by simp⟩
    | true =>
      refine ⟨_, exec_safCfgCommit_of_allows agree hpass, fun _ => s.safCommit_of_runLine agree,
        fun _ hrun => ⟨?_, ?_⟩, by simp⟩
      · rintro rfl
        simp [s.safCommit_agree_saf hrun]
      · rintro rfl
        simp [s.safCommit_disagree_saf hrun]

end Sys2Proof.Machine
end

section
/-!
PROOFS. The cycle boundary of R17 and the management tick of R23 and R24.
-/
namespace Sys2Proof.Machine

/-! ### The cycle boundary (R17) -/

/-- Moving to an instant of TB4 leaves every part but the time bases and the recorder as it was. -/
theorem State.reachTb4_outside (s : State) (ns : Nat) :
    (s.reachTb4 ns).outside [.tim, .evr] = s.outside [.tim, .evr] :=
  s.reachTb4_frame ns _ (by decide)

/-- R17: a boundary lies at a multiple of 50 ms, whether it is the one just passed or the next. -/
theorem State.boundaryMs_mod (s : State) : s.boundaryMs % 50 = 0 := by
  simp only [boundaryMs]
  split
  · exact Nat.mul_mod_left ..
  · omega

/-- What the end of a cycle closes and streams leaves the device part as it was. -/
theorem State.cycleEnd_dev (s : State) (ended : BitVec 32) : (s.cycleClose.cycleStream ended).dev = s.dev :=
  State.dev_of_outside (W := [.saf, .fra, .frb, .cores, .ques, .pair, .out]) (by simp +decide)

/-- R17: a cycle that begins gives the device part its number and its instant, and nothing else. -/
theorem State.cycleBegin_dev (s : State) (ms : Nat) :
    (s.cycleBegin ms).dev = { s.dev with cycle := cycleOf ms, lastBoundary := ms } := by
  rw [cycleBegin]
  exact State.dev_of_outside (s := { s with dev := { s.dev with cycle := cycleOf ms, lastBoundary := ms } })
    (W := [.cre, .fleet, .fra, .frb, .frames, .pair, .mot, .cores, .ques, .sec, .evr, .out, .ans, .free])
    (by simp +decide)

theorem exec_cycleBoundary_of_stopped {s : State} (hstopped : s.runsClocks = false) :
    exec .cycleBoundary s = .next s :=
  if_pos (by simp [hstopped])

/-- R17: the state after a cycle boundary of a unit whose clocks run. -/
def State.afterBoundary (s : State) : State :=
  let s1 := s.reachTb4 (s.boundaryMs * 1000000)
  (s1.cycleClose.cycleStream s1.dev.cycle).cycleBegin s.boundaryMs

theorem exec_cycleBoundary_of_runsClocks {s : State} (hruns : s.runsClocks = true) :
    exec .cycleBoundary s = .next s.afterBoundary :=
  if_neg (by simp [hruns])

theorem State.afterBoundary_dev (s : State) :
    s.afterBoundary.dev = { s.dev with cycle := cycleOf s.boundaryMs, lastBoundary := s.boundaryMs } := by
  rw [afterBoundary, cycleBegin_dev, cycleEnd_dev, State.dev_of_outside (s.reachTb4_outside _)]

/-! ### The management tick (R23, R24) -/

theorem State.startTick_of_noInput {s : State} (hinput : s.start.input = none) : s.startTick = s := by
  simp [startTick, hinput]

/-- R29: *Listening* with no transition in progress is where a cause leads, so no cause acts there. -/
theorem State.causeActs_of_listening {s : State} (hlistening : s.dev.dstate = .listening)
    (htarget : s.dev.target = none) : s.causeActs = s := by
  simp [causeActs, hlistening, htarget]

theorem State.leaveAdvance_of_noTarget {s : State} (htarget : s.dev.target = none) : s.leaveAdvance = s := by
  simp [leaveAdvance, htarget]

theorem State.swapTick_of_noSwap {s : State} (hswap : s.pair.swap = none) : s.swapTick = s := by
  simp [swapTick, hswap]

/-- R24: in *Listening*, with no start-up and no transition in progress, the state machine does nothing at a tick. -/
theorem State.stateTick_of_listening {s : State} (hinput : s.start.input = none)
    (htarget : s.dev.target = none) (hlistening : s.dev.dstate = .listening) : s.stateTick = s := by
  simp [stateTick, startTick_of_noInput hinput, causeActs_of_listening hlistening htarget, htarget,
    leaveAdvance_of_noTarget htarget]

/-- R24: what falls due at a tick beside the state machine and the swap touches neither the device part nor the clocks. -/
theorem State.tickActs_outside_of_listening {s : State} (hinput : s.start.input = none)
    (hswap : s.pair.swap = none) (htarget : s.dev.target = none) (hlistening : s.dev.dstate = .listening) :
    s.tickActs.outside [.saf, .sec, .dict, .out] = s.outside [.saf, .sec, .dict, .out] := by
  rw [tickActs, stateTick_of_listening hinput htarget hlistening, swapTick_of_noSwap hswap]
  simp +decide

theorem exec_managementTick_of_stopped {s : State} (hstopped : s.runsClocks = false) :
    exec .managementTick s = .next s :=
  if_pos (by simp [hstopped])

theorem exec_managementTick_of_runsClocks {s : State} (hruns : s.runsClocks = true) :
    exec .managementTick s = .next (s.reachTb4 ((s.tb4ns / 2500000 + 1) * 2500000)).tickActs :=
  if_neg (by simp [hruns])

/-! ### The statement -/

/-- Settles O11: the number and instant that a boundary gives the device part, and the tick that only moves the clocks of a
unit in *Listening*. -/
theorem cycleAndTick : Obligations.CycleAndTick := by
  unfold Obligations.CycleAndTick
  refine ⟨fun s => ?_, fun s => ?_⟩
  · cases hruns : s.runsClocks with
    | false => exact ⟨s, exec_cycleBoundary_of_stopped hruns, by simp⟩
    | true =>
      refine ⟨s.afterBoundary, exec_cycleBoundary_of_runsClocks hruns, fun _ => ?_, by simp⟩
      simp [s.boundaryMs_mod, s.afterBoundary_dev, cycleOf]
  · cases hruns : s.runsClocks with
    | false => exact ⟨s, exec_managementTick_of_stopped hruns, by simp⟩
    | true =>
      refine ⟨_, exec_managementTick_of_runsClocks hruns, by simp, fun _ hinput _ hswap htarget hlistening => ?_⟩
      have hmoved := s.reachTb4_outside ((s.tb4ns / 2500000 + 1) * 2500000)
      have hdev := State.dev_of_outside hmoved
      have hacts := State.tickActs_outside_of_listening (by rwa [State.start_of_outside hmoved])
        (by rwa [State.pair_of_outside hmoved]) (by rwa [hdev]) (by rwa [hdev])
      exact ⟨(State.dev_of_outside hacts).trans hdev, State.tim_of_outside hacts⟩

end Sys2Proof.Machine
end

section
/-!
PROOFS. The antenna bias of R47 and the receive chains of R52.
-/
namespace Sys2Proof.Machine

/-! ### The bias sources (R47) -/

@[simp] theorem State.event_grf (s : State) (e : Event) (n : List Nat) : (s.event e n).grf = s.grf :=
  State.grf_of_outside (s.event_frame e n [.evr, .out] (by decide))

@[simp] theorem State.raise_grf (s : State) (n : Nat) : (s.raise n).grf = s.grf := rfl

theorem State.bias_of_grf {s t : State} (h : t.grf = s.grf) (mon : Bool) : t.bias mon = s.bias mon := by
  rw [bias, bias, h]

@[simp] theorem State.setBias_bias_same (s : State) (mon : Bool) (f : Bias → Bias) :
    (s.setBias mon f).bias mon = f (s.bias mon) := by
  cases mon <;> rfl

@[simp] theorem State.setBias_bias_other (s : State) (mon : Bool) (f : Bias → Bias) :
    (s.setBias mon f).bias (!mon) = s.bias (!mon) := by
  cases mon <;> rfl

@[simp] theorem State.setBias_chainRdy (s : State) (mon : Bool) (f : Bias → Bias) :
    (s.setBias mon f).grf.chainRdy = s.grf.chainRdy := by
  cases mon <;> rfl

/-- R47: a source changed by a fault, with the interrupt and the event that report it. -/
def State.biasFault (s : State) (mon : Bool) (f : Bias → Bias) (kind : Nat) : State :=
  ((s.setBias mon f).raise 10).event .biasFault [bit mon, kind]

theorem State.biasFault_grf (s : State) (mon : Bool) (f : Bias → Bias) (kind : Nat) :
    (s.biasFault mon f kind).grf = (s.setBias mon f).grf := by
  rw [biasFault, event_grf, raise_grf]

/-- A reported fault changes its own source only, and no chain. -/
theorem State.biasFault_sources (s : State) (mon : Bool) (f : Bias → Bias) (kind : Nat) :
    (s.biasFault mon f kind).bias mon = f (s.bias mon) ∧ (s.biasFault mon f kind).bias (!mon) = s.bias (!mon) ∧
      (s.biasFault mon f kind).grf.chainRdy = s.grf.chainRdy := by
  have hgrf := s.biasFault_grf mon f kind
  simp [State.bias_of_grf hgrf, hgrf]

/-- The source after a short: SHORT, without bias, at the limit of 100 mA. -/
def Bias.shorted (b : Bias) : Bias := { b with isShort := true, isOpen := false, applied := false, ma := 100 }

/-- The source after an open line: OPEN, with the bias still applied. -/
def Bias.opened (ma : BitVec 1) (b : Bias) : Bias := { b with isOpen := true, ma := ma.setWidth 8 }

/-- The source after a retry: the bias applied again. -/
def Bias.retried (b : Bias) : Bias := { b with isShort := false, applied := true }

theorem exec_biasShort (s : State) (mon : Bool) :
    exec (.biasShort mon) s = .next (if (s.bias mon).applied = true then s.biasFault mon Bias.shorted 1 else s) :=
  (apply_ite Host.Outcome.next ..).symm

theorem exec_biasOpen (s : State) (mon : Bool) (ma : BitVec 1) :
    exec (.biasOpen mon ma) s =
      .next (if (s.bias mon).applied = true then s.biasFault mon (Bias.opened ma) 0 else s) :=
  (apply_ite Host.Outcome.next ..).symm

theorem exec_biasRetry (s : State) (mon : Bool) :
    exec (.biasRetry mon) s =
      .next (if (s.bias mon).isShort = true ∧ (s.bias mon).on = true ∧ s.biasPowered = true then
        s.setBias mon Bias.retried else s) := by
  rw [apply_ite Host.Outcome.next]
  exact if_congr (by simp [and_assoc]) rfl rfl

/-! ### The receive chains (R52) -/

/-- The chain's bit of CHAIN_RDY set. -/
def State.setChainRdy (s : State) (q : Fin 6) : State :=
  { s with grf := { s.grf with chainRdy := s.grf.chainRdy ||| (1#6 <<< q.val) } }

theorem exec_chainReady (s : State) (q : Fin 6) :
    exec (.chainReady q) s =
      .next (if s.blk.grf.st = .on ∧ s.grf.chainEn.getLsbD q.val = true then s.setChainRdy q else s) := by
  rw [apply_ite Host.Outcome.next]
  exact if_congr (by simp) rfl rfl

/-- A chain that becomes ready sets its own bit and leaves the others. -/
theorem State.setChainRdy_getLsbD (s : State) (q p : Fin 6) :
    (s.setChainRdy q).grf.chainRdy.getLsbD p.val = (s.grf.chainRdy.getLsbD p.val || decide (p = q)) := by
  simp [setChainRdy, ← BitVec.twoPow_eq, Fin.ext_iff, eq_comm]

/-! ### The statement -/

/-- Settles O16: each command by its condition, a fault's source by what its report leaves alone, and a chain by its bit. -/
theorem biasAndChains : Obligations.BiasAndChains := by
  unfold Obligations.BiasAndChains
  refine fun s mon => ⟨⟨_, exec_biasShort s mon, ?_⟩, fun ma => ⟨_, exec_biasOpen s mon ma, ?_⟩,
    ⟨_, exec_biasRetry s mon, ?_⟩, fun q => ⟨_, exec_chainReady s q, ?_⟩⟩
  · split
    · exact s.biasFault_sources mon Bias.shorted 1
    · rfl
  · split
    · exact s.biasFault_sources mon (Bias.opened ma) 0
    · rfl
  · split
    · exact ⟨s.setBias_bias_same .., s.setBias_bias_other .., s.setBias_frame _ _ _ (by decide)⟩
    · rfl
  · split
    · refine ⟨by rw [s.setChainRdy_getLsbD, decide_eq_true rfl, Bool.or_true], fun p hp => ?_, rfl⟩
      rw [s.setChainRdy_getLsbD, decide_eq_false hp, Bool.or_false]
    · rfl

end Sys2Proof.Machine
end

section
/-!
PROOFS. The acquisition requests of R69 and R70, and their service (R71, R586).
-/
namespace Sys2Proof.Machine

/-! ### Entry into service (R71) -/

/-- Entry into service takes no request from the queue, and LAST stays. -/
theorem State.acqEnter_queue_last (s : State) :
    s.acqEnter.gbb.acq.queue = s.gbb.acq.queue ∧ s.acqEnter.gbb.acq.last = s.gbb.acq.last := by
  unfold acqEnter
  split
  · split <;> exact ⟨rfl, rfl⟩
  · exact ⟨rfl, rfl⟩

/-- R71: with none in service, the request that waits first enters its snapshot while the GBB is ON. -/
theorem State.acqEnter_phase_of_idle {s : State} (hidle : s.gbb.acq.phase = none) :
    s.acqEnter.gbb.acq.phase =
      if s.gbb.acq.queue ≠ [] ∧ s.blk.gbb.st = .on then some .snapshot else none := by
  unfold acqEnter
  rw [hidle]
  cases hqueue : s.gbb.acq.queue with
  | nil => simpa using hidle
  | cons q l => by_cases hon : s.blk.gbb.st = .on <;> simp [hon, hidle]

/-! ### Submission (R69, R70) -/

theorem State.guarded_of_allows {s : State} {b : Bus} {a : Nat} {k : AccessKind} (f : State → State)
    (hpass : s.allows b a k = true) : s.guarded b a k f = f s :=
  if_pos hpass

theorem exec_acqSubmit_of_allows {s : State} {b : Bus} (w : Word) (hpass : s.allows b 0x4005010C .write = true) :
    exec (.acqSubmit b w) s = .next (s.acqSubmit w) :=
  congrArg Host.Outcome.next (State.guarded_of_allows _ hpass)

/-- GBB_ACQ_STAT.LAST set to the status of a submission. -/
def State.setAcqLast (s : State) (st : Status) : State :=
  { s with gbb := { s.gbb with acq := { s.gbb.acq with last := st.code } } }

/-- A request put at the end of the queue. -/
def State.acqAppend (s : State) (q : AcqReq) : State :=
  { s with gbb := { s.gbb with acq := { s.gbb.acq with queue := s.gbb.acq.queue ++ [q] } } }

/-- R69: with 64 requests pending the submission is discarded. -/
theorem State.acqSubmit_of_full {s : State} (w : Word) (hfull : 64 ≤ s.gbb.acq.queue.length) :
    s.acqSubmit w = (s.setAcqLast .full).answer .full :=
  if_pos hfull

/-- R70: a request whose parameters lie outside their limits is discarded. -/
theorem State.acqSubmit_of_bad {s : State} {w : Word} (hroom : s.gbb.acq.queue.length < 64)
    (hbad : (AcqReq.mk s.gbb.acq.cmd0 s.gbb.acq.cmd1 w).ok = false) :
    s.acqSubmit w = (s.setAcqLast .denied).answer .denied := by
  simp [acqSubmit, setAcqLast, Nat.not_le.mpr hroom, hbad]

theorem State.acqSubmit_of_ok {s : State} {w : Word} (hroom : s.gbb.acq.queue.length < 64)
    (hok : (AcqReq.mk s.gbb.acq.cmd0 s.gbb.acq.cmd1 w).ok = true) :
    s.acqSubmit w =
      ((s.setAcqLast .ok).acqAppend ⟨s.gbb.acq.cmd0, s.gbb.acq.cmd1, w⟩).acqEnter.answer .ok := by
  simp [acqSubmit, setAcqLast, acqAppend, Nat.not_le.mpr hroom, hok]

/-! ### Snapshot and processing (R71, R586) -/

/-- The request in service moved on to another phase. -/
def State.setAcqPhase (s : State) (ph : AcqPhase) : State :=
  { s with gbb := { s.gbb with acq := { s.gbb.acq with phase := some ph } } }

/-- A request moved on from a state that differs outside the baseband only keeps its place in the queue. -/
theorem State.setAcqPhase_phase_queue {s u : State} (hgbb : u.gbb = s.gbb) (ph : AcqPhase) :
    (u.setAcqPhase ph).gbb.acq.phase = some ph ∧ (u.setAcqPhase ph).gbb.acq.queue = s.gbb.acq.queue :=
  ⟨rfl, congrArg (·.acq.queue) hgbb⟩

theorem exec_acqSnapshotEnd_of_snapshot {s : State} {q : AcqReq} {l : List AcqReq}
    (hphase : s.gbb.acq.phase = some .snapshot) (hqueue : s.gbb.acq.queue = q :: l)
    (hruns : s.upd.paused ≠ some .gbb) :
    exec .acqSnapshotEnd s = .next ((s.reachTicks (s.gbb.acq.snapAt + q.snapTicks)).setAcqPhase .processing) := by
  change execAcqSnapshotEnd s = _
  simp [execAcqSnapshotEnd, hphase, hqueue, hruns, State.setAcqPhase]

/-- R71, R586: a snapshot ends only for a request in its snapshot, and not in the pause of a microcode load. -/
theorem exec_acqSnapshotEnd_of_not {s : State}
    (hnot : s.gbb.acq.phase ≠ some .snapshot ∨ s.gbb.acq.queue = [] ∨ s.upd.paused = some .gbb) :
    exec .acqSnapshotEnd s = .next s := by
  change execAcqSnapshotEnd s = _
  unfold execAcqSnapshotEnd
  split
  · simp_all
  · rfl

/-- The record of a request that waits to be written as its result. -/
def State.acqResult (s : State) (r : List Dword) : State :=
  { s with gbb := { s.gbb with acq := { s.gbb.acq with phase := some .result, result := r } } }

theorem exec_acqProcessingEnd_of_processing {s : State} {q : AcqReq} {l : List AcqReq} (p : AcqPeak)
    (hphase : s.gbb.acq.phase = some .processing) (hqueue : s.gbb.acq.queue = q :: l)
    (hruns : s.upd.paused ≠ some .gbb) :
    exec (.acqProcessingEnd p) s = .next (s.acqResult (acqRecord q s.gbb.acq.snapNs s.gbb.acq.thresh p)).acqWrite := by
  change execAcqProcessingEnd p s = _
  simp [execAcqProcessingEnd, hphase, hqueue, hruns, State.acqResult]

/-- R71, R586: processing ends only for a request in it, and not in the pause of a microcode load. -/
theorem exec_acqProcessingEnd_of_not {s : State} (p : AcqPeak)
    (hnot : s.gbb.acq.phase ≠ some .processing ∨ s.gbb.acq.queue = [] ∨ s.upd.paused = some .gbb) :
    exec (.acqProcessingEnd p) s = .next s := by
  change execAcqProcessingEnd p s = _
  unfold execAcqProcessingEnd
  split
  · simp_all
  · rfl

/-! ### The result (R71) -/

/-- R485: whether a queue takes a record is not the matter of the baseband. -/
theorem State.enginePush_with_gbb_eq_none (s : State) (g : Gbb) (n : Fin 32) (ws : List Dword) :
    ({ s with gbb := g } : State).enginePush n ws = none ↔ s.enginePush n ws = none := by
  simp only [enginePush, ite_eq_right_iff, reduceCtorEq, imp_false]
  rfl

/-- R71: a result waits while its queue has no room. -/
theorem State.acqWrite_of_noRoom {s : State}
    (hfull : s.enginePush (queueOf s.gbb.acq.rqueue) s.gbb.acq.result = none) : s.acqWrite = s := by
  unfold acqWrite
  split
  · rw [hfull]
  · rfl

/-- A result that has just come due waits while its queue has no room. -/
theorem State.acqWrite_acqResult_of_noRoom {s : State} {r : List Dword}
    (hfull : s.enginePush (queueOf s.gbb.acq.rqueue) r = none) : (s.acqResult r).acqWrite = s.acqResult r :=
  acqWrite_of_noRoom ((s.enginePush_with_gbb_eq_none _ _ _).mpr hfull)

theorem State.acqWrite_of_noResult {s : State} (hphase : s.gbb.acq.phase ≠ some .result) : s.acqWrite = s := by
  unfold acqWrite
  split
  · contradiction
  · rfl

/-- The service of a request ended, with the requests `l` still to be served. -/
def State.acqDone (s : State) (l : List AcqReq) : State :=
  { s with gbb := { s.gbb with acq := { s.gbb.acq with phase := none, queue := l, result := [] } } }

/-- R71: a result that its queue takes ends the service of its request, and the next may enter. -/
theorem State.acqWrite_of_push {s u : State} {q : AcqReq} {l : List AcqReq}
    (hphase : s.gbb.acq.phase = some .result) (hqueue : s.gbb.acq.queue = q :: l)
    (hpush : s.enginePush (queueOf s.gbb.acq.rqueue) s.gbb.acq.result = some u) :
    s.acqWrite = (u.acqDone l).acqEnter := by
  simp [acqWrite, hphase, hqueue, hpush, acqDone]

/-! ### The statement -/

/-- R71, R586: the request in service stands in a phase and the engine runs, or nothing of that phase can end. -/
theorem State.acqStands_or_not (s : State) (ph : AcqPhase) :
    (s.gbb.acq.phase = some ph ∧ (∃ q l, s.gbb.acq.queue = q :: l) ∧ s.upd.paused ≠ some .gbb) ∨
      (s.gbb.acq.phase ≠ some ph ∨ s.gbb.acq.queue = [] ∨ s.upd.paused = some .gbb) := by
  rw [← List.ne_nil_iff_exists_cons]
  tauto

/-- Settles O18: the three answers of a submission, and each event of the service by the phase that it ends. -/
theorem acquisition : Obligations.Acquisition := by
  unfold Obligations.Acquisition
  refine ⟨fun s b w hpass => ⟨_, exec_acqSubmit_of_allows w hpass, fun hfull => ?_, fun hroom hbad => ?_,
    fun hroom hok => ?_⟩, fun s => ⟨?_, fun p => ?_, s.acqWrite, rfl, fun hphase q l u hqueue hpush => ?_,
    State.acqWrite_of_noResult⟩⟩
  · rw [State.acqSubmit_of_full w hfull]
    exact ⟨rfl, rfl, rfl⟩
  · rw [State.acqSubmit_of_bad hroom hbad]
    exact ⟨rfl, rfl, rfl⟩
  · rw [State.acqSubmit_of_ok hroom hok]
    obtain ⟨hqueue, hlast⟩ :=
      ((s.setAcqLast .ok).acqAppend ⟨s.gbb.acq.cmd0, s.gbb.acq.cmd1, w⟩).acqEnter_queue_last
    exact ⟨hqueue, hlast, rfl⟩
  · rcases s.acqStands_or_not .snapshot with ⟨hphase, ⟨q, l, hqueue⟩, hruns⟩ | hnot
    · refine ⟨_, exec_acqSnapshotEnd_of_snapshot hphase hqueue hruns, fun _ _ _ => ?_, by simp [hphase, hqueue, hruns]⟩
      have hmoved := s.reachTicks_frame (s.gbb.acq.snapAt + q.snapTicks) [.tim, .evr] (by decide)
      exact State.setAcqPhase_phase_queue (State.gbb_of_outside hmoved) _
    · exact ⟨s, exec_acqSnapshotEnd_of_not hnot,
        fun hphase hqueue hruns => absurd hnot (by simp [hphase, hqueue, hruns]), fun _ => rfl⟩
  · rcases s.acqStands_or_not .processing with ⟨hphase, ⟨q, l, hqueue⟩, hruns⟩ | hnot
    · refine ⟨_, exec_acqProcessingEnd_of_processing p hphase hqueue hruns, fun _ _ q' l' hqueue' hfull => ?_,
        by simp [hphase, hqueue, hruns]⟩
      obtain ⟨rfl, rfl⟩ := List.cons.inj (hqueue.symm.trans hqueue')
      rw [State.acqWrite_acqResult_of_noRoom hfull]
      exact ⟨rfl, hqueue⟩
    · exact ⟨s, exec_acqProcessingEnd_of_not p hnot,
        fun hphase hruns q l hqueue => absurd hnot (by simp [hphase, hqueue, hruns]), fun _ => rfl⟩
  · rw [State.acqWrite_of_push hphase hqueue hpush, State.acqEnter_phase_of_idle rfl,
      ← State.blk_of_outside (State.enginePush_frame hpush [.cores, .ques] (by decide))]
    obtain ⟨hleft, -⟩ := (u.acqDone l).acqEnter_queue_last
    exact ⟨hleft, State.ques_of_outside (State.acqEnter_frame _ [.gbb] (by decide)), rfl⟩

end Sys2Proof.Machine
end

section
/-!
PROOFS. The self-survey and the station position of R92 to R95 and R97.
-/
namespace Sys2Proof.Machine

/-! ### Requests by role, and the parts that a record leaves alone -/

theorem State.asRole_of_rank {s : State} {role min : Role} (f : State → State) (hrole : min.rank ≤ role.rank) :
    s.asRole role min f = f s :=
  if_pos hrole

@[simp] theorem State.event_corr (s : State) (e : Event) (n : List Nat) : (s.event e n).corr = s.corr :=
  State.corr_of_outside (s.event_frame e n [.evr, .out] (by decide))

@[simp] theorem State.event_dict (s : State) (e : Event) (n : List Nat) : (s.event e n).dict = s.dict :=
  State.dict_of_outside (s.event_frame e n [.evr, .out] (by decide))

@[simp] theorem State.event_ans (s : State) (e : Event) (n : List Nat) : (s.event e n).ans = s.ans :=
  State.ans_of_outside (s.event_frame e n [.evr, .out] (by decide))

/-! ### Stored values (R504) -/

/-- The value that waits for the next start-up stands before the one in force. -/
theorem State.odHeld_eq_getD (s : State) (key : Nat) (dflt : List Byte) :
    s.odHeld key dflt = (tabGet s.dict.later key).getD (tabGetD dflt s.dict.od key) := by
  rw [odHeld]
  cases tabGet s.dict.later key <;> rfl

theorem State.odHeld_of_dict {s t : State} (h : t.dict = s.dict) (key : Nat) (dflt : List Byte) :
    t.odHeld key dflt = s.odHeld key dflt := by
  rw [odHeld_eq_getD, odHeld_eq_getD, h]

@[simp] theorem State.odStore_corr (s : State) (key : Nat) (v dflt : List Byte) : (s.odStore key v dflt).corr = s.corr :=
  State.corr_of_outside (s.odStore_frame key v dflt [.dict] (by decide))

/-- The dictionary after a store that changes a value: the value in force, and none that waits. -/
theorem State.odStore_tables_of_changed {s : State} {key : Nat} {v dflt : List Byte} (hnew : s.odHeld key dflt ≠ v) :
    (s.odStore key v dflt).dict.od = tabSet dflt s.dict.od key v ∧
      (s.odStore key v dflt).dict.later = tabDel s.dict.later key := by
  rw [odStore, if_neg hnew]
  exact ⟨rfl, rfl⟩

/-- A stored value is held, and the other objects of the same default hold what they held. -/
@[simp] theorem State.odHeld_odStore (s : State) (key k : Nat) (v dflt : List Byte) :
    (s.odStore key v dflt).odHeld k dflt = if k = key then v else s.odHeld k dflt := by
  by_cases hheld : s.odHeld key dflt = v
  · rw [odStore, if_pos hheld]
    split
    · next hk => rw [hk, hheld]
    · rfl
  · obtain ⟨hod, hlater⟩ := odStore_tables_of_changed hheld
    rw [odHeld_eq_getD, hod, hlater, tabGet_tabDel, tabGetD_tabSet]
    split
    · rfl
    · exact (s.odHeld_eq_getD k dflt).symm

/-! ### The self-survey (R93 to R95) -/

theorem exec_selfSurveyStart (s : State) {role : Role} (hrole : Role.engineer.rank ≤ role.rank) :
    exec (.selfSurveyStart role) s = .next s.selfSurveyStart :=
  congrArg Host.Outcome.next (State.asRole_of_rank _ hrole)

theorem State.selfSurveyStart_of_ready {s : State} (hlistening : s.dev.dstate = .listening)
    (hon : s.blk.gbb.st = .on) :
    s.selfSurveyStart = (s.setCorr fun c => { c with survey := Survey.begun }).answer .ok :=
  if_pos (by simp [listening, hlistening, hon])

theorem State.selfSurveyStart_of_not {s : State} (hnot : ¬ (s.dev.dstate = .listening ∧ s.blk.gbb.st = .on)) :
    s.selfSurveyStart = s.deny .state :=
  if_neg (by simpa [listening] using hnot)

/-- R94 is silent on an abort in another state, or with no survey running: the model answers it OK. -/
theorem exec_selfSurveyAbort (s : State) {role : Role} (hrole : Role.engineer.rank ≤ role.rank) :
    exec (.selfSurveyAbort role) s = .next (s.selfSurveyAbort.answer .ok) :=
  congrArg Host.Outcome.next (State.asRole_of_rank _ hrole)

theorem Survey.aborted_of_running {v : Survey} (hruns : v.st = .running) : v.aborted.st = .aborted := by
  rw [aborted, if_pos hruns]

theorem Survey.aborted_of_not {v : Survey} (hnot : v.st ≠ .running) : v.aborted = v :=
  if_neg hnot

theorem exec_selfSurveyAdopt (s : State) {role : Role} (hrole : Role.engineer.rank ≤ role.rank) :
    exec (.selfSurveyAdopt role) s = .next s.selfSurveyAdopt :=
  congrArg Host.Outcome.next (State.asRole_of_rank _ hrole)

/-- The survey's result stored as the station coordinates. -/
def State.storeSurveyed (s : State) : State :=
  ((s.odStore (odKey 0xA810 1) (leBytesInt 8 s.corr.survey.rx) (leBytes 8 0)).odStore (odKey 0xA810 2)
    (leBytesInt 8 s.corr.survey.ry) (leBytes 8 0)).odStore (odKey 0xA810 3) (leBytesInt 8 s.corr.survey.rz) (leBytes 8 0)

theorem State.storeSurveyed_odHeld (s : State) :
    s.storeSurveyed.odHeld (odKey 0xA810 1) (leBytes 8 0) = leBytesInt 8 s.corr.survey.rx ∧
      s.storeSurveyed.odHeld (odKey 0xA810 2) (leBytes 8 0) = leBytesInt 8 s.corr.survey.ry ∧
      s.storeSurveyed.odHeld (odKey 0xA810 3) (leBytes 8 0) = leBytesInt 8 s.corr.survey.rz := by
  simp [storeSurveyed, odKey]

/-- A change of the station coordinates: the source that it gives, no mismatch, and the record of it. -/
def State.positionChanged (s : State) (source : BitVec 8) (sub : Nat) : State :=
  (s.setCorr fun c => { c with source := source, mismatch := false }).event .stationPosition [sub]

theorem State.positionChanged_corr (s : State) (source : BitVec 8) (sub : Nat) :
    (s.positionChanged source sub).corr = { s.corr with source := source, mismatch := false } := by
  rw [positionChanged, event_corr, setCorr_corr]

theorem State.positionChanged_dict (s : State) (source : BitVec 8) (sub : Nat) :
    (s.positionChanged source sub).dict = s.dict := by
  rw [positionChanged, event_dict, setCorr_dict]

theorem State.positionChanged_ans (s : State) (source : BitVec 8) (sub : Nat) :
    (s.positionChanged source sub).ans = s.ans := by
  rw [positionChanged, event_ans, setCorr_ans]

theorem State.selfSurveyAdopt_of_complete {s : State} (hlistening : s.dev.dstate = .listening)
    (hcomplete : s.corr.survey.st = .complete) :
    s.selfSurveyAdopt = (s.storeSurveyed.positionChanged 2 0).answer .ok :=
  if_pos (by simp [listening, hlistening, hcomplete])

theorem State.selfSurveyAdopt_of_not {s : State}
    (hnot : ¬ (s.dev.dstate = .listening ∧ s.corr.survey.st = .complete)) : s.selfSurveyAdopt = s.deny .state :=
  if_neg (by simpa [listening] using hnot)

/-! ### Writes of the station's objects (R92, R97) -/

theorem exec_stationPositionWrite (s : State) {role : Role} (sub : Fin 8) (v : List Byte)
    (hrole : Role.engineer.rank ≤ role.rank) :
    exec (.stationPositionWrite role sub v) s = .next (s.stationWrite sub.val v) :=
  congrArg Host.Outcome.next (State.asRole_of_rank _ hrole)

/-- R92: the station's objects are written in *Listening* only. -/
theorem State.stationWrite_of_notListening {s : State} {sub : Nat} (v : List Byte) (hfirst : 1 ≤ sub) (hlast : sub < 8)
    (hstate : s.dev.dstate ≠ .listening) : s.stationWrite sub v = s.deny .state := by
  have hsub : ¬ (sub = 0 ∨ 7 < sub) := by omega
  simp [stationWrite, listening, hstate, hsub]

/-- A coordinate stored and answered. -/
def State.storeCoordinate (s : State) (sub : Nat) (v : List Byte) : State :=
  (s.odStore (odKey 0xA810 sub) v (leBytes 8 0)).answer .ok

/-- R92: a coordinate written in *Listening* is stored, and one that changes makes the source 1. -/
theorem State.stationWrite_of_coordinate {s : State} {sub : Nat} {v : List Byte} (hfirst : 1 ≤ sub) (hlast : sub ≤ 3)
    (hlistening : s.dev.dstate = .listening) (hlength : v.length = 8) :
    s.stationWrite sub v =
      if s.odHeld (odKey 0xA810 sub) (leBytes 8 0) ≠ v then (s.storeCoordinate sub v).positionChanged 1 sub
      else s.storeCoordinate sub v := by
  obtain rfl | rfl | rfl : sub = 1 ∨ sub = 2 ∨ sub = 3 := by omega
  all_goals simp [stationWrite, listening, hlistening, stationLength, hlength, storeCoordinate, positionChanged]

theorem State.storeCoordinate_odHeld (s : State) (sub : Nat) (v : List Byte) :
    (s.storeCoordinate sub v).odHeld (odKey 0xA810 sub) (leBytes 8 0) = v := by
  rw [storeCoordinate, State.odHeld_of_dict (State.answer_dict ..), odHeld_odStore, if_pos rfl]

theorem State.storeCoordinate_corr (s : State) (sub : Nat) (v : List Byte) : (s.storeCoordinate sub v).corr = s.corr := by
  rw [storeCoordinate, answer_corr, odStore_corr]

theorem exec_mismatchAcknowledge (s : State) {role : Role} (hrole : Role.engineer.rank ≤ role.rank) :
    exec (.mismatchAcknowledge role) s = .next s.mismatchAck :=
  congrArg Host.Outcome.next (State.asRole_of_rank _ hrole)

/-! ### The statement -/

/-- Settles O20: the three writes of the survey command and the two of the station position, each by the unit's state. -/
theorem stationPosition : Obligations.StationPosition := by
  unfold Obligations.StationPosition
  refine ⟨fun s role hrole => ⟨⟨_, exec_selfSurveyStart s hrole, ?_⟩,
    ⟨_, exec_selfSurveyAbort s hrole, fun hruns => ?_, fun hnot => ?_, rfl, ?_⟩,
    ⟨_, exec_selfSurveyAdopt s hrole, ?_⟩⟩, fun s role hrole => ⟨fun sub v => ?_,
    ⟨_, exec_mismatchAcknowledge s hrole, rfl, rfl, s.mismatchAck_frame _ (by decide)⟩⟩⟩
  · split
    · next hready =>
      rw [State.selfSurveyStart_of_ready hready.1 hready.2]
      exact ⟨rfl, rfl, rfl, by simp +decide⟩
    · next hnot => exact State.selfSurveyStart_of_not hnot
  · exact Survey.aborted_of_running hruns
  · simp [State.selfSurveyAbort, Survey.aborted_of_not hnot]
  · simp +decide
  · split
    · next hadopts =>
      rw [State.selfSurveyAdopt_of_complete hadopts.1 hadopts.2]
      simp only [State.answer_corr, State.answer_ans, State.positionChanged_corr, true_and,
        State.odHeld_of_dict ((State.answer_dict ..).trans (State.positionChanged_dict ..))]
      exact s.storeSurveyed_odHeld
    · next hnot => exact State.selfSurveyAdopt_of_not hnot
  · refine ⟨_, exec_stationPositionWrite s sub v hrole,
      fun hfirst => s.stationWrite_of_notListening v hfirst sub.isLt, fun hfirst hlast hlistening hlength => ?_⟩
    rw [State.stationWrite_of_coordinate hfirst hlast hlistening hlength]
    split
    · next hnew =>
      simp only [State.positionChanged_ans, State.positionChanged_corr, true_and,
        State.odHeld_of_dict (State.positionChanged_dict ..), State.storeCoordinate_odHeld]
      exact ⟨rfl, fun _ => trivial, fun hsame => absurd hsame hnew⟩
    · next hsame =>
      exact ⟨rfl, s.storeCoordinate_odHeld sub v, fun hnew => absurd hnew hsame,
        fun _ => s.storeCoordinate_corr sub v⟩

end Sys2Proof.Machine
end

section
/-!
PROOFS. The verdicts on corrections of R122, R124, R133 and R142, and the Ethernet output of R115 and R116.
-/
namespace Sys2Proof.Machine

/-! ### The integrity-lost condition (R142) -/

@[simp] theorem State.event_tsl (s : State) (e : Event) (n : List Nat) : (s.event e n).tsl = s.tsl :=
  State.tsl_of_outside (s.event_frame e n [.evr, .out] (by decide))

@[simp] theorem State.emcyAllOn_tsl (s : State) (c : EmcyCond) (e : Event) : (s.emcyAllOn c e).tsl = s.tsl :=
  State.tsl_of_outside (s.emcyAllOn_frame c e [.dict, .out] (by decide))

@[simp] theorem State.integrityEnter_corr (s : State) (cause : Nat) (more : List Nat) :
    (s.integrityEnter cause more).corr = s.corr :=
  State.corr_of_outside (s.integrityEnter_frame cause more [.tsl, .dict, .evr, .out] (by decide))

/-- R142, R145: the condition holds after its entry, the run is broken, and only a new entry is counted. -/
theorem State.integrityEnter_tsl (s : State) (cause : Nat) (more : List Nat) :
    (s.integrityEnter cause more).tsl =
      { s.tsl with run := 0, lost := true
                   entries := if s.tsl.lost then s.tsl.entries else bump s.tsl.entries } := by
  cases hlost : s.tsl.lost <;> simp [integrityEnter, hlost]

/-! ### A withheld epoch (R122) -/

/-- The cause recorded for a withheld epoch, by the precedence of R122. -/
def State.recordedCause (s : State) (cause : WithholdCause) : WithholdCause :=
  if !s.posInForce then .noPos else if s.corr.mismatch then .pos else cause

/-- The counts of R126 after a withheld epoch of a recorded cause. -/
def Corrections.countWithheld (c : Corrections) (recorded : WithholdCause) : Corrections :=
  { c with
    withheld := bump c.withheld
    nNoPos := if recorded = .noPos then bump c.nNoPos else c.nNoPos
    nPos := if recorded = .pos then bump c.nPos else c.nPos
    nLate := if recorded = .late then bump c.nLate else c.nLate
    nTeasel := if recorded = .teasel then bump c.nTeasel else c.nTeasel }

/-- A withheld epoch is counted under its recorded cause, and waits no more. -/
theorem State.withhold_corr (s : State) (l : Latched) (cause : WithholdCause) (more : List Nat) :
    (s.withhold l cause more).corr = { s.corr.countWithheld (s.recordedCause cause) with epoch := none } := by
  change { (State.integrityEnter _ _ _).corr with epoch := none } = _
  rw [integrityEnter_corr]
  rfl

/-- R122, R142: a withheld epoch is integrity lost, and the last verdict is on it. -/
theorem State.withhold_tsl (s : State) (l : Latched) (cause : WithholdCause) (more : List Nat) :
    (s.withhold l cause more).tsl.lost = true ∧ (s.withhold l cause more).tsl.verdictSeq = l.seq ∧
      (s.withhold l cause more).tsl.verdict =
        some (if s.recordedCause cause = .teasel then .withheldTeasel else .withheldOther) := by
  refine ⟨?_, rfl, rfl⟩
  change (State.integrityEnter _ _ _).tsl.lost = true
  rw [integrityEnter_tsl]

/-! ### What the conditions of a verdict depend on -/

theorem State.verified_of_dict {s t : State} (hdict : t.dict = s.dict) : t.verified = s.verified := by
  rw [verified, verified, od, od, hdict]

theorem State.posInForce_of_dict {s t : State} (hdict : t.dict = s.dict) (hsource : t.corr.source = s.corr.source) :
    t.posInForce = s.posInForce := by
  have harp : t.arp = s.arp := by simp only [arp, odInt, hdict]
  rw [posInForce, posInForce, posSource, posSource, harp, hsource]

theorem State.reachNs_outside (s : State) (ns : Nat) : (s.reachNs ns).outside [.tim, .evr] = s.outside [.tim, .evr] :=
  s.reachNs_frame ns _ (by decide)

theorem State.recordedCause_of_noPos {s : State} (cause : WithholdCause) (hnone : s.posInForce = false) :
    s.recordedCause cause = .noPos := by
  simp [recordedCause, hnone]

theorem State.recordedCause_of_agrees {s : State} (cause : WithholdCause) (hpos : s.posInForce = true)
    (hagrees : s.corr.mismatch = false) : s.recordedCause cause = cause := by
  simp [recordedCause, hpos, hagrees]

/-! ### A released epoch waits no more (R122) -/

theorem State.releaseEth_epoch (s : State) (e : EpochInput) (l : Latched) (cells : List LatchRec) :
    (s.releaseEth e l cells).corr.epoch = s.corr.epoch := by
  simp only [releaseEth]
  (repeat' split) <;> rfl

theorem State.releaseRadio_epoch (s : State) (e : EpochInput) (l : Latched) (cells : List LatchRec) (excl : Nat) :
    (s.releaseRadio e l cells excl).corr.epoch = s.corr.epoch := by
  simp only [releaseRadio]
  split <;> rfl

theorem State.release_epoch (s : State) (e : EpochInput) (l : Latched) (out : List SatId) (excl : Nat) :
    (s.release e l out excl).corr.epoch = s.corr.epoch := by
  simp only [release]
  split
  · rfl
  · split <;> simp [releaseRadio_epoch, releaseEth_epoch]

theorem State.withhold_epoch (s : State) (l : Latched) (cause : WithholdCause) (more : List Nat) :
    (s.withhold l cause more).corr.epoch = none := by
  rw [withhold_corr]

theorem State.verdictDone_epoch (s : State) (l : Latched) (v : Verdict) : (s.verdictDone l v).corr.epoch = none := rfl

/-- R122: whichever way the tests end, the epoch waits no more. -/
theorem State.verdictVerified_epoch (s : State) (e : EpochInput) (l : Latched) :
    (s.verdictVerified e l).corr.epoch = none := by
  simp only [verdictVerified]
  repeat' split
  all_goals simp [withhold_epoch, release_epoch, verdictDone_epoch]

theorem State.verdictUnverified_epoch (s : State) (e : EpochInput) (l : Latched) :
    (s.verdictUnverified e l).corr.epoch = none := by
  rw [verdictUnverified]
  split
  · exact withhold_epoch ..
  · rw [release_epoch, verdictDone_epoch]

/-! ### The verdict on an epoch (R133, R149) -/

/-- A raw TCP client after what it has drained since the last epoch (log 33). -/
def clientAfter (e : EpochInput) (k : TcpClient) : TcpClient :=
  match (e.drained.find? fun d => d.1 = k.id) with
  | some d => { k with queued := k.queued - d.2 }
  | none => k

/-- The unit at the instant of the verdict, its clients drained. -/
def State.atVerdict (s : State) (e : EpochInput) (l : Latched) : State :=
  (s.reachNs (l.tb5 + e.us * 1000)).setCorr fun c => { c with tcp := c.tcp.map (clientAfter e) }

theorem State.atVerdict_dict (s : State) (e : EpochInput) (l : Latched) : (s.atVerdict e l).dict = s.dict := by
  rw [atVerdict, setCorr_dict, State.dict_of_outside (s.reachNs_outside _)]

theorem State.atVerdict_corr (s : State) (e : EpochInput) (l : Latched) :
    (s.atVerdict e l).corr = { s.corr with tcp := s.corr.tcp.map (clientAfter e) } := by
  rw [atVerdict, setCorr_corr, State.corr_of_outside (s.reachNs_outside _)]

/-- The state after a verdict on an epoch of the correction grid. -/
def State.verdictTaken (s : State) (e : EpochInput) (l : Latched) : State :=
  if (s.atVerdict e l).verified then (s.atVerdict e l).verdictVerified e l else (s.atVerdict e l).verdictUnverified e l

theorem State.verdictTaken_epoch (s : State) (e : EpochInput) (l : Latched) : (s.verdictTaken e l).corr.epoch = none := by
  rw [verdictTaken]
  split
  · exact verdictVerified_epoch ..
  · exact verdictUnverified_epoch ..

/-- R122, R133: verified mode with no position in force withholds the epoch under NOPOS, which is integrity lost. -/
theorem State.verdictTaken_noPos {s : State} (e : EpochInput) (l : Latched) (hverified : s.verified = true)
    (hnone : s.posInForce = false) :
    (s.verdictTaken e l).tsl.lost = true ∧ (s.verdictTaken e l).corr.withheld = s.corr.withheld + 1 ∧
      (s.verdictTaken e l).corr.nNoPos = s.corr.nNoPos + 1 ∧ (s.verdictTaken e l).tsl.verdictSeq = l.seq ∧
      (s.verdictTaken e l).corr.released = s.corr.released := by
  have hmode := (State.verified_of_dict (s.atVerdict_dict e l)).trans hverified
  have hpos := (State.posInForce_of_dict (s.atVerdict_dict e l) (by rw [atVerdict_corr])).trans hnone
  have htaken : s.verdictTaken e l = (s.atVerdict e l).withhold l .noPos [] := by
    rw [verdictTaken, if_pos hmode, verdictVerified, if_pos (by simp [hpos])]
  obtain ⟨hlost, hseq, -⟩ := (s.atVerdict e l).withhold_tsl l .noPos []
  rw [htaken, withhold_corr, recordedCause_of_noPos _ hpos, atVerdict_corr]
  exact ⟨hlost, rfl, rfl, hseq, rfl⟩

theorem exec_teaselVerdict_of_noEpoch {s : State} (e : EpochInput) (hnone : s.corr.epoch = none) :
    exec (.teaselVerdict e) s = .next s := by
  change execTeaselVerdict e s = _
  rw [execTeaselVerdict, hnone]

/-- R133: an epoch off the correction grid, or that Teasel does not verify, is dropped without a verdict. -/
theorem exec_teaselVerdict_of_epoch {s : State} (e : EpochInput) {l : Latched} (hepoch : s.corr.epoch = some l) :
    exec (.teaselVerdict e) s =
      .next (if l.corr = true ∧ s.verifies = true then s.verdictTaken e l
        else s.setCorr fun c => { c with epoch := none }) := by
  change execTeaselVerdict e s = _
  rw [execTeaselVerdict, hepoch, apply_ite Host.Outcome.next]
  exact if_congr (by simp) rfl rfl

/-! ### The deadline and a silence (R124, R142) -/

/-- R124: the epoch withheld with cause LATE at its deadline. -/
def State.lateVerdict (s : State) (l : Latched) : State := (s.reachNs (l.tb5 + 12000000)).withhold l .late []

/-- R124, R142: an epoch that meets its deadline is WITHHELD, with integrity lost, and is not released. -/
theorem State.lateVerdict_withheld (s : State) (l : Latched) :
    (s.lateVerdict l).corr.epoch = none ∧ (s.lateVerdict l).tsl.lost = true ∧
      (s.lateVerdict l).corr.withheld = s.corr.withheld + 1 ∧ (s.lateVerdict l).corr.released = s.corr.released ∧
      (s.lateVerdict l).tsl.verdictSeq = l.seq := by
  obtain ⟨hlost, hseq, -⟩ := (s.reachNs (l.tb5 + 12000000)).withhold_tsl l .late []
  rw [lateVerdict, withhold_corr, State.corr_of_outside (s.reachNs_outside _)]
  exact ⟨rfl, hlost, rfl, rfl, hseq⟩

/-- R122: LATE is the cause while a position is in force and agrees. -/
theorem State.lateVerdict_late {s : State} (l : Latched) (hpos : s.posInForce = true)
    (hagrees : s.corr.mismatch = false) :
    (s.lateVerdict l).corr.nLate = s.corr.nLate + 1 ∧ (s.lateVerdict l).tsl.verdict = some .withheldOther := by
  have hmoved := s.reachNs_outside (l.tb5 + 12000000)
  have hcorr := State.corr_of_outside hmoved
  have hpos' := (State.posInForce_of_dict (State.dict_of_outside hmoved) (congrArg (·.source) hcorr)).trans hpos
  have hlate := State.recordedCause_of_agrees .late hpos' ((congrArg (·.mismatch) hcorr).trans hagrees)
  obtain ⟨-, -, hverdict⟩ := (s.reachNs (l.tb5 + 12000000)).withhold_tsl l .late []
  rw [lateVerdict, withhold_corr, hverdict, hlate, hcorr]
  exact ⟨rfl, rfl⟩

/-- Log 3: without an epoch that waits, the deadline has no effect. -/
theorem exec_verdictDeadline_of_noEpoch {s : State} (hnone : s.corr.epoch = none) :
    exec .verdictDeadline s = .next s := by
  change execVerdictDeadline s = _
  rw [execVerdictDeadline, hnone]

theorem exec_verdictDeadline_of_epoch {s : State} {l : Latched} (hepoch : s.corr.epoch = some l) :
    exec .verdictDeadline s = .next (if l.corr = true ∧ s.verifies = true then s.lateVerdict l else s) := by
  change execVerdictDeadline s = _
  rw [execVerdictDeadline, hepoch, apply_ite Host.Outcome.next]
  exact if_congr (by simp) rfl rfl

/-- R142: what a STALE verdict leaves of Teasel; an interval begins anew at its instant. -/
theorem State.staleAt_tsl (s : State) (ns : Nat) :
    (s.staleAt ns).tsl.verdict = some .stale ∧ (s.staleAt ns).tsl.lost = true ∧
      (s.staleAt ns).tsl.stales = s.tsl.stales + 1 ∧ (s.staleAt ns).tsl.staleFrom = some ns := by
  rw [staleAt, event_tsl, integrityEnter_tsl]
  exact ⟨rfl, rfl, rfl, rfl⟩

/-- Without an interval that runs, STALE_VERDICT begins or ends one only. -/
theorem exec_staleVerdict_of_noInterval {s : State} (hnone : s.tsl.staleFrom = none) :
    exec .staleVerdict s = .next s.teaselResume := by
  change execStaleVerdict s = _
  rw [execStaleVerdict, hnone]

/-- R142, log 34: a silence is STALE two grid periods on, in the verified mode only. -/
theorem exec_staleVerdict_of_interval {s : State} {f : Nat} (hfrom : s.tsl.staleFrom = some f) :
    exec .staleVerdict s = .next (if s.verified = true ∧ s.verifies = true then
      (s.reachTb0 (f + 2000000000 / gridRate s.gbb.rateNow)).staleAt (f + 2000000000 / gridRate s.gbb.rateNow)
      else s) := by
  change execStaleVerdict s = _
  rw [execStaleVerdict, hfrom, apply_ite Host.Outcome.next]
  exact if_congr (by simp) rfl rfl

/-! ### The NTRIP session (R115) -/

theorem exec_ntripResponse_of_notConnecting {s : State} (code : Option Nat) (hnot : s.corr.ntrip ≠ .connecting) :
    exec (.ntripResponse code) s = .next s :=
  if_pos hnot

/-- The session refused by the caster, with the record of its code. -/
def State.ntripRefused (s : State) (code : Nat) : State :=
  (s.setCorr fun c => { c with ntrip := .refused }).event .ntripRefused [code]

theorem State.ntripRefused_ntrip (s : State) (code : Nat) : (s.ntripRefused code).corr.ntrip = .refused := by
  rw [ntripRefused, event_corr, setCorr_corr]

/-- R115: what the response does to a session that connects. -/
theorem exec_ntripResponse_of_connecting {s : State} (code : Option Nat) (hconnecting : s.corr.ntrip = .connecting) :
    exec (.ntripResponse code) s =
      .next (if code = some 200 then s.setCorr fun c => { c with ntrip := .streaming, ntripWait := 1 }
        else if code = some 401 ∨ code = some 403 then s.ntripRefused (code.getD 0) else s.ntripFail) := by
  change execNtripResponse code s = _
  unfold execNtripResponse
  rw [if_neg (not_not_intro hconnecting)]
  split
  · rfl
  · rfl
  · rfl
  · next hok hunauthorized hforbidden => rw [if_neg hok, if_neg (not_or.mpr ⟨hunauthorized, hforbidden⟩)]

theorem exec_ntripConnectionLost (s : State) :
    exec .ntripConnectionLost s =
      .next (if s.corr.ntrip = .connecting ∨ s.corr.ntrip = .streaming then s.ntripFail else s) := by
  rw [apply_ite Host.Outcome.next]
  exact if_congr (by simp) rfl rfl

/-- The session connecting again at the end of its wait. -/
def State.ntripRetry (s : State) : State :=
  ((s.reachMs s.corr.ntripAt).setCorr fun c => { c with ntrip := .connecting }).emit .ntripConnect

theorem State.ntripRetry_corr (s : State) : s.ntripRetry.corr = { s.corr with ntrip := .connecting } := by
  rw [ntripRetry, emit_corr, setCorr_corr, State.corr_of_outside (s.reachMs_frame _ [.tim, .evr] (by decide))]

theorem exec_ntripBackoffExpiry (s : State) :
    exec .ntripBackoffExpiry s = .next (if s.corr.ntrip = .backoff then s.ntripRetry else s) :=
  (apply_ite Host.Outcome.next ..).symm

/-! ### The raw TCP server (R112, R116) -/

/-- A client served. -/
def State.tcpServe (s : State) (id : Nat) : State :=
  (s.setCorr fun c => { c with tcp := c.tcp ++ [⟨id, 0⟩] }).answer .ok

theorem exec_tcpClientConnect (s : State) (id : Nat) :
    exec (.tcpClientConnect id) s =
      .next (if s.od 0x3030 9 1 ≠ 1 ∨ s.ethUp = false ∨ s.transmits = false then s.deny .state
        else if 4 ≤ s.corr.tcp.length then s.answer .full else s.tcpServe id) := by
  rw [apply_ite Host.Outcome.next, apply_ite Host.Outcome.next]
  exact if_congr (by simp [or_assoc]) rfl rfl

/-! ### The statement -/

/-- Settles O21: the verdict and its deadline by the epoch that waits, the silence by its interval, the NTRIP session by
the response, and a TCP client by the conditions of the server. -/
theorem correctionSources : Obligations.CorrectionSources := by
  unfold Obligations.CorrectionSources
  refine ⟨fun s => ⟨fun e => ?_, ?_, ?_⟩, fun s => ⟨fun code => ?_, ⟨_, exec_ntripConnectionLost s, ?_⟩,
    ⟨_, exec_ntripBackoffExpiry s, ?_⟩,
    fun id => ⟨_, exec_tcpClientConnect s id, ?_, fun hrefused => if_pos hrefused⟩⟩⟩
  · cases hepoch : s.corr.epoch with
    | none => exact ⟨s, exec_teaselVerdict_of_noEpoch e hepoch, by simp [hepoch]⟩
    | some l =>
      refine ⟨_, exec_teaselVerdict_of_epoch e hepoch, ?_, by simp, ?_, ?_⟩
      · split
        · exact s.verdictTaken_epoch e l
        · rfl
      · rintro _ ⟨rfl⟩ hgrid hverifies hverified hnone
        rw [if_pos ⟨hgrid, hverifies⟩]
        exact State.verdictTaken_noPos e l hverified hnone
      · rintro _ ⟨rfl⟩ hoff
        rw [if_neg (by simp [hoff])]
        exact ⟨rfl, rfl⟩
  · cases hepoch : s.corr.epoch with
    | none => exact ⟨s, exec_verdictDeadline_of_noEpoch hepoch, by simp⟩
    | some l =>
      refine ⟨_, exec_verdictDeadline_of_epoch hepoch, fun hidle => if_neg ?_, ?_⟩
      · rintro ⟨-, hverifies⟩
        simp [hverifies] at hidle
      · rintro _ ⟨rfl⟩ hgrid hverifies
        rw [if_pos ⟨hgrid, hverifies⟩]
        obtain ⟨hepoch', hlost, hcount, hreleased, hseq⟩ := s.lateVerdict_withheld l
        exact ⟨hepoch', hlost, hcount, hreleased, hseq, State.lateVerdict_late l⟩
  · cases hfrom : s.tsl.staleFrom with
    | none => exact ⟨_, exec_staleVerdict_of_noInterval hfrom, by simp⟩
    | some f =>
      refine ⟨_, exec_staleVerdict_of_interval hfrom, ?_, ?_⟩
      · rintro _ ⟨rfl⟩ hverified hverifies
        rw [if_pos ⟨hverified, hverifies⟩, ← State.tsl_of_outside (s.reachTb0_frame _ [.tim, .evr] (by decide))]
        exact State.staleAt_tsl ..
      · rintro _ - hstops
        exact if_neg (by simp [hstops])
  · by_cases hconnecting : s.corr.ntrip = .connecting
    · refine ⟨_, exec_ntripResponse_of_connecting code hconnecting, absurd hconnecting, fun _ =>
        ⟨fun hok => ?_, fun hrefused => ?_, fun hok hunauthorized hforbidden => ?_⟩⟩
      · rw [if_pos hok]
        exact ⟨rfl, rfl⟩
      · rw [if_neg (by rintro rfl; simp at hrefused), if_pos hrefused]
        exact s.ntripRefused_ntrip _
      · rw [if_neg hok, if_neg (not_or.mpr ⟨hunauthorized, hforbidden⟩)]
        exact ⟨rfl, rfl, rfl⟩
    · exact ⟨s, exec_ntripResponse_of_notConnecting code hconnecting, fun _ => rfl, (absurd · hconnecting)⟩
  · split
    · exact ⟨rfl, rfl, s.ntripFail_frame _ (by decide)⟩
    · rfl
  · split
    · rw [s.ntripRetry_corr]
      exact ⟨rfl, rfl⟩
    · rfl
  · intro hon hup htransmits
    rw [if_neg (by simp [hon, hup, htransmits])]
    refine ⟨fun hroom => ?_, fun hfull => if_pos hfull⟩
    rw [if_neg (Nat.not_le.mpr hroom)]
    exact ⟨rfl, rfl⟩

end Sys2Proof.Machine
end

section
/-!
PROOFS. The baseline, its survey and the Teasel mode of R129 to R131, R148 and R150.
-/
namespace Sys2Proof.Machine

/-! ### What the entry of the integrity-lost condition leaves of the stored values (R513) -/

theorem State.emcySend_odHeld (s : State) (n : Fin 2) (data : List Byte) (key : Nat) (dflt : List Byte) :
    (s.emcySend n data).odHeld key dflt = s.odHeld key dflt := by
  simp only [emcySend]
  (repeat' split) <;> rfl

theorem State.emcyOn_odHeld (s : State) (n : Fin 2) (c : EmcyCond) (e : Event) (key : Nat) (dflt : List Byte) :
    (s.emcyOn n c e).odHeld key dflt = s.odHeld key dflt := by
  rw [emcyOn]
  split
  · rfl
  · exact State.emcySend_odHeld ..

theorem State.emcyAllOn_odHeld (s : State) (c : EmcyCond) (e : Event) (key : Nat) (dflt : List Byte) :
    (s.emcyAllOn c e).odHeld key dflt = s.odHeld key dflt := by
  rw [emcyAllOn, emcyOn_odHeld, emcyOn_odHeld]

theorem State.integrityEnter_odHeld (s : State) (cause : Nat) (more : List Nat) (key : Nat) (dflt : List Byte) :
    (s.integrityEnter cause more).odHeld key dflt = s.odHeld key dflt := by
  rw [integrityEnter]
  split
  · rfl
  · rw [emcyAllOn_odHeld, State.odHeld_of_dict (State.event_dict ..)]
    rfl

/-! ### The start of Teasel (R134, R142) -/

theorem State.teaselStart_odHeld (s : State) (key : Nat) (dflt : List Byte) :
    s.teaselStart.odHeld key dflt = s.odHeld key dflt :=
  State.integrityEnter_odHeld ..

/-- Teasel that starts holds no ambiguity, its initial fix is open, and integrity is lost. -/
theorem State.teaselStart_tsl (s : State) :
    s.teaselStart.tsl =
      { s.tsl with amb := [], fixDone := false, running := true, staleFrom := some s.tb0ns, run := 0, lost := true
                   entries := if s.tsl.lost then s.tsl.entries else bump s.tsl.entries } := by
  rw [teaselStart, integrityEnter_tsl]
  rfl

/-- R131: a new baseline drops the ambiguities, sets integrity lost, and is known to be set. -/
theorem State.baselineTaken_tsl (s : State) :
    s.baselineTaken.tsl.amb = [] ∧ s.baselineTaken.tsl.lost = true ∧ s.baselineTaken.tsl.baseSet = true := by
  rw [baselineTaken, event_tsl, teaselStart_tsl]
  exact ⟨rfl, rfl, rfl⟩

/-! ### Direct writes of the baseline (R129, R131) -/

theorem exec_baselineWrite (s : State) {role : Role} (i : Fin 3) (v : Int) (hrole : Role.engineer.rank ≤ role.rank) :
    exec (.baselineWrite role i v) s = .next (s.baselineWrite i v) :=
  congrArg Host.Outcome.next (State.asRole_of_rank _ hrole)

theorem State.baselineWrite_of_notListening {s : State} (i : Fin 3) {v : Int} (hmin : -2147483648 ≤ v)
    (hmax : v ≤ 2147483647) (hstate : s.dev.dstate ≠ .listening) : s.baselineWrite i v = s.deny .state := by
  have hrange : ¬ (v < -2147483648 ∨ 2147483647 < v) := by omega
  simp [baselineWrite, listening, hstate, hrange]

/-- The baseline with one component replaced. -/
def State.baselineWith (s : State) (i : Fin 3) (v : Int) : Int × Int × Int :=
  match i with
  | 0 => (v, s.baseline.2.1, s.baseline.2.2)
  | 1 => (s.baseline.1, v, s.baseline.2.2)
  | 2 => (s.baseline.1, s.baseline.2.1, v)

/-- A component that may be written: of 32 bits, and of a baseline whose length R129 allows. -/
def State.componentOk (s : State) (i : Fin 3) (v : Int) : Prop :=
  -2147483648 ≤ v ∧ v ≤ 2147483647 ∧ baselineOk (s.baselineWith i v) = true

/-- One component of the baseline stored. -/
def State.storeComponent (s : State) (i : Fin 3) (v : Int) : State :=
  s.odStore (compKey 0x3810 i.val) (leBytesInt 4 v) (leBytes 4 0)

/-- In *Listening* a component is refused for its value alone. -/
theorem State.baselineWrite_of_listening {s : State} (i : Fin 3) (v : Int) (hlistening : s.dev.dstate = .listening) :
    s.baselineWrite i v =
      if v < -2147483648 || 2147483647 < v then s.deny .range
      else if !baselineOk (s.baselineWith i v) then s.deny .range
      else (s.storeComponent i v).baselineTaken.answer .ok := by
  have hstate : s.listening = true := decide_eq_true hlistening
  unfold baselineWrite
  rw [hstate]
  rfl

theorem State.baselineWrite_of_componentOk {s : State} {i : Fin 3} {v : Int} (hlistening : s.dev.dstate = .listening)
    (hvalue : s.componentOk i v) : s.baselineWrite i v = (s.storeComponent i v).baselineTaken.answer .ok := by
  obtain ⟨hmin, hmax, hlength⟩ := hvalue
  rw [baselineWrite_of_listening i v hlistening, if_neg (by simp [hmin, hmax]), if_neg (by simp [hlength])]

theorem State.baselineWrite_of_not_componentOk {s : State} {i : Fin 3} {v : Int}
    (hlistening : s.dev.dstate = .listening) (hvalue : ¬ s.componentOk i v) : s.baselineWrite i v = s.deny .range := by
  rw [baselineWrite_of_listening i v hlistening]
  split
  · rfl
  · next hrange =>
    obtain ⟨hmin, hmax⟩ : -2147483648 ≤ v ∧ v ≤ 2147483647 := by simpa using hrange
    exact if_pos (by simpa [componentOk, hmin, hmax] using hvalue)

/-! ### The baseline survey (R130, R131) -/

theorem exec_baselineSurveyStart (s : State) {role : Role} (hrole : Role.engineer.rank ≤ role.rank) :
    exec (.baselineSurveyStart role) s = .next s.baseSurveyStart :=
  congrArg Host.Outcome.next (State.asRole_of_rank _ hrole)

theorem State.baseSurveyStart_of_ready {s : State}
    (hready : s.dev.dstate = .listening ∧ s.blk.gbb.st = .on ∧ s.verified = true) :
    s.baseSurveyStart = (s.setTsl fun t => { t with survey := Survey.begun }).answer .ok :=
  if_pos (by simp [listening, hready])

theorem State.baseSurveyStart_of_not {s : State}
    (hnot : ¬ (s.dev.dstate = .listening ∧ s.blk.gbb.st = .on ∧ s.verified = true)) :
    s.baseSurveyStart = s.deny .state :=
  if_neg (by simpa [listening, and_assoc] using hnot)

/-- R130 is silent on an abort in another state, or with no survey running: the model answers it OK. -/
theorem exec_baselineSurveyAbort (s : State) {role : Role} (hrole : Role.engineer.rank ≤ role.rank) :
    exec (.baselineSurveyAbort role) s = .next (s.baseSurveyAbort.answer .ok) :=
  congrArg Host.Outcome.next (State.asRole_of_rank _ hrole)

theorem exec_baselineSurveyAdopt (s : State) {role : Role} (hrole : Role.engineer.rank ≤ role.rank) :
    exec (.baselineSurveyAdopt role) s = .next s.baseSurveyAdopt :=
  congrArg Host.Outcome.next (State.asRole_of_rank _ hrole)

/-- A survey whose result may be adopted as the baseline: complete, of a length that R129 allows. -/
def State.surveyAdoptable (s : State) : Prop :=
  s.dev.dstate = .listening ∧ s.tsl.survey.st = .complete ∧
    baselineOk (s.tsl.survey.rx, s.tsl.survey.ry, s.tsl.survey.rz) = true

/-- The survey's result stored as the baseline. -/
def State.storeBaseline (s : State) : State :=
  ((s.odStore (odKey 0x3810 1) (leBytesInt 4 s.tsl.survey.rx) (leBytes 4 0)).odStore (odKey 0x3810 2)
    (leBytesInt 4 s.tsl.survey.ry) (leBytes 4 0)).odStore (odKey 0x3810 3) (leBytesInt 4 s.tsl.survey.rz) (leBytes 4 0)

theorem State.baseSurveyAdopt_of_adoptable {s : State} (hadopts : s.surveyAdoptable) :
    s.baseSurveyAdopt = s.storeBaseline.baselineTaken.answer .ok := by
  obtain ⟨hlistening, hcomplete, hlength⟩ := hadopts
  exact if_pos (by simp [listening, hlistening, hcomplete, hlength])

theorem State.baseSurveyAdopt_of_not {s : State} (hnot : ¬ s.surveyAdoptable) : s.baseSurveyAdopt = s.deny .state :=
  if_neg (by simpa [listening, surveyAdoptable, and_assoc] using hnot)

/-! ### Writes of the mode (R148, R150) -/

theorem exec_teaselModeWrite (s : State) {role : Role} (v : Nat) (hrole : Role.engineer.rank ≤ role.rank) :
    exec (.teaselModeWrite role v) s = .next (s.teaselMode v) :=
  congrArg Host.Outcome.next (State.asRole_of_rank _ hrole)

theorem State.teaselMode_of_notListening {s : State} {v : Nat} (hmode : v ≤ 1) (hstate : s.dev.dstate ≠ .listening) :
    s.teaselMode v = s.deny .state := by
  simp [teaselMode, listening, hstate, Nat.not_lt.mpr hmode]

/-- R148: unverified mode is refused while SF4 is enabled. -/
theorem State.teaselMode_of_sf4On {s : State} (hlistening : s.dev.dstate = .listening) (hsf4 : s.sf4On = true) :
    s.teaselMode 1 = s.deny .other := by
  simp [teaselMode, listening, hlistening, hsf4]

/-- The mode stored. -/
def State.storeMode (s : State) (v : Nat) : State := s.odStore (odKey 0x3800 1) (leBytes 1 v) [0]

theorem State.storeMode_odHeld (s : State) (v : Nat) :
    (s.storeMode v).odHeld (odKey 0x3800 1) [0] = leBytes 1 v := by
  rw [storeMode, odHeld_odStore, if_pos rfl]

/-- R150: an accepted write stores the mode, and starts Teasel where it changes the mode in force. -/
theorem State.teaselMode_of_accepted {s : State} {v : Nat} (hmode : v ≤ 1) (hlistening : s.dev.dstate = .listening)
    (hallowed : v = 0 ∨ s.sf4On = false) :
    s.teaselMode v =
      (if s.od 0x3800 1 0 = v then s.storeMode v else (s.storeMode v).teaselStart).answer .ok := by
  have hsf4 : ¬ (v = 1 ∧ s.sf4On = true) := by
    rintro ⟨rfl, hon⟩
    simp [hon] at hallowed
  simp [teaselMode, listening, hlistening, Nat.not_lt.mpr hmode, hsf4, storeMode]

/-! ### The statement -/

/-- Settles O22: the write of a component, the three writes of the survey command and the write of the mode, each by the
unit's state. -/
theorem baselineAndTeasel : Obligations.BaselineAndTeasel := by
  unfold Obligations.BaselineAndTeasel
  refine ⟨fun s role hrole => ⟨fun i v => ⟨_, exec_baselineWrite s i v hrole,
      State.baselineWrite_of_notListening i, fun hlistening hok => ?_, ?_⟩,
    ⟨_, exec_baselineSurveyStart s hrole, ?_⟩,
    ⟨_, exec_baselineSurveyAbort s hrole, Survey.aborted_of_running, rfl, by simp +decide⟩,
    ⟨_, exec_baselineSurveyAdopt s hrole, ?_⟩⟩,
    fun s role v hrole hmode => ⟨_, exec_teaselModeWrite s v hrole, State.teaselMode_of_notListening hmode, ?_,
      fun hlistening hallowed => ?_⟩⟩
  · by_cases hvalue : s.componentOk i v
    · rw [State.baselineWrite_of_componentOk hlistening hvalue]
      exact State.baselineTaken_tsl _
    · simp [State.baselineWrite_of_not_componentOk hlistening hvalue] at hok
  · rintro hlistening rfl hmin hmax hlength
    rw [State.baselineWrite_of_componentOk (i := 0) hlistening ⟨hmin, hmax, hlength⟩]
    rfl
  · split
    · next hready =>
      rw [State.baseSurveyStart_of_ready hready]
      exact ⟨rfl, rfl, rfl, by simp +decide⟩
    · next hnot => exact State.baseSurveyStart_of_not hnot
  · split
    · next hadopts =>
      rw [State.baseSurveyAdopt_of_adoptable hadopts]
      obtain ⟨hamb, hlost, hset⟩ := s.storeBaseline.baselineTaken_tsl
      exact ⟨hamb, hlost, hset, rfl⟩
    · next hnot => exact State.baseSurveyAdopt_of_not hnot
  · rintro hlistening rfl
    exact State.teaselMode_of_sf4On hlistening
  · rw [State.teaselMode_of_accepted hmode hlistening hallowed, State.odHeld_of_dict (State.answer_dict ..)]
    split
    · next hsame => exact ⟨rfl, s.storeMode_odHeld v, fun hnew => absurd hsame hnew⟩
    · rw [State.teaselStart_odHeld, State.answer_tsl, State.teaselStart_tsl]
      exact ⟨rfl, s.storeMode_odHeld v, fun _ => ⟨rfl, rfl⟩⟩

end Sys2Proof.Machine
end

section
/-!
PROOFS. The events and time-outs of tasks (R209, R212) and of timed commands (R213, R214).
-/
namespace Sys2Proof.Machine

/-! ### What the shared operations leave of the fleet's records -/

@[simp] theorem State.reachTb4_fleet (s : State) (ns : Nat) : (s.reachTb4 ns).fleet = s.fleet :=
  State.fleet_of_outside (s.reachTb4_outside ns) rfl

theorem State.enginePush_fleet {s u : State} {n : Fin 32} {ws : List Dword} (hpush : s.enginePush n ws = some u) :
    u.fleet = s.fleet :=
  State.fleet_of_outside (State.enginePush_frame hpush [.cores, .ques] rfl) rfl

@[simp] theorem State.addDue_fleet (s : State) (m : Nat) (i : CmdItem) : (s.addDue m i).fleet = s.fleet := rfl

@[simp] theorem State.dropDue_fleet (s : State) (f : DueItem → Bool) : (s.dropDue f).fleet = s.fleet := rfl

/-- R212: an event to the policy can overflow its queue, and changes no record. -/
theorem State.policyEvent_fleet (s : State) (ev task member : Nat) (arg : BitVec 32) :
    (s.policyEvent ev task member arg).fleet =
      { s.fleet with evOverflow := (s.policyEvent ev task member arg).fleet.evOverflow } := by
  simp only [policyEvent]
  split
  · rfl
  · split
    · next hpush => rw [enginePush_fleet hpush]
    · rfl

@[simp] theorem State.policyEvent_tasks (s : State) (ev task member : Nat) (arg : BitVec 32) :
    (s.policyEvent ev task member arg).fleet.tasks = s.fleet.tasks := by
  rw [policyEvent_fleet]

@[simp] theorem State.policyEvent_tfcs (s : State) (ev task member : Nat) (arg : BitVec 32) :
    (s.policyEvent ev task member arg).fleet.tfcs = s.fleet.tfcs := by
  rw [policyEvent_fleet]

@[simp] theorem State.policyEvent_tickCount (s : State) (ev task member : Nat) (arg : BitVec 32) :
    (s.policyEvent ev task member arg).fleet.tickCount = s.fleet.tickCount := by
  rw [policyEvent_fleet]

/-- R215: the release of a CONFIRM step is noted in its task alone. -/
theorem State.stepRelease_fleet (s : State) (id i : Nat) :
    (s.stepRelease id i).fleet = { s.fleet with tasks := (s.stepRelease id i).fleet.tasks } := by
  simp only [stepRelease]
  (repeat' split) <;> rfl

theorem State.stepRelease_tfcs (s : State) (id i : Nat) : (s.stepRelease id i).fleet.tfcs = s.fleet.tfcs := by
  rw [stepRelease_fleet]

theorem State.stepRelease_tickCount (s : State) (id i : Nat) :
    (s.stepRelease id i).fleet.tickCount = s.fleet.tickCount := by
  rw [stepRelease_fleet]

theorem State.task_of_tasks {s t : State} (h : t.fleet.tasks = s.fleet.tasks) (id : Nat) : t.task id = s.task id := by
  rw [task, task, h]

theorem State.tfc_of_tfcs {s t : State} (h : t.fleet.tfcs = s.fleet.tfcs) (i : Nat) : t.tfc i = s.tfc i := by
  rw [tfc, tfc, h]

@[simp] theorem State.reachTb4_task (s : State) (ns id : Nat) : (s.reachTb4 ns).task id = s.task id :=
  State.task_of_tasks (congrArg Fleet.tasks (s.reachTb4_fleet ns)) id

@[simp] theorem State.policyEvent_task (s : State) (ev task member : Nat) (arg : BitVec 32) (id : Nat) :
    (s.policyEvent ev task member arg).task id = s.task id :=
  State.task_of_tasks (s.policyEvent_tasks ev task member arg) id

/-- A task that leaves its state has its new entry, and no other task changes. -/
theorem State.taskLeaves_task (s : State) (id : Nat) (old new : Task) (k : Nat) :
    (s.taskLeaves id old new).task k = if k = id then new else s.task k := by
  rw [taskLeaves, taskTold, policyEvent_task, ← task_setTask]
  split <;> rfl

/-! ### The deadline of a task (R209) -/

/-- R209: a task not begun at its deadline is *Failed* with result 3. -/
def State.taskExpired (s : State) (id : Nat) : State :=
  (s.reachTb4 (s.fullMs (s.task id).deadline * 1000000)).taskLeaves id (s.task id)
    { s.task id with st := .failed, epoch := (s.task id).epoch + 1, result := 3 }

/-- R209: the policy is told of the deadline of an *Active* task. -/
def State.taskOverdue (s : State) (id : Nat) : State :=
  let s1 := s.reachTb4 (s.fullMs (s.task id).deadline * 1000000)
  (s1.setTask id { s.task id with deadlineTold := true }).policyEvent 5 id (s.task id).member (s.task id).epoch

theorem State.taskExpired_task (s : State) (id : Nat) :
    (s.taskExpired id).task id = { s.task id with st := .failed, epoch := (s.task id).epoch + 1, result := 3 } := by
  rw [taskExpired, taskLeaves_task, if_pos rfl]

theorem State.taskOverdue_task (s : State) (id : Nat) :
    (s.taskOverdue id).task id = { s.task id with deadlineTold := true } := by
  rw [taskOverdue, policyEvent_task, task_setTask, if_pos rfl]

/-- R209: what a deadline does, by the task's state; log 3: it does nothing of a task that is not open or held. -/
theorem exec_taskDeadline (s : State) (id : Nat) :
    exec (.taskDeadline id) s =
      .next (if s.standby = true then s
        else if (s.task id).st = .opened ∨ (s.task id).st = .allotted then s.taskExpired id
        else if (s.task id).st = .active ∧ (s.task id).deadlineTold = false then s.taskOverdue id else s) := by
  rw [apply_ite Host.Outcome.next, apply_ite Host.Outcome.next, apply_ite Host.Outcome.next]
  exact if_congr Iff.rfl rfl (if_congr (by simp) rfl (if_congr (by simp) rfl rfl))

/-! ### The allotment period (R212) -/

/-- An allotment leaves the count of the period as it is. -/
theorem State.taskAllot_tickCount (s : State) (id m : Nat) :
    (s.taskAllot id m).fleet.tickCount = s.fleet.tickCount := by
  rw [taskAllot, stepsRelease]
  refine List.foldlRecOn (motive := fun t : State => t.fleet.tickCount = s.fleet.tickCount) _ _ ?_
    fun t ht i _ => (t.stepRelease_tickCount id i).trans ht
  rw [taskTold, policyEvent_tickCount]
  rfl

theorem State.defaultPolicy_tickCount (s : State) : s.defaultPolicy.fleet.tickCount = s.fleet.tickCount := by
  rw [defaultPolicy]
  refine List.foldlRecOn (motive := fun t : State => t.fleet.tickCount = s.fleet.tickCount) _ _ rfl fun t ht p _ => ?_
  split
  · exact (t.taskAllot_tickCount ..).trans ht
  · exact ht

/-- R212: the period ended: it starts again, and the policy in force acts. -/
def State.allotmentPeriod (s : State) : State :=
  let s1 := { s with fleet := { s.fleet with tickCount := 0 } }
  if s.od 0x6600 1 0 = 1 then s1.policyEvent 8 0 0 0 else s1.defaultPolicy

theorem State.allotmentPeriod_tickCount (s : State) : s.allotmentPeriod.fleet.tickCount = 0 := by
  rw [allotmentPeriod]
  split
  · rw [policyEvent_tickCount]
  · rw [defaultPolicy_tickCount]

theorem exec_allotmentTick (s : State) :
    exec .allotmentTick s =
      .next (if s.standby = true ∨ s.fleet.tickCount < s.od 0x6600 3 10 then s else s.allotmentPeriod) := by
  rw [apply_ite Host.Outcome.next, State.allotmentPeriod, apply_ite Host.Outcome.next]
  exact if_congr (by simp) rfl rfl

/-! ### RESYNC (R212) -/

/-- The overflow of the event queue ended. -/
def State.resynced (s : State) : State := { s with fleet := { s.fleet with evOverflow := false } }

theorem exec_resyncEvent_of_noOverflow {s : State} (hnone : s.fleet.evOverflow = false) :
    exec .resyncEvent s = .next s :=
  if_pos (by simp [hnone])

/-- R212: RESYNC goes out, or the queue has no room for it yet. -/
theorem exec_resyncEvent_of_overflow {s : State} (hoverflow : s.fleet.evOverflow = true) :
    exec .resyncEvent s = .next ((s.enginePush (s.fleetQueue 16) [9, 0]).elim s State.resynced) := by
  change execResyncEvent s = _
  rw [execResyncEvent, if_neg (by simp [hoverflow])]
  cases s.enginePush (s.fleetQueue 16) [9, 0] <;> rfl

/-! ### The tasks of a silent member (R209, R212) -/

/-- R209: a task a member holds goes back to *Open*; another stays as it is. -/
def Task.withdrawn (t : Task) : Task :=
  if t.st.holding then
    { t with st := .opened, epoch := t.epoch + 1, member := 0, cstep := 0, goSent := [], deadlineTold := false }
  else t

theorem TaskState.holding_iff (k : TaskState) : k.holding = true ↔ k = .allotted ∨ k = .active := by
  cases k <;> simp [holding]

theorem Task.withdrawn_of_holding {t : Task} (hheld : t.st.holding = true) : t.withdrawn.st = .opened := by
  rw [withdrawn, if_pos hheld]

theorem Task.withdrawn_of_not {t : Task} (hfree : t.st.holding = false) : t.withdrawn = t :=
  if_neg (by simp [hfree])

theorem Task.withdrawn_withdrawn (t : Task) : t.withdrawn.withdrawn = t.withdrawn := by
  cases hheld : t.st.holding with
  | false => simp only [withdrawn_of_not hheld]
  | true => exact withdrawn_of_not (by rw [withdrawn_of_holding hheld]; rfl)

theorem State.taskWithdraw_task (s : State) (id k : Nat) :
    (s.taskWithdraw id).task k = if k = id then (s.task id).withdrawn else s.task k := by
  simp only [taskWithdraw, Task.withdrawn, TaskState.holding_iff, Bool.or_eq_true, decide_eq_true_eq]
  split
  · exact taskLeaves_task ..
  · split
    · next hk => rw [hk]
    · rfl

/-- Withdrawals one after the other: a task named twice is withdrawn once. -/
theorem foldl_taskWithdraw_task (ids : List Nat) (s : State) (k : Nat) :
    (ids.foldl State.taskWithdraw s).task k = if k ∈ ids then (s.task k).withdrawn else s.task k := by
  induction ids generalizing s with
  | nil => rfl
  | cons id ids ih =>
    rw [List.foldl_cons, ih, State.taskWithdraw_task]
    by_cases hk : k = id
    · simp [hk, Task.withdrawn_withdrawn]
    · simp [hk]

theorem mem_of_tabGet {α : Type} {t : List (Nat × α)} {i : Nat} {v : α} (h : tabGet t i = some v) : (i, v) ∈ t := by
  induction t with
  | nil => cases h
  | cons p t ih =>
    rw [tabGet] at h
    split at h
    · next hi =>
      obtain rfl := Option.some.inj h
      exact hi ▸ List.mem_cons_self
    · exact List.mem_cons_of_mem _ (ih h)

/-- A task held by a member is listed among its tasks. -/
theorem State.mem_tasksOf {s : State} {id : Nat} (hheld : (s.task id).st.holding = true) :
    id ∈ (s.tasksOf (s.task id).member).map Prod.fst := by
  refine List.mem_map_of_mem (f := Prod.fst) (a := (id, s.task id)) (List.mem_filter.mpr ⟨mem_of_tabGet ?_, ?_⟩)
  · unfold task tabGetD at hheld ⊢
    cases hget : tabGet s.fleet.tasks id with
    | none => simp [hget, TaskState.holding] at hheld
    | some t => rfl
  · simpa using (TaskState.holding_iff _).mp hheld

theorem State.withdrawAll_task {s : State} {id : Nat} (hheld : (s.task id).st.holding = true) :
    ((s.withdrawAll (s.task id).member).task id).st = .opened := by
  rw [withdrawAll, foldl_taskWithdraw_task, if_pos (mem_tasksOf hheld), Task.withdrawn_of_holding hheld]

/-- R212: the default policy withdraws the tasks of a member that has been *Silent* for its time. -/
def State.silentWithdrawn (s : State) (m since : Nat) : State :=
  (s.reachTb4 ((since + 1000 * s.od 0x6600 2 30) * 1000000)).withdrawAll m

theorem State.silentWithdrawn_task {s : State} {id since : Nat} (hheld : (s.task id).st.holding = true) :
    ((s.silentWithdrawn (s.task id).member since).task id).st = .opened := by
  rw [silentWithdrawn, ← s.reachTb4_task ((since + 1000 * s.od 0x6600 2 30) * 1000000) id]
  exact withdrawAll_task (by rwa [reachTb4_task])

/-- Log 3: a member that is not *Silent* has no time-out. -/
theorem exec_silentWithdrawTimeout_of_none {s : State} {m : Nat} (hnone : (s.member m).silentSince = none) :
    exec (.silentWithdrawTimeout m) s = .next s := by
  change execSilentWithdrawTimeout m s = _
  rw [execSilentWithdrawTimeout, hnone]

theorem exec_silentWithdrawTimeout_of_since {s : State} {m since : Nat}
    (hsince : (s.member m).silentSince = some since) :
    exec (.silentWithdrawTimeout m) s =
      .next (if s.standby = true ∨ s.od 0x6600 1 0 = 1 ∨ s.od 0x6600 2 30 = 0 ∨ (s.member m).st ≠ .silent then s
        else s.silentWithdrawn m since) := by
  change execSilentWithdrawTimeout m s = _
  rw [execSilentWithdrawTimeout, hsince, apply_ite Host.Outcome.next]
  exact if_congr (by simp [or_assoc]) rfl rfl

/-! ### Timed commands (R213, R214) -/

@[simp] theorem State.callResult_tfcs (s : State) (c : CallIn) (call id : Nat) (epoch : BitVec 32) (st : Status) :
    (s.callResult c call id epoch st).fleet.tfcs = s.fleet.tfcs := by
  rw [callResult]
  split
  · rw [State.fleet_of_outside (s.enginePush_getD _ _ [.cores, .ques] rfl) rfl]
  · rfl

/-- R210, R213: the status of a submission. -/
def State.submitStatus (s : State) (c : CallIn) (l : List Byte) : Status :=
  if s.callAllowed c then s.tfcCheck l else .denied

/-- R213: the state after a submission. -/
def State.tfcSubmitted (s : State) (c : CallIn) (l : List Byte) : State :=
  if s.submitStatus c l = .ok then
    (s.setTfc (lowestFree s.fleet.tfcs 0 4096) (s.tfcOf l)).callResult c 8 (lowestFree s.fleet.tfcs 0 4096) 0 .ok
  else s.callResult c 8 c.task.toNat 0 (s.submitStatus c l)

theorem exec_tfcSubmit_some (s : State) (c : CallIn) (l : List Byte) :
    exec (.tfcSubmit c (some l)) s = .next (s.tfcSubmitted c l) :=
  (apply_ite Host.Outcome.next ..).symm

theorem State.tfcSubmitted_of_ok {s : State} {c : CallIn} {l : List Byte} (hcall : s.callAllowed c = true)
    (hcheck : s.tfcCheck l = .ok) :
    (s.tfcSubmitted c l).tfc (lowestFree s.fleet.tfcs 0 4096) = s.tfcOf l := by
  rw [tfcSubmitted, submitStatus, if_pos hcall, if_pos hcheck, State.tfc_of_tfcs (State.callResult_tfcs ..), tfc_setTfc,
    if_pos rfl]

theorem State.tfcSubmitted_of_refused {s : State} {c : CallIn} {l : List Byte} (hcheck : s.tfcCheck l ≠ .ok) :
    (s.tfcSubmitted c l).fleet.tfcs = s.fleet.tfcs := by
  have hrefused : s.submitStatus c l ≠ .ok := by
    rw [submitStatus]
    split
    · exact hcheck
    · nofun
  rw [tfcSubmitted, if_neg hrefused, callResult_tfcs]

theorem State.tfcEnds_tfc (s : State) (i : Nat) (st : TfcState) : ((s.tfcEnds i st).tfc i).st = st := by
  rw [tfcEnds, tfc_setTfc, if_pos rfl]

/-- R214, R215: a command that fails has its state; the policy, the count and the step that waits change no record of a
command. -/
theorem State.tfcFail_tfc (s : State) (i : Nat) : ((s.tfcFail i).tfc i).st = .failed := by
  have htfcs : (s.tfcFail i).fleet.tfcs = (s.tfcEnds i .failed).fleet.tfcs := by
    rw [tfcFail]
    split
    · rw [stepRelease_tfcs, policyEvent_tfcs]
    · exact policyEvent_tfcs ..
  rw [State.tfc_of_tfcs htfcs, tfcEnds_tfc]

theorem exec_tfcAckDeadline (s : State) (i : Nat) :
    exec (.tfcAckDeadline i) s =
      .next (if s.standby = false ∧ (s.tfc i).st = .pending then
        (s.reachTb4 (((s.tfc i).exec - 100) * 1000000)).tfcFail i else s) := by
  rw [apply_ite Host.Outcome.next, ← ite_not]
  exact if_congr (by simp [imp_iff_not_or]) rfl rfl

theorem exec_tfcExecuteTime (s : State) (i : Nat) :
    exec (.tfcExecuteTime i) s =
      .next (if s.standby = false ∧ ((s.tfc i).st = .acked ∧ (s.tfc i).revCode = 0 ∨ (s.tfc i).st = .cancelling) then
        (s.reachTb4 ((s.tfc i).exec * 1000000)).tfcEnds i .ended else s) := by
  change execTfcExecuteTime i s = _
  cases hstandby : s.standby with
  | true => simp [execTfcExecuteTime, hstandby]
  | false =>
    rw [apply_ite Host.Outcome.next, execTfcExecuteTime, hstandby, if_neg Bool.false_ne_true]
    exact if_congr (by simp) rfl rfl

theorem exec_tfcRevertTime (s : State) (i : Nat) :
    exec (.tfcRevertTime i) s =
      .next (if s.standby = false ∧ (s.tfc i).st = .acked ∧ (s.tfc i).revCode ≠ 0 then
        (s.reachTb4 ((s.tfc i).revert * 1000000)).tfcEnds i .ended else s) := by
  rw [apply_ite Host.Outcome.next, ← ite_not]
  exact if_congr (by simp [imp_iff_not_or, or_assoc]) rfl rfl

theorem exec_tfcFreeTimeout (s : State) (i : Nat) :
    exec (.tfcFreeTimeout i) s =
      .next (if s.standby = false ∧ (s.tfc i).st.terminal = true ∧ (s.tfc i).owner = none then
        (s.reachTb4 (((s.tfc i).endedAt + 60000) * 1000000)).setTfc i {} else s) := by
  rw [apply_ite Host.Outcome.next, ← ite_not]
  exact if_congr (by simp [imp_iff_not_or, or_assoc, Option.isSome_iff_ne_none]) rfl rfl

/-! ### The statement -/

/-- Settles O27: the deadline by the state of its task, the period and RESYNC by their conditions, the silence by what the
member holds, and each time-out of a timed command by the state that it ends. -/
theorem taskEvents : Obligations.TaskEvents := by
  unfold Obligations.TaskEvents
  refine ⟨fun s => ⟨fun id => ⟨_, exec_taskDeadline s id, fun hstandby => if_pos hstandby, ?_, ?_⟩,
    ⟨_, exec_allotmentTick s, fun hidle => if_pos hidle, ?_⟩, ?_, fun m => ?_⟩,
    fun s => ⟨fun c l => ⟨_, exec_tfcSubmit_some s c l, State.tfcSubmitted_of_ok, State.tfcSubmitted_of_refused⟩,
    fun i => ⟨_, exec_tfcAckDeadline s i, ?_⟩, fun i => ⟨_, exec_tfcExecuteTime s i, ?_⟩,
    fun i => ⟨_, exec_tfcRevertTime s i, ?_⟩, fun i => ⟨_, exec_tfcFreeTimeout s i, ?_⟩⟩⟩
  · intro hactive hwaits
    rw [if_neg (by simp [hactive]), if_pos hwaits, State.taskExpired_task]
    exact ⟨rfl, rfl, rfl⟩
  · intro hactive hst htold
    rw [if_neg (by simp [hactive]), if_neg (by simp [hst]), if_pos ⟨hst, htold⟩]
    exact s.taskOverdue_task id
  · intro hactive hended
    rw [if_neg (by simp [hactive, hended])]
    exact s.allotmentPeriod_tickCount
  · cases hoverflow : s.fleet.evOverflow with
    | false => exact ⟨s, exec_resyncEvent_of_noOverflow hoverflow, by simp⟩
    | true =>
      refine ⟨_, exec_resyncEvent_of_overflow hoverflow, by simp, fun u _ hpush => ?_⟩
      rw [hpush]
      exact ⟨rfl, rfl⟩
  · cases hsince : (s.member m).silentSince with
    | none => exact ⟨s, exec_silentWithdrawTimeout_of_none hsince, fun _ => rfl, by simp⟩
    | some since =>
      refine ⟨_, exec_silentWithdrawTimeout_of_since hsince, fun hnot => if_pos ?_, ?_⟩
      · rcases hnot with hnone | hstandby | hheard
        · cases hnone
        · exact .inl hstandby
        · exact .inr (.inr (.inr hheard))
      · rintro - hactive hpolicy hlimit hsilent id rfl hheld
        rw [if_neg (by simp [hactive, hpolicy, hlimit, hsilent])]
        exact State.silentWithdrawn_task ((TaskState.holding_iff _).mpr hheld)
  · split
    · exact State.tfcFail_tfc ..
    · rfl
  · split
    · exact State.tfcEnds_tfc ..
    · rfl
  · split
    · exact State.tfcEnds_tfc ..
    · rfl
  · split
    · rw [State.tfc_setTfc, if_pos rfl]
    · rfl

end Sys2Proof.Machine
end

section
/-!
PROOFS. What stop bursts, the release of a pair's hold and the entry to the safe state leave of SAF (R224, R236, R359).
-/
namespace Sys2Proof.Machine

/-! ### Operations that change nothing of SAF -/

@[simp] theorem State.reachTb4_saf (s : State) (ns : Nat) : (s.reachTb4 ns).saf = s.saf :=
  State.saf_of_outside (s.reachTb4_outside ns) rfl

@[simp] theorem State.reachNs_saf (s : State) (ns : Nat) : (s.reachNs ns).saf = s.saf :=
  State.saf_of_outside (s.reachNs_outside ns) rfl

@[simp] theorem State.setCause_saf (s : State) (i : Nat) : (s.setCause i).saf = s.saf := rfl

@[simp] theorem State.emcyAllOn_saf (s : State) (c : EmcyCond) (e : Event) : (s.emcyAllOn c e).saf = s.saf :=
  State.saf_of_outside (s.emcyAllOn_frame c e [.dict, .out] (by decide)) rfl

@[simp] theorem State.emcyAllOff_saf (s : State) (c : EmcyCond) (e : Event) : (s.emcyAllOff c e).saf = s.saf :=
  State.saf_of_outside (s.emcyAllOff_frame c e [.dict, .out] (by decide)) rfl

@[simp] theorem State.countBlock_saf (s : State) (b limit : Bool) : (s.countBlock b limit).saf = s.saf :=
  State.saf_of_outside (s.countBlock_frame b limit [.fra, .frb] (by decide)) rfl

@[simp] theorem State.callRestart_saf (s : State) : s.callRestart.saf = s.saf :=
  State.saf_of_outside (s.callRestart_frame [.fra, .frames, .evr, .out] (by decide)) rfl

@[simp] theorem State.fraListen_saf (s : State) (l : FraListen) (ch : BitVec 12) : (s.fraListen l ch).saf = s.saf := rfl

@[simp] theorem State.stopAir_saf (s : State) (b : Burst) (ch : BitVec 12) : (s.stopAir b ch).1.saf = s.saf :=
  State.saf_of_outside (s.stopAir_frame b ch [.fra, .frames, .evr, .out] (by decide)) rfl

@[simp] theorem State.burstDrop_saf (s : State) : s.burstDrop.saf = s.saf :=
  State.saf_of_outside (s.burstDrop_frame [.fra] (by decide)) rfl

/-! ### Stop bursts and the hold (R236, R277, R278, R361) -/

/-- SAF without what the air decides: the counts of stop bursts and of their frames, and the loopback of the permit. -/
def Saf.offAir (k : Saf) : Saf := { k with nBursts := 0, nNotSent := 0, blocked := 0, loopback := .notSent }

@[simp] theorem State.stopNotSent_offAir (s : State) (limit : Bool) :
    (s.stopNotSent limit).saf.offAir = s.saf.offAir := by
  rw [stopNotSent, event_saf]
  split
  · rw [setSaf_saf, countBlock_saf]
    rfl
  · rfl

/-- R277: the frames of a burst change the counts of SAF alone. -/
@[simp] theorem State.stopNext_offAir (s : State) (n : Nat) : (s.stopNext n).saf.offAir = s.saf.offAir := by
  induction n generalizing s with
  | zero => rfl
  | succ n ih =>
    simp only [stopNext]
    split
    · rfl
    · split_ifs <;> simp [ih]

@[simp] theorem State.fraAbort_offAir (s : State) : s.fraAbort.saf.offAir = s.saf.offAir := by
  unfold fraAbort
  split <;> simp [Saf.offAir]

/-- R236: a burst request changes no more of SAF than the air does. -/
@[simp] theorem State.burstRequest_offAir (s : State) (w : PermitWord) :
    (s.burstRequest w).saf.offAir = s.saf.offAir := by
  simp only [burstRequest]
  split_ifs <;> simp <;> rfl

theorem iterate_stopNotSent_offAir (s : State) (n : Nat) :
    (iterate (fun t : State => t.stopNotSent false) n s).saf.offAir = s.saf.offAir := by
  induction n generalizing s with
  | zero => rfl
  | succ n ih => exact (ih _).trans (s.stopNotSent_offAir false)

/-- R361: the pair gate shuts, and changes no more of SAF than the air does. -/
@[simp] theorem State.gateShut_offAir (s : State) : s.gateShut.saf.offAir = s.saf.offAir := by
  simp only [gateShut]
  split
  · rfl
  · have habort : (if s.fra.onAir.isSome = true then s.fraAbort else s).saf.offAir = s.saf.offAir := by
      split
      · exact s.fraAbort_offAir
      · rfl
    rw [← habort]
    generalize (if s.fra.onAir.isSome = true then s.fraAbort else s) = s1
    cases s1.fra.burst with
    | none => dsimp only; split <;> simp
    | some b => dsimp only; split <;> simp [iterate_stopNotSent_offAir]

@[simp] theorem State.holdRelease_offAir (s : State) : s.holdRelease.saf.offAir = s.saf.offAir :=
  State.gateShut_offAir _

@[simp] theorem State.loopRelease_offAir (s : State) : s.loopRelease.saf.offAir = s.saf.offAir := by
  unfold loopRelease
  split
  · exact s.holdRelease_offAir
  · rfl

/-! ### Entry to the safe state (R224) -/

/-- SAF without what the entry to the safe state decides. -/
def Saf.offSafe (k : Saf) : Saf := { k.offAir with safe := false, keepAlive := false, gate := false }

/-- R224: while the safe state is not in force, its entry stops the keep-alive and closes the gate. -/
theorem State.safeEnter_offAir {s : State} (why : Nat) (hsafe : s.saf.safe = false) :
    (s.safeEnter why).saf.offAir = { s.saf.offAir with safe := true, keepAlive := false, gate := false } := by
  have hheld : (if s.pair.paired = true then s.holdRelease else s).saf.offAir = s.saf.offAir := by
    split
    · exact s.holdRelease_offAir
    · rfl
  simp only [safeEnter, hsafe, Bool.false_eq_true, if_false, emcyAllOn_saf, event_saf, setCause_saf,
    burstRequest_offAir]
  rw [← hheld]
  rfl

/-- R224: after its entry the safe state is in force. -/
@[simp] theorem State.safeEnter_safe (s : State) (why : Nat) : (s.safeEnter why).saf.safe = true := by
  cases hsafe : s.saf.safe with
  | true => rwa [safeEnter, if_pos hsafe]
  | false => exact congrArg Saf.safe (s.safeEnter_offAir why hsafe)

/-- R224: the entry to the safe state leaves the demands, the lanes, the latched faults and the rest of SAF. -/
@[simp] theorem State.safeEnter_offSafe (s : State) (why : Nat) : (s.safeEnter why).saf.offSafe = s.saf.offSafe := by
  cases hsafe : s.saf.safe with
  | true => rw [safeEnter, if_pos hsafe]
  | false => rw [Saf.offSafe, s.safeEnter_offAir why hsafe, Saf.offSafe]

end Sys2Proof.Machine
end

section
/-!
PROOFS. The close of the permit gate and the loopback of a permit (R228, R230).
-/
namespace Sys2Proof.Machine

/-! ### The gate closes (R228) -/

/-- R228: the gate closed, 10 ms into the cycle. -/
def State.gateClosed (s : State) : State := (s.reachOffset 10000).setSaf fun k => { k with gate := false }

theorem State.reachOffset_saf (s : State) (us : Nat) : (s.reachOffset us).saf = s.saf :=
  s.reachTb4_saf _

theorem State.reachOffset_fra (s : State) (us : Nat) : (s.reachOffset us).fra = s.fra :=
  State.fra_of_outside (s.reachOffset_frame us [.tim, .evr] (by decide)) rfl

@[simp] theorem State.gateClosed_saf (s : State) : s.gateClosed.saf = { s.saf with gate := false } := by
  rw [gateClosed, setSaf_saf, reachOffset_saf]

@[simp] theorem State.gateClosed_fra (s : State) : s.gateClosed.fra = s.fra := by
  rw [gateClosed, setSaf_fra, reachOffset_fra]

theorem exec_permitGateClose (s : State) :
    exec .permitGateClose s =
      .next (if s.fra.permitDue = true then s.gateClosed.permitUnsent else s.gateClosed) := by
  rw [← s.gateClosed_fra]
  rfl

@[simp] theorem State.permitUnsent_saf (s : State) : s.permitUnsent.saf = { s.saf with loopback := .notSent } := rfl

@[simp] theorem State.permitUnsent_fra (s : State) :
    s.permitUnsent.fra = { s.fra with permitDue := false, voteWait := none, nPermitUnsent := s.fra.nPermitUnsent + 1 } :=
  rfl

/-! ### The loopback (R230) -/

theorem exec_permitLoopback_of_notAwaited {s : State} (arrives mic same : Bool) (hnot : s.saf.loopback ≠ .awaited) :
    exec (.permitLoopback arrives mic same) s = .next s :=
  if_pos hnot

theorem exec_permitLoopback_of_awaited {s : State} (arrives mic same : Bool) (hawaited : s.saf.loopback = .awaited) :
    exec (.permitLoopback arrives mic same) s =
      .next (if arrives = false ∨ mic = false then s.loopMissed
        else if same = true then s.setSaf fun k => { k with loopback := .passed, loopConsec := 0 }
        else ((s.setSaf fun k => { k with loopback := .missing, loopFlt := true }).safeEnter 5).loopRelease) := by
  rw [apply_ite Host.Outcome.next, apply_ite Host.Outcome.next]
  exact (if_neg (not_not.mpr hawaited)).trans (if_congr (by cases arrives <;> simp) rfl rfl)

/-- R230: SAF's record of a permit whose loopback is missing. -/
def Saf.countMissed (k : Saf) : Saf :=
  { k with loopback := .missing, loopMiss := k.loopMiss + 1
           loopConsec := if k.loopConsec.toNat = 2 then 2 else k.loopConsec + 1
           loopFlt := k.loopFlt || decide (k.loopConsec.toNat = 2) }

/-- R230: a missing loopback is counted, with its record. -/
def State.loopCounted (s : State) : State :=
  (s.setSaf Saf.countMissed).event .loopbackMissing [s.saf.word.cycle.toNat]

theorem State.loopMissed_of_third {s : State} (hthird : s.saf.loopConsec.toNat = 2) :
    s.loopMissed = s.loopCounted.safeEnter 6 :=
  if_pos hthird

theorem State.loopMissed_of_notThird {s : State} (hnot : s.saf.loopConsec.toNat ≠ 2) :
    s.loopMissed = s.loopCounted.loopRelease :=
  if_neg hnot

/-- R230: a missing loopback is counted, and leaves what the entry to the safe state leaves. -/
theorem State.loopMissed_offSafe (s : State) : s.loopMissed.saf.offSafe = s.saf.countMissed.offSafe := by
  have hcounted : s.loopCounted.saf = s.saf.countMissed := event_saf ..
  by_cases hthird : s.saf.loopConsec.toNat = 2
  · rw [loopMissed_of_third hthird, safeEnter_offSafe, hcounted]
  · rw [loopMissed_of_notThird hthird, Saf.offSafe, loopRelease_offAir, hcounted, Saf.offSafe]

/-- R230: the third loopback missing in a row forces the safe state; log 48: the count stays 2. -/
theorem State.loopMissed_safe_of_third {s : State} (hthird : s.saf.loopConsec = 2) : s.loopMissed.saf.safe = true := by
  rw [loopMissed_of_third (congrArg BitVec.toNat hthird), safeEnter_safe]

/-- R230: after a loopback that differs from the voted word the safe state is in force, with LOOP_FLT. -/
theorem State.loopDiffers_saf (s : State) :
    let t := ((s.setSaf fun k => { k with loopback := .missing, loopFlt := true }).safeEnter 5).loopRelease
    t.saf.safe = true ∧ t.saf.loopFlt = true := by
  have hair := State.loopRelease_offAir ((s.setSaf fun k => { k with loopback := .missing, loopFlt := true }).safeEnter 5)
  refine ⟨(congrArg Saf.safe hair).trans (State.safeEnter_safe ..), (congrArg Saf.loopFlt hair).trans ?_⟩
  exact congrArg Saf.loopFlt (State.safeEnter_offSafe ..)

/-! ### The statement -/

/-- Settles O30: the close of the gate by whether a permit is due, and the loopback by what arrives while it is awaited. -/
theorem permitLoopback : Obligations.PermitLoopback := by
  unfold Obligations.PermitLoopback
  refine fun s => ⟨⟨_, exec_permitGateClose s, ?_⟩, fun arrives mic same => ?_⟩
  · split
    · next hdue => exact ⟨by simp, by simp, by simp [hdue]⟩
    · next hnotDue => exact ⟨by simp, fun hdue => absurd hdue hnotDue, by simp⟩
  · by_cases hawaited : s.saf.loopback = .awaited
    · refine ⟨_, exec_permitLoopback_of_awaited arrives mic same hawaited, fun hnot => absurd hawaited hnot,
        fun _ => ⟨?_, fun hlost => ?_, ?_⟩⟩
      · rintro rfl rfl rfl
        exact ⟨rfl, s.setSaf_frame _ _ (by decide)⟩
      · rw [if_pos hlost]
        exact ⟨congrArg Saf.loopMiss s.loopMissed_offSafe, State.loopMissed_safe_of_third⟩
      · rintro rfl rfl rfl
        exact s.loopDiffers_saf
    · exact ⟨s, exec_permitLoopback_of_notAwaited arrives mic same hawaited, fun _ => rfl, fun h => absurd h hawaited⟩

end Sys2Proof.Machine
end

section
/-!
PROOFS. The limit of degraded operation, the stop outputs and the events of the ESTOP inputs (R223 to R225, R239 to R243).
-/
namespace Sys2Proof.Machine

/-! ### Degraded operation and the stop outputs (R223 to R225) -/

theorem exec_degradedTimeLimit_of_none {s : State} (hnone : s.saf.degradedAt = none) :
    exec .degradedTimeLimit s = .next s := by
  change execDegradedTimeLimit s = _
  rw [execDegradedTimeLimit, hnone]

theorem exec_degradedTimeLimit_of_some {s : State} {since : Nat} (hsince : s.saf.degradedAt = some since) :
    exec .degradedTimeLimit s =
      .next ((s.reachNs (since + s.saf.cfg.degradedH * 3600000000000)).safeEnter 3) := by
  change execDegradedTimeLimit s = _
  rw [execDegradedTimeLimit, hsince]

theorem exec_keepaliveTimeout (s : State) :
    exec .keepaliveTimeout s =
      .next (if s.saf.keepAlive = true then s else s.setSaf fun k => { k with outA := false, outB := false }) := rfl

/-- R225: a test pulse matters to an output that is energised and does not read back; log 3: else nothing changes. -/
theorem exec_stopOutTestPulse_A (s : State) (ok : Bool) :
    exec (.stopOutTestPulse false ok) s =
      .next (if s.saf.outA = true ∧ ok = false then s.outFault true false else s) :=
  congrArg Host.Outcome.next (if_congr (by simp) rfl rfl)

theorem exec_stopOutTestPulse_B (s : State) (ok : Bool) :
    exec (.stopOutTestPulse true ok) s =
      .next (if s.saf.outB = true ∧ ok = false then s.outFault false true else s) :=
  congrArg Host.Outcome.next (if_congr (by simp) rfl rfl)

/-- R225: the faults of the outputs are latched. -/
theorem State.outFault_offSafe (s : State) (a b : Bool) :
    (s.outFault a b).saf.offSafe = { s.saf with fltA := s.saf.fltA || a, fltB := s.saf.fltB || b }.offSafe := by
  rw [outFault, safeEnter_offSafe, event_saf, setSaf_saf]

@[simp] theorem State.outFault_fltA (s : State) (a b : Bool) : (s.outFault a b).saf.fltA = (s.saf.fltA || a) :=
  congrArg Saf.fltA (s.outFault_offSafe a b)

@[simp] theorem State.outFault_fltB (s : State) (a b : Bool) : (s.outFault a b).saf.fltB = (s.saf.fltB || b) :=
  congrArg Saf.fltB (s.outFault_offSafe a b)

@[simp] theorem State.outFault_safe (s : State) (a b : Bool) : (s.outFault a b).saf.safe = true :=
  State.safeEnter_safe ..

/-! ### The channels of ESTOP (R239 to R243) -/

theorem State.estop_of_saf {s t : State} (hA : t.saf.estA = s.saf.estA) (hB : t.saf.estB = s.saf.estB) (b : Bool) :
    t.estop b = s.estop b := by
  rw [estop, estop, hA, hB]

@[simp] theorem State.estop_setEstop_same (s : State) (b : Bool) (f : Estop → Estop) :
    (s.setEstop b f).estop b = f (s.estop b) := by
  cases b <;> rfl

@[simp] theorem State.estop_setEstop_other (s : State) (b : Bool) (f : Estop → Estop) :
    (s.setEstop b f).estop (!b) = s.estop (!b) := by
  cases b <;> rfl

@[simp] theorem State.setEstop_nEstopFlt (s : State) (b : Bool) (f : Estop → Estop) :
    (s.setEstop b f).saf.nEstopFlt = s.saf.nEstopFlt := by
  cases b <;> rfl

@[simp] theorem State.estopPaired_estop (s : State) (b : Bool) : s.estopPaired.estop b = s.estop b :=
  State.estop_of_saf rfl rfl b

@[simp] theorem State.estopPaired_nEstopFlt (s : State) : s.estopPaired.saf.nEstopFlt = s.saf.nEstopFlt := rfl

@[simp] theorem State.estopLatched_saf (s : State) (e : Event) (n : List Nat) :
    (s.estopLatched e n).saf = { s.saf with nEstopFlt := s.saf.nEstopFlt + 1 } :=
  event_saf ..

@[simp] theorem State.estopLatched_estop (s : State) (e : Event) (n : List Nat) (b : Bool) :
    (s.estopLatched e n).estop b = s.estop b :=
  State.estop_of_saf (by simp) (by simp) b

theorem exec_estopFilterExpiry (s : State) (b run : Bool) :
    exec (.estopFilterExpiry b run) s =
      .next (s.setEstop b fun e => { e with raw := run, filt := !run }).estopPaired := rfl

theorem exec_estopUnstable (s : State) (b : Bool) :
    exec (.estopUnstable b) s =
      .next (if (s.estop b).unst = true then (s.setEstop b fun e => { e with unst := true, unstableNow := true }).estopPaired
        else (s.setEstop b fun e => { e with unst := true, unstableNow := true }).estopPaired.estopLatched .estopFault
          [bit b, 1]) := rfl

theorem exec_estopStable (s : State) (b : Bool) :
    exec (.estopStable b) s =
      .next (if (s.estop b).unstableNow = true then
          (s.setEstop b fun e => { e with unstableNow := false, raw := true, filt := false }).estopPaired
        else s) := rfl

/-- R242: a channel after a pair of test pulses: a level that is not the pulse's latches its fault, and the pulses that
were followed are counted, up to 10. -/
def Estop.pulsed (e : Estop) (high low followed : Bool) : Estop :=
  { e with
    tpf := e.tpf || (high || low)
    followed := if followed = true ∧ high = false ∧ low = false then min 10 (e.followed + 1) else 0 }

theorem exec_estopTestPulse_of_otherMode {s : State} (b high low followed : Bool) (hmode : s.saf.cfg.mode ≠ 0) :
    exec (.estopTestPulse b high low followed) s = .next s :=
  if_pos hmode

/-- R242: in mode 0 the channel takes its pulses, and a fault that is new is counted. -/
theorem exec_estopTestPulse_of_pulseMode {s : State} (b high low followed : Bool) (hmode : s.saf.cfg.mode = 0) :
    exec (.estopTestPulse b high low followed) s =
      .next (if (high || low) = true ∧ (s.estop b).tpf = false then
          (s.setEstop b (·.pulsed high low followed)).estopLatched .estopFault [bit b, 0]
        else s.setEstop b (·.pulsed high low followed)) := by
  refine (if_neg (not_not.mpr hmode)).trans ?_
  simp [Estop.pulsed]

theorem exec_discrepancyTimeout_of_none {s : State} (hnone : s.saf.discSince = none) :
    exec .discrepancyTimeout s = .next s := by
  change execDiscrepancyTimeout s = _
  rw [execDiscrepancyTimeout, hnone]

theorem exec_discrepancyTimeout_of_some {s : State} {since : Nat} (hsince : s.saf.discSince = some since) :
    exec .discrepancyTimeout s =
      .next (((s.reachNs (since + s.saf.cfg.discrepancy * 1000000)).setSaf fun k =>
        { k with disc := true, discSince := none, discBoth := false, discClr := false }).estopLatched .discrepancy []) := by
  change execDiscrepancyTimeout s = _
  rw [execDiscrepancyTimeout, hsince]

/-! ### The statement -/

/-- Settles O29: the limit by whether degraded operation is timed, the outputs by their keep-alive and their read-back, and
each event of an ESTOP input by what it changes of its channel. -/
theorem stopOutputs : Obligations.StopOutputs := by
  unfold Obligations.StopOutputs
  refine ⟨fun s => ⟨?_, ⟨_, exec_keepaliveTimeout s, ?_⟩, fun ok => ⟨_, exec_stopOutTestPulse_A s ok, ?_⟩,
      fun ok => ⟨_, exec_stopOutTestPulse_B s ok, ?_⟩⟩,
    fun s b => ⟨fun run => ⟨_, exec_estopFilterExpiry s b run, ?_⟩, ⟨_, exec_estopUnstable s b, ?_⟩,
      ⟨_, exec_estopStable s b, ?_⟩, fun high low followed => ?_, ?_⟩⟩
  · cases hsince : s.saf.degradedAt with
    | none => exact ⟨s, exec_degradedTimeLimit_of_none hsince, fun _ => rfl, by simp⟩
    | some since => exact ⟨_, exec_degradedTimeLimit_of_some hsince, by simp, by simp⟩
  · split
    · rfl
    · exact ⟨rfl, s.setSaf_frame _ _ (by decide)⟩
  · split
    · simp
    · rfl
  · split
    · simp
    · rfl
  · exact ⟨by simp, by simp, by simp +decide⟩
  · split <;> simp
  · split
    · simp
    · rfl
  · by_cases hmode : s.saf.cfg.mode = 0
    · refine ⟨_, exec_estopTestPulse_of_pulseMode b high low followed hmode, ?_⟩
      split <;> simp [Estop.pulsed, hmode]
    · exact ⟨s, exec_estopTestPulse_of_otherMode b high low followed hmode, by simp [hmode]⟩
  · cases hsince : s.saf.discSince with
    | none => exact ⟨s, exec_discrepancyTimeout_of_none hsince, fun _ => rfl, by simp⟩
    | some since => exact ⟨_, exec_discrepancyTimeout_of_some hsince, by simp, by simp⟩

end Sys2Proof.Machine
end

section
/-!
PROOFS. A lane period: the vote and the exclusion of lanes (R222, R223), what a period without a voted record does (R224,
R244), and a demand of SF1 that wins over its reset (R218, R219).
-/
namespace Sys2Proof.Machine

/-! ### The vote (R222, R223) -/

/-- R222, R223: a lane that disagrees in a second period in a row is excluded, and DEGRADED is set. -/
theorem State.laneDisagrees_vote (s : State) (i : Fin 3) :
    (s.laneDisagrees i).saf.lanes =
        s.saf.lanes.set i { s.saf.lanes[i] with
          count := s.saf.lanes[i].count + 1, disagreed := true
          included := s.saf.lanes[i].included && !s.saf.lanes[i].disagreed } ∧
      (s.laneDisagrees i).saf.degraded = (s.saf.degraded || s.saf.lanes[i].disagreed) ∧
      (s.laneDisagrees i).saf.cmds = s.saf.cmds := by
  cases hbefore : s.saf.lanes[i].disagreed <;> simp_all [laneDisagrees]

theorem State.laneVoted_lane_of_ne (s : State) (outs : Vector LaneOut 3) {i j : Fin 3} (hne : i ≠ j) :
    (s.laneVoted outs i).saf.lanes[j] = s.saf.lanes[j] := by
  have hval : i.val ≠ j.val := Fin.val_ne_of_ne hne
  unfold laneVoted
  split_ifs
  · rfl
  · simp [Vector.getElem_set_ne _ _ hval]
  · simp [(s.laneDisagrees_vote i).1, Vector.getElem_set_ne _ _ hval]

theorem State.laneVoted_degraded (s : State) (outs : Vector LaneOut 3) (i : Fin 3) (hdegraded : s.saf.degraded = true) :
    (s.laneVoted outs i).saf.degraded = true := by
  unfold laneVoted
  split_ifs
  · exact hdegraded
  · exact hdegraded
  · simp [(s.laneDisagrees_vote i).2.1, hdegraded]

theorem State.laneVoted_cmds (s : State) (outs : Vector LaneOut 3) (i : Fin 3) :
    (s.laneVoted outs i).saf.cmds = s.saf.cmds := by
  unfold laneVoted
  split_ifs
  · rfl
  · rfl
  · exact (s.laneDisagrees_vote i).2.2

/-- R223: the second disagreement in a row excludes the lane. -/
theorem State.laneVoted_excludes {s : State} {outs : Vector LaneOut 3} {i : Fin 3}
    (hincluded : s.saf.lanes[i].included = true) (hbefore : s.saf.lanes[i].disagreed = true) (hnow : outs[i] ≠ .good) :
    (s.laneVoted outs i).saf.lanes[i].included = false ∧ (s.laneVoted outs i).saf.degraded = true := by
  obtain ⟨hlanes, hdegraded, -⟩ := s.laneDisagrees_vote i
  have hvoted : s.laneVoted outs i = s.laneDisagrees i := by simp_all [laneVoted]
  rw [hvoted, hlanes, hdegraded, hbefore]
  simp

/-- R222: the lanes of a list take their part in the vote, one after the other. -/
def State.lanesVoted (s : State) (outs : Vector LaneOut 3) (l : List (Fin 3)) : State :=
  l.foldl (fun t i => t.laneVoted outs i) s

theorem State.lanesVoted_cmds (s : State) (outs : Vector LaneOut 3) (l : List (Fin 3)) :
    (s.lanesVoted outs l).saf.cmds = s.saf.cmds := by
  induction l generalizing s with
  | nil => rfl
  | cons i l ih => exact (ih _).trans (s.laneVoted_cmds outs i)

theorem State.lanesVoted_degraded {s : State} (outs : Vector LaneOut 3) (l : List (Fin 3))
    (hdegraded : s.saf.degraded = true) : (s.lanesVoted outs l).saf.degraded = true := by
  induction l generalizing s with
  | nil => exact hdegraded
  | cons i l ih => exact ih (s.laneVoted_degraded outs i hdegraded)

theorem State.lanesVoted_lane_of_notMem (s : State) (outs : Vector LaneOut 3) {l : List (Fin 3)} {i : Fin 3}
    (hi : i ∉ l) : (s.lanesVoted outs l).saf.lanes[i] = s.saf.lanes[i] := by
  induction l generalizing s with
  | nil => rfl
  | cons j l ih =>
    obtain ⟨hne, hrest⟩ := not_or.mp (List.mem_cons.not.mp hi)
    exact (ih _ hrest).trans (s.laneVoted_lane_of_ne outs (Ne.symm hne))

/-- R223: no other lane's part in the vote undoes the exclusion of a lane. -/
theorem State.lanesVoted_excludes {s : State} {outs : Vector LaneOut 3} {l : List (Fin 3)} {i : Fin 3}
    (honce : l.Nodup) (hi : i ∈ l) (hincluded : s.saf.lanes[i].included = true)
    (hbefore : s.saf.lanes[i].disagreed = true) (hnow : outs[i] ≠ .good) :
    (s.lanesVoted outs l).saf.lanes[i].included = false ∧ (s.lanesVoted outs l).saf.degraded = true := by
  induction l generalizing s with
  | nil => cases hi
  | cons j l ih =>
    obtain ⟨hj, honce⟩ := List.nodup_cons.mp honce
    change ((s.laneVoted outs j).lanesVoted outs l).saf.lanes[i].included = false ∧
      ((s.laneVoted outs j).lanesVoted outs l).saf.degraded = true
    by_cases hij : i = j
    · subst hij
      obtain ⟨hout, hdegraded⟩ := laneVoted_excludes hincluded hbefore hnow
      rw [State.lanesVoted_lane_of_notMem _ outs hj]
      exact ⟨hout, State.lanesVoted_degraded outs l hdegraded⟩
    · have hlane := s.laneVoted_lane_of_ne outs (Ne.symm hij)
      exact ih honce ((List.mem_cons.mp hi).resolve_left hij) (hlane ▸ hincluded) (hlane ▸ hbefore)

/-! ### The commands of a period (R219, R244) -/

/-- The lanes that the vote counts, and DEGRADED. -/
def Saf.membership (k : Saf) : Vector Bool 3 × Bool := (k.lanes.map Lane.included, k.degraded)

theorem State.setZones_membership (s : State) (z : BitVec 16) : (s.setZones z).saf.membership = s.saf.membership := by
  have hkept : Lane.included ∘ (fun l : Lane => if l.included then { l with zoneRec := z, zoneOk := true } else l) =
      Lane.included := by
    funext l
    dsimp only [Function.comp]
    split <;> rfl
  simp [setZones, Saf.membership, hkept]

theorem State.sf1Reset_membership (s : State) : s.sf1Reset.1.saf.membership = s.saf.membership := by
  simp only [sf1Reset]
  split_ifs <;> simp [Saf.membership]

theorem State.sf4Reset_membership (s : State) : s.sf4Reset.1.saf.membership = s.saf.membership := by
  unfold sf4Reset
  split_ifs <;> simp [Saf.membership]

/-- R244: no command changes which lanes the vote counts. -/
theorem State.safAct_membership (s : State) (l : List SafCmd) (m : SafCmd) :
    (s.safAct l m).1.saf.membership = s.saf.membership := by
  unfold safAct
  split
  · simp
  · split
    · rfl
    · exact s.sf1Reset_membership
    · simp [setZones_membership]
    · simp [setZones_membership]
    · exact s.sf4Reset_membership
    · rfl

@[simp] theorem State.waitDone_saf (s : State) (k : WaitFor) : (s.waitDone k).saf = s.saf :=
  State.saf_of_outside (s.waitDone_frame k [.dict, .out, .ans] (by decide)) rfl

/-- R244, R252: the reply takes its command from those that wait, and stands in SAF_CMDSTAT. -/
theorem State.safReply_saf (s : State) (m : SafCmd) (st : Status) :
    (s.safReply m st).saf =
      { s.saf with cmds := s.saf.cmds.tail, cmdStatus := st.code, cmdStatSeq := m.seq } := by
  rw [safReply, waitDone_saf]
  rfl

/-- The lanes act on a command of the period (log 50: of its list `l`), and reply. -/
def State.safActReply (s : State) (l : List SafCmd) (m : SafCmd) : State :=
  (s.safAct l m).1.safReply m (s.safAct l m).2

theorem State.safActReply_membership (s : State) (l : List SafCmd) (m : SafCmd) :
    (s.safActReply l m).saf.membership = s.saf.membership := by
  rw [safActReply, safReply_saf, ← s.safAct_membership l m]
  rfl

theorem State.safCommand_true (s : State) : s.safCommand true = s.saf.cmds.foldl (·.safActReply s.saf.cmds ·) s := rfl

theorem foldl_safActReply_membership (s : State) (l cmds : List SafCmd) :
    (cmds.foldl (·.safActReply l ·) s).saf.membership = s.saf.membership := by
  induction cmds generalizing s with
  | nil => rfl
  | cons m cmds ih => exact (ih _).trans (s.safActReply_membership l m)

theorem foldl_safReply_cmds (s : State) (st : Status) (l : List SafCmd) :
    (l.foldl (·.safReply · st) s).saf.cmds = s.saf.cmds.drop l.length := by
  induction l generalizing s with
  | nil => rfl
  | cons m l ih => rw [List.foldl_cons, ih, State.safReply_saf, List.drop_tail, List.length_cons]

/-- R244: without a voted record every command of the period is answered. -/
theorem State.safCommand_false_cmds (s : State) : (s.safCommand false).saf.cmds = [] :=
  (foldl_safReply_cmds s .denied s.saf.cmds).trans List.drop_length

/-! ### A demand of SF1 beside its reset (R218, R219) -/

/-- R219: SF1_RESET loses to an SF1_STOP of its period. -/
theorem SafCmd.loses_of_sf1Reset {l : List SafCmd} {m : SafCmd} (hstop : ∃ x ∈ l, x.code = 1) (hreset : m.code.toNat = 2) :
    m.loses l = true := by
  simpa [loses, hreset] using hstop

/-- R219: with an SF1_STOP among the commands of the period none takes the demand back, and the SF1_STOP makes it. -/
theorem State.safAct_sf1Cmd {s : State} {l : List SafCmd} {m : SafCmd} (hstop : ∃ x ∈ l, x.code = 1)
    (hdemand : s.saf.sf1Cmd = true ∨ m.code = 1) : (s.safAct l m).1.saf.sf1Cmd = true := by
  by_cases hcode : m.code = 1
  · simp [safAct, SafCmd.loses, hcode]
  · have hbefore := hdemand.resolve_right hcode
    unfold safAct
    split
    · simpa using hbefore
    · next hwins =>
      split
      · rfl
      · next hreset => exact absurd (SafCmd.loses_of_sf1Reset hstop hreset) hwins
      · simpa [setZones] using hbefore
      · simpa [setZones] using hbefore
      · unfold sf4Reset
        split_ifs <;> simpa using hbefore
      · exact hbefore

theorem State.safActReply_sf1Cmd {s : State} {l : List SafCmd} {m : SafCmd} (hstop : ∃ x ∈ l, x.code = 1)
    (hdemand : s.saf.sf1Cmd = true ∨ m.code = 1) : (s.safActReply l m).saf.sf1Cmd = true := by
  rw [safActReply, safReply_saf]
  exact State.safAct_sf1Cmd hstop hdemand

theorem foldl_safActReply_sf1Cmd {s : State} {l cmds : List SafCmd} (hstop : ∃ x ∈ l, x.code = 1)
    (hdemand : s.saf.sf1Cmd = true ∨ ∃ m ∈ cmds, m.code = 1) :
    (cmds.foldl (·.safActReply l ·) s).saf.sf1Cmd = true := by
  induction cmds generalizing s with
  | nil => simpa using hdemand
  | cons m cmds ih =>
    refine ih ?_
    rw [List.exists_mem_cons_iff, ← or_assoc] at hdemand
    exact hdemand.imp_left (State.safActReply_sf1Cmd hstop)

/-- R218: SF1 is Active while it is demanded; log 45: by an SF1_STOP until its reset. -/
theorem State.sf1Settle_sf1 {s : State} (hdemand : s.saf.sf1Cmd = true) : s.sf1Settle.saf.sf1 = .active := by
  have hsf1 : s.saf.sf1Demand = true := by simp [Saf.sf1Demand, hdemand]
  by_cases hactive : s.saf.sf1 = .active <;> simp [sf1Settle, hsf1, hactive]

theorem State.sf1Settle_membership (s : State) : s.sf1Settle.saf.membership = s.saf.membership := by
  simp only [sf1Settle]
  split_ifs <;> simp [Saf.membership]

/-! ### What follows in the period (R226 to R230, R236) -/

/-- What a lane period has decided of the lanes and of SF1. -/
def Saf.verdict (k : Saf) : (Vector Bool 3 × Bool) × Sf1State := (k.membership, k.sf1)

/-- The entry to the safe state decides nothing of the lanes or SF1. -/
theorem Saf.verdict_of_offSafe {k k' : Saf} (h : k.offSafe = k'.offSafe) : k.verdict = k'.verdict :=
  (congrArg Saf.verdict h : k.offSafe.verdict = k'.offSafe.verdict)

theorem Saf.verdict_of_offAir {k k' : Saf} (h : k.offAir = k'.offAir) : k.verdict = k'.verdict :=
  (congrArg Saf.verdict h : k.offAir.verdict = k'.offAir.verdict)

theorem State.loopMissed_verdict (s : State) : s.loopMissed.saf.verdict = s.saf.verdict :=
  (Saf.verdict_of_offSafe s.loopMissed_offSafe).trans rfl

@[simp] theorem State.wordStale_saf (s : State) : s.wordStale.saf = s.saf :=
  State.saf_of_outside (s.wordStale_frame [.tsl, .dict, .evr, .out] (by decide)) rfl

theorem State.laneBoundary_verdict (s : State) (badWords : BitVec 8) :
    (s.laneBoundary badWords).saf.verdict = s.saf.verdict := by
  simp only [laneBoundary]
  by_cases hawaited : s.saf.loopback = .awaited
  · rw [if_pos hawaited, ← s.loopMissed_verdict]
    split <;> simp [Saf.verdict, Saf.membership]
  · rw [if_neg hawaited]
    split <;> simp [Saf.verdict, Saf.membership]

theorem State.keepAliveSet_verdict (s : State) : s.keepAliveSet.saf.verdict = s.saf.verdict := rfl

theorem State.burstOnRise_verdict (s : State) (before : Saf) : (s.burstOnRise before).saf.verdict = s.saf.verdict := by
  simp only [burstOnRise]
  split
  · exact Saf.verdict_of_offAir (State.burstRequest_offAir ..)
  · rfl

theorem State.outFault_verdict (s : State) (a b : Bool) : (s.outFault a b).saf.verdict = s.saf.verdict :=
  (Saf.verdict_of_offSafe (s.outFault_offSafe a b)).trans rfl

@[simp] theorem State.takeGroup_saf (s : State) : s.takeGroup.2.saf = s.saf :=
  State.saf_of_outside (s.takeGroup_frame [.frames, .evr, .out] (by decide)) rfl

@[simp] theorem State.fraAirAt_saf (s : State) (at' : Nat) (fr : FraFrame) (ch : BitVec 12) (half us : Nat) :
    (s.fraAirAt at' fr ch half us).saf = s.saf :=
  State.saf_of_outside (s.fraAirAt_frame at' fr ch half us [.fra, .out] (by decide)) rfl

@[simp] theorem State.takeoverTime_saf (s : State) : s.takeoverTime.saf = s.saf :=
  State.saf_of_outside (s.takeoverTime_frame [.pair] (by decide)) rfl

theorem State.permitSend_offAir (s : State) (at' : Nat) (ch : BitVec 12) :
    (s.permitSend at' ch).1.saf.offAir = s.saf.offAir := by
  simp only [permitSend]
  split
  · rfl
  · split
    · simp
    · split
      · rw [takeGroup_saf]
      · split <;> simp [Saf.offAir]

theorem State.permitNext_offAir (s : State) (w : Nat) : (s.permitNext w).saf.offAir = s.saf.offAir := by
  simp only [permitNext]
  split <;> rfl

theorem State.permitBad_offSafe (s : State) : s.permitBad.saf.offSafe = s.saf.offSafe :=
  State.safeEnter_offSafe ..

theorem State.permitGo_offSafe (s : State) (w at' : Nat) (ch : BitVec 12) (bufferOk : Bool) :
    (s.permitGo w at' ch bufferOk).saf.offSafe = s.saf.offSafe := by
  simp only [permitGo]
  split_ifs
  · rw [Saf.offSafe, permitSend_offAir, Saf.offSafe]
  · rw [Saf.offSafe, permitNext_offAir, permitSend_offAir, Saf.offSafe]
  · exact s.permitBad_offSafe

/-- R229: a permit that the vote completes leaves what the entry to the safe state leaves. -/
theorem State.permitVoted_offSafe (s : State) : s.permitVoted.saf.offSafe = s.saf.offSafe := by
  unfold permitVoted
  split
  · rfl
  · dsimp only
    split
    · exact State.permitGo_offSafe ..
    · rfl

theorem State.boundaryLost_offSafe (s : State) : s.boundaryLost.saf.offSafe = s.saf.offSafe := by
  unfold boundaryLost
  split
  · split
    · exact s.safeEnter_offSafe 7
    · rfl
  · rfl

theorem State.ite_verdict {c : Prop} [Decidable c] {s t u : State} (ht : t.saf.verdict = s.saf.verdict)
    (hu : u.saf.verdict = s.saf.verdict) : (if c then t else u).saf.verdict = s.saf.verdict := by
  split
  · exact ht
  · exact hu

/-- What a voted record does after the commands and the demands leaves the lanes and SF1. -/
theorem State.laneApply_verdict (s : State) (badWords : BitVec 8) (stuck : BitVec 2) :
    (s.laneApply badWords stuck).saf.verdict = (s.safCommand true).sf1Settle.saf.verdict := by
  refine (Saf.verdict_of_offSafe (State.permitVoted_offSafe _)).trans ?_
  refine (State.ite_verdict rfl (State.outFault_verdict ..)).trans ?_
  refine (State.burstOnRise_verdict ..).trans ?_
  refine (State.keepAliveSet_verdict _).trans ?_
  exact State.ite_verdict rfl (State.laneBoundary_verdict ..)

/-! ### The period -/

/-- The period has come: ESTOP levels are read, and short low levels counted (R221, R239). -/
def State.periodBegun (s : State) (e : EstopIn) : State :=
  (s.reachTb4 ((s.tb4ns / 250000 + 1) * 250000)).setSaf fun k => { k with
    estA := { k.estA with raw := e.level.getLsbD 0 }, estB := { k.estB with raw := e.level.getLsbD 1 }
    nShortLow := k.nShortLow + BitVec.ofNat 32 e.shortLows }

@[simp] theorem State.periodBegun_lanes (s : State) (e : EstopIn) : (s.periodBegun e).saf.lanes = s.saf.lanes := by
  simp [periodBegun]

@[simp] theorem State.periodBegun_cmds (s : State) (e : EstopIn) : (s.periodBegun e).saf.cmds = s.saf.cmds := by
  simp [periodBegun]

theorem State.periodBegun_voted (s : State) (e : EstopIn) (outs : Vector LaneOut 3) :
    (s.periodBegun e).saf.voted outs = s.saf.voted outs := by
  rw [Saf.voted, Saf.nLanes, Saf.nGood, periodBegun_lanes]
  rfl

/-- R221: no lane runs in *Start-up* and in *Dormant*. -/
theorem exec_lanePeriod_of_asleep {s : State} (outs : Vector LaneOut 3) (badWords : BitVec 8) (stuck : BitVec 2)
    (e : EstopIn) (hasleep : s.dev.dstate = .startUp ∨ s.dev.dstate = .dormant) :
    exec (.lanePeriod outs badWords stuck e) s = .next s :=
  if_pos (by simpa using hasleep)

/-- R222: elsewhere the period goes by whether the voter has a voted record. -/
theorem exec_lanePeriod_of_awake {s : State} (outs : Vector LaneOut 3) (badWords : BitVec 8) (stuck : BitVec 2)
    (e : EstopIn) (hawake : ¬ (s.dev.dstate = .startUp ∨ s.dev.dstate = .dormant)) :
    exec (.lanePeriod outs badWords stuck e) s =
      .next (if s.saf.voted outs = true then
          (((s.periodBegun e).lanesVoted outs (List.finRange 3)).laneApply badWords stuck).boundaryLost
        else ((s.periodBegun e).lanesApart.safCommand false).safeEnter 1) := by
  rw [← s.periodBegun_voted e outs, apply_ite Host.Outcome.next]
  exact if_neg (by simpa using hawake)

/-- R224, R244: without a voted record the safe state is in force and no command waits. -/
theorem State.unvoted_saf (s : State) :
    ((s.safCommand false).safeEnter 1).saf.safe = true ∧ ((s.safCommand false).safeEnter 1).saf.cmds = [] :=
  ⟨State.safeEnter_safe .., (congrArg Saf.cmds (State.safeEnter_offSafe ..)).trans s.safCommand_false_cmds⟩

/-- What a period with a voted record decides stands at its end. -/
theorem State.voted_verdict (s : State) (badWords : BitVec 8) (stuck : BitVec 2) :
    (s.laneApply badWords stuck).boundaryLost.saf.verdict = (s.saf.membership, (s.safCommand true).sf1Settle.saf.sf1) := by
  rw [Saf.verdict_of_offSafe (State.boundaryLost_offSafe _), laneApply_verdict, Saf.verdict, sf1Settle_membership,
    safCommand_true, foldl_safActReply_membership]

/-- R218, R219: an SF1_STOP among the commands makes SF1 Active. -/
theorem State.voted_sf1 {s : State} (badWords : BitVec 8) (stuck : BitVec 2) (hstop : ∃ m ∈ s.saf.cmds, m.code = 1) :
    (s.laneApply badWords stuck).boundaryLost.saf.sf1 = .active :=
  (congrArg Prod.snd (s.voted_verdict badWords stuck)).trans
    (State.sf1Settle_sf1 (foldl_safActReply_sf1Cmd hstop (.inr hstop)))

/-- R223: a lane that the vote has excluded is excluded at the end of the period, and DEGRADED set. -/
theorem State.voted_excluded {s : State} (badWords : BitVec 8) (stuck : BitVec 2) {i : Fin 3}
    (hvote : s.saf.lanes[i].included = false ∧ s.saf.degraded = true) :
    (s.laneApply badWords stuck).boundaryLost.saf.lanes[i].included = false ∧
      (s.laneApply badWords stuck).boundaryLost.saf.degraded = true := by
  have hmembership := congrArg Prod.fst (s.voted_verdict badWords stuck)
  obtain ⟨hlanes, hdegraded⟩ := Prod.ext_iff.mp hmembership
  have hlane := congrArg (·[i]) hlanes
  simp only [Saf.verdict, Saf.membership, Fin.getElem_fin, Vector.getElem_map] at hlane hdegraded
  exact ⟨hlane.trans hvote.1, hdegraded.trans hvote.2⟩

/-! ### The statement -/

/-- Settles O28: no lane runs in *Start-up* and *Dormant*; elsewhere by the vote, whose exclusions and whose SF1 nothing later
in the period takes back. -/
theorem lanePeriod : Obligations.LanePeriod := by
  unfold Obligations.LanePeriod
  intro s outs badWords stuck e
  by_cases hasleep : s.dev.dstate = .startUp ∨ s.dev.dstate = .dormant
  · exact ⟨s, exec_lanePeriod_of_asleep outs badWords stuck e hasleep, fun _ => rfl,
      fun hstart hdormant => absurd hasleep (not_or.mpr ⟨hstart, hdormant⟩)⟩
  · refine ⟨_, exec_lanePeriod_of_awake outs badWords stuck e hasleep, fun h => absurd h hasleep, fun _ _ => ⟨?_, ?_⟩⟩
    · intro hnone
      rw [if_neg (by simp [hnone])]
      exact State.unvoted_saf _
    · intro hvoted
      rw [if_pos hvoted]
      refine ⟨fun hstop => State.voted_sf1 _ _ ?_, fun i hincluded hbefore hnow => State.voted_excluded _ _ ?_⟩
      · rwa [State.lanesVoted_cmds, State.periodBegun_cmds]
      · rw [← s.periodBegun_lanes e] at hincluded hbefore
        exact State.lanesVoted_excludes (List.nodup_finRange 3) (List.mem_finRange i) hincluded hbefore hnow

end Sys2Proof.Machine
end

section
/-!
PROOFS. The outputs and inputs of the time bases: validity, PPS pulses, event captures, the leap second, the fall-back
counter and the clock failure (R332, R333, R335, R337, R339, R341, R625).
-/
namespace Sys2Proof.Machine

/-! ### What a move to an instant leaves of TIM -/

@[simp] theorem State.reachBase_pps (s : State) (n : Fin 5) (ns : Nat) : (s.reachBase n ns).tim.pps = s.tim.pps := by
  unfold reachBase
  split <;> rfl

@[simp] theorem State.reachBase_out (s : State) (n : Fin 5) (ns : Nat) : (s.reachBase n ns).out = s.out :=
  State.out_of_outside (s.reachBase_frame n ns [.tim, .evr] (by decide))

/-! ### Validity of a base's time (R332, R333) -/

@[simp] theorem State.applyGates_ticks (s : State) (n : Fin 5) : (s.applyGates n).tim.ticks = s.tim.ticks := by
  simp only [applyGates]
  split <;> rfl

@[simp] theorem State.applyGates_dict (s : State) (n : Fin 5) : (s.applyGates n).dict = s.dict :=
  State.dict_of_outside (s.applyGates_frame n [.tim] (by decide))

theorem State.applyGates_base (s : State) (n : Fin 5) :
    (s.applyGates n).tim.base = (s.setTb n fun b => { b with validNow := s.timeValid n }).tim.base := by
  simp only [applyGates]
  split <;> rfl

/-- R333: applied to the outputs of a base, the validity is noted in the base; no base changes otherwise. -/
theorem State.applyGates_tb (s : State) (n m : Fin 5) :
    (s.applyGates n).tb m = if m = n then { s.tb n with validNow := s.timeValid n } else s.tb m :=
  (congrArg (·[m]) (s.applyGates_base n)).trans (s.tb_setTb n m _)

/-- The time-error estimate that R332 takes from the record of one base. -/
def State.baseError (s : State) (b : Base) : Option Nat :=
  match b.st with
  | .locked => some (b.es + b.delta.natAbs)
  | .catchup => some (b.es + (b.slew.natAbs + nsUnit - 1) / nsUnit)
  | .free => b.te0
  | _ => b.te0.map fun t0 =>
      let t := s.tb5ns - b.te0At
      t0 + (s.od 0x4000 4 2000 * t + 99999999999) / 100000000000 +
        (s.od 0x4000 5 50 * t * t + 1999999999999999999999) / 2000000000000000000000

theorem State.te_eq_baseError (s : State) (n : Fin 5) :
    s.te n = s.baseError (if (s.tb n).track = true then s.tb 0 else s.tb n) := rfl

theorem State.od_of_dict {s t : State} (h : t.dict = s.dict) (idx sub dflt : Nat) :
    t.od idx sub dflt = s.od idx sub dflt := by
  rw [od, od, h]

theorem State.baseError_of_same {s t : State} (hdict : t.dict = s.dict) (hticks : t.tim.ticks = s.tim.ticks)
    (b : Base) : t.baseError b = s.baseError b := by
  rw [baseError, baseError, tb5ns, tb5ns, hticks, State.od_of_dict hdict, State.od_of_dict hdict]

/-- What does not read the validity noted in a base reads there what it read before. -/
theorem State.applyGates_tb_congr {α : Type} (s : State) (n m : Fin 5) (f : Base → α)
    (hf : ∀ b v, f { b with validNow := v } = f b) : f ((s.applyGates n).tb m) = f (s.tb m) := by
  rw [applyGates_tb]
  split
  · next hm => rw [hf, hm]
  · rfl

/-- R332: no estimate rests on the validity that was noted. -/
theorem State.applyGates_te (s : State) (n m : Fin 5) : (s.applyGates n).te m = s.te m := by
  rw [te_eq_baseError, te_eq_baseError, s.applyGates_tb_congr n m Base.track fun _ _ => rfl,
    State.baseError_of_same (s.applyGates_dict n) (s.applyGates_ticks n)]
  split
  · exact s.applyGates_tb_congr n 0 s.baseError fun _ _ => rfl
  · exact s.applyGates_tb_congr n m s.baseError fun _ _ => rfl

theorem State.applyGates_timeValid (s : State) (n m : Fin 5) : (s.applyGates n).timeValid m = s.timeValid m := by
  rw [timeValid, timeValid, applyGates_te, State.od_of_dict (s.applyGates_dict n)]

/-- R333: once applied, the validity noted is the validity in force. -/
theorem State.applyGates_validNow (s : State) (n : Fin 5) :
    ((s.applyGates n).tb n).validNow = (s.applyGates n).timeValid n := by
  rw [applyGates_timeValid, applyGates_tb, if_pos rfl]

/-- R332, R333: a change of validity acts at the next second of the base. -/
theorem exec_timeValidityChange (s : State) (n : Fin 5) :
    exec (.timeValidityChange n) s =
      .next (if (s.tb n).validNow = s.timeValid n then s
        else (s.reachBase n (((s.tb n).sec + 1) * 1000000000)).applyGates n) :=
  (apply_ite Host.Outcome.next ..).symm

/-! ### PPS outputs (R325, R339) -/

/-- Puts a PPS output back. -/
def State.putPps (s : State) (p : Fin 2) (o : Pps) : State := { s with tim := { s.tim with pps := s.tim.pps.set p o } }

@[simp] theorem State.putPps_pps (s : State) (p : Fin 2) (o : Pps) : (s.putPps p o).tim.pps[p] = o := by
  simp [putPps]

@[simp] theorem State.putPps_out (s : State) (p : Fin 2) (o : Pps) : (s.putPps p o).out = s.out := rfl

/-- R339: an output after a pulse of so many ms. -/
def Pps.pulsed (o : Pps) (width : Nat) : Pps := { o with count := o.count + 1, suppr := false, lastWidth := width }

/-- R339: a pulse of so many ms leaves the output. -/
def State.pulse (s : State) (p : Fin 2) (width : Nat) : State :=
  (s.putPps p (s.tim.pps[p].pulsed width)).emit (.pps p width)

@[simp] theorem State.pulse_pps (s : State) (p : Fin 2) (width : Nat) :
    (s.pulse p width).tim.pps[p] = s.tim.pps[p].pulsed width :=
  s.putPps_pps p _

@[simp] theorem State.pulse_out (s : State) (p : Fin 2) (width : Nat) :
    (s.pulse p width).out = .pps p width :: s.out := rfl

/-- R325, R333, R339: a second of an output: while enabled, it omits its pulse, suppresses it or sends it. -/
def State.ppsSecond (s : State) (p : Fin 2) (n : Fin 5) : State :=
  if !s.tim.pps[p].en then s
  else if s.tim.pps[p].omit' then s.putPps p { s.tim.pps[p] with omit' := false, skip := true }
  else if !s.tim.pps[p].gate then s.putPps p { s.tim.pps[p] with suppr := true }
  else s.pulse p (s.ppsWidth n s.tim.pps[p])

/-- R353: settings of the dictionary that wait are taken over before the second. -/
theorem State.ppsBoundary_eq_ppsSecond (s : State) (p : Fin 2) (n : Fin 5) :
    s.ppsBoundary p n = (if s.tim.pps[p].odPend then (s.ppsFromOd p).applyGates n else s).ppsSecond p n := rfl

theorem State.ppsBoundary_of_noOdPend {s : State} {p : Fin 2} (n : Fin 5) (hnone : s.tim.pps[p].odPend = false) :
    s.ppsBoundary p n = s.ppsSecond p n := by
  rw [ppsBoundary_eq_ppsSecond, hnone]
  rfl

theorem State.ppsSecond_of_disabled {s : State} {p : Fin 2} (n : Fin 5) (hdisabled : s.tim.pps[p].en = false) :
    s.ppsSecond p n = s :=
  if_pos (congrArg not hdisabled)

theorem State.ppsSecond_of_omit {s : State} {p : Fin 2} (n : Fin 5) (hen : s.tim.pps[p].en = true)
    (homit : s.tim.pps[p].omit' = true) :
    s.ppsSecond p n = s.putPps p { s.tim.pps[p] with omit' := false, skip := true } :=
  (if_neg (by rw [hen]; decide)).trans (if_pos homit)

theorem State.ppsSecond_of_shut {s : State} {p : Fin 2} (n : Fin 5) (hen : s.tim.pps[p].en = true)
    (hnot : s.tim.pps[p].omit' = false) (hshut : s.tim.pps[p].gate = false) :
    s.ppsSecond p n = s.putPps p { s.tim.pps[p] with suppr := true } :=
  (if_neg (by rw [hen]; decide)).trans ((if_neg (by rw [hnot]; decide)).trans (if_pos (congrArg not hshut)))

theorem State.ppsSecond_of_open {s : State} {p : Fin 2} (n : Fin 5) (hen : s.tim.pps[p].en = true)
    (hnot : s.tim.pps[p].omit' = false) (hopen : s.tim.pps[p].gate = true) :
    s.ppsSecond p n = s.pulse p (s.ppsWidth n s.tim.pps[p]) :=
  (if_neg (by rw [hen]; decide)).trans ((if_neg (by rw [hnot]; decide)).trans (if_neg (by rw [hopen]; decide)))

theorem exec_ppsPulse_of_noBase {s : State} {p : Fin 2} (hnone : baseOf s.tim.pps[p].src = none) :
    exec (.ppsPulse p) s = .next s := by
  change execPpsPulse p s = _
  rw [execPpsPulse, hnone]

theorem exec_ppsPulse_of_base {s : State} {p : Fin 2} {n : Fin 5} (hbase : baseOf s.tim.pps[p].src = some n) :
    exec (.ppsPulse p) s = .next ((s.reachBase n (((s.tb n).sec + 1) * 1000000000)).ppsBoundary p n) := by
  change execPpsPulse p s = _
  rw [execPpsPulse, hbase]

/-- R339: the second of the output finds the outputs as they were. -/
theorem runs_ppsPulse_of_base {s : State} {p : Fin 2} {n : Fin 5} (hbase : baseOf s.tim.pps[p].src = some n) :
    Runs (.ppsPulse p) s fun t => ∃ u : State, u.tim.pps = s.tim.pps ∧ u.out = s.out ∧ t = u.ppsBoundary p n :=
  ⟨_, exec_ppsPulse_of_base hbase, _, s.reachBase_pps n _, s.reachBase_out n _, rfl⟩

/-! ### Event inputs (R341) -/

@[simp] theorem State.setEvt_evt (s : State) (i : Fin 4) (f : Evt → Evt) :
    (s.setEvt i f).tim.evt[i] = f s.tim.evt[i] := by
  simp [setEvt]

theorem State.enginePush_tim {s u : State} {n : Fin 32} {ws : List Dword} (hpush : s.enginePush n ws = some u) :
    u.tim = s.tim :=
  State.tim_of_outside (State.enginePush_frame hpush [.cores, .ques] rfl) rfl

/-- R341: the input is enabled for edges of this direction. -/
def Evt.wants (e : Evt) (rising : Bool) : Bool :=
  e.en && (if rising then e.edge.getLsbD 0 else e.edge.getLsbD 1)

theorem Evt.wants_of_edge {e : Evt} {rising : Bool} (hen : e.en = true)
    (hedge : e.edge.getLsbD (if rising then 0 else 1) = true) : e.wants rising = true := by
  cases rising <;> exact Bool.and_eq_true_iff.mpr ⟨hen, hedge⟩

theorem Evt.en_of_wants {e : Evt} {rising : Bool} (hwants : e.wants rising = true) : e.en = true :=
  (Bool.and_eq_true_iff.mp hwants).1

/-- R341: the last edge captured lies within 100 ns before `now`. -/
def Evt.close (e : Evt) (now : Nat) : Bool :=
  match e.prev with
  | some t => now < t + 100
  | none => false

theorem Evt.close_of_some {e : Evt} {p now : Nat} (hprev : e.prev = some p) (hnear : now < p + 100) :
    e.close now = true := by
  simp [close, hprev, hnear]

theorem Evt.close_of_none {e : Evt} (now : Nat) (hnone : e.prev = none) : e.close now = false := by
  rw [close, hnone]

/-- R341: an edge within 100 ns of the last gives its record no time: it is lost, and its number used up. -/
def Evt.missed (e : Evt) : Evt := { e with seq := e.seq + 1, lost := true }

/-- R341: an edge captured. -/
def Evt.captured (e : Evt) (ns : BitVec 32) (now : Nat) : Evt :=
  { e with last := ns, prev := some now, seq := e.seq + 1 }

theorem exec_evtCapture_of_unwanted {s : State} {i : Fin 4} {rising : Bool} (hnot : s.tim.evt[i].wants rising = false) :
    exec (.evtCapture i rising) s = .next s :=
  if_pos (congrArg not hnot)

theorem exec_evtCapture_of_close {s : State} {i : Fin 4} {rising : Bool} (hwants : s.tim.evt[i].wants rising = true)
    (hclose : s.tim.evt[i].close s.tb5ns = true) :
    exec (.evtCapture i rising) s = .next (s.setEvt i Evt.missed) :=
  (if_neg (by rw [← Evt.wants, hwants]; decide)).trans (if_pos hclose)

/-- R341: the edge captured, stamped by the source base. -/
def State.evtCaptured (s : State) (i : Fin 4) : State :=
  s.setEvt i (·.captured (s.nsOf s.tim.evt[i].src) s.tb5ns)

/-- R341: what becomes of a record: its queue took it and the interrupt is raised, or it is dropped and counted. The
next record tells by LOST. -/
def State.evtDelivered (s : State) (i : Fin 4) : Option State → State
  | some t => (t.setEvt i fun e => { e with lost := false }).raise (26 + i.val)
  | none => (s.setEvt i fun e => { e with lost := true }).setTim fun t => { t with evtDropped := bump t.evtDropped }

theorem State.evtDelivered_evt {s : State} (i : Fin 4) {pushed : Option State}
    (hpushed : ∀ t, pushed = some t → t.tim = s.tim) :
    ∃ lost, (s.evtDelivered i pushed).tim.evt[i] = { s.tim.evt[i] with lost := lost } := by
  cases pushed with
  | none => exact ⟨true, s.setEvt_evt i fun e => { e with lost := true }⟩
  | some t => exact ⟨false, hpushed t rfl ▸ t.setEvt_evt i fun e => { e with lost := false }⟩

theorem exec_evtCapture_of_apart {s : State} {i : Fin 4} {rising : Bool} (hwants : s.tim.evt[i].wants rising = true)
    (hapart : s.tim.evt[i].close s.tb5ns = false) :
    exec (.evtCapture i rising) s =
      .next ((s.evtCaptured i).evtDelivered i ((s.evtCaptured i).enginePush (queueOf s.tim.evt[i].queue)
        [evtRecord (s.nsOf s.tim.evt[i].src) i rising s.tim.evt[i].src s.tim.evt[i].lost s.tim.evt[i].seq])) := by
  refine (if_neg (by rw [← Evt.wants, hwants]; decide)).trans ((if_neg ?_).trans ?_)
  · exact fun hclose => Bool.false_ne_true (hapart.symm.trans hclose)
  · change (match (s.evtCaptured i).enginePush (queueOf s.tim.evt[i].queue)
        [evtRecord (s.nsOf s.tim.evt[i].src) i rising s.tim.evt[i].src s.tim.evt[i].lost s.tim.evt[i].seq] with
      | some t => _
      | none => _) = _
    unfold State.evtDelivered
    split <;> rfl

/-- R341: an edge apart from the last leaves its time and takes the next number. -/
theorem runs_evtCapture_of_apart {s : State} {i : Fin 4} {rising : Bool} (hwants : s.tim.evt[i].wants rising = true)
    (hapart : s.tim.evt[i].close s.tb5ns = false) :
    Runs (.evtCapture i rising) s fun t => ∃ lost,
      t.tim.evt[i] = { s.tim.evt[i].captured (s.nsOf s.tim.evt[i].src) s.tb5ns with lost := lost } := by
  refine ⟨_, exec_evtCapture_of_apart hwants hapart, ?_⟩
  rw [← s.setEvt_evt i (·.captured (s.nsOf s.tim.evt[i].src) s.tb5ns)]
  exact State.evtDelivered_evt i fun t => State.enginePush_tim

/-! ### The leap second (R335) -/

theorem exec_leapSecondApply_of_none {s : State} (hnone : s.tim.leapPend = 0) : exec .leapSecondApply s = .next s :=
  if_pos hnone

/-- R335: the leap second counted at its instant. -/
def State.leapApplied (s : State) : State :=
  (s.reachTb0 (s.tim.leapAt * 1000000000)).setTim fun t => { t with
    leap := if s.tim.leapPend = 1 then s.tim.leap + 1 else s.tim.leap - 1
    leapPend := 0 }

theorem exec_leapSecondApply_of_pending {s : State} (hpending : s.tim.leapPend ≠ 0) :
    exec .leapSecondApply s = .next s.leapApplied :=
  if_neg hpending

/-! ### The fall-back counter (R336, R337) -/

theorem Fbc.reaches_firstEdge (f : Fbc) : fbcTick ≤ f.phase + 32 * ((fbcTick - f.phase + 31) / 32) := by
  omega

/-- R337: a load that was asked for is done at a crystal edge and makes the counter valid. -/
theorem Fbc.after_of_edge (f : Fbc) (tb0 : Base) {n : Nat} (hedge : fbcTick ≤ f.phase + 32 * n) :
    (f.after tb0 n).loadReq = false ∧ (f.after tb0 n).valid = (f.valid || f.loadReq) := by
  have hticks : (f.phase + 32 * n) / fbcTick ≠ 0 := (Nat.div_pos hedge (by decide)).ne'
  simp only [Fbc.after, if_neg hticks, and_self]

theorem State.fbcLoad_fbc (s : State) : s.fbcLoad.tim.fbc.loadReq = false ∧ s.fbcLoad.tim.fbc.valid = true := by
  obtain ⟨hload, hvalid⟩ := { s.tim.fbc with loadReq := true }.after_of_edge s.tim.base[0] (Fbc.reaches_firstEdge _)
  exact ⟨hload, hvalid.trans (Bool.or_true _)⟩

theorem exec_fbcLoad (s : State) (b : Bus) : exec (.fbcLoad b) s = .next (if b.world = 0 then s.fbcLoad else s) := rfl

/-! ### Clock failure (R625) -/

/-- R625: a failure of CLK_TIM that the FBC sees, with the record and the tamper source it fires. -/
def State.clockFailed (s : State) : State :=
  ((s.setTim fun t => { t with fbc := { t.fbc with clkFail := true } }).tamperFire .clock).event .clockFailure [0]

theorem exec_clockFailure_running (s : State) (x : StartInput) :
    exec (.clockFailure false x) s = .next (if s.alive = true then s.clockFailed.safeEnter 8 else s) := by
  cases halive : s.alive with
  | true => exact if_neg (by simp [halive])
  | false => exact if_pos (by simp [halive])

theorem State.clockFailed_safeEnter_tim (s : State) (why : Nat) :
    (s.clockFailed.safeEnter why).tim = { s.tim with fbc := { s.tim.fbc with clkFail := true } } := by
  have hentry := State.tim_of_outside (s.clockFailed.safeEnter_frame why
    [.dev, .saf, .fra, .frb, .frames, .pair, .dict, .evr, .out] (by decide))
  rw [hentry, clockFailed, State.tim_of_outside (State.event_frame _ _ _ [.evr, .out] (by decide)),
    State.tim_of_outside (State.tamperFire_frame _ _ [.dev, .mem, .sec, .evr, .out] (by decide)), setTim_tim]

end Sys2Proof.Machine
end

section
/-!
PROOFS. The domains of the time protocol (R345, R346), and the statement on the events of time.
-/
namespace Sys2Proof.Machine

/-! ### A master's and a slave's messages (R345, R346) -/

@[simp] theorem State.setPtp_ptp (s : State) (d : Fin 3) (f : Ptp → Ptp) :
    (s.setPtp d f).tim.ptp[d] = f s.tim.ptp[d] := by
  simp [setPtp]

@[simp] theorem State.setPtp_out (s : State) (d : Fin 3) (f : Ptp → Ptp) : (s.setPtp d f).out = s.out := rfl

/-- R345: Sync and its Follow_Up, under the domain's next number. -/
def State.syncSent (s : State) (d : Fin 3) : State :=
  ((s.emit (.ptp d 0x0 s.tim.ptp[d].syncSeq)).emit (.ptp d 0x8 s.tim.ptp[d].syncSeq)).setPtp d fun p =>
    { p with syncSeq := p.syncSeq + 1 }

theorem exec_ptpSyncInterval (s : State) (d : Fin 3) :
    exec (.ptpSyncInterval d) s =
      .next (if s.domainOn d false = true ∧ s.domainQuiet d = false then s.syncSent d else s) := by
  rw [apply_ite Host.Outcome.next]
  exact if_congr (by simp) rfl rfl

/-- R346: the Announce of a master domain. -/
def State.announceMsg (s : State) (d : Fin 3) : Out :=
  .announce d s.tim.ptp[d].annSeq s.clockClass (clockAccuracy (s.te 0)) (if s.tim.everLocked then 0x20 else 0xA0)
    (s.odInt (0x4200 + 0x10 * d.val) 0x0C 0 = 0) s.tim.leap (s.odDom d 0x0A 128) (s.odDom d 0x0B 128)

/-- R346: the Announce sent under the domain's next number. -/
def State.announceSent (s : State) (d : Fin 3) : State :=
  (s.emit (s.announceMsg d)).setPtp d fun p => { p with annSeq := p.annSeq + 1 }

theorem exec_ptpAnnounceInterval (s : State) (d : Fin 3) :
    exec (.ptpAnnounceInterval d) s =
      .next (if s.domainOn d false = true ∧ s.domainQuiet d = false then s.announceSent d else s) := by
  rw [apply_ite Host.Outcome.next]
  exact if_congr (by simp) rfl rfl

/-- R345: Delay_Req, or Pdelay_Req with the peer mechanism, under the domain's next number. -/
def State.delayReqSent (s : State) (d : Fin 3) : State :=
  (s.emit (.ptp d (if s.odDom d 6 0 = 1 then 0x2 else 0x1) s.tim.ptp[d].reqSeq)).setPtp d fun p =>
    { p with reqSeq := p.reqSeq + 1 }

/-- R345: a slave asks for its delay, and with the peer mechanism a master too. -/
theorem exec_ptpDelayReqInterval (s : State) (d : Fin 3) :
    exec (.ptpDelayReqInterval d) s =
      .next (if s.domainOn d true = true ∨ (s.odDom d 6 0 = 1 ∧ s.domainOn d false = true) then s.delayReqSent d
        else s) := by
  rw [apply_ite Host.Outcome.next]
  exact if_congr (by simp) (by simp [State.delayReqSent]) rfl

/-! ### Messages received (R345) -/

/-- R345: of the masters heard at most four are followed. -/
theorem Ptp.hear_foreign_length {p : Ptp} (identity : BitVec 64) (rank acc : Nat) (hfour : p.foreign.length ≤ 4) :
    (p.hear identity rank acc).foreign.length ≤ 4 := by
  unfold hear
  split_ifs with hknown hroom
  · simpa using hfour
  · simpa using Nat.succ_le_of_lt hroom
  · exact hfour

theorem exec_ptpMessageReceived_announce (s : State) (d : Fin 3) (i : BitVec 64) (r a : Nat) :
    exec (.ptpMessageReceived d (.announce i r a)) s =
      .next (if s.domainOn d true then s.setPtp d fun p => p.hear i r a else s) := rfl

theorem exec_ptpMessageReceived_sync_of_off {s : State} {d : Fin 3} (m r : Int) (hoff : s.domainOn d true = false) :
    exec (.ptpMessageReceived d (.sync m r)) s = .next s :=
  if_neg (by simp [hoff])

theorem exec_ptpMessageReceived_delayResp (s : State) (d : Fin 3) (k : Nat) :
    exec (.ptpMessageReceived d (.delayResp k)) s =
      .next (if s.domainOn d true = true ∨ s.odDom d 6 0 = 1 then s.setPtp d fun p => { p with mpd := k } else s) :=
  congrArg Host.Outcome.next (if_congr (by simp) rfl rfl)

theorem exec_ptpMessageReceived_delayReq (s : State) (d : Fin 3) (q : BitVec 16) :
    exec (.ptpMessageReceived d (.delayReq q)) s =
      .next (if s.domainOn d false = true ∨ s.odDom d 6 0 = 1 then s.answerDelay d q else s) :=
  congrArg Host.Outcome.next (if_congr (by simp) rfl rfl)

/-- R345: within the second, a request below the limit is answered and counted. -/
theorem State.answerDelay_of_below {s : State} {d : Fin 3} (q : BitVec 16) (hsec : s.tim.ptp[d].answeredSec = s.tb5s)
    (hbelow : s.tim.ptp[d].answered < 1000) :
    s.answerDelay d q = (s.emit (.ptp d (if s.odDom d 6 0 = 1 then 0x3 else 0x9) q)).setPtp d fun p =>
      { p with answered := s.tim.ptp[d].answered + 1, answeredSec := s.tb5s } := by
  simp only [answerDelay]
  rw [if_pos hsec, if_pos hbelow]

/-- R345: within the second, a request at the limit is dropped. -/
theorem State.answerDelay_of_full {s : State} {d : Fin 3} (q : BitVec 16) (hsec : s.tim.ptp[d].answeredSec = s.tb5s)
    (hfull : 1000 ≤ s.tim.ptp[d].answered) :
    s.answerDelay d q = s.setPtp d fun p => { p with dropped := p.dropped + 1 } := by
  simp only [answerDelay]
  rw [if_pos hsec, if_neg (Nat.not_lt.mpr hfull)]
  rfl

/-! ### The statement -/

/-- Settles O37: the outputs and inputs of the bases by whether the event has its cause and by what their enables, gates
and marks say, and each message of a domain by the role the domain is enabled in. -/
theorem timeEvents : Obligations.TimeEvents := by
  unfold Obligations.TimeEvents
  refine ⟨fun s => ⟨fun n => ⟨_, exec_timeValidityChange s n, ?_⟩, fun p => ?_, fun i rising => ?_, ?_,
      fun b => ⟨_, exec_fbcLoad s b, ?_⟩, fun x => ⟨_, exec_clockFailure_running s x, ?_⟩⟩,
    fun s d => ⟨⟨_, exec_ptpSyncInterval s d, ?_⟩, ⟨_, exec_ptpAnnounceInterval s d, ?_⟩,
      fun i r a => ⟨_, exec_ptpMessageReceived_announce s d i r a, ?_⟩,
      fun m r hoff => ⟨s, exec_ptpMessageReceived_sync_of_off m r hoff, rfl⟩,
      fun k => ⟨_, exec_ptpMessageReceived_delayResp s d k, ?_⟩,
      fun q => ⟨_, exec_ptpMessageReceived_delayReq s d q, ?_⟩, ⟨s, rfl, rfl⟩,
      ⟨_, exec_ptpDelayReqInterval s d, ?_⟩⟩⟩
  · split
    · next hsame => exact ⟨fun _ => rfl, fun hnew => absurd hsame hnew, rfl⟩
    · next hnew => exact ⟨fun hsame => absurd hsame hnew, fun _ => State.applyGates_validNow .., by simp +decide⟩
  · cases hbase : baseOf s.tim.pps[p].src with
    | none => exact ⟨s, exec_ppsPulse_of_noBase hbase, fun _ => rfl, nofun⟩
    | some m =>
      obtain ⟨_, hexec, u, hpps, hout, rfl⟩ := runs_ppsPulse_of_base hbase
      refine ⟨_, hexec, nofun, fun _ _ => ?_⟩
      rw [← hpps, ← hout]
      intro hsettled
      rw [State.ppsBoundary_of_noOdPend m hsettled]
      refine ⟨fun hen => ?_, fun hen homit => ?_, fun hen hnot hshut => ?_, fun hen hnot hopen => ?_⟩
      · rw [State.ppsSecond_of_disabled m hen]
        exact ⟨rfl, rfl⟩
      · rw [State.ppsSecond_of_omit m hen homit]
        exact ⟨State.putPps_pps .., rfl⟩
      · rw [State.ppsSecond_of_shut m hen hnot hshut]
        exact ⟨State.putPps_pps .., rfl⟩
      · rw [State.ppsSecond_of_open m hen hnot hopen, State.pulse_pps]
        exact ⟨rfl, rfl, rfl⟩
  · cases hw : s.tim.evt[i].wants rising with
    | false =>
      refine ⟨s, exec_evtCapture_of_unwanted hw, fun _ => rfl, fun hen hedge => ?_⟩
      exact absurd (hw.symm.trans (Evt.wants_of_edge hen hedge)) Bool.false_ne_true
    | true =>
      have hon : s.tim.evt[i].en ≠ false := by rw [Evt.en_of_wants hw]; decide
      cases hclose : s.tim.evt[i].close s.tb5ns with
      | true =>
        refine ⟨_, exec_evtCapture_of_close hw hclose, fun hoff => absurd hoff hon, fun _ _ => ?_⟩
        rw [State.setEvt_evt]
        refine ⟨rfl, fun _ _ _ => ⟨rfl, State.setEvt_frame _ _ _ _ (by decide)⟩, fun hnone => ?_⟩
        exact absurd (hclose.symm.trans (Evt.close_of_none _ hnone)) (by decide)
      | false =>
        obtain ⟨t, hexec, lost, hevt⟩ := runs_evtCapture_of_apart hw hclose
        refine ⟨t, hexec, fun hoff => absurd hoff hon, fun _ _ => ?_⟩
        rw [hevt]
        refine ⟨rfl, fun p hprev hnear => ?_, fun _ => ⟨rfl, rfl⟩⟩
        exact absurd (hclose.symm.trans (Evt.close_of_some hprev hnear)) Bool.false_ne_true
  · by_cases hnone : s.tim.leapPend = 0
    · exact ⟨s, exec_leapSecondApply_of_none hnone, fun _ => rfl, fun hpending => absurd hnone hpending⟩
    · exact ⟨_, exec_leapSecondApply_of_pending hnone, fun h => absurd h hnone, fun _ => ⟨rfl, rfl⟩⟩
  · split
    · next hvendor =>
      exact ⟨fun hother => absurd hvendor hother, fun _ => s.fbcLoad_fbc, State.fbcLoad_frame _ _ (by decide)⟩
    · next hother => exact ⟨fun _ => rfl, fun hvendor => absurd hvendor hother, rfl⟩
  · split
    · next halive =>
      refine ⟨fun hdead => absurd (halive.symm.trans hdead) (by decide), fun _ => ⟨?_, State.safeEnter_safe ..⟩⟩
      rw [State.clockFailed_safeEnter_tim]
    · next hdead => exact ⟨fun _ => rfl, fun halive => absurd halive hdead⟩
  · split
    · exact ⟨rfl, State.setPtp_ptp ..⟩
    · rfl
  · split
    · exact ⟨rfl, State.setPtp_ptp ..⟩
    · rfl
  · split
    · next hon =>
      refine ⟨State.setPtp_frame _ _ _ _ (by decide), fun hoff => absurd (hon.symm.trans hoff) (by decide),
        fun hfour => ?_⟩
      rw [State.setPtp_ptp]
      exact Ptp.hear_foreign_length i r a hfour
    · exact ⟨rfl, fun _ => rfl, id⟩
  · split
    · exact State.setPtp_ptp ..
    · rfl
  · refine ⟨fun hoff hmech => if_neg (by simp [hoff, hmech]), fun hon hsec hbelow => ?_, fun hon hsec hfull => ?_⟩
    · rw [if_pos (.inl hon), State.answerDelay_of_below q hsec hbelow, State.setPtp_ptp]
      exact ⟨rfl, rfl, rfl⟩
    · rw [if_pos (.inl hon), State.answerDelay_of_full q hsec hfull]
      exact ⟨State.setPtp_ptp .., rfl⟩
  · split
    · exact ⟨rfl, State.setPtp_ptp ..⟩
    · rfl

end Sys2Proof.Machine
end

section
/-!
PROOFS. Register writes: what the firewall stops, and words of the external memory (R6, R450, R451, R454).
-/
namespace Sys2Proof.Machine

/-! ### Octets of a word (R6) -/

theorem leBytes_length (n v : Nat) : (leBytes n v).length = n := by
  induction n generalizing v with
  | zero => rfl
  | succ n ih => exact congrArg (· + 1) (ih _)

/-- R6: the octet at place `i` of a number is its digit of weight 256^i. -/
theorem leBytes_getElem (n v i : Nat) (h : i < (leBytes n v).length) :
    (leBytes n v)[i] = BitVec.ofNat 8 (v / 256 ^ i) := by
  induction n generalizing v i with
  | zero => exact absurd h (Nat.not_lt_zero i)
  | succ n ih =>
    cases i with
    | zero => simp [leBytes]
    | succ i => simp [leBytes, ih, Nat.div_div_eq_div_mul, Nat.pow_succ']

/-! ### Stores of words in external memory (R6, R451) -/

/-- R451: above the scratchpads, the MRAM and the registers a word of the powered external memory is stored. -/
theorem State.busWrite_of_external {s : State} (b : Bus) {a : Nat} (v : Word) (hlow : 0x80000000 ≤ a)
    (hon : s.pwr.pdStat.getLsbD 11 = true) :
    s.busWrite b a v = { s with mem := s.mem.write a (leBytes 4 v.toNat) } := by
  have hperiph : ¬ a ≤ 0x4019FFFF := by omega
  have hsram : ¬ a ≤ 0x301FFFFF := by omega
  simp [busWrite, wordWrite, memLive, hperiph, hsram, hlow, hon]

theorem Mem.get_write_word (m : Mem) (a : Nat) (v : Word) (i : Nat) (hi : i < 4) :
    (m.write a (leBytes 4 v.toNat)).get (a + i) = BitVec.ofNat 8 (v.toNat / 256 ^ i) := by
  rw [m.get_write a i _ (by rwa [leBytes_length]), leBytes_getElem]

/-! ### Register writes (R450, R454) -/

theorem exec_registerWrite_of_stopped {s : State} {b : Bus} {addr : Nat} (v : Word)
    (hstopped : s.allows b addr .write = false) :
    exec (.registerWrite b addr v) s = .next ((s.violation b addr .write).deny .other) :=
  congrArg Host.Outcome.next (if_neg (by simp [hstopped]))

theorem exec_registerWrite_of_allows {s : State} {b : Bus} {addr : Nat} (v : Word)
    (hpass : s.allows b addr .write = true) :
    exec (.registerWrite b addr v) s = .next (s.busWrite b (addr / 4 * 4) v) :=
  congrArg Host.Outcome.next (State.guarded_of_allows _ hpass)

/-! ### The statement -/

/-- Settles O15: a refused write by the firewall's record and the answer, a write to memory by its word's four octets. -/
theorem registerWriteChecked : Obligations.RegisterWriteChecked := by
  unfold Obligations.RegisterWriteChecked
  intro s b addr v
  cases hpass : s.allows b addr .write with
  | false =>
    refine ⟨_, exec_registerWrite_of_stopped v hpass, fun _ => ⟨rfl, ?_⟩, fun h => absurd h Bool.false_ne_true⟩
    simp +decide
  | true =>
    refine ⟨_, exec_registerWrite_of_allows v hpass, fun h => absurd h.symm Bool.false_ne_true,
      fun _ hlow _ haligned hon => ?_⟩
    rw [Nat.div_mul_cancel (Nat.dvd_of_mod_eq_zero haligned), State.busWrite_of_external b v (by omega) hon]
    refine ⟨s.mem.get_write_word addr v, fun a houtside => ?_, rfl⟩
    exact s.mem.get_write_outside addr a _ (by rwa [leBytes_length])

end Sys2Proof.Machine
end

section
/-!
PROOFS. The places of the dispatcher's jobs, and the promotion that moves the oldest job of each flow on (R459, R461).
-/
namespace Sys2Proof.Machine

/-! ### A job moved to another place -/

/-- The job numbered `n` put at a place; every other job as it was. -/
def Accepted.moved (n : Nat) (p : JobPlace) (b : Accepted) : Accepted :=
  if b.seq = n then { b with place := p } else b

@[simp] theorem Accepted.moved_seq (n : Nat) (p : JobPlace) (b : Accepted) : (b.moved n p).seq = b.seq := by
  unfold moved
  split <;> rfl

@[simp] theorem Accepted.moved_job (n : Nat) (p : JobPlace) (b : Accepted) : (b.moved n p).job = b.job := by
  unfold moved
  split <;> rfl

theorem Accepted.moved_place_of_eq {n : Nat} (p : JobPlace) {b : Accepted} (h : b.seq = n) :
    (b.moved n p).place = p := by
  rw [moved, if_pos h]

theorem Accepted.moved_of_ne {n : Nat} (p : JobPlace) {b : Accepted} (h : b.seq ≠ n) : b.moved n p = b :=
  if_neg h

/-- In a list with a job moved, every job of its number stands at the new place. -/
theorem place_of_mem_moved {l : List Accepted} {n : Nat} {p : JobPlace} {b : Accepted}
    (hb : b ∈ l.map (Accepted.moved n p)) (hn : b.seq = n) : b.place = p := by
  obtain ⟨x, -, rfl⟩ := List.mem_map.mp hb
  exact Accepted.moved_place_of_eq p (by rwa [Accepted.moved_seq] at hn)

/-! ### The way of a flow's jobs to the ready lists (R459, R461) -/

/-- The order numbers of the jobs that have not ended, oldest first. -/
def Cores.seqs (c : Cores) : List Nat := c.jobs.map (·.seq)

theorem Cores.jobs_length_of_seqs {c d : Cores} (h : d.seqs = c.seqs) : d.jobs.length = c.jobs.length := by
  simpa [seqs] using congrArg List.length h

theorem Cores.mem_seqs {c : Cores} {n : Nat} : n ∈ c.seqs ↔ ∃ b ∈ c.jobs, b.seq = n := List.mem_map

/-- A job of the dispatcher moved to a place. -/
def Cores.move (c : Cores) (n : Nat) (p : JobPlace) : Cores := { c with jobs := c.jobs.map (Accepted.moved n p) }

@[simp] theorem Cores.move_seqs (c : Cores) (n : Nat) (p : JobPlace) : (c.move n p).seqs = c.seqs := by
  simp [seqs, move, Function.comp_def]

/-- One job's part in the promotion: the oldest of its flow goes to the delay list while its due time lies ahead,
and else to a ready list. -/
def Cores.promoteJob (now nowC : Nat) (c : Cores) (a : Accepted) : Cores :=
  if a.place = .behind && c.isOldest a then
    if a.job.delay && dueAhead a.job.due now then c.move a.seq .delayed
    else { c.move a.seq (.ready c.nextReady (c.remembered a.job).isSome nowC) with nextReady := c.nextReady + 1 }
  else c

theorem Cores.promote_eq_foldl (c : Cores) (now nowC : Nat) :
    c.promote now nowC = c.jobs.foldl (promoteJob now nowC) c := rfl

/-- What a job's part can do: nothing, the move to the delay list with its due time ahead, or the move to a ready
list. -/
theorem Cores.promoteJob_cases (now nowC : Nat) (c : Cores) (a : Accepted) :
    promoteJob now nowC c a = c ∨
      (promoteJob now nowC c a = c.move a.seq .delayed ∧ dueAhead a.job.due now = true) ∨
      ∃ o aff, promoteJob now nowC c a = { c.move a.seq (.ready o aff nowC) with nextReady := o + 1 } := by
  unfold promoteJob
  split
  · split
    · next hahead => exact .inr (.inl ⟨rfl, (Bool.and_eq_true_iff.mp hahead).2⟩)
    · exact .inr (.inr ⟨_, _, rfl⟩)
  · exact .inl rfl

/-- R459: promotion neither adds nor ends a job, and touches no core. -/
theorem Cores.promote_seqs_core (c : Cores) (now nowC : Nat) :
    (c.promote now nowC).seqs = c.seqs ∧ (c.promote now nowC).core = c.core := by
  rw [promote_eq_foldl]
  refine List.foldlRecOn (motive := fun d : Cores => d.seqs = c.seqs ∧ d.core = c.core) _ _ ⟨rfl, rfl⟩
    fun d ⟨hseqs, hcore⟩ a _ => ?_
  obtain h | ⟨h, -⟩ | ⟨o, aff, h⟩ := promoteJob_cases now nowC d a
  · rw [h]
    exact ⟨hseqs, hcore⟩
  · rw [h]
    exact ⟨(d.move_seqs ..).trans hseqs, hcore⟩
  · rw [h]
    exact ⟨(d.move_seqs a.seq (.ready o aff nowC)).trans hseqs, hcore⟩

@[simp] theorem Cores.promote_seqs (c : Cores) (now nowC : Nat) : (c.promote now nowC).seqs = c.seqs :=
  (c.promote_seqs_core now nowC).1

@[simp] theorem Cores.promote_core (c : Cores) (now nowC : Nat) : (c.promote now nowC).core = c.core :=
  (c.promote_seqs_core now nowC).2

/-- A move to a place that is not the delay list, unless it is of another job, delays no job of a number. -/
theorem Cores.move_not_delayed {c : Cores} {n m : Nat} {p : JobPlace} (hp : m = n → p ≠ .delayed)
    (hplaced : ∀ b ∈ c.jobs, b.seq = n → b.place ≠ .delayed) :
    ∀ b ∈ (c.move m p).jobs, b.seq = n → b.place ≠ .delayed := by
  intro b hb hn
  obtain ⟨x, hx, rfl⟩ := List.mem_map.mp hb
  rw [Accepted.moved_seq] at hn
  by_cases hmoved : x.seq = m
  · rw [Accepted.moved_place_of_eq p hmoved]
    exact hp (hmoved.symm.trans hn)
  · rw [Accepted.moved_of_ne p hmoved]
    exact hplaced x hx hn

/-- R461: promotion delays no job of a number whose due time has come. -/
theorem Cores.promote_not_delayed {c : Cores} {n now : Nat} (nowC : Nat)
    (hplaced : ∀ b ∈ c.jobs, b.seq = n → b.place ≠ .delayed)
    (hdue : ∀ b ∈ c.jobs, b.seq = n → dueAhead b.job.due now = false) :
    ∀ b ∈ (c.promote now nowC).jobs, b.seq = n → b.place ≠ .delayed := by
  rw [promote_eq_foldl]
  refine List.foldlRecOn (motive := fun d : Cores => ∀ b ∈ d.jobs, b.seq = n → b.place ≠ .delayed) _ _ hplaced
    fun d hd a ha => ?_
  obtain h | ⟨h, hahead⟩ | ⟨o, aff, h⟩ := promoteJob_cases now nowC d a
  · rwa [h]
  · rw [h]
    exact move_not_delayed (fun hn => absurd (hahead.symm.trans (hdue a ha hn)) (by decide)) hd
  · rw [h]
    exact move_not_delayed (p := .ready o aff nowC) (fun _ => JobPlace.noConfusion) hd

end Sys2Proof.Machine
end

section
/-!
PROOFS. The calls of the job dispatcher: submission, delivery and the end of a job (R458 to R460, R462, R463).
-/
namespace Sys2Proof.Machine

/-! ### Submission (R458, R463) -/

/-- R458: below the quota of its world a job is accepted. -/
theorem State.postJob_of_below {s : State} {j : Job} (hbelow : s.cores.jobCount j.world < jobQuota j.world) :
    ∃ t, s.postJob j = some t ∧ t.cores.jobs.length = s.cores.jobs.length + 1 ∧ t.cores.core = s.cores.core := by
  refine ⟨_, by rw [postJob, Cores.accept, if_pos hbelow]; rfl, ?_, Cores.promote_core ..⟩
  exact (Cores.jobs_length_of_seqs (Cores.promote_seqs ..)).trans List.length_append

/-- R458: at the quota of its world it is not. -/
theorem State.postJob_of_quota {s : State} {j : Job} (hquota : ¬ s.cores.jobCount j.world < jobQuota j.world) :
    s.postJob j = none := by
  rw [postJob, Cores.accept, if_neg hquota]
  rfl

@[simp] theorem State.setCore_jobs (s : State) (k : Fin 16) (f : Core' → Core') :
    (s.setCore k f).cores.jobs = s.cores.jobs := rfl

@[simp] theorem State.setCore_seqs (s : State) (k : Fin 16) (f : Core' → Core') :
    (s.setCore k f).cores.seqs = s.cores.seqs := rfl

@[simp] theorem State.setCore_core_same (s : State) (k : Fin 16) (f : Core' → Core') :
    (s.setCore k f).cores.core[k.val] = f s.cores.core[k.val] := Vector.getElem_set_self _

theorem exec_jdxSubmit_of_post {s t : State} {core : Fin 16} {m : Bool} {d : Word}
    (h : s.postJob (s.stagedJob core m d) = some t) : exec (.jdxSubmit core m d) s = .next t := by
  change execJdxSubmit core m d s = _
  simp [execJdxSubmit, h]

theorem exec_jdxSubmit_of_none {s : State} {core : Fin 16} {m : Bool} {d : Word}
    (h : s.postJob (s.stagedJob core m d) = none) :
    exec (.jdxSubmit core m d) s =
      .next (s.setCore core fun c => { c with stalled := some (s.stagedJob core m d) }) := by
  change execJdxSubmit core m d s = _
  simp [execJdxSubmit, h]

theorem exec_jdxTrysub_of_post {s t : State} {core : Fin 16} {m : Bool} {d : Word}
    (h : s.postJob (s.stagedJob core m d) = some t) :
    exec (.jdxTrysub core m d) s = .next (t.setCore core fun c => { c with acc := true }) := by
  change execJdxTrysub core m d s = _
  simp [execJdxTrysub, h]

theorem exec_jdxTrysub_of_none {s : State} {core : Fin 16} {m : Bool} {d : Word}
    (h : s.postJob (s.stagedJob core m d) = none) :
    exec (.jdxTrysub core m d) s = .next (s.setCore core fun c => { c with acc := false }) := by
  change execJdxTrysub core m d s = _
  simp [execJdxTrysub, h]

theorem exec_submitStallRelease_of_none {s : State} {core : Fin 16} (hnone : s.cores.core[core].stalled = none) :
    exec (.submitStallRelease core) s = .next s := by
  change execSubmitStallRelease core s = _
  simp only [execSubmitStallRelease, hnone]

theorem exec_submitStallRelease_of_post {s t : State} {core : Fin 16} {j : Job}
    (hstalled : s.cores.core[core].stalled = some j) (hpost : s.postJob j = some t) :
    exec (.submitStallRelease core) s = .next (t.setCore core fun c => { c with stalled := none }) := by
  change execSubmitStallRelease core s = _
  simp only [execSubmitStallRelease, hstalled, hpost]

theorem exec_submitStallRelease_of_quota {s : State} {core : Fin 16} {j : Job}
    (hstalled : s.cores.core[core].stalled = some j) (hpost : s.postJob j = none) :
    exec (.submitStallRelease core) s = .next s := by
  change execSubmitStallRelease core s = _
  simp only [execSubmitStallRelease, hstalled, hpost]

/-! ### Delivery (R459, R460, R660) -/

/-- A job in service on a core, which remembers the flow. -/
def State.deliver (s : State) (core : Fin 16) (a : Accepted) : State :=
  ({ s with cores := { s.cores.move a.seq (.service core s.tb5u10) with
      served := tabPut s.cores.served a.job.flow.toNat core } } : State).setCore core
    fun c => { c with idle := false, got := a.job.words }

/-- R459, R460: the core serves the job and is idle no more, the flow is remembered, and no job has ended. -/
theorem State.deliver_serves (s : State) (core : Fin 16) (a : Accepted) :
    (s.deliver core a).cores.core[core].idle = false ∧ (s.deliver core a).cores.core[core].got = a.job.words ∧
      tabGet (s.deliver core a).cores.served a.job.flow.toNat = some core ∧
      (s.deliver core a).cores.jobs.length = s.cores.jobs.length ∧
      ∀ b ∈ (s.deliver core a).cores.jobs, b.seq = a.seq → b.place = .service core s.tb5u10 :=
  ⟨by simp [deliver], by simp [deliver], by simp [deliver, setCore], List.length_map .., fun _ => place_of_mem_moved⟩

theorem exec_jobDelivery_of_stopped {s : State} {core : Fin 16}
    (h : s.cores.core[core].idle = false ∨ s.cores.core[core].halted = true ∨ s.coreUp core = false ∨
      s.cores.pick core = none) : exec (.jobDelivery core) s = .next s := by
  change execJobDelivery core s = _
  unfold execJobDelivery
  rcases h with h | h | h | h <;> simp [-Fin.getElem_fin, h]

theorem exec_jobDelivery_of_pick {s : State} {core : Fin 16} {a : Accepted}
    (hidle : s.cores.core[core].idle = true) (hruns : s.cores.core[core].halted = false)
    (hup : s.coreUp core = true) (hpick : s.cores.pick core = some a) :
    exec (.jobDelivery core) s = .next (s.deliver core a) := by
  change execJobDelivery core s = _
  simp only [execJobDelivery, hidle, hruns, hup, hpick]
  rfl

/-! ### The end of a job (R459, R462, R463) -/

theorem State.endJob_core (s : State) (a : Accepted) : (s.endJob a).cores.core = s.cores.core := Cores.promote_core ..

/-- The jobs left are those of another number. -/
theorem State.mem_endJob_seqs (s : State) (a : Accepted) (n : Nat) :
    n ∈ (s.endJob a).cores.seqs ↔ n ∈ s.cores.seqs ∧ n ≠ a.seq := by
  rw [show (s.endJob a).cores.seqs = _ from Cores.promote_seqs ..]
  simp only [Cores.mem_seqs, List.mem_filter, decide_eq_true_eq]
  grind

theorem State.coreDone_of_none {s : State} {k : Fin 16} (hnone : s.cores.inService k = none) : s.coreDone k = s := by
  simp [coreDone, hnone]

theorem State.coreDone_of_some {s : State} {k : Fin 16} {a : Accepted × Nat} (h : s.cores.inService k = some a) :
    s.coreDone k = s.endJob a.1 := by
  simp [coreDone, h]

@[simp] theorem State.coreDone_core (s : State) (k : Fin 16) : (s.coreDone k).cores.core = s.cores.core := by
  cases h : s.cores.inService k with
  | none => rw [coreDone_of_none h]
  | some a => rw [coreDone_of_some h, endJob_core]

/-- Ending what a core serves brings no job back. -/
theorem State.coreDone_seqs_subset (s : State) (k : Fin 16) : (s.coreDone k).cores.seqs ⊆ s.cores.seqs := by
  cases h : s.cores.inService k with
  | none =>
    rw [coreDone_of_none h]
    exact List.Subset.refl _
  | some a =>
    rw [coreDone_of_some h]
    exact fun n hn => ((s.mem_endJob_seqs a.1 n).mp hn).1

/-- R462: no job in service on the core is left. -/
theorem State.coreDone_ends {s : State} {k : Fin 16} {a : Accepted × Nat} (h : s.cores.inService k = some a) :
    ∀ b ∈ (s.coreDone k).cores.jobs, b.seq ≠ a.1.seq := by
  rw [coreDone_of_some h]
  exact fun b hb => ((s.mem_endJob_seqs a.1 b.seq).mp (Cores.mem_seqs.mpr ⟨b, hb, rfl⟩)).2

end Sys2Proof.Machine
end

section
/-!
PROOFS. The timed events of jobs (R460 to R462, R469, R660), and the statement on jobs.
-/
namespace Sys2Proof.Machine

/-! ### Instants (R456, R461) -/

@[simp] theorem State.reachTicks_cores (s : State) (n : Nat) : (s.reachTicks n).cores = s.cores :=
  State.cores_of_outside (s.reachTicks_frame n [.tim, .evr] (by decide))

/-- Time moves forward to an instant, or stands. -/
theorem State.reachTicks_ticks (s : State) (n : Nat) : (s.reachTicks n).tim.ticks = max s.tim.ticks n := by
  unfold reachTicks
  split
  · next hpast => exact (max_eq_left hpast).symm
  · next hahead =>
    change s.tim.ticks + (n - s.tim.ticks) = _
    omega

/-- R461: when the units to a due time have gone by, it lies ahead no more. -/
theorem dueAhead_after_dueIn (due : BitVec 32) (now : Nat) : dueAhead due (now + dueIn due now) = false := by
  unfold dueIn
  split
  · have hcome : due - BitVec.ofNat 32 (now + (due - BitVec.ofNat 32 now).toNat) = 0#32 := by
      rw [BitVec.ofNat_add, BitVec.ofNat_toNat, BitVec.setWidth_eq]
      exact sub_eq_zero.mpr (by ring)
    simp only [dueAhead, hcome]
    decide
  · next hpast => simpa using hpast

/-- R461: the first 10 us tick of TB5 at or after a due time. -/
def State.reachDue (s : State) (due : BitVec 32) : State :=
  if dueIn due s.tb5u10 = 0 then s else s.reachTicks ((s.tb5u10 + dueIn due s.tb5u10) * 4000)

@[simp] theorem State.reachDue_cores (s : State) (due : BitVec 32) : (s.reachDue due).cores = s.cores := by
  unfold reachDue
  split
  · rfl
  · exact s.reachTicks_cores _

theorem State.reachDue_frame (s : State) (due : BitVec 32) :
    (s.reachDue due).outside [.tim, .evr] = s.outside [.tim, .evr] := by
  unfold reachDue
  split
  · rfl
  · exact s.reachTicks_frame _ _ (by decide)

theorem State.reachDue_tb5u10 (s : State) (due : BitVec 32) :
    (s.reachDue due).tb5u10 = s.tb5u10 + dueIn due s.tb5u10 := by
  unfold reachDue
  split
  · next hcome => rw [hcome, Nat.add_zero]
  · next hahead =>
    have hlater : s.tim.ticks ≤ (s.tb5u10 + dueIn due s.tb5u10) * 4000 := by
      have htick : s.tim.ticks < (s.tb5u10 + 1) * 4000 := by unfold tb5u10; omega
      omega
    rw [tb5u10, State.reachTicks_ticks, max_eq_right hlater, Nat.mul_div_cancel _ (by decide)]

/-! ### The affinity wait (R460) -/

theorem JobPlace.waits_iff {p : JobPlace} : p.waits = true ↔ ∃ o u, p = .ready o true u := by
  cases p with
  | ready o aff u => cases aff <;> simp [waits]
  | _ => simp [waits]

theorem Cores.place_of_flowJob {c : Cores} {flow : BitVec 12} {p : JobPlace → Bool} {a : Accepted}
    (h : c.flowJob flow p = some a) : p a.place = true := by
  have hfound := List.find?_some (p := fun a : Accepted => a.job.flow = flow && p a.place) h
  exact (Bool.and_eq_true_iff.mp hfound).2

/-- R460: the wait of a ready job ended at its limit. -/
def State.affinityEnd (s : State) (a : Accepted) (o u : Nat) : State :=
  { s.reachTicks ((u + s.cores.aff.toNat) * 4) with
    cores := (s.reachTicks ((u + s.cores.aff.toNat) * 4)).cores.move a.seq (.ready o false u) }

theorem State.affinityEnd_jobs (s : State) (a : Accepted) (o u : Nat) :
    (s.affinityEnd a o u).cores.jobs = s.cores.jobs.map (Accepted.moved a.seq (.ready o false u)) :=
  congrArg (fun c : Cores => (c.move a.seq (.ready o false u)).jobs) (s.reachTicks_cores _)

theorem State.affinityEnd_frame (s : State) (a : Accepted) (o u : Nat) :
    (s.affinityEnd a o u).outside [.tim, .evr, .cores] = s.outside [.tim, .evr, .cores] :=
  (State.outside_with_cores _ _ _ (by decide)).trans (s.reachTicks_frame _ _ (by decide))

theorem exec_affinityWaitExpiry_of_none {s : State} {flow : BitVec 12}
    (hnone : s.cores.flowJob flow JobPlace.waits = none) : exec (.affinityWaitExpiry flow) s = .next s := by
  change execAffinityWaitExpiry flow s = _
  unfold execAffinityWaitExpiry
  split
  · rfl
  · next hjob => exact absurd (hnone.symm.trans hjob) (Option.some_ne_none _).symm

theorem exec_affinityWaitExpiry_of_some {s : State} {flow : BitVec 12} {a : Accepted} {o u : Nat}
    (hjob : s.cores.flowJob flow JobPlace.waits = some a) (hplace : a.place = .ready o true u) :
    exec (.affinityWaitExpiry flow) s = .next (s.affinityEnd a o u) := by
  change execAffinityWaitExpiry flow s = _
  unfold execAffinityWaitExpiry
  split
  · next hnone => exact absurd (hjob.symm.trans hnone) (Option.some_ne_none _)
  · next b hb =>
    obtain rfl : a = b := Option.some.inj (hjob.symm.trans hb)
    simp only [hplace]
    rfl

/-! ### Due jobs (R461) -/

/-- R461: a due job back among its flow's, and the oldest of each flow moved on. -/
def State.dueEnd (s : State) (a : Accepted) : State :=
  let s1 := s.reachDue a.job.due
  { s1 with cores := (s1.cores.move a.seq .behind).promote s1.tb5u10 s1.tb5c }

theorem exec_jobDue_of_none {s : State} {flow : BitVec 12}
    (hnone : s.cores.flowJob flow (fun p => p = .delayed) = none) : exec (.jobDue flow) s = .next s := by
  change execJobDue flow s = _
  simp only [execJobDue, hnone]

theorem exec_jobDue_of_some {s : State} {flow : BitVec 12} {a : Accepted}
    (hjob : s.cores.flowJob flow (fun p => p = .delayed) = some a) :
    exec (.jobDue flow) s = .next (s.dueEnd a) := by
  change execJobDue flow s = _
  simp only [execJobDue, hjob]
  rfl

theorem State.dueEnd_frame (s : State) (a : Accepted) :
    (s.dueEnd a).outside [.tim, .evr, .cores] = s.outside [.tim, .evr, .cores] :=
  (State.outside_with_cores _ _ _ (by decide)).trans (State.outside_mono (s.reachDue_frame a.job.due) (by decide))

theorem State.dueEnd_seqs (s : State) (a : Accepted) : (s.dueEnd a).cores.seqs = s.cores.seqs := by
  simp [dueEnd]

/-- R461: a due job is delayed no more. -/
theorem State.dueEnd_not_delayed {s : State} {a : Accepted} (honly : ∀ b ∈ s.cores.jobs, b.seq = a.seq → b = a) :
    ∀ b ∈ (s.dueEnd a).cores.jobs, b.seq = a.seq → b.place ≠ .delayed := by
  refine Cores.promote_not_delayed _ (fun b hb hn => ?_) (fun b hb hn => ?_)
  · rw [place_of_mem_moved hb hn]
    exact JobPlace.noConfusion
  · obtain ⟨x, hx, rfl⟩ := List.mem_map.mp hb
    rw [Accepted.moved_seq] at hn
    rw [State.reachDue_cores] at hx
    rw [Accepted.moved_job, honly x hx hn, State.reachDue_tb5u10]
    exact dueAhead_after_dueIn ..

/-! ### The time limit (R462, R469, R660) -/

@[simp] theorem State.event_cores (s : State) (e : Event) (n : List Nat) : (s.event e n).cores = s.cores :=
  State.cores_of_outside (s.event_frame e n [.evr, .out] (by decide))

/-- R469: the count of monitor events leaves jobs and cores alone. -/
theorem State.fleetMonitor_seqs_core (s : State) :
    s.fleetMonitor.cores.seqs = s.cores.seqs ∧ s.fleetMonitor.cores.core = s.cores.core := by
  simp only [fleetMonitor]
  split
  · rw [State.cores_of_outside (State.emcyAllOn_frame _ _ _ [.dict, .out] (by decide)), State.event_cores]
    exact ⟨rfl, rfl⟩
  · exact ⟨rfl, rfl⟩

/-- R469: a monitor event brings no job back and leaves the cores alone. -/
theorem State.monitorEvent_seqs_core (s : State) (k : Fin 16) :
    (s.monitorEvent k).cores.seqs ⊆ s.cores.seqs ∧ (s.monitorEvent k).cores.core = s.cores.core := by
  simp only [monitorEvent]
  split
  · exact ⟨List.Subset.refl _, rfl⟩
  · split
    · obtain ⟨hseqs, hcore⟩ :=
        ((s.coreDone k).event .monitorEvent [k.val, (s.cores.worldOf k).toNat]).fleetMonitor_seqs_core
      rw [hseqs, hcore, State.event_cores]
      exact ⟨s.coreDone_seqs_subset k, s.coreDone_core k⟩
    · rw [State.event_cores]
      exact ⟨s.coreDone_seqs_subset k, s.coreDone_core k⟩

/-- R462: at its limit a job is discarded, with its core reset. -/
def State.overrun (s : State) (core : Fin 16) (a : Accepted) (since : Nat) : State :=
  ((s.reachTicks ((since + s.cores.limitOf a.job.world) * 4000)).endJob a).setCore core
    fun c => { c with idle := false, stalled := none }

theorem State.mem_overrun_seqs {s : State} {core : Fin 16} {a : Accepted} {since n : Nat} :
    n ∈ (s.overrun core a since).cores.seqs ↔ n ∈ s.cores.seqs ∧ n ≠ a.seq := by
  rw [overrun, setCore_seqs, mem_endJob_seqs, reachTicks_cores]

/-- R462, R469: the overrun recorded, and the monitor told of it. -/
def State.overrunEnd (s : State) (core : Fin 16) (a : Accepted) (since : Nat) : State :=
  ((s.overrun core a since).event .jobOverrun
    [a.job.world.toNat, a.job.entry.toNat, a.job.flow.toNat]).monitorEvent core

/-- R462: the core is reset, and the job is gone. -/
theorem State.overrunEnd_ends (s : State) (core : Fin 16) (a : Accepted) (since : Nat) :
    (s.overrunEnd core a since).cores.core[core].idle = false ∧
      (s.overrunEnd core a since).cores.core[core].stalled = none ∧
      ∀ b ∈ (s.overrunEnd core a since).cores.jobs, b.seq ≠ a.seq := by
  obtain ⟨hseqs, hcore⟩ := ((s.overrun core a since).event .jobOverrun
    [a.job.world.toNat, a.job.entry.toNat, a.job.flow.toNat]).monitorEvent_seqs_core core
  rw [State.event_cores] at hseqs hcore
  rw [overrunEnd, hcore]
  refine ⟨by simp [overrun], by simp [overrun], fun b hb => ?_⟩
  exact (State.mem_overrun_seqs.mp (hseqs (Cores.mem_seqs.mpr ⟨b, hb, rfl⟩))).2

theorem exec_jobTimeLimit_of_none {s : State} {core : Fin 16}
    (hnone : s.cores.inService core = none ∨ s.cores.core[core].halted = true) :
    exec (.jobTimeLimit core) s = .next s := by
  change execJobTimeLimit core s = _
  unfold execJobTimeLimit
  split
  · rfl
  · next h => exact if_pos (hnone.resolve_left (by simp [h]))

theorem exec_jobTimeLimit_of_some {s : State} {core : Fin 16} {a : Accepted × Nat}
    (hserved : s.cores.inService core = some a) (hruns : s.cores.core[core].halted = false) :
    exec (.jobTimeLimit core) s = .next (s.overrunEnd core a.1 a.2) := by
  change execJobTimeLimit core s = _
  simp only [execJobTimeLimit, hserved, hruns]
  rfl

/-! ### The statement -/

/-- Settles O41: each call by the quota of its world, a delivery by the core and what it may take, and each timed event
by the job that it finds. -/
theorem jobs : Obligations.Jobs := by
  unfold Obligations.Jobs
  refine ⟨fun s core => ⟨fun m d => ?_, fun m d => ?_, ?_, ?_, ?_, ?_⟩,
    fun s => ⟨fun flow => ?_, fun flow => ?_, fun core => ?_⟩⟩
  · split
    · next hbelow =>
      obtain ⟨t, hpost, hlength, hcore⟩ := State.postJob_of_below hbelow
      exact ⟨t, exec_jdxSubmit_of_post hpost, hlength, hcore, State.postJob_frame hpost _ (by decide)⟩
    · next hquota => exact ⟨_, exec_jdxSubmit_of_none (State.postJob_of_quota hquota), rfl⟩
  · by_cases hbelow : s.cores.jobCount (s.stagedJob core m d).world < jobQuota (s.stagedJob core m d).world
    · obtain ⟨t, hpost, hlength, -⟩ := State.postJob_of_below hbelow
      refine ⟨_, exec_jdxTrysub_of_post hpost, ?_, by simp [hbelow], by simp [hlength]⟩
      exact (t.setCore_frame _ _ _ (by decide)).trans (State.postJob_frame hpost _ (by decide))
    · exact ⟨_, exec_jdxTrysub_of_none (State.postJob_of_quota hbelow), s.setCore_frame _ _ _ (by decide),
        by simp [hbelow], by simp⟩
  · cases hstalled : s.cores.core[core].stalled with
    | none => exact ⟨s, exec_submitStallRelease_of_none hstalled, fun _ => rfl, by simp⟩
    | some j =>
      by_cases hbelow : s.cores.jobCount j.world < jobQuota j.world
      · obtain ⟨t, hpost, hlength, -⟩ := State.postJob_of_below hbelow
        refine ⟨_, exec_submitStallRelease_of_post hstalled hpost, by simp, ?_⟩
        rintro _ ⟨⟩
        simp [hbelow, hlength]
      · refine ⟨s, exec_submitStallRelease_of_quota hstalled (State.postJob_of_quota hbelow), by simp, ?_⟩
        rintro _ ⟨⟩
        simp [hbelow]
  · by_cases h : s.cores.core[core].idle = false ∨ s.cores.core[core].halted = true ∨ s.coreUp core = false ∨
        s.cores.pick core = none
    · refine ⟨s, exec_jobDelivery_of_stopped h, fun _ => rfl, fun a hidle hruns hup hpick => absurd h ?_⟩
      simp [-Fin.getElem_fin, hidle, hruns, hup, hpick]
    · have hready := h
      simp only [not_or, Bool.not_eq_false, Bool.not_eq_true] at hready
      obtain ⟨hidle, hruns, hup, hnone⟩ := hready
      obtain ⟨a, hpick⟩ := Option.ne_none_iff_exists'.mp hnone
      refine ⟨_, exec_jobDelivery_of_pick hidle hruns hup hpick, fun hstopped => absurd hstopped h,
        fun a' _ _ _ hpick' => ?_⟩
      obtain rfl : a = a' := Option.some.inj (hpick.symm.trans hpick')
      exact s.deliver_serves core a
  · exact ⟨_, rfl, by simp, by simp +decide, fun hnone => congrArg (·.cores.jobs) (State.coreDone_of_none hnone),
      fun _ => State.coreDone_ends⟩
  · exact ⟨_, rfl, s.coreDone_core core, s.coreDone_frame core _ (by decide), State.coreDone_of_none,
      fun _ => State.coreDone_ends⟩
  · cases hjob : s.cores.flowJob flow JobPlace.waits with
    | none => exact ⟨s, exec_affinityWaitExpiry_of_none hjob, rfl, rfl, fun a o u h => by cases h⟩
    | some a =>
      obtain ⟨o, u, hplace⟩ := JobPlace.waits_iff.mp (Cores.place_of_flowJob hjob)
      refine ⟨_, exec_affinityWaitExpiry_of_some hjob hplace, s.affinityEnd_frame a o u, ?_⟩
      rw [s.affinityEnd_jobs]
      refine ⟨List.length_map .., ?_⟩
      rintro _ o' u' ⟨⟩ hplace'
      obtain ⟨rfl, -, rfl⟩ := JobPlace.ready.inj (hplace.symm.trans hplace')
      exact fun _ => place_of_mem_moved
  · cases hjob : s.cores.flowJob flow (fun p => p = .delayed) with
    | none => exact ⟨s, exec_jobDue_of_none hjob, rfl, rfl, fun _ => rfl, fun a h => by cases h⟩
    | some a =>
      refine ⟨_, exec_jobDue_of_some hjob, s.dueEnd_frame a, Cores.jobs_length_of_seqs (s.dueEnd_seqs a), by simp,
        ?_⟩
      rintro _ ⟨⟩ honly
      exact State.dueEnd_not_delayed honly
  · by_cases hstays : s.cores.inService core = none ∨ s.cores.core[core].halted = true
    · refine ⟨s, exec_jobTimeLimit_of_none hstays, fun _ => rfl, fun a hserved hruns => absurd hstays ?_⟩
      simp [-Fin.getElem_fin, hserved, hruns]
    · obtain ⟨hserved, hruns⟩ := not_or.mp hstays
      obtain ⟨a, hserved⟩ := Option.ne_none_iff_exists'.mp hserved
      refine ⟨_, exec_jobTimeLimit_of_some hserved (by simpa using hruns), fun h => absurd h hstays, ?_⟩
      rintro a' hserved' -
      obtain rfl : a = a' := Option.some.inj (hserved.symm.trans hserved')
      exact s.overrunEnd_ends core a.1 a.2

end Sys2Proof.Machine
end
